-- ==== Sys2Proof/Word.lean ====
section
/-!
DEFINITION. The word types of the package: what the manual treats as bits (00 R13, R16).
-/
namespace Sys2Proof

/-- A 32-bit register, BAR0 or cluster (02, 17 R750). -/
abbrev Word := BitVec 32

/-- A byte of any byte-addressed memory. -/
abbrev Byte := BitVec 8

/-- A Peat register: a 128-bit accumulator (01 R27). -/
abbrev Peat := BitVec 128

end Sys2Proof
end

