-- ==== Sys2Proof/Machine/Bits.lean ====
section
/-!
DEFINITION. Bit fields, byte order (00 R16), sparse maps in canonical form and byte memories, which
every other file of the machine uses.
-/
namespace Sys2Proof.Machine

/-- Field [hi:lo] of a number (00 R16). -/
def fld (w hi lo : Nat) : Nat := (w >>> lo) % 2 ^ (hi - lo + 1)

/-- Bit n of a number. -/
def bitN (w n : Nat) : Bool := (w >>> n) % 2 == 1

/-- Field [hi:lo] of a register. -/
def rfld (w : Word) (hi lo : Nat) : Nat := fld w.toNat hi lo

/-- Bit n of a register. -/
def rbit (w : Word) (n : Nat) : Bool := bitN w.toNat n

/-- 1 for true. -/
def b2n (b : Bool) : Nat := if b then 1 else 0

/-- A register word from a number. -/
def w32 (n : Nat) : Word := BitVec.ofNat 32 n

/-- The mask of bits [hi:lo]. -/
def maskBits (hi lo : Nat) : Word := w32 ((2 ^ (hi - lo + 1) - 1) <<< lo)

/-- Write field [hi:lo] of a register, leaving its other bits. -/
def putFld (w : Word) (hi lo v : Nat) : Word :=
  (w &&& ~~~ maskBits hi lo) ||| (w32 ((v % 2 ^ (hi - lo + 1)) <<< lo))

/-- Write one bit of a register. -/
def putBit (w : Word) (n : Nat) (b : Bool) : Word := putFld w n n (b2n b)

/-- A number of `bits` bits read as two's complement. -/
def sext (bits n : Nat) : Int :=
  let m := n % 2 ^ bits
  if m ≥ 2 ^ (bits - 1) then (m : Int) - (2 ^ bits : Nat) else (m : Int)

/-- An integer modulo 2^bits. -/
def wrapN (bits : Nat) (z : Int) : Nat := (z % (2 ^ bits : Nat)).toNat

/-- An integer as a register word, modulo 2^32. -/
def wi32 (z : Int) : Word := BitVec.ofInt 32 z

/-- Saturating addition at 2^bits - 1 (04 R232 and the saturating registers of every page). -/
def satAdd (bits a b : Nat) : Nat := min (a + b) (2 ^ bits - 1)

/-- ceil(a / b). -/
def ceilDiv (a b : Nat) : Nat := (a + b - 1) / b

/-- Number of binary digits (01). -/
def bitlen (a : Nat) : Nat := if a = 0 then 0 else a.log2 + 1

/-- The little-endian bytes of a number (00 R16). -/
def leBytes : (n v : Nat) → List Byte
  | 0, _ => []
  | n + 1, v => BitVec.ofNat 8 v :: leBytes n (v / 256)

/-- The number that little-endian bytes spell (00 R16). -/
def leNat : List Byte → Nat
  | [] => 0
  | b :: bs => b.toNat + 256 * leNat bs

/-- A 64-bit value as its low and high words. -/
def lo32 (n : Nat) : Nat := n % 2 ^ 32
def hi32 (n : Nat) : Nat := (n / 2 ^ 32) % 2 ^ 32

/-- Population count over the low `n` bits. -/
def popN : (n v : Nat) → Nat
  | 0, _ => 0
  | n + 1, v => v % 2 + popN n (v / 2)

/-- A sparse map: sorted by key, no entry equal to the default of its key. -/
abbrev SMap (α : Type) := List (Nat × α)

/-- Read a sparse map with default `d`. -/
def smGet {α : Type} (d : Nat → α) : SMap α → Nat → α
  | [], k => d k
  | (a, x) :: m, k => if k = a then x else smGet d m k

/-- Remove a key. -/
def smDel {α : Type} (m : SMap α) (k : Nat) : SMap α := m.filter fun e => e.1 != k

/-- Put an entry before the first entry of a larger key. -/
def smIns {α : Type} : SMap α → Nat → α → SMap α
  | [], k, v => [(k, v)]
  | (a, x) :: m, k, v => if k < a then (k, v) :: (a, x) :: m else (a, x) :: smIns m k v

/-- Write a sparse map, keeping the canonical form: the default is not listed. -/
def smSet {α : Type} [DecidableEq α] (d : Nat → α) (m : SMap α) (k : Nat) (v : α) : SMap α :=
  if v = d k then smDel m k else smIns (smDel m k) k v

/-- Keys strictly rising, all above `lo` when it is given. -/
def smSorted {α : Type} : Option Nat → SMap α → Bool
  | _, [] => true
  | lo, (a, _) :: m => (match lo with | none => true | some b => decide (b < a)) && smSorted (some a) m

/-- The canonical form of a sparse map. -/
def smWf {α : Type} [DecidableEq α] (d : Nat → α) (m : SMap α) : Bool :=
  smSorted none m && m.all fun e => decide (e.2 ≠ d e.1)

/-- A constant default. -/
def dflt {α : Type} (x : α) : Nat → α := fun _ => x

/-- A byte memory: cells in canonical form; an unlisted byte reads zero (DESIGN CHOICE, log 4). -/
abbrev Mem := List Host.Cell

/-- Read one byte. -/
def memByte (m : Mem) (a : Nat) : Byte := smGet (dflt 0) m a

/-- Write one byte. -/
def memPut (m : Mem) (a : Nat) (b : Byte) : Mem := smSet (dflt 0) m a b

/-- The canonical form of a memory. -/
def Memory.wf (m : Mem) : Bool := smWf (dflt 0) m

/-- The cells of `n` bytes from address `a` on, whatever lies before and after. -/
def memRange (m : Mem) (a n : Nat) : List Byte := (List.range n).map fun i => memByte m (a + i)

/-- Write bytes from address `a` on. -/
def memStore (m : Mem) (a : Nat) : List Byte → Mem
  | [] => m
  | b :: bs => memStore (memPut m a b) (a + 1) bs

/-- Read an n-byte little-endian number. -/
def memNat (m : Mem) (a n : Nat) : Nat := leNat (memRange m a n)

/-- Write an n-byte little-endian number. -/
def memPutNat (m : Mem) (a n v : Nat) : Mem := memStore m a (leBytes n v)

/-- Clear `n` bytes from `a` on: every listed cell there goes. -/
def memClear (m : Mem) (a n : Nat) : Mem := m.filter fun e => e.1 < a || a + n ≤ e.1

/-- The listed cells of a range, at addresses counted from its start. -/
def memSlice (m : Mem) (a n : Nat) : Mem :=
  (m.filter fun e => decide (a ≤ e.1) && decide (e.1 < a + n)).map fun e => (e.1 - a, e.2)

/-- Write listed cells at `a` on, in a range already cleared. -/
def memPlace (m : Mem) (a : Nat) : Mem → Mem
  | [] => m
  | e :: es => memPlace (memPut m (a + e.1) e.2) a es

/-- Copy `n` bytes between memories, cell by listed cell. -/
def memCopy (src : Mem) (sa : Nat) (dst : Mem) (da n : Nat) : Mem :=
  memPlace (memClear dst da n) da (memSlice src sa n)

/-- Replace the element at an index; an index past the end changes nothing. -/
def listPut {α : Type} : List α → Nat → α → List α
  | [], _, _ => []
  | _ :: xs, 0, v => v :: xs
  | x :: xs, i + 1, v => x :: listPut xs i v

/-- Change the element at an index. -/
def listMod {α : Type} (f : α → α) : List α → Nat → List α
  | [], _ => []
  | x :: xs, 0 => f x :: xs
  | x :: xs, i + 1 => x :: listMod f xs i

/-- The element at an index, with a default past the end. -/
def nth {α : Type} (xs : List α) (i : Nat) (d : α) : α := (xs[i]?).getD d

/-- The number at an index, 0 past the end. -/
def nthN (xs : List Nat) (i : Nat) : Nat := nth xs i 0

/-- Sum of a list of numbers. -/
def sumN (xs : List Nat) : Nat := xs.foldl (· + ·) 0

/-- Largest of a list of numbers, 0 when empty. -/
def maxN (xs : List Nat) : Nat := xs.foldl max 0

/-- Insert before the first element that is not smaller. -/
def insBy {α : Type} (le : α → α → Bool) (x : α) : List α → List α
  | [] => [x]
  | y :: ys => if le x y then x :: y :: ys else y :: insBy le x ys

/-- Sort a list, keeping the order of equal elements. -/
def sortBy {α : Type} (le : α → α → Bool) (xs : List α) : List α := xs.foldr (insBy le) []

/-- Apply a function for each element of a list, left to right. -/
def each {σ α : Type} (xs : List α) (f : α → σ → σ) (s : σ) : σ := xs.foldl (fun t x => f x t) s

end Sys2Proof.Machine
end

