-- ==== Sys2Proof/Syntax.lean ====
section
/-!
DEFINITION. The commands of the block: one constructor of `Instr` for each row of the opcode table,
with the operand types they carry. Meaning is in the machine alone.
-/
namespace Sys2Proof

/-- Where an instruction issues: physical cluster and thread group (02). -/
structure Site where
  cl : Fin 144
  g : Fin 8
deriving DecidableEq, Repr

/-- The guard of an instruction word: predicate and inversion (03 R138, R144). -/
structure Guard where
  p : Fin 8
  neg : Bool
deriving DecidableEq, Repr

/-- Field B of a lane integer instruction: a lane register, a uniform register (MOD[0] = 1) or IMM28 (03 R157, R158). -/
inductive LaneB where
  | reg (r : Fin 256)
  | uni (r : Fin 64)
  | imm (v : BitVec 28)
deriving DecidableEq, Repr

/-- Field B of a uniform integer instruction (03 R158, R159). -/
inductive UniB where
  | reg (r : Fin 64)
  | imm (v : BitVec 28)
deriving DecidableEq, Repr

/-- A two-operand integer instruction: majors 0x02 and 0x03, or 0x04 and 0x05 (03 R157 to R159). -/
inductive Alu where
  | lane (gd : Guard) (d a : Fin 256) (b : LaneB)
  | uni (d a : Fin 64) (b : UniB)
deriving DecidableEq, Repr

/-- POPC and CLZ: `imm` selects the S-format major, whose unused IMM28 is zero (03 R140, R160). -/
inductive Alu1 where
  | lane (gd : Guard) (imm : Bool) (d a : Fin 256)
  | uni (imm : Bool) (d a : Fin 64)
deriving DecidableEq, Repr

/-- Field B of IMAD and SEL, which exist in major 0x02 only (03 R160). -/
inductive RegB where
  | reg (r : Fin 256)
  | uni (r : Fin 64)
deriving DecidableEq, Repr

/-- The compare codes of ISETP and FSETP (03 R164). -/
inductive Cmp where
  | eq | ne | lt | le | gt | ge | ltu | leu | gtu | geu
deriving DecidableEq, Repr

/-- The operations of PLOP (03). -/
inductive POp where
  | and | or | xor | andn
deriving DecidableEq, Repr

/-- A vector format: binary32 in register pairs or binary16 in halves (02 R113). -/
inductive VFmt where
  | s32 | h16
deriving DecidableEq, Repr

/-- The element formats of a stationary operand (03, MLD). -/
inductive MFmt where
  | b4 | b8 | f8 | h16
deriving DecidableEq, Repr

/-- The format pairs of MMA, stationary by streamed (02, 03). -/
inductive Pair where
  | b4b4 | b4b8 | b8b8 | f8f8 | h16h16
deriving DecidableEq, Repr

/-- The access sizes of LD and ST (03 R185). -/
inductive Sz where
  | u8 | s8 | u16 | s16 | w32 | w64 | w128
deriving DecidableEq, Repr

/-- The special-register codes 0 to 8 (03 R161). -/
inductive SReg where
  | laneId | groupId | nGroups | lCluster | nCluster | kcyc | countLo | countHi | count
deriving DecidableEq, Repr

/-- Operands shared by the vector instructions of two sources (03). -/
structure Vec2 where
  gd : Guard
  fmt : VFmt
  d : Fin 256
  a : Fin 256
  b : Fin 256
deriving DecidableEq, Repr

/-- Operands shared by the vector and conversion instructions of one source (03). -/
structure Vec1 where
  gd : Guard
  d : Fin 256
  a : Fin 256
deriving DecidableEq, Repr

/-- Operands of a lane memory access: size, fixed-time form, register, base and IMM28 (03 R185 to R188). -/
structure MemOp where
  gd : Guard
  sz : Sz
  t : Bool
  d : Fin 256
  a : Fin 256
  imm : BitVec 28
deriving DecidableEq, Repr

/-- Operands of an atomic: 64-bit size, fixed-time form, old value, address, operand (03 R195, R196). -/
structure AtomOp where
  gd : Guard
  x64 : Bool
  t : Bool
  d : Fin 256
  a : Fin 256
  b : Fin 256
deriving DecidableEq, Repr

/-- Operands of a Peat transfer: fixed-time form, Peat base, lane address register (03 R182 to R184). -/
structure PeatMem where
  gd : Guard
  t : Bool
  p : Fin 4096
  a : Fin 256
deriving DecidableEq, Repr

/-- The shared units whose starts wait for order, occupancy or hazards (02 R88, issue table). -/
inductive UnitId where
  | sfu | gport | mma | peat
deriving DecidableEq, Repr

/-- What a read of a protected array found (09 R455 to R458); `flip` is what the stored bits differ by. -/
inductive Ecc where
  | clean
  | corrected
  | uncorrectable (flip : Word)
deriving DecidableEq, Repr

/-- The ledger of one execution, field by field as the ledger record carries it (09 R459, R460, R463). -/
structure Ledger where
  step : Nat := 0
  uncorr : Nat := 0
  spill : Nat := 0
  nonfinite : Nat := 0
  linkLate : Nat := 0
  leanDrift : Nat := 0
  position : Nat := 0
  runk : Bool := false
  stopped : Bool := false
  stopCause : Nat := 0
  ueSrc : Nat := 0
  ueStack : Nat := 0
  ueCluster : Nat := 0
  uePage : Nat := 0
  ueAddr : Nat := 0
deriving DecidableEq, Repr

/-- One session's part in a step: what the step record carries of it; `tok` is the token value of a decode row (06 R337, R338, 07 R370). -/
structure BatchEntry where
  ctx : Nat
  rows : Nat
  decode : Bool
  threat : Bool := false
  tok : Nat := 0
deriving DecidableEq, Repr

/-- A context as the step record carries it to the members (06 R330, 07 R370); its layout no register shows. `hist` is what the session's
key-value rows were made of: each token, whether an exit head gave it, and what kept it out of the exact class (0 for nothing); `taint`
tells that something else wrote its rows. `parkAt` and `readAt` are the host addresses of a park block that each member writes or reads
its own ranges of (08 R439). -/
structure CtxImage where
  ctx : Nat
  st : Nat
  sid : Nat
  ring : Nat
  len : Nat
  waiting : List Nat
  limit : Nat
  budget : Nat
  deadline : Nat
  accrued : Nat
  pages : List Nat
  eligible : Bool
  params : List Nat
  stops : List Nat
  seed : Nat
  short : Bool := false
  blocked : Bool := false
  exitLast : Bool := false
  hist : List (Nat × Bool × Nat) := []
  taint : Nat := 0
  parkAt : Option Nat := none
  readAt : Option Nat := none
  swap : Bool := false
  tokAddr : Nat := 0
deriving DecidableEq, Repr

/-- The step record that travels with the launch agreement (06 R330, 07 R370). -/
structure StepRec where
  step : Nat := 0
  exitKind : Bool := false
  batch : List BatchEntry := []
  s : Nat := 0
  f : Nat := 0
  tiles : Nat := 0
  launch : Nat := 0
  planDur : Nat := 0
  changes : List CtxImage := []
deriving DecidableEq, Repr

/-- An Azlink frame: its EtherType, destination and sender's station address, how many of its FEC codewords were corrected on the way, the
header of 07 R368, its kind-specific words and its payload in 32-bit words (07 R363, R367). `ctl` carries the step record of a LAUNCH,
whose layout no register shows (07 R370). -/
structure Frame where
  et : Nat := 0x88B5
  dst : Nat := 0
  sa : Nat := 0
  corr : Nat := 0
  version : Nat := 1
  kind : Nat := 2
  seq : Nat := 0
  ack : Nat := 0
  ackValid : Bool := false
  nak : Bool := false
  group : Nat := 0
  epoch : Nat := 0
  src : Nat := 0
  w4 : Nat := 0
  w5 : Nat := 0
  w6 : Nat := 0
  w7 : Nat := 0
  payload : List Nat := []
  ctl : Option StepRec := none
deriving DecidableEq, Repr

/-- A section of a model image: its place in the host image, in HBM, its length and digest (08). -/
structure Section where
  off : Nat
  hbm : Nat
  len : Nat
  digest : Nat
  regions : List Nat
deriving DecidableEq, Repr

/-- A shard map: its header, column records and reduction records (07 R361, R385). -/
structure ShardMap where
  head : List Nat := []
  cols : List (Nat × Nat) := []
  recs : List (List Nat) := []
deriving DecidableEq, Repr

/-- An alternate route set for a failed link, named by the position and the port of each end (07 R415). -/
structure AltRoute where
  pos : Nat
  port : Nat
  farPos : Nat
  farPort : Nat
  group : List Nat
  shards : List ShardMap
deriving DecidableEq, Repr

/-- One layer of the park map: its canonical offset and the byte ranges this position holds (08 R439). -/
structure ParkLayer where
  off : Nat
  ranges : List (Nat × Nat)
deriving DecidableEq, Repr

/-- A plan directory: its offset in the image and its records of four words, one per logical cluster (04 R219). -/
structure PlanDir where
  at_ : Nat
  recs : List (List Nat)
deriving DecidableEq, Repr

/-- The decoded contents of a model image (its sections, descriptors, plans, maps and, for groups of more than 32, its
alternate routes by failed port), as the checks and the tables of 04, 06, 07 and 08 use them.
Descriptors, plan entries and records are lists of their 32-bit words; `area` is the plan area, one entry for each 32 bytes (04 R219). -/
structure Image where
  group : List Nat := []
  layers : List (List Nat) := []
  kernels : List (List Nat) := []
  dirs : List PlanDir := []
  area : List (List Nat) := []
  shards : List ShardMap := []
  poolMap : List (List Nat) := []
  code : List (List Nat) := []
  sections : List Section := []
  pages : Nat := 0
  ctxMax : Nat := 0
  stride : Nat := 0
  bases : List Nat := []
  listAt : Nat := 0
  exitMapAt : Nat := 0
  mapAt : Nat := 0
  tableAt : Nat := 0
  partialAt : Nat := 0
  sMax : Nat := 0
  fMax : Nat := 0
  rowsMax : Nat := 0
  pfChunk : Nat := 0
  vocab : Nat := 0
  gap : Nat := 0
  dlDefault : Nat := 0
  exitKernel : Nat := 0
  parkPage : Nat := 0
  parkMap : List ParkLayer := []
  alts : List AltRoute := []
deriving DecidableEq, Repr

/-- The IEEE 1588 messages of the two-step delay request-response mechanism (07 R376). -/
inductive PtpKind where
  | sync | followUp | delayReq | delayResp | announce
deriving DecidableEq, Repr

/-- An IEEE 1588 message: its domain, kind and sequence number, and the timestamp that it carries in counts: of a Follow_Up its Sync's
sending, of a Delay_Resp the Delay_Req's arrival; 0 elsewhere; `clock` is its sender's clock identity (07 R376, 14 R665, 15 R694, R699). -/
structure PtpMsg where
  domain : Nat
  kind : PtpKind
  seq : Nat
  time : Nat := 0
  clock : BitVec 64 := 0
deriving DecidableEq, Repr

/-- The doublewords of configuration space that show what a function supports: command, power state, device control and control 2, AER's
uncorrectable status and control, MSI-X control, BAR2's size (13 R587, R590, R626). -/
inductive CfgReg where
  | command | pmcsr | devCtl | devCtl2 | aerStatus | aerCtl | msix | barCtl
deriving DecidableEq, Repr

/-- A configuration request: a read, or a write of Bus Master Enable, of the BAR2 size, of a function's power state, of its payload
and read-request limits in bytes, of its 10-bit tags, of its ECRC enables, of MSI-X Enable and Function Mask, or one that clears the status
its AER keeps (13 R587, R590, R626, R627, 14 R644). -/
inductive CfgReq where
  | read (fn : Fin 9 := 0) (reg : CfgReg := .command)
  | bme (fn : Fin 9) (on : Bool)
  | bar2Size (log2 : Nat)
  | power (fn : Fin 9) (d3hot : Bool)
  | payload (fn : Fin 9) (bytes : Nat)
  | readReq (fn : Fin 9) (bytes : Nat)
  | tag10 (fn : Fin 9) (on : Bool)
  | ecrc (fn : Fin 9) (gen check : Bool)
  | aerClear (fn : Fin 9)
  | msix (fn : Fin 9) (enable mask : Bool)
deriving DecidableEq, Repr

/-- How a function is reset: Function Level Reset, hot reset or link-down (13 R631, R632). -/
inductive FnReset where
  | flr | hot | linkDown
deriving DecidableEq, Repr

/-- Why a cold reset happens at the pins (14 R666, R669). -/
inductive ColdCause where
  | powerOn | resetN
deriving DecidableEq, Repr

/-- The commands of the block, one constructor for each row of the opcode table. An operand with a default says what only the hardware's
surroundings decide, such as the outcome of a read (log 69); by default nothing went wrong. -/
inductive Instr where
  -- control and issue
  | nop (s : Site) (gd : Guard)
  | bra (s : Site) (target : Nat)
  | braP (s : Site) (gd : Guard) (target reconv : Nat)
  | braT (s : Site) (gd : Guard) (target reconv : Nat)
  | loop (s : Site) (a : Fin 64) (target : Nat)
  | exit (s : Site) (gd : Guard)
  | illegalEncoding (s : Site)
  | instructionFetch (s : Site) (ecc : Ecc) (regs : Ecc := .clean)
  | cacheFillDone (cl : Fin 144) (oc : Bool) (idx : Nat) (ecc : Ecc := .clean)
  | unitStart (cl : Fin 144) (u : UnitId) (ecc : Ecc)
  | resultReady (s : Site) (ecc : Ecc)
  -- integer, move, predicate
  | iadd (s : Site) (o : Alu)
  | isub (s : Site) (o : Alu)
  | imul (s : Site) (o : Alu)
  | imulhu (s : Site) (o : Alu)
  | imulhs (s : Site) (o : Alu)
  | imad (s : Site) (gd : Guard) (d a : Fin 256) (b : RegB) (c : Fin 256)
  | and (s : Site) (o : Alu)
  | or (s : Site) (o : Alu)
  | xor (s : Site) (o : Alu)
  | shl (s : Site) (o : Alu)
  | shr (s : Site) (o : Alu)
  | sra (s : Site) (o : Alu)
  | imin (s : Site) (o : Alu)
  | imax (s : Site) (o : Alu)
  | umin (s : Site) (o : Alu)
  | umax (s : Site) (o : Alu)
  | popc (s : Site) (o : Alu1)
  | clz (s : Site) (o : Alu1)
  | sel (s : Site) (gd : Guard) (d a : Fin 256) (b : RegB) (c : Fin 8)
  | mov (s : Site) (gd : Guard) (d a : Fin 256)
  | movi (s : Site) (gd : Guard) (d : Fin 256) (imm : Word)
  | umovi (s : Site) (d : Fin 64) (imm : Word)
  | bcast (s : Site) (gd : Guard) (d : Fin 256) (a : Fin 64)
  | laneRd (s : Site) (d : Fin 64) (a : Fin 256) (lane : Fin 32)
  | s2r (s : Site) (gd : Guard) (d : Fin 256) (code : SReg)
  | s2u (s : Site) (d : Fin 64) (code : SReg)
  | isetp (s : Site) (gd : Guard) (cc : Cmp) (d : Fin 8) (a : Fin 256) (b : LaneB)
  | fsetp (s : Site) (gd : Guard) (cc : Cmp) (fmt : VFmt) (e : Fin 2) (d : Fin 8) (a b : Fin 256)
  | plop (s : Site) (gd : Guard) (op : POp) (d a b : Fin 8)
  -- vector, conversion, special function, generator
  | fadd (s : Site) (o : Vec2)
  | fsub (s : Site) (o : Vec2)
  | fmul (s : Site) (o : Vec2)
  | ffma (s : Site) (o : Vec2) (c : Fin 256)
  | fmin (s : Site) (o : Vec2)
  | fmax (s : Site) (o : Vec2)
  | fabs (s : Site) (fmt : VFmt) (o : Vec1)
  | fneg (s : Site) (fmt : VFmt) (o : Vec1)
  | cvtS32H16 (s : Site) (o : Vec1)
  | cvtH16S32 (s : Site) (o : Vec1)
  | cvtF8S32 (s : Site) (o : Vec1)
  | cvtF8H16 (s : Site) (o : Vec1)
  | cvtH16F8 (s : Site) (o : Vec1)
  | cvtS32I32 (s : Site) (o : Vec1)
  | cvtI32S32 (s : Site) (o : Vec1)
  | exp2 (s : Site) (fmt : VFmt) (o : Vec1)
  | log2 (s : Site) (fmt : VFmt) (o : Vec1)
  | rcp (s : Site) (fmt : VFmt) (o : Vec1)
  | rsq (s : Site) (fmt : VFmt) (o : Vec1)
  | sin (s : Site) (fmt : VFmt) (o : Vec1)
  | cos (s : Site) (fmt : VFmt) (o : Vec1)
  | kcg (s : Site) (gd : Guard) (d a b : Fin 256)
  -- matrix and Peat
  | mld (s : Site) (gd : Guard) (fmt : MFmt) (buf : Fin 2) (a b c e : Fin 64)
  | mma (s : Site) (gd : Guard) (pair : Pair) (buf : Fin 2) (lean : Bool) (va vs : Fin 256) (p : Fin 4096)
  | pclr (s : Site) (gd : Guard) (p : Fin 4096)
  | pacc (s : Site) (gd : Guard) (fmt : VFmt) (p : Fin 4096) (a : Fin 256)
  | padd (s : Site) (gd : Guard) (p : Fin 4096) (a : Fin 64)
  | pld (s : Site) (o : PeatMem)
  | pst (s : Site) (o : PeatMem)
  | paddm (s : Site) (o : PeatMem)
  | pext (s : Site) (o : PeatMem)
  | pins (s : Site) (o : PeatMem)
  | pcvtH16 (s : Site) (gd : Guard) (d : Fin 256) (p : Fin 4096)
  | pcvtF8 (s : Site) (gd : Guard) (d : Fin 256) (p : Fin 4096)
  | pcvtB8 (s : Site) (gd : Guard) (d : Fin 256) (b : Fin 64) (p : Fin 4096)
  -- memory, stream, atomics, barriers, debug
  | ld (s : Site) (o : MemOp)
  | st (s : Site) (o : MemOp)
  | uldc (s : Site) (gd : Guard) (x64 t : Bool) (d a : Fin 64) (imm : BitVec 28)
  | dsync (s : Site) (k : BitVec 16)
  | nsync (s : Site) (k : BitVec 16)
  | atomAdd (s : Site) (o : AtomOp)
  | atomSmin (s : Site) (o : AtomOp)
  | atomSmax (s : Site) (o : AtomOp)
  | atomUmin (s : Site) (o : AtomOp)
  | atomUmax (s : Site) (o : AtomOp)
  | atomAnd (s : Site) (o : AtomOp)
  | atomOr (s : Site) (o : AtomOp)
  | atomXor (s : Site) (o : AtomOp)
  | atomXchg (s : Site) (o : AtomOp)
  | atomCas (s : Site) (o : AtomOp) (c : Fin 256)
  | atomFaddS32 (s : Site) (o : AtomOp)
  | barg (s : Site) (gd : Guard)
  | barc (s : Site) (gd : Guard) (id : Fin 4)
  | bkpt (s : Site) (n : BitVec 16)
  | digest (s : Site) (gd : Guard) (a : Fin 256)
  -- schedule and step boundary
  | stepLaunch
  | kernelLaunch
  | windowEnd
  | planInstanceStart (cl : Fin 128) (net : Bool) (k : Nat) (eccs : List (Nat × Ecc) := [])
  | planInstanceComplete (cl : Fin 128) (net : Bool) (k : Nat)
  | hbmAccessStart (h : Fin 6) (pc : Fin 32)
  | hbmReadReturn (h : Fin 6) (pc : Fin 32) (ecc : Ecc)
  | hbmLate (h : Fin 6) (pc : Fin 32)
  | hbmRefreshWindow (h : Fin 6) (pc : Fin 32)
  | executionEnd
  | stepEnd
  | freezeStart
  | freezeEnd
  | leanSampleCheck (cl : Fin 144)
  | stepBoundary
  -- host commands and transfers; the operand is the command ring
  | openSession (r : Fin 128) (hostOk : Bool := true)
  | appendPrompt (r : Fin 128) (hostOk : Bool := true)
  | generate (r : Fin 128)
  | park (r : Fin 128)
  | unpark (r : Fin 128) (hostOk : Bool := true)
  | closeSession (r : Fin 128)
  | loadImage (r : Fin 128) (hostOk : Bool := true)
  | imageLoadDone (img : Image) (hostOk : Bool := true)
  | unloadImage (r : Fin 128)
  | imageUnloaded
  | runKernel (r : Fin 128) (hostOk : Bool := true) (errs : List (Nat × Ecc) := [])
  | runKernelLaunch (hostOk : Bool := true) (errs : List (Nat × Ecc) := [])
  | saveState (r : Fin 128)
  | restoreState (r : Fin 128) (hostOk : Bool := true)
  | fence (r : Fin 128)
  | stageEpoch (r : Fin 128) (hostOk : Bool := true)
  | stageDone (flashOk : Bool)
  | switchEpoch (r : Fin 128)
  | readLedger (r : Fin 128) (hostOk : Bool := true)
  | hostTransferStart
  | parkSaveDone (hostOk : Bool := true) (errs : List (Nat × Ecc) := [])
  | unparkReadDone (hostOk : Bool := true) (rows : List (Nat × Bool × Nat) := [])
  | spillStreamStart
  | preempt
  | preemptSaveDone (errs : List (Nat × Ecc) := [])
  | executionResume
  -- Azlink
  | hello (k : Fin 8) (f : Frame)
  | keepalive (k : Fin 8) (f : Frame)
  | ack (k : Fin 8) (f : Frame)
  | partialSum (k : Fin 8) (f : Frame) (errs : List (Nat × Ecc) := [])
  | ledger (k : Fin 8) (f : Frame)
  | verdict (k : Fin 8) (f : Frame)
  | regionReloadDone (hostOk : Bool)
  | launch (k : Fin 8) (f : Frame)
  | committed (k : Fin 8) (f : Frame)
  | hold (k : Fin 8) (f : Frame)
  | loss (k : Fin 8) (f : Frame)
  | form (k : Fin 8) (f : Frame)
  | formed (k : Fin 8) (f : Frame)
  | staged (k : Fin 8) (f : Frame)
  | switch (k : Fin 8) (f : Frame)
  | rejoin (k : Fin 8) (f : Frame)
  | join (k : Fin 8) (f : Frame)
  | twin (k : Fin 8) (f : Frame)
  | lockstepHalt
  | linkLost (k : Fin 8) (f : Frame)
  | linkLostTimeout (k : Fin 8)
  | ackTimer (k : Fin 8)
  | retryTimeout (k : Fin 8)
  | keepaliveTimer (k : Fin 8)
  | silenceTimeout (k : Fin 8)
  | pcsDown (k : Fin 8)
  | pcsUp (k : Fin 8) (corr : Nat)
  | syncOffsetTimeout (k : Fin 8)
  | handshakeRetry (k : Fin 8)
  | rejoinTimeout
  | reductionDeadline (slot unit : Nat)
  | azlStop
  -- time, thermal, lean, quarantine
  | ptpMessage (k : Fin 8) (m : PtpMsg)
  | ptpSendTimer (k : Fin 8) (announce : Bool)
  | ppsInEdge
  | measurementTimeout
  | ppsOutRise
  | ppsOutFall
  | refLost
  | refRestored
  | thermalPeriod
  | sensorRefresh (temps : List (Option Int))
  | sensorFail (n : Fin 23)
  | thermtrip (n : Fin 16)
  | leanWindowEnd (vmtxMv : Nat)
  | leanEnWrite (on : Bool)
  | quarantineWindow
  | ldgQuarantine (w : Word)
  -- sensing, classifier, wideband
  | frameBoundary
  | featureWrite (p : Fin 16) (s : Fin 32) (energy : Nat) (overload : Bool)
  | classifierPublish
  | fclWdataWrite (w : Word)
  | fclWdataRead
  | sampleRecord (c : Fin 4)
  | fadeDone (c : Fin 4) (rs : Bool)
  | firSwap (c : Fin 4)
  | rsSwap (c : Fin 4)
  | rsCdataAccess (c : Fin 4) (w : Option Word)
  -- Weirs and pulse generators
  | weirCrossing (w : Fin 32) (u : Nat)
  | qualChange (w : Fin 32)
  | blankingEnd (w : Fin 32)
  | avddFail (dvdd : Bool := true)
  | programApply (j : Fin 16)
  | programEdge (j : Fin 16)
  | pgClear (j : Fin 16)
  | pgSwTrip (j : Fin 16)
  | pgCommit (j : Fin 16)
  | pgEnable (j : Fin 16)
  -- host interface
  | doorbell (r : Fin 128) (v : Word)
  | descriptorFetch (r : Fin 128)
  | descriptorReadDone (r : Fin 128) (hostOk : Bool)
  | cmqEnable (r : Fin 128) (on : Bool)
  | evqEnable (q : Fin 8) (on : Bool)
  | evqHeadWrite (q : Fin 8) (v : Word)
  | eventRecordWrite (q : Fin 8)
  | coalesceTimer (q : Fin 8)
  | hifResume (fn : Fin 9)
  | hifDiscard (fn : Fin 9)
  | heldRecordsFlush
  | functionLevelReset (fn : Fin 9) (how : FnReset)
  | perstN
  | linkUp (speed width : Nat)
  | configRequest (q : CfgReq)
  | unsupportedRequest (off size : Nat)
  | unmappedAccess (off : Nat) (write : Bool)
  | bar2Read (off len : Nat) (errs : List (Nat × Ecc) := [])
  | bar2Write (off : Nat) (data : List Byte)
  | bar2Open
  | bar2Close
  -- bring-up, resets, mailbox, persistent store, page header
  | coldReset (cause : ColdCause)
  | supplyDrop
  | pllLock
  | pstLoadDone
  | levelGuard
  | pcieTrainingStart
  | firmwareBoot
  | levelNarrow (clusters routers : List Nat)
  | levelFull (stackOk portOk : Nat)
  | firmwareRestarted
  | glbWarmReset (key : BitVec 16)
  | glbColdReset (key : BitVec 16)
  | info (seq : Byte)
  | flashRead (seq : Byte)
  | flashProgram (seq : Byte)
  | selectSlot (seq : Byte)
  | mboxDone (flashOk : Bool)
  | pstWrite (n : Fin 256) (v : Word)
  | pstWriteDone (ok : Bool) (fails : Fin 3 := 0)
  | gctCountRead (wide : Bool) (fn : Fin 9 := 0) (off : Nat := 0x002040)
  | softReset (page : Nat)
  | freeze (page : Nat) (on : Bool)
  | evtset (page : Nat) (v : Word)
  -- debug port and test access port
  | unlockStart
  | nonceReady
  | unlockSubmit
  | unlockCheckDone
  | dbgLock
  | haltNow
  | haltAtCount
  | dbgResume
  | resumeAtCount
  | stepGo
  | stepDone
  | accGo (ecc : Ecc := .clean)
  | rewind
  | abandon
  | dbgRegUpdate (data : Word) (off : Nat) (write : Bool)
  | extest (scan : Option (BitVec 52) := none)
  | idcode
  | samplePreload (preload : Option (BitVec 52))
  | clamp
  | highz
  | bypass (code : Byte := 0xFF)
  | trstN (low : Bool)
  -- the remaining rows
  | registerWrite (fn : Fin 9) (off : Nat) (wide : Bool) (v : BitVec 64)
  | converterSample (c : Fin 4) (nv : Int)
  | avddOk (dvdd : Bool := true)
  | powerGood
  | vmtxReached
  | restoreDone (errs : List (Nat × Ecc) := [])
  | stateCopyDone (hostOk : Bool) (errs : List (Nat × Ecc) := [])
  | fcsErr (k : Fin 8) (fec : Bool := false)
  | discardedFrame (k : Fin 8)
  | dieToDieTrained (errors : Nat := 0)
  | ringEn (dec : Option (Fin 4)) (on : Bool)
deriving DecidableEq, Repr

end Sys2Proof
end

