-- ==== Sys2Proof/Decode.lean ====
section
/-!
DEFINITION. Decoding: `decodeTableWord` over the opcode table, which gives no row any bits, and the
decoder and encoder of a thread group's 64-bit instruction words (03 R136 to R147, R205).
-/
namespace Sys2Proof
open Machine

/-- The command a table word spells: no row of the opcode table gives bits, so no word spells a command. -/
def decodeTableWord (_nbits _w : Nat) : Option Instr := none

/-- The fields of an instruction word (03 R138, R139). -/
structure WordFields where
  major : Nat
  minor : Nat
  mod : Nat
  gd : Guard
  d : Nat
  a : Nat
  b : Nat
  c : Nat
  e : Nat
  imm28 : Nat
  zeroI : Nat
  imm32 : Nat
  zeroB : Nat
  target : Nat
  reconv : Nat
deriving DecidableEq, Repr

/-- Split an instruction word (03 R138, R139). -/
def wordFields (w : Nat) : WordFields where
  major := fld w 63 58
  minor := fld w 57 52
  mod := fld w 51 48
  gd := ⟨Fin.ofNat 8 (fld w 47 45), bitN w 44⟩
  d := fld w 43 36
  a := fld w 35 28
  b := fld w 27 20
  c := fld w 19 12
  e := fld w 11 0
  imm28 := fld w 27 0
  zeroI := fld w 35 32
  imm32 := fld w 31 0
  zeroB := fld w 43 40
  target := fld w 39 20
  reconv := fld w 19 0

/-- A lane-register number. -/
def vReg (n : Nat) : Fin 256 := Fin.ofNat 256 n

/-- A uniform-register number. -/
def uReg (n : Nat) : Fin 64 := Fin.ofNat 64 n

/-- A predicate number. -/
def pReg (n : Nat) : Fin 8 := Fin.ofNat 8 n

/-- A Peat base. -/
def peatBase (n : Nat) : Fin 4096 := Fin.ofNat 4096 n

/-- GP = 0 and GN = 0 (03 R147). -/
def noGuard (f : WordFields) : Bool := f.gd == ⟨0, false⟩

/-- Build when the checks hold. -/
def whenOk (ok : Bool) (i : Instr) : Option Instr := if ok then some i else none

/-- The two-operand integer forms of majors 0x02 to 0x05 (03 R157 to R159). -/
def decAlu (f : WordFields) (mk : Alu → Instr) : Option Instr :=
  if f.major = 2 then
    if f.mod = 0 then whenOk (f.c == 0 && f.e == 0) (mk (.lane f.gd (vReg f.d) (vReg f.a) (.reg (vReg f.b))))
    else whenOk (f.mod == 1 && f.b < 64 && f.c == 0 && f.e == 0) (mk (.lane f.gd (vReg f.d) (vReg f.a) (.uni (uReg f.b))))
  else if f.major = 3 then
    whenOk (f.mod == 0) (mk (.lane f.gd (vReg f.d) (vReg f.a) (.imm (BitVec.ofNat 28 f.imm28))))
  else if f.major = 4 then
    whenOk (f.mod == 0 && noGuard f && f.d < 64 && f.a < 64 && f.b < 64 && f.c == 0 && f.e == 0)
      (mk (.uni (uReg f.d) (uReg f.a) (.reg (uReg f.b))))
  else
    whenOk (f.mod == 0 && noGuard f && f.d < 64 && f.a < 64)
      (mk (.uni (uReg f.d) (uReg f.a) (.imm (BitVec.ofNat 28 f.imm28))))

/-- POPC and CLZ, whose B or IMM28 is unused and zero (03 R160). -/
def decAlu1 (f : WordFields) (mk : Alu1 → Instr) : Option Instr :=
  if f.major = 2 ∨ f.major = 3 then
    whenOk (f.mod == 0 && f.imm28 == 0) (mk (.lane f.gd (f.major == 3) (vReg f.d) (vReg f.a)))
  else
    whenOk (f.mod == 0 && noGuard f && f.d < 64 && f.a < 64 && f.imm28 == 0)
      (mk (.uni (f.major == 5) (uReg f.d) (uReg f.a)))

/-- Field B of IMAD and SEL (03 R157, R160). -/
def decRegB (f : WordFields) : RegB := if f.mod = 0 then .reg (vReg f.b) else .uni (uReg f.b)

/-- Field B is legal for its MOD (03 R141, R157). -/
def regBOk (f : WordFields) : Bool := f.mod == 0 || (f.mod == 1 && f.b < 64)

/-- Majors 0x02 to 0x05 (03). -/
def decInteger (s : Site) (f : WordFields) : Option Instr :=
  match f.minor with
  | 0x00 => decAlu f (.iadd s)
  | 0x01 => decAlu f (.isub s)
  | 0x02 => decAlu f (.imul s)
  | 0x03 => decAlu f (.imulhu s)
  | 0x04 => decAlu f (.imulhs s)
  | 0x05 =>
    whenOk (f.major == 2 && regBOk f && f.e == 0) (.imad s f.gd (vReg f.d) (vReg f.a) (decRegB f) (vReg f.c))
  | 0x06 => decAlu f (.and s)
  | 0x07 => decAlu f (.or s)
  | 0x08 => decAlu f (.xor s)
  | 0x09 => decAlu f (.shl s)
  | 0x0A => decAlu f (.shr s)
  | 0x0B => decAlu f (.sra s)
  | 0x0C => decAlu f (.imin s)
  | 0x0D => decAlu f (.imax s)
  | 0x0E => decAlu f (.umin s)
  | 0x0F => decAlu f (.umax s)
  | 0x10 => decAlu1 f (.popc s)
  | 0x11 => decAlu1 f (.clz s)
  | 0x12 =>
    whenOk (f.major == 2 && regBOk f && f.c < 8 && f.e == 0)
      (.sel s f.gd (vReg f.d) (vReg f.a) (decRegB f) (pReg f.c))
  | _ => none

/-- Major 0x01 (03, R143, R147). -/
def decControl (s : Site) (f : WordFields) : Option Instr :=
  let ok := f.mod == 0 && f.zeroB == 0
  match f.minor with
  | 0 => whenOk (ok && f.target == 0 && f.reconv == 0) (.nop s f.gd)
  | 1 => whenOk (ok && noGuard f && f.target % 8 == 0 && f.reconv == 0) (.bra s f.target)
  | 2 => whenOk (ok && f.target % 8 == 0 && f.reconv % 8 == 0) (.braP s f.gd f.target f.reconv)
  | 3 => whenOk (ok && f.target % 8 == 0 && f.reconv % 8 == 0) (.braT s f.gd f.target f.reconv)
  | 4 => whenOk (ok && noGuard f && f.target % 8 == 0 && f.reconv < 64) (.loop s (uReg f.reconv) f.target)
  | 5 => whenOk (ok && f.target == 0 && f.reconv == 0) (.exit s f.gd)
  | _ => none

/-- A special-register code (03 R161). -/
def decSReg (n : Nat) : Option SReg :=
  match n with
  | 0 => some .laneId
  | 1 => some .groupId
  | 2 => some .nGroups
  | 3 => some .lCluster
  | 4 => some .nCluster
  | 5 => some .kcyc
  | 6 => some .countLo
  | 7 => some .countHi
  | 8 => some .count
  | _ => none

/-- Major 0x06 (03, R161, R163). -/
def decMove (s : Site) (f : WordFields) : Option Instr :=
  match f.minor with
  | 0 => whenOk (f.mod == 0 && f.b == 0 && f.c == 0 && f.e == 0) (.mov s f.gd (vReg f.d) (vReg f.a))
  | 1 => whenOk (f.mod == 0 && f.zeroI == 0) (.movi s f.gd (vReg f.d) (BitVec.ofNat 32 f.imm32))
  | 2 => whenOk (f.mod == 0 && noGuard f && f.zeroI == 0 && f.d < 64) (.umovi s (uReg f.d) (BitVec.ofNat 32 f.imm32))
  | 3 => whenOk (f.mod == 0 && f.a < 64 && f.b == 0 && f.c == 0 && f.e == 0) (.bcast s f.gd (vReg f.d) (uReg f.a))
  | 4 =>
    whenOk (f.mod == 0 && noGuard f && f.d < 64 && f.b == 0 && f.c == 0 && f.e < 32)
      (.laneRd s (uReg f.d) (vReg f.a) (Fin.ofNat 32 f.e))
  | 5 =>
    (match decSReg f.a with
     | some c => whenOk (f.mod == 0 && f.b == 0 && f.c == 0 && f.e == 0 && (c != .count || f.d % 2 == 0)) (.s2r s f.gd (vReg f.d) c)
     | none => none)
  | 6 =>
    (match decSReg f.a with
     | some c =>
       whenOk (f.mod == 0 && noGuard f && f.d < 64 && f.b == 0 && f.c == 0 && f.e == 0 && c != .laneId
         && (c != .count || f.d % 2 == 0)) (.s2u s (uReg f.d) c)
     | none => none)
  | _ => none

/-- The comparison of MOD (03 R164). -/
def decCmp (n : Nat) : Option Cmp :=
  match n with
  | 0 => some .eq
  | 1 => some .ne
  | 2 => some .lt
  | 3 => some .le
  | 4 => some .gt
  | 5 => some .ge
  | 6 => some .ltu
  | 7 => some .leu
  | 8 => some .gtu
  | 9 => some .geu
  | _ => none

/-- The operation of PLOP (03). -/
def decPOp (n : Nat) : Option POp :=
  match n with
  | 0 => some .and
  | 1 => some .or
  | 2 => some .xor
  | 3 => some .andn
  | _ => none

/-- Major 0x07 (03 R164 to R166). -/
def decCompare (s : Site) (f : WordFields) : Option Instr :=
  match f.minor with
  | 0 =>
    (match decCmp f.mod with
     | some cc => whenOk (f.d < 8 && f.c == 0 && f.e == 0) (.isetp s f.gd cc (pReg f.d) (vReg f.a) (.reg (vReg f.b)))
     | none => none)
  | 1 =>
    (match decCmp f.mod with
     | some cc => whenOk (f.d < 8) (.isetp s f.gd cc (pReg f.d) (vReg f.a) (.imm (BitVec.ofNat 28 f.imm28)))
     | none => none)
  | 2 =>
    (match decCmp f.mod with
     | some cc =>
       whenOk (f.mod < 6 && f.d < 8 && f.a % 2 == 0 && f.b % 2 == 0 && f.c < 2 && f.e == 0)
         (.fsetp s f.gd cc .s32 (Fin.ofNat 2 f.c) (pReg f.d) (vReg f.a) (vReg f.b))
     | none => none)
  | 3 =>
    (match decCmp f.mod with
     | some cc =>
       whenOk (f.mod < 6 && f.d < 8 && f.c < 2 && f.e == 0)
         (.fsetp s f.gd cc .h16 (Fin.ofNat 2 f.c) (pReg f.d) (vReg f.a) (vReg f.b))
     | none => none)
  | 4 =>
    (match decPOp f.mod with
     | some op =>
       whenOk (f.d < 8 && f.a < 8 && f.b < 8 && f.c == 0 && f.e == 0) (.plop s f.gd op (pReg f.d) (pReg f.a) (pReg f.b))
     | none => none)
  | _ => none

/-- Registers of a format are even in S32 (02 R114). -/
def evenFor (fmt : VFmt) (n : Nat) : Bool := fmt == .h16 || n % 2 == 0

/-- Majors 0x08 and 0x09 (03, 02 R113, R114). -/
def decVector (s : Site) (f : WordFields) (fmt : VFmt) : Option Instr :=
  let two := f.mod == 0 && evenFor fmt f.d && evenFor fmt f.a && evenFor fmt f.b && f.c == 0 && f.e == 0
  let one := f.mod == 0 && evenFor fmt f.d && evenFor fmt f.a && f.b == 0 && f.c == 0 && f.e == 0
  let v2 : Vec2 := ⟨f.gd, fmt, vReg f.d, vReg f.a, vReg f.b⟩
  let v1 : Vec1 := ⟨f.gd, vReg f.d, vReg f.a⟩
  match f.minor with
  | 0 => whenOk two (.fadd s v2)
  | 1 => whenOk two (.fsub s v2)
  | 2 => whenOk two (.fmul s v2)
  | 3 =>
    whenOk (f.mod == 0 && evenFor fmt f.d && evenFor fmt f.a && evenFor fmt f.b && evenFor fmt f.c && f.e == 0)
      (.ffma s v2 (vReg f.c))
  | 4 => whenOk two (.fmin s v2)
  | 5 => whenOk two (.fmax s v2)
  | 6 => whenOk one (.fabs s fmt v1)
  | 7 => whenOk one (.fneg s fmt v1)
  | _ => none

/-- Major 0x0A (03 R169 to R171). -/
def decConvert (s : Site) (f : WordFields) : Option Instr :=
  let ok := f.mod == 0 && f.b == 0 && f.c == 0 && f.e == 0
  let v1 : Vec1 := ⟨f.gd, vReg f.d, vReg f.a⟩
  match f.minor with
  | 0 => whenOk (ok && f.d % 2 == 0) (.cvtS32H16 s v1)
  | 1 => whenOk (ok && f.a % 2 == 0) (.cvtH16S32 s v1)
  | 2 => whenOk (ok && f.a % 2 == 0) (.cvtF8S32 s v1)
  | 3 => whenOk ok (.cvtF8H16 s v1)
  | 4 => whenOk ok (.cvtH16F8 s v1)
  | 5 => whenOk (ok && f.a % 2 == 0 && f.d % 2 == 0) (.cvtS32I32 s v1)
  | 6 => whenOk (ok && f.a % 2 == 0 && f.d % 2 == 0) (.cvtI32S32 s v1)
  | _ => none

/-- Major 0x0B (03 R172). -/
def decSpecial (s : Site) (f : WordFields) : Option Instr :=
  let fmt : VFmt := if f.mod = 1 then .h16 else .s32
  let ok := f.mod < 2 && evenFor fmt f.d && evenFor fmt f.a && f.b == 0 && f.c == 0 && f.e == 0
  let v1 : Vec1 := ⟨f.gd, vReg f.d, vReg f.a⟩
  match f.minor with
  | 0 => whenOk ok (.exp2 s fmt v1)
  | 1 => whenOk ok (.log2 s fmt v1)
  | 2 => whenOk ok (.rcp s fmt v1)
  | 3 => whenOk ok (.rsq s fmt v1)
  | 4 => whenOk ok (.sin s fmt v1)
  | 5 => whenOk ok (.cos s fmt v1)
  | _ => none

/-- The stationary format of MOD (03, MLD). -/
def decMFmt (n : Nat) : Option MFmt :=
  match n with
  | 0 => some .b4
  | 1 => some .b8
  | 2 => some .f8
  | 3 => some .h16
  | _ => none

/-- The pair of MOD (03, MMA). -/
def decPair (n : Nat) : Option Pair :=
  match n with
  | 0 => some .b4b4
  | 1 => some .b4b8
  | 2 => some .b8b8
  | 3 => some .f8f8
  | 4 => some .h16h16
  | _ => none

/-- A pair has a streamed scale register (02, fragment layouts; 03 R176). -/
def pairScaled (p : Pair) : Bool := p == .b4b4 || p == .b4b8 || p == .b8b8

/-- Registers of a pair's mantissa run, which is also va's alignment (02 R109). -/
def pairRun (p : Pair) : Nat :=
  match p with
  | .b4b4 => 16
  | .b4b8 => 32
  | .b8b8 => 16
  | .f8f8 => 16
  | .h16h16 => 8

/-- Major 0x0C (03 R175, R176, R200). -/
def decMatrix (s : Site) (f : WordFields) : Option Instr :=
  match f.minor with
  | 1 =>
    (match decMFmt f.mod with
     | some fmt =>
       whenOk (f.d < 2 && f.a < 64 && f.b < 64 && f.c < 64 && f.e < 64
           && (fmt == .b4 || fmt == .b8 || (f.c == 0 && f.e == 0)))
         (.mld s f.gd fmt (Fin.ofNat 2 f.d) (uReg f.a) (uReg f.b) (uReg f.c) (uReg f.e))
     | none => none)
  | 2 =>
    (match decPair f.mod with
     | some p =>
       whenOk (f.d < 4 && (!bitN f.d 1 || p == .b8b8) && f.a % pairRun p == 0 && f.a + pairRun p ≤ 256
           && (pairScaled p || f.b == 0) && f.c == 0)
         (.mma s f.gd p (Fin.ofNat 2 f.d) (bitN f.d 1) (vReg f.a) (vReg f.b) (peatBase f.e))
     | none => none)
  | _ => none

/-- Major 0x0D (03 R182). -/
def decPeat (s : Site) (f : WordFields) : Option Instr :=
  let p := peatBase f.e
  let m0 := f.mod == 0 && f.c == 0
  let mv := (f.mod == 0 || f.mod == 8) && f.d == 0 && f.b == 0 && f.c == 0
  let pm : PeatMem := ⟨f.gd, f.mod == 8, p, vReg f.a⟩
  match f.minor with
  | 0 => whenOk (m0 && f.d == 0 && f.a == 0 && f.b == 0) (.pclr s f.gd p)
  | 1 => whenOk (m0 && f.d == 0 && f.b == 0 && f.a % 2 == 0) (.pacc s f.gd .s32 p (vReg f.a))
  | 2 => whenOk (m0 && f.d == 0 && f.b == 0) (.pacc s f.gd .h16 p (vReg f.a))
  | 3 => whenOk (m0 && f.d == 0 && f.b == 0 && f.a < 64) (.padd s f.gd p (uReg f.a))
  | 4 => whenOk mv (.pld s pm)
  | 5 => whenOk mv (.pst s pm)
  | 6 => whenOk mv (.paddm s pm)
  | 7 => whenOk mv (.pext s pm)
  | 8 => whenOk mv (.pins s pm)
  | 9 => whenOk (m0 && f.a == 0 && f.b == 0) (.pcvtH16 s f.gd (vReg f.d) p)
  | 10 => whenOk (m0 && f.a == 0 && f.b == 0) (.pcvtF8 s f.gd (vReg f.d) p)
  | 11 => whenOk (m0 && f.a == 0 && f.b < 64) (.pcvtB8 s f.gd (vReg f.d) (uReg f.b) p)
  | _ => none

/-- The access size of MOD[2:0] (03 R185). -/
def decSz (n : Nat) : Option Sz :=
  match n with
  | 0 => some .u8
  | 1 => some .s8
  | 2 => some .u16
  | 3 => some .s16
  | 4 => some .w32
  | 5 => some .w64
  | 6 => some .w128
  | _ => none

/-- Registers of an access, which is also the alignment of its first (03 R186). -/
def szRegs (sz : Sz) : Nat :=
  match sz with
  | .w64 => 2
  | .w128 => 4
  | _ => 1

/-- Bytes of an access (03 R185). -/
def szBytes (sz : Sz) : Nat :=
  match sz with
  | .u8 => 1
  | .s8 => 1
  | .u16 => 2
  | .s16 => 2
  | .w32 => 4
  | .w64 => 8
  | .w128 => 16

/-- ST accepts sizes 0, 2, 4, 5 and 6 (03 R187). -/
def stSz (sz : Sz) : Bool := sz != .s8 && sz != .s16

/-- Majors 0x0E and 0x0F (03 R185 to R189). -/
def decMemory (s : Site) (f : WordFields) : Option Instr :=
  let t := 8 ≤ f.mod
  match decSz (f.mod % 8) with
  | none => none
  | some sz =>
    let o : MemOp := ⟨f.gd, sz, t, vReg f.d, vReg f.a, BitVec.ofNat 28 f.imm28⟩
    if f.major = 0x0E then
      (match f.minor with
       | 0 => whenOk (f.d % szRegs sz == 0) (.ld s o)
       | 1 => whenOk (f.d % szRegs sz == 0 && stSz sz) (.st s o)
       | _ => none)
    else
      (match f.minor with
       | 0 =>
         whenOk ((sz == .w32 || sz == .w64) && f.d < 64 && f.a < 64 && f.d % szRegs sz == 0)
           (.uldc s f.gd (sz == .w64) t (uReg f.d) (uReg f.a) (BitVec.ofNat 28 f.imm28))
       | _ => none)

/-- Major 0x10 (03 R195 to R197). -/
def decAtomic (s : Site) (f : WordFields) : Option Instr :=
  let x64 := bitN f.mod 0
  let ok := (f.mod % 8 < 2) && f.e == 0 && (!x64 || (f.d % 2 == 0 && f.b % 2 == 0))
  let ok0 := ok && f.c == 0
  let o : AtomOp := ⟨f.gd, x64, 8 ≤ f.mod, vReg f.d, vReg f.a, vReg f.b⟩
  match f.minor with
  | 0 => whenOk ok0 (.atomAdd s o)
  | 1 => whenOk ok0 (.atomSmin s o)
  | 2 => whenOk ok0 (.atomSmax s o)
  | 3 => whenOk ok0 (.atomUmin s o)
  | 4 => whenOk ok0 (.atomUmax s o)
  | 5 => whenOk ok0 (.atomAnd s o)
  | 6 => whenOk ok0 (.atomOr s o)
  | 7 => whenOk ok0 (.atomXor s o)
  | 8 => whenOk ok0 (.atomXchg s o)
  | 9 => whenOk (ok && (!x64 || f.c % 2 == 0)) (.atomCas s o (vReg f.c))
  | 10 => whenOk (ok0 && !x64) (.atomFaddS32 s o)
  | _ => none

/-- Majors 0x11 to 0x14 (03 R192, R198, R199, KCG). -/
def decRest (s : Site) (f : WordFields) : Option Instr :=
  let immI := f.mod == 0 && noGuard f && f.d == 0 && f.zeroI == 0 && f.imm32 < 65536
  let k := BitVec.ofNat 16 f.imm32
  if f.major = 0x11 then
    (match f.minor with
     | 0 => whenOk immI (.dsync s k)
     | 1 => whenOk immI (.nsync s k)
     | _ => none)
  else if f.major = 0x12 then
    (match f.minor with
     | 0 => whenOk (f.mod == 0 && f.d == 0 && f.a == 0 && f.b == 0 && f.c == 0 && f.e == 0) (.barg s f.gd)
     | 1 =>
       whenOk (f.mod == 0 && f.d == 0 && f.a == 0 && f.b == 0 && f.c == 0 && f.e < 4) (.barc s f.gd (Fin.ofNat 4 f.e))
     | _ => none)
  else if f.major = 0x13 then
    (match f.minor with
     | 0 =>
       whenOk (f.mod == 0 && f.d % 4 == 0 && f.a % 4 == 0 && f.b % 4 == 0 && f.c == 0 && f.e == 0)
         (.kcg s f.gd (vReg f.d) (vReg f.a) (vReg f.b))
     | _ => none)
  else
    (match f.minor with
     | 0 => whenOk immI (.bkpt s k)
     | 1 => whenOk (f.mod == 0 && f.d == 0 && f.b == 0 && f.c == 0 && f.e == 0) (.digest s f.gd (vReg f.a))
     | _ => none)

/-- Decode an instruction word at a site; `none` is an illegal encoding (03 R205). -/
def decodeWord (s : Site) (w : Nat) : Option Instr :=
  let f := wordFields w
  match f.major with
  | 0x01 => decControl s f
  | 0x02 => decInteger s f
  | 0x03 => decInteger s f
  | 0x04 => decInteger s f
  | 0x05 => decInteger s f
  | 0x06 => decMove s f
  | 0x07 => decCompare s f
  | 0x08 => decVector s f .s32
  | 0x09 => decVector s f .h16
  | 0x0A => decConvert s f
  | 0x0B => decSpecial s f
  | 0x0C => decMatrix s f
  | 0x0D => decPeat s f
  | 0x0E => decMemory s f
  | 0x0F => decMemory s f
  | 0x10 => decAtomic s f
  | 0x11 => decRest s f
  | 0x12 => decRest s f
  | 0x13 => decRest s f
  | 0x14 => decRest s f
  | _ => none

/-- The first twenty bits of a word: MAJOR, MINOR, MOD, GP and GN (03 R138, R139). -/
def encHead (major minor mod : Nat) (gd : Guard) : Nat :=
  major * 2 ^ 58 + minor * 2 ^ 52 + mod * 2 ^ 48 + gd.p.val * 2 ^ 45 + b2n gd.neg * 2 ^ 44

/-- A word of the R format: D, A, B, C and E (03 R138). -/
def encR (major minor mod : Nat) (gd : Guard) (d a b c e : Nat) : Nat :=
  encHead major minor mod gd + d * 2 ^ 36 + a * 2 ^ 28 + b * 2 ^ 20 + c * 2 ^ 12 + e

/-- A word of the S format: D, A and IMM28 (03 R138). -/
def encS (major minor mod : Nat) (gd : Guard) (d a : Nat) (imm : BitVec 28) : Nat :=
  encHead major minor mod gd + d * 2 ^ 36 + a * 2 ^ 28 + imm.toNat

/-- A word of the I format: D and IMM32 (03 R138). -/
def encI (major minor mod : Nat) (gd : Guard) (d imm : Nat) : Nat := encHead major minor mod gd + d * 2 ^ 36 + imm

/-- A word of the B format: TARGET and RECONV (03 R138, R143). -/
def encB (minor : Nat) (gd : Guard) (target reconv : Nat) : Nat := encHead 1 minor 0 gd + target * 2 ^ 20 + reconv

/-- The guard of an unguarded word: GP = 0, GN = 0 (03 R147). -/
def guard0 : Guard := ⟨0, false⟩

/-- A two-operand integer word (03 R157 to R159). -/
def encAlu (minor : Nat) (o : Alu) : Nat :=
  match o with
  | .lane gd d a (.reg b) => encR 2 minor 0 gd d.val a.val b.val 0 0
  | .lane gd d a (.uni b) => encR 2 minor 1 gd d.val a.val b.val 0 0
  | .lane gd d a (.imm v) => encS 3 minor 0 gd d.val a.val v
  | .uni d a (.reg b) => encR 4 minor 0 guard0 d.val a.val b.val 0 0
  | .uni d a (.imm v) => encS 5 minor 0 guard0 d.val a.val v

/-- POPC and CLZ (03 R160). -/
def encAlu1 (minor : Nat) (o : Alu1) : Nat :=
  match o with
  | .lane gd imm d a => encR (if imm then 3 else 2) minor 0 gd d.val a.val 0 0 0
  | .uni imm d a => encR (if imm then 5 else 4) minor 0 guard0 d.val a.val 0 0 0

/-- MOD and B of IMAD and SEL (03 R157, R160). -/
def encRegB (minor : Nat) (gd : Guard) (d a : Nat) (b : RegB) (c : Nat) : Nat :=
  match b with
  | .reg r => encR 2 minor 0 gd d a r.val c 0
  | .uni r => encR 2 minor 1 gd d a r.val c 0

/-- The compare code (03 R164). -/
def encCmp (c : Cmp) : Nat :=
  match c with
  | .eq => 0
  | .ne => 1
  | .lt => 2
  | .le => 3
  | .gt => 4
  | .ge => 5
  | .ltu => 6
  | .leu => 7
  | .gtu => 8
  | .geu => 9

/-- The operation code of PLOP (03). -/
def encPOp (o : POp) : Nat :=
  match o with
  | .and => 0
  | .or => 1
  | .xor => 2
  | .andn => 3

/-- The special-register code (03 R161). -/
def encSReg (c : SReg) : Nat :=
  match c with
  | .laneId => 0
  | .groupId => 1
  | .nGroups => 2
  | .lCluster => 3
  | .nCluster => 4
  | .kcyc => 5
  | .countLo => 6
  | .countHi => 7
  | .count => 8

/-- The major of a vector format (03). -/
def encVMajor (f : VFmt) : Nat :=
  match f with
  | .s32 => 8
  | .h16 => 9

/-- The MOD of a special-function format (03 R172). -/
def encVMod (f : VFmt) : Nat :=
  match f with
  | .s32 => 0
  | .h16 => 1

/-- A vector word of two sources (03). -/
def encVec2 (minor : Nat) (o : Vec2) (c : Nat) : Nat := encR (encVMajor o.fmt) minor 0 o.gd o.d.val o.a.val o.b.val c 0

/-- A vector word of one source (03). -/
def encVec1 (minor : Nat) (fmt : VFmt) (o : Vec1) : Nat := encR (encVMajor fmt) minor 0 o.gd o.d.val o.a.val 0 0 0

/-- A conversion word (03 R169 to R171). -/
def encCvt (minor : Nat) (o : Vec1) : Nat := encR 0x0A minor 0 o.gd o.d.val o.a.val 0 0 0

/-- A special-function word (03 R172). -/
def encSfu (minor : Nat) (fmt : VFmt) (o : Vec1) : Nat := encR 0x0B minor (encVMod fmt) o.gd o.d.val o.a.val 0 0 0

/-- The MOD of a stationary format (03, MLD). -/
def encMFmt (f : MFmt) : Nat :=
  match f with
  | .b4 => 0
  | .b8 => 1
  | .f8 => 2
  | .h16 => 3

/-- The MOD of a pair (03, MMA). -/
def encPair (p : Pair) : Nat :=
  match p with
  | .b4b4 => 0
  | .b4b8 => 1
  | .b8b8 => 2
  | .f8f8 => 3
  | .h16h16 => 4

/-- MOD[3], the fixed-time form (03). -/
def encT (t : Bool) : Nat := 8 * b2n t

/-- A Peat transfer (03 R182 to R184). -/
def encPeatMem (minor : Nat) (o : PeatMem) : Nat := encR 0x0D minor (encT o.t) o.gd 0 o.a.val 0 0 o.p.val

/-- The size code (03 R185). -/
def encSz (z : Sz) : Nat :=
  match z with
  | .u8 => 0
  | .s8 => 1
  | .u16 => 2
  | .s16 => 3
  | .w32 => 4
  | .w64 => 5
  | .w128 => 6

/-- LD or ST (03 R185 to R188). -/
def encMem (minor : Nat) (o : MemOp) : Nat := encS 0x0E minor (encSz o.sz + encT o.t) o.gd o.d.val o.a.val o.imm

/-- An atomic (03 R195 to R197). -/
def encAtom (minor : Nat) (o : AtomOp) (c : Nat) : Nat :=
  encR 0x10 minor (b2n o.x64 + encT o.t) o.gd o.d.val o.a.val o.b.val c 0

/-- The word of an instruction; a command that is no instruction has none (03). -/
def encodeWord (i : Instr) : Option Nat :=
  match i with
  | .nop _ gd => some (encB 0 gd 0 0)
  | .bra _ t => some (encB 1 guard0 t 0)
  | .braP _ gd t r => some (encB 2 gd t r)
  | .braT _ gd t r => some (encB 3 gd t r)
  | .loop _ a t => some (encB 4 guard0 t a.val)
  | .exit _ gd => some (encB 5 gd 0 0)
  | .iadd _ o => some (encAlu 0x00 o)
  | .isub _ o => some (encAlu 0x01 o)
  | .imul _ o => some (encAlu 0x02 o)
  | .imulhu _ o => some (encAlu 0x03 o)
  | .imulhs _ o => some (encAlu 0x04 o)
  | .imad _ gd d a b c => some (encRegB 0x05 gd d.val a.val b c.val)
  | .and _ o => some (encAlu 0x06 o)
  | .or _ o => some (encAlu 0x07 o)
  | .xor _ o => some (encAlu 0x08 o)
  | .shl _ o => some (encAlu 0x09 o)
  | .shr _ o => some (encAlu 0x0A o)
  | .sra _ o => some (encAlu 0x0B o)
  | .imin _ o => some (encAlu 0x0C o)
  | .imax _ o => some (encAlu 0x0D o)
  | .umin _ o => some (encAlu 0x0E o)
  | .umax _ o => some (encAlu 0x0F o)
  | .popc _ o => some (encAlu1 0x10 o)
  | .clz _ o => some (encAlu1 0x11 o)
  | .sel _ gd d a b c => some (encRegB 0x12 gd d.val a.val b c.val)
  | .mov _ gd d a => some (encR 6 0 0 gd d.val a.val 0 0 0)
  | .movi _ gd d imm => some (encI 6 1 0 gd d.val imm.toNat)
  | .umovi _ d imm => some (encI 6 2 0 guard0 d.val imm.toNat)
  | .bcast _ gd d a => some (encR 6 3 0 gd d.val a.val 0 0 0)
  | .laneRd _ d a lane => some (encR 6 4 0 guard0 d.val a.val 0 0 lane.val)
  | .s2r _ gd d code => some (encR 6 5 0 gd d.val (encSReg code) 0 0 0)
  | .s2u _ d code => some (encR 6 6 0 guard0 d.val (encSReg code) 0 0 0)
  | .isetp _ gd cc d a (.reg b) => some (encR 7 0 (encCmp cc) gd d.val a.val b.val 0 0)
  | .isetp _ gd cc d a (.imm v) => some (encS 7 1 (encCmp cc) gd d.val a.val v)
  | .isetp _ _ _ _ _ (.uni _) => none
  | .fsetp _ gd cc .s32 e d a b => some (encR 7 2 (encCmp cc) gd d.val a.val b.val e.val 0)
  | .fsetp _ gd cc .h16 e d a b => some (encR 7 3 (encCmp cc) gd d.val a.val b.val e.val 0)
  | .plop _ gd op d a b => some (encR 7 4 (encPOp op) gd d.val a.val b.val 0 0)
  | .fadd _ o => some (encVec2 0 o 0)
  | .fsub _ o => some (encVec2 1 o 0)
  | .fmul _ o => some (encVec2 2 o 0)
  | .ffma _ o c => some (encVec2 3 o c.val)
  | .fmin _ o => some (encVec2 4 o 0)
  | .fmax _ o => some (encVec2 5 o 0)
  | .fabs _ fmt o => some (encVec1 6 fmt o)
  | .fneg _ fmt o => some (encVec1 7 fmt o)
  | .cvtS32H16 _ o => some (encCvt 0 o)
  | .cvtH16S32 _ o => some (encCvt 1 o)
  | .cvtF8S32 _ o => some (encCvt 2 o)
  | .cvtF8H16 _ o => some (encCvt 3 o)
  | .cvtH16F8 _ o => some (encCvt 4 o)
  | .cvtS32I32 _ o => some (encCvt 5 o)
  | .cvtI32S32 _ o => some (encCvt 6 o)
  | .exp2 _ fmt o => some (encSfu 0 fmt o)
  | .log2 _ fmt o => some (encSfu 1 fmt o)
  | .rcp _ fmt o => some (encSfu 2 fmt o)
  | .rsq _ fmt o => some (encSfu 3 fmt o)
  | .sin _ fmt o => some (encSfu 4 fmt o)
  | .cos _ fmt o => some (encSfu 5 fmt o)
  | .kcg _ gd d a b => some (encR 0x13 0 0 gd d.val a.val b.val 0 0)
  | .mld _ gd fmt buf a b c e => some (encR 0x0C 1 (encMFmt fmt) gd buf.val a.val b.val c.val e.val)
  | .mma _ gd pair buf lean va vs p => some (encR 0x0C 2 (encPair pair) gd (buf.val + 2 * b2n lean) va.val vs.val 0 p.val)
  | .pclr _ gd p => some (encR 0x0D 0 0 gd 0 0 0 0 p.val)
  | .pacc _ gd .s32 p a => some (encR 0x0D 1 0 gd 0 a.val 0 0 p.val)
  | .pacc _ gd .h16 p a => some (encR 0x0D 2 0 gd 0 a.val 0 0 p.val)
  | .padd _ gd p a => some (encR 0x0D 3 0 gd 0 a.val 0 0 p.val)
  | .pld _ o => some (encPeatMem 4 o)
  | .pst _ o => some (encPeatMem 5 o)
  | .paddm _ o => some (encPeatMem 6 o)
  | .pext _ o => some (encPeatMem 7 o)
  | .pins _ o => some (encPeatMem 8 o)
  | .pcvtH16 _ gd d p => some (encR 0x0D 9 0 gd d.val 0 0 0 p.val)
  | .pcvtF8 _ gd d p => some (encR 0x0D 10 0 gd d.val 0 0 0 p.val)
  | .pcvtB8 _ gd d b p => some (encR 0x0D 11 0 gd d.val 0 b.val 0 p.val)
  | .ld _ o => some (encMem 0 o)
  | .st _ o => some (encMem 1 o)
  | .uldc _ gd x64 t d a imm => some (encS 0x0F 0 (4 + b2n x64 + encT t) gd d.val a.val imm)
  | .dsync _ k => some (encI 0x11 0 0 guard0 0 k.toNat)
  | .nsync _ k => some (encI 0x11 1 0 guard0 0 k.toNat)
  | .atomAdd _ o => some (encAtom 0 o 0)
  | .atomSmin _ o => some (encAtom 1 o 0)
  | .atomSmax _ o => some (encAtom 2 o 0)
  | .atomUmin _ o => some (encAtom 3 o 0)
  | .atomUmax _ o => some (encAtom 4 o 0)
  | .atomAnd _ o => some (encAtom 5 o 0)
  | .atomOr _ o => some (encAtom 6 o 0)
  | .atomXor _ o => some (encAtom 7 o 0)
  | .atomXchg _ o => some (encAtom 8 o 0)
  | .atomCas _ o c => some (encAtom 9 o c.val)
  | .atomFaddS32 _ o => some (encAtom 10 o 0)
  | .barg _ gd => some (encR 0x12 0 0 gd 0 0 0 0 0)
  | .barc _ gd id => some (encR 0x12 1 0 gd 0 0 0 0 id.val)
  | .bkpt _ n => some (encI 0x14 0 0 guard0 0 n.toNat)
  | .digest _ gd a => some (encR 0x14 1 0 gd 0 a.val 0 0 0)
  | _ => none

/-- The site of a command that acts at one (02). -/
def siteOf (i : Instr) : Option Site :=
  match i with
  | .nop s _ => some s
  | .bra s _ => some s
  | .braP s _ _ _ => some s
  | .braT s _ _ _ => some s
  | .loop s _ _ => some s
  | .exit s _ => some s
  | .illegalEncoding s => some s
  | .instructionFetch s _ _ => some s
  | .resultReady s _ => some s
  | .iadd s _ => some s
  | .isub s _ => some s
  | .imul s _ => some s
  | .imulhu s _ => some s
  | .imulhs s _ => some s
  | .imad s _ _ _ _ _ => some s
  | .and s _ => some s
  | .or s _ => some s
  | .xor s _ => some s
  | .shl s _ => some s
  | .shr s _ => some s
  | .sra s _ => some s
  | .imin s _ => some s
  | .imax s _ => some s
  | .umin s _ => some s
  | .umax s _ => some s
  | .popc s _ => some s
  | .clz s _ => some s
  | .sel s _ _ _ _ _ => some s
  | .mov s _ _ _ => some s
  | .movi s _ _ _ => some s
  | .umovi s _ _ => some s
  | .bcast s _ _ _ => some s
  | .laneRd s _ _ _ => some s
  | .s2r s _ _ _ => some s
  | .s2u s _ _ => some s
  | .isetp s _ _ _ _ _ => some s
  | .fsetp s _ _ _ _ _ _ _ => some s
  | .plop s _ _ _ _ _ => some s
  | .fadd s _ => some s
  | .fsub s _ => some s
  | .fmul s _ => some s
  | .ffma s _ _ => some s
  | .fmin s _ => some s
  | .fmax s _ => some s
  | .fabs s _ _ => some s
  | .fneg s _ _ => some s
  | .cvtS32H16 s _ => some s
  | .cvtH16S32 s _ => some s
  | .cvtF8S32 s _ => some s
  | .cvtF8H16 s _ => some s
  | .cvtH16F8 s _ => some s
  | .cvtS32I32 s _ => some s
  | .cvtI32S32 s _ => some s
  | .exp2 s _ _ => some s
  | .log2 s _ _ => some s
  | .rcp s _ _ => some s
  | .rsq s _ _ => some s
  | .sin s _ _ => some s
  | .cos s _ _ => some s
  | .kcg s _ _ _ _ => some s
  | .mld s _ _ _ _ _ _ _ => some s
  | .mma s _ _ _ _ _ _ _ => some s
  | .pclr s _ _ => some s
  | .pacc s _ _ _ _ => some s
  | .padd s _ _ _ => some s
  | .pld s _ => some s
  | .pst s _ => some s
  | .paddm s _ => some s
  | .pext s _ => some s
  | .pins s _ => some s
  | .pcvtH16 s _ _ _ => some s
  | .pcvtF8 s _ _ _ => some s
  | .pcvtB8 s _ _ _ _ => some s
  | .ld s _ => some s
  | .st s _ => some s
  | .uldc s _ _ _ _ _ _ => some s
  | .dsync s _ => some s
  | .nsync s _ => some s
  | .atomAdd s _ => some s
  | .atomSmin s _ => some s
  | .atomSmax s _ => some s
  | .atomUmin s _ => some s
  | .atomUmax s _ => some s
  | .atomAnd s _ => some s
  | .atomOr s _ => some s
  | .atomXor s _ => some s
  | .atomXchg s _ => some s
  | .atomCas s _ _ => some s
  | .atomFaddS32 s _ => some s
  | .barg s _ => some s
  | .barc s _ _ => some s
  | .bkpt s _ => some s
  | .digest s _ _ => some s
  | _ => none

end Sys2Proof
end

