-- ==== Sys2Proof/Machine/Signature.lean ====
section
/-!
DEFINITION. The two standards that the spec names for keys: SHA-384 (FIPS 180-4) and verification of ECDSA signatures on P-384
(FIPS 186-5) (14 R649, R650; 16 R727). Their texts are not in the spec (PRESUMED, log 48).
-/
namespace Sys2Proof.Machine

/-- The number that big-endian bytes spell. -/
def beNat (bs : List Byte) : Nat := bs.foldl (fun a b => 256 * a + b.toNat) 0

/-- The big-endian bytes of a number. -/
def beBytes (n v : Nat) : List Byte := (leBytes n v).reverse

/-- The round constants of SHA-512. -/
def shaK : List (BitVec 64) :=
  [0x428A2F98D728AE22, 0x7137449123EF65CD, 0xB5C0FBCFEC4D3B2F, 0xE9B5DBA58189DBBC,
   0x3956C25BF348B538, 0x59F111F1B605D019, 0x923F82A4AF194F9B, 0xAB1C5ED5DA6D8118,
   0xD807AA98A3030242, 0x12835B0145706FBE, 0x243185BE4EE4B28C, 0x550C7DC3D5FFB4E2,
   0x72BE5D74F27B896F, 0x80DEB1FE3B1696B1, 0x9BDC06A725C71235, 0xC19BF174CF692694,
   0xE49B69C19EF14AD2, 0xEFBE4786384F25E3, 0x0FC19DC68B8CD5B5, 0x240CA1CC77AC9C65]
    ++ [0x2DE92C6F592B0275, 0x4A7484AA6EA6E483, 0x5CB0A9DCBD41FBD4, 0x76F988DA831153B5,
   0x983E5152EE66DFAB, 0xA831C66D2DB43210, 0xB00327C898FB213F, 0xBF597FC7BEEF0EE4,
   0xC6E00BF33DA88FC2, 0xD5A79147930AA725, 0x06CA6351E003826F, 0x142929670A0E6E70,
   0x27B70A8546D22FFC, 0x2E1B21385C26C926, 0x4D2C6DFC5AC42AED, 0x53380D139D95B3DF,
   0x650A73548BAF63DE, 0x766A0ABB3C77B2A8, 0x81C2C92E47EDAEE6, 0x92722C851482353B]
    ++ [0xA2BFE8A14CF10364, 0xA81A664BBC423001, 0xC24B8B70D0F89791, 0xC76C51A30654BE30,
   0xD192E819D6EF5218, 0xD69906245565A910, 0xF40E35855771202A, 0x106AA07032BBD1B8,
   0x19A4C116B8D2D0C8, 0x1E376C085141AB53, 0x2748774CDF8EEB99, 0x34B0BCB5E19B48A8,
   0x391C0CB3C5C95A63, 0x4ED8AA4AE3418ACB, 0x5B9CCA4F7763E373, 0x682E6FF3D6B2B8A3,
   0x748F82EE5DEFB2FC, 0x78A5636F43172F60, 0x84C87814A1F0AB72, 0x8CC702081A6439EC]
    ++ [0x90BEFFFA23631E28, 0xA4506CEBDE82BDE9, 0xBEF9A3F7B2C67915, 0xC67178F2E372532B,
   0xCA273ECEEA26619C, 0xD186B8C721C0C207, 0xEADA7DD6CDE0EB1E, 0xF57D4F7FEE6ED178,
   0x06F067AA72176FBA, 0x0A637DC5A2C898A6, 0x113F9804BEF90DAE, 0x1B710B35131C471B,
   0x28DB77F523047D84, 0x32CAAB7B40C72493, 0x3C9EBE0A15C9BEBC, 0x431D67C49C100D4C,
   0x4CC5D4BECB3E42B6, 0x597F299CFC657E2A, 0x5FCB6FAB3AD6FAEC, 0x6C44198C4A475817]

/-- The initial hash value of SHA-384. -/
def shaInit : List (BitVec 64) :=
  [0xCBBB9D5DC1059ED8, 0x629A292A367CD507, 0x9159015A3070DD17, 0x152FECD8F70E5939,
   0x67332667FFC00B31, 0x8EB44A8768581511, 0xDB0C2E0D64F98FA7, 0x47B5481DBEFA4FA4]

/-- The functions of the message schedule and of a round. -/
def shaSmall0 (x : BitVec 64) : BitVec 64 := x.rotateRight 1 ^^^ x.rotateRight 8 ^^^ x >>> 7
def shaSmall1 (x : BitVec 64) : BitVec 64 := x.rotateRight 19 ^^^ x.rotateRight 61 ^^^ x >>> 6
def shaBig0 (x : BitVec 64) : BitVec 64 := x.rotateRight 28 ^^^ x.rotateRight 34 ^^^ x.rotateRight 39
def shaBig1 (x : BitVec 64) : BitVec 64 := x.rotateRight 14 ^^^ x.rotateRight 18 ^^^ x.rotateRight 41

/-- The message schedule, newest word first: n more words. -/
def shaExtend : Nat → List (BitVec 64) → List (BitVec 64)
  | 0, w => w
  | n + 1, w => shaExtend n ((shaSmall1 (nth w 1 0) + nth w 6 0 + shaSmall0 (nth w 14 0) + nth w 15 0) :: w)

/-- One round on the eight working variables. -/
def shaRound (v : List (BitVec 64)) (kw : BitVec 64 × BitVec 64) : List (BitVec 64) :=
  match v with
  | [a, b, c, d, e, f, g, h] =>
    let t1 := h + shaBig1 e + ((e &&& f) ^^^ (~~~ e &&& g)) + kw.1 + kw.2
    let t2 := shaBig0 a + ((a &&& b) ^^^ (a &&& c) ^^^ (b &&& c))
    [t1 + t2, a, b, c, d + t1, e, f, g]
  | _ => v

/-- The hash value after one block of 128 bytes. -/
def shaBlock (h : List (BitVec 64)) (b : List Byte) : List (BitVec 64) :=
  let w := (List.range 16).map fun i => BitVec.ofNat 64 (beNat ((b.drop (8 * i)).take 8))
  let v := (shaK.zip (shaExtend 64 w.reverse).reverse).foldl shaRound h
  (h.zip v).map fun x => x.1 + x.2

/-- The hash value after n blocks. -/
def shaBlocks : Nat → List Byte → List (BitVec 64) → List (BitVec 64)
  | 0, _, h => h
  | n + 1, bs, h => shaBlocks n (bs.drop 128) (shaBlock h (bs.take 128))

/-- SHA-384 of a byte string: 48 bytes. -/
def sha384 (m : List Byte) : List Byte :=
  let p := m ++ [0x80] ++ List.replicate ((239 - m.length % 128) % 128) 0 ++ beBytes 16 (8 * m.length)
  ((shaBlocks (p.length / 128) p shaInit).take 6).flatMap fun x => beBytes 8 x.toNat

/-- The prime, the coefficient b and the order of P-384. -/
def ecP : Nat := 2 ^ 384 - 2 ^ 128 - 2 ^ 96 + 2 ^ 32 - 1
def ecB : Nat := 0xB3312FA7E23EE7E4988E056BE3F82D19181D9C6EFE8141120314088F5013875AC656398D8A2ED19D2A85C8EDD3EC2AEF
def ecN : Nat := 0xFFFFFFFFFFFFFFFFFFFFFFFFFFFFFFFFFFFFFFFFFFFFFFFFC7634D81F4372DDF581A0DB248B0A77AECEC196ACCC52973

/-- A point of the curve in Jacobian coordinates; z = 0 is the point at infinity. -/
structure EcPoint where
  x : Nat
  y : Nat
  z : Nat
deriving DecidableEq, Repr

/-- The base point of P-384. -/
def ecG : EcPoint :=
  ⟨0xAA87CA22BE8B05378EB1C71EF320AD746E1D3B628BA79B9859F741E082542A385502F25DBF55296C3A545E3872760AB7,
   0x3617DE4A96262C6F5D9E98BF9292DC29F8F41DBD289A147CE9DA3113B5F0B8C00A60B1CE1D7E819D7A431D7C90EA0E5F, 1⟩

/-- A difference modulo m of numbers below m. -/
def subMod (m a b : Nat) : Nat := (a + (m - b)) % m

/-- A power modulo m, of an exponent of n bits. -/
def powMod (m a : Nat) : Nat → Nat → Nat
  | 0, _ => 1
  | n + 1, e =>
    let h := powMod m a n (e / 2)
    if e % 2 = 1 then h * h % m * a % m else h * h % m

/-- Twice a point. -/
def ecDouble (q : EcPoint) : EcPoint :=
  let y2 := q.y * q.y % ecP
  let z2 := q.z * q.z % ecP
  let s := 4 * q.x * y2 % ecP
  let m := (3 * q.x * q.x + (ecP - 3) * (z2 * z2)) % ecP
  let x := subMod ecP (m * m % ecP) (2 * s % ecP)
  ⟨x, subMod ecP (m * subMod ecP s x % ecP) (8 * y2 * y2 % ecP), 2 * q.y * q.z % ecP⟩

/-- The sum of two points. -/
def ecAdd (a b : EcPoint) : EcPoint :=
  if a.z = 0 then b
  else if b.z = 0 then a
  else
    let za := a.z * a.z % ecP
    let zb := b.z * b.z % ecP
    let u1 := a.x * zb % ecP
    let u2 := b.x * za % ecP
    let s1 := a.y * zb * b.z % ecP
    let s2 := b.y * za * a.z % ecP
    if u1 = u2 then (if s1 = s2 then ecDouble a else ⟨1, 1, 0⟩)
    else
      let h := subMod ecP u2 u1
      let r := subMod ecP s2 s1
      let h2 := h * h % ecP
      let v := u1 * h2 % ecP
      let x := subMod ecP (r * r % ecP) ((h * h2 + 2 * v) % ecP)
      ⟨x, subMod ecP (r * subMod ecP v x % ecP) (s1 * h % ecP * h2 % ecP), h * a.z * b.z % ecP⟩

/-- A multiple of a point, by a number of n bits. -/
def ecMul (q : EcPoint) : Nat → Nat → EcPoint
  | 0, _ => ⟨1, 1, 0⟩
  | n + 1, k =>
    let h := ecDouble (ecMul q n (k / 2))
    if k % 2 = 1 then ecAdd h q else h

/-- The affine x of a point. -/
def ecX (q : EcPoint) : Nat := q.x * powMod ecP (q.z * q.z % ecP) 384 (ecP - 2) % ecP

/-- Verification of an ECDSA signature (r, s) over a message under a public key (x, y), each number in 48 bytes, big-endian. -/
def ecdsaOk (key sig msg : List Byte) : Bool :=
  let q : EcPoint := ⟨beNat (key.take 48), beNat (key.drop 48), 1⟩
  let r := beNat (sig.take 48)
  let s := beNat (sig.drop 48)
  let onCurve := decide (q.x < ecP) && decide (q.y < ecP)
    && q.y * q.y % ecP == (q.x * q.x * q.x + (ecP - 3) * q.x + ecB) % ecP
  let w := powMod ecN s 384 (ecN - 2)
  let p := ecAdd (ecMul ecG 384 (beNat (sha384 msg) * w % ecN)) (ecMul q 384 (r * w % ecN))
  key.length == 96 && sig.length == 96 && onCurve && decide (0 < r) && decide (r < ecN) && decide (0 < s) && decide (s < ecN)
    && p.z != 0 && ecX p % ecN == r

end Sys2Proof.Machine
end

