-- ==== Sys2Proof/Machine/ClusterTypes.lean ====
section
/-!
DEFINITION. The plain data of one cluster: thread groups, registers, Peat file, scratchpad, caches,
stationary buffers and the instructions in flight (02).
-/
namespace Sys2Proof.Machine

/-- A register as the scoreboard of R87 names it. -/
inductive RegId where
  | v (r : Nat)
  | u (r : Nat)
  | p (r : Nat)
deriving DecidableEq, Repr

/-- A place a result lands: a lane register, a uniform register or a lane's predicate. -/
inductive Dst where
  | lane (r l : Nat)
  | uni (r : Nat)
  | pred (p l : Nat)
deriving DecidableEq, Repr

/-- Which unit an instruction uses (02 R88, 03 unit codes). INT, VEC and OC start without waiting. -/
inductive UnitUse where
  | free
  | sfu
  | gport
  | mma
  | peat
  | both
deriving DecidableEq, Repr

/-- The operation of an atomic (03). -/
inductive AtomFn where
  | add | smin | smax | umin | umax | and | or | xor | xchg | cas | fadd
deriving DecidableEq, Repr

/-- What an issued instruction does at its unit and when it lands; `value` results are known at issue, and those of `uldc` when
its line is read (02 R97). -/
inductive Job where
  | value
  | ld (sz : Sz) (t : Bool) (d : Nat)
  | st (sz : Sz) (t : Bool)
  | atom (fn : AtomFn) (x64 t : Bool) (d : Nat)
  | mld (fmt : MFmt) (buf : Nat)
  | mma (p : Pair) (buf : Nat) (lean : Bool)
  | pclr
  | pacc (fmt : VFmt)
  | padd (src : Nat)
  | pld (t : Bool)
  | pst (t : Bool)
  | paddm (t : Bool)
  | pext (t : Bool)
  | pins (t : Bool)
  | pcvtH16 (d : Nat)
  | pcvtF8 (d : Nat)
  | pcvtB8 (d u : Nat)
  | uldc (x64 : Bool) (d ad : Nat)
deriving DecidableEq, Repr

/-- A part of a group-port access within one 16-byte line: the cycle of the access that serves it, the lane or the slice it belongs
to, its address, its offset in that lane's or slice's bytes, and its length (02 R92, R117). -/
structure Piece where
  cyc : Nat
  who : Nat
  addr : Nat
  off : Nat
  len : Nat
deriving DecidableEq, Repr

/-- An instruction that has issued and has not completed (02 R84, R87, R88). `plan` holds the parts of its group-port access,
`cycIn` the cycles of it that have passed, `got` the bytes read so far, `flip` what an uncorrectable read flips (09 R458). -/
structure Flight where
  g : Nat
  pc : Nat
  job : Job
  use : UnitUse
  issueAt : Nat
  started : Bool
  startAt : Nat
  readyAt : Nat
  occ : Nat
  mask : BitVec 32
  dsts : List RegId
  writes : List (Dst × Word)
  addrs : List (Nat × Nat)
  vals : List Nat
  reads : List (Nat × Nat)
  ranges : List (Nat × Nat)
  frag : List (List Nat)
  acc : List (Nat × Peat)
  stores : List (Nat × List Byte)
  live : Bool
  plan : List Piece := []
  cycIn : Nat := 0
  got : List (Nat × Nat × List Byte) := []
  flip : Word := 0
deriving DecidableEq, Repr

/-- One entry of a divergence stack (02 R80, R81, R83). -/
structure DivEntry where
  reconv : Nat
  takenPc : Nat
  taken : BitVec 32
  joined : BitVec 32
  onTaken : Bool
  fixed : Bool
deriving DecidableEq, Repr

/-- Why a group does not issue (02 R87, R98, R124, R127, 03 R193). -/
inductive Wait where
  | none
  | til (kcyc : Nat)
  | fill (line : Nat)
  | barg (last : Nat)
  | barc (id : Nat) (last : Nat) (arrived : Option Nat)
  | plan (net : Bool) (k : Nat)
deriving DecidableEq, Repr

/-- A thread group (02 R76 to R85). `regEcc` is what the register reads of its fetched word find (09 R455). -/
structure Group where
  started : Bool := false
  finished : Bool := false
  pc : Nat := 0
  lastPc : Nat := 0
  active : BitVec 32 := 0
  exited : BitVec 32 := 0
  stack : List DivEntry := []
  held : Option Nat := none
  wait : Wait := .none
  regEcc : Ecc := .clean
deriving DecidableEq, Repr

/-- A cache line that is valid (02 R96 to R100). -/
structure CLine where
  line : Nat
  bytes : List Byte
deriving DecidableEq, Repr

/-- A fill in progress, with the bytes its first cycle reads once that cycle's ports have acted (02 R95, R97). -/
structure Fill where
  oc : Bool
  line : Nat
  bytes : List Byte
  doneAt : Nat
  read : Bool := false
deriving DecidableEq, Repr

/-- A stationary buffer: the format recorded at issue, the column slices and when it is usable (02, 03 R177). -/
structure SBuf where
  fmt : Option MFmt := none
  cols : List (List Byte × List Byte) := []
  usableAt : Nat := 0
deriving DecidableEq, Repr

/-- A sampled MMA whose check is pending: |formed - exact| of each block that differs, and the number checked (05 R282, R283). -/
structure Sample where
  deltas : List Nat
deriving DecidableEq, Repr

/-- CLU.STATE.STATE (02 R135). -/
inductive ClSt where
  | idle | running | faulted | halted | quarantined
deriving DecidableEq, Repr

/-- A recorded cluster fault (02 R132). -/
structure ClFault where
  code : Nat := 0
  group : Nat := 0
  lane : Nat := 0
  pc : Nat := 0
  addr : Nat := 0
  kcyc : Nat := 0
deriving DecidableEq, Repr

/-- One physical cluster (02). `issuedAt` is the cycle of its last issue (R86). -/
structure Cluster where
  logical : Option Nat := none
  quarantined : Bool := false
  st : ClSt := .idle
  flt : ClFault := {}
  kcyc : Nat := 0
  kernel : Nat := 0
  icMiss : Nat := 0
  ocMiss : Nat := 0
  conflict : Nat := 0
  mtxRows : Nat := 0
  ngroups : Nat := 0
  gExp : Int := 0
  wBits : Nat := 48
  groups : List Group := List.replicate 8 {}
  lanes : SMap Word := []
  unis : SMap Word := []
  preds : SMap (BitVec 32) := []
  peat : SMap Peat := []
  spad : Mem := []
  ic : SMap (Option CLine) := []
  oc : SMap (Option CLine) := []
  fills : List Fill := []
  sbufs : List SBuf := [{}, {}]
  flights : List Flight := []
  gportFree : Nat := 0
  sfuFree : Nat := 0
  mmaFree : Nat := 0
  peatFree : Nat := 0
  digest : Nat := 0
  autoDig : Bool := false
  peatLanded : List (Nat × Nat × Nat) := []
  leanIdx : Nat := 0
  samples : List Sample := []
  ueExecs : Nat := 0
  ueThis : Bool := false
  ceCount : Nat := 0
  issuedAt : Option Nat := none
deriving DecidableEq, Repr

end Sys2Proof.Machine
end

