-- ==== Sys2Proof/Machine/ExecTypes.lean ====
section
/-!
DEFINITION. The plain data of executions, plans, HBM channels and freezes (04), of the Sluice's contexts
and joins (06, 08), and of rings, queues and transfers (08, 13).
-/
namespace Sys2Proof.Machine

/-- A kernel of an execution with its launch cycle and window (04 R208, R209). -/
structure KRun where
  idx : Nat
  at_ : Nat
  window : Nat
  desc : List Nat
  layer : List Nat
  lidx : Nat
deriving DecidableEq, Repr

/-- What a plan instance moves between (04 R234, R238, 07 R384, 08 R435). -/
inductive Route where
  | nothing
  | hbmIn (addr : Nat)
  | hbmOut (addr : Nat)
  | send (peer sadr : Nat)
  | recv (peer : Nat)
  | redIn (slot unit0 : Nat)
  | redOut (slot unit0 : Nat)
  | spillIn (off : Nat)
deriving DecidableEq, Repr

/-- One instance of a plan entry (04 R231, R232). `nRead` and `nWrite` count the units that have taken their source
action and that have been delivered; `eccs` is what its units' reads of protected arrays find, and from 2^14 on the engine's reads of those that go to
it (09 R455). -/
structure PlanInst where
  cl : Nat
  net : Bool
  k : Nat
  kernel : Nat
  start : Nat
  kind : Nat
  lane : Nat
  order : Nat
  port : Nat
  sadr : Nat
  units : Nat
  hops : Nat
  route : Route
  started : Bool := false
  nRead : Nat := 0
  nWrite : Nat := 0
  doneAt : Option Nat := none
  eccs : List (Nat × Ecc) := []
deriving DecidableEq, Repr

/-- A 64-byte unit on its way to a scratchpad, or to the reduction engine when `red` names the layer and the slot and
`sadr` the unit; `ecc` is what the engine's read of it will find (04 R234, 07 R384, 09 R455). -/
structure Transit where
  due : Nat
  cl : Nat
  sadr : Nat
  data : List Byte
  red : Option (Nat × Nat) := none
  ecc : Ecc := .clean
deriving DecidableEq, Repr

/-- An access that a plan has placed on a pseudo-channel; a read's data are those at its start, and `back` that they have returned
(04 R235, R243). -/
structure HbmAcc where
  planned : Nat
  cl : Nat
  net : Bool
  k : Nat
  kernel : Nat
  unit : Nat
  addr : Nat
  wdata : Option (List Byte)
  startedAt : Option Nat := none
  data : Option (List Byte) := none
  back : Bool := false
deriving DecidableEq, Repr

/-- A pseudo-channel: its accesses in order, when it is free, and the refresh window it last began (04 R241 to R243). -/
structure HbmChan where
  q : List HbmAcc := []
  freeAt : Nat := 0
  window : Option Nat := none
deriving DecidableEq, Repr

/-- What an execution is (04 R207). -/
inductive ExecKind where
  | none | step | runk
deriving DecidableEq, Repr

/-- The descriptor that a command came from, for its completion (13 R616). -/
structure CmdRef where
  ring : Nat := 0
  idx : Nat := 0
  tag : Nat := 0
  quiet : Bool := false
  op : Nat := 0
  q : Nat := 0
  era : Nat := 0
  remote : Bool := false
deriving DecidableEq, Repr

/-- A RUN_KERNEL as accepted (08 R450, 13 R608, R611). -/
structure RunK where
  ref : CmdRef
  preempt : Bool
  saveAddr : Nat
  liveSp : Nat
  livePeat : Nat
  preload : Nat
  preLen : Nat
  preSp : Nat
  hostSrc : Bool
  desc : List Nat
  layer : List Nat
  dma : List (List (List Nat))
  net : List (List (List Nat))
  block : Nat := 0
  blockLen : Nat := 0
deriving DecidableEq, Repr

/-- The current or last execution (04, 09). `seq` is LSP.SEQ at its launch (05 R281); `spillBuf` the units of the spill stream in the
buffer by number, `spillNext` the next offset to read and `spillLow` the lowest not yet delivered (08 R432). `dropped` marks a step that a
loss or a stop has discarded (07 R406, R408), `faults` the clusters that have faulted in this execution (09 R472). -/
structure Exec where
  kind : ExecKind := .none
  running : Bool := false
  stopped : Bool := false
  cyc : Nat := 0
  launch : Nat := 0
  planDur : Nat := 0
  frozen : Nat := 0
  runs : List KRun := []
  cur : Option Nat := none
  insts : List PlanInst := []
  transit : List Transit := []
  led : Ledger := {}
  lean : Bool := false
  rk : Option RunK := none
  sRec : StepRec := {}
  wbLog : List Nat := []
  ueStacks : List Nat := []
  regions : List Nat := []
  spillLow : Nat := 0
  spillLate : Nat := 0
  spillFirst : Nat := 0
  spillOn : Bool := false
  spillNext : Nat := 0
  spillBuf : SMap (List Byte) := []
  seq : Nat := 0
  draining : Bool := false
  heldCyc : Nat := 0
  ended : Bool := false
  missed : Bool := false
  sumAll : Nat := 0
  nAll : Nat := 0
  rewound : Bool := false
  kdig : SMap Nat := []
  dropped : Bool := false
  faults : List Nat := []
deriving DecidableEq, Repr

/-- Why the die freezes for an interval of counts (04 R211, 07 R396, 15 R703). -/
inductive FreezeCause where
  | group | thermal
deriving DecidableEq, Repr

/-- A scheduled freeze (04 R211). -/
structure FreezeWin where
  start : Nat
  len : Nat
  cause : FreezeCause
  active : Bool
deriving DecidableEq, Repr

/-- The states of a context (06 R313). -/
inductive CtxSt where
  | idle | opened | prefill | decode | parked | closing
deriving DecidableEq, Repr

/-- A GENERATE in progress (06 R351, R352). -/
structure Gen where
  ref : CmdRef
  addr : Nat
  written : Nat
  stop : Bool
  limit : Bool
deriving DecidableEq, Repr

/-- A pending join: `deferred` once a boundary has considered it and not admitted it, `deferrals` those that count, `cause` that of the last
(06 R332 to R335, R354, R356). -/
structure Join where
  ref : CmdRef
  unpark : Bool
  seq : Nat
  deferrals : Nat
  deferred : Bool
  swap : Bool
  cause : Nat := 0
deriving DecidableEq, Repr

/-- A PARK or swap-park under way (08 R440 to R447). -/
structure ParkReq where
  ref : CmdRef
  addr : Nat
  swap : Bool
  saved : Bool
deriving DecidableEq, Repr

/-- One of the 512 session contexts (06 R313 to R355). `hist` and `taint` stand for what its key-value rows hold (see `CtxImage`); `told` is
false while the group has not been told of its park or read (08 R439). -/
structure Context where
  st : CtxSt := .idle
  sid : Nat := 0
  ring : Nat := 0
  len : Nat := 0
  waiting : List Nat := []
  limit : Nat := 0
  budget : Nat := 0
  deadline : Nat := 0
  accrued : Nat := 0
  pages : List Nat := []
  blocked : Bool := false
  short : Bool := false
  shortAt : Nat := 0
  exitLast : Bool := false
  temp : Nat := 0
  topK : Nat := 0
  topP : Nat := 0
  stops : List Nat := [0, 0, 0, 0]
  tokens : Nat := 0
  exits : Nat := 0
  commitLo : Nat := 0
  seed : Nat := 0
  parkAddr : Nat := 0
  parkLen : Nat := 0
  gen : Option Gen := none
  join : Option Join := none
  park : Option ParkReq := none
  parkPending : Option ParkReq := none
  reading : Bool := false
  unparkRef : Option CmdRef := none
  closeAfter : Bool := false
  blockAt : Nat := 0
  swapSeq : Nat := 0
  admitAt : Nat := 0
  eligible : Bool := false
  rows : Nat := 0
  hist : List (Nat × Bool × Nat) := []
  taint : Nat := 0
  told : Bool := true
deriving DecidableEq, Repr

/-- A descriptor read from a ring (13 R606). -/
structure Desc where
  ref : CmdRef
  words : List Nat
deriving DecidableEq, Repr

/-- A ring beside its registers (13 R598 to R605). `era` counts its enables: descriptors are known by era and index. `busy` names, for
each enable, the command its later ones wait behind (06 R334, 13 R603, R605). -/
structure Ring where
  era : Nat := 0
  fetching : Option Nat := none
  fifo : List Desc := []
  busy : List (Nat × Nat) := []
  out : List CmdRef := []
  fences : List CmdRef := []
deriving DecidableEq, Repr

/-- An event record of eight words (13 R617); word 0's phase is set when it is written. -/
abbrev EvRec := List Nat

/-- An event queue beside its registers (13 R618 to R625). -/
structure EvQueue where
  reserved : Nat := 0
  waiting : List (Bool × EvRec) := []
  lostSince : Nat := 0
  unreported : Nat := 0
  firstAt : Option Nat := none
deriving DecidableEq, Repr

/-- A committed token on its way to the host: its record, its TOKEN event and the completion it ends in, with its status and its words 6
and 7; a `bare` one is a completion alone that waits behind its session's records (06 R351 to R353, 13 R629). -/
structure TokRec where
  ctx : Nat
  sid : Nat
  ring : Nat
  fn : Nat
  idx : Nat
  value : Nat
  exited : Bool
  stop : Bool
  limit : Bool
  addr : Option Nat
  fin : Option (CmdRef × Nat × Nat × Nat)
  bare : Bool := false
deriving DecidableEq, Repr

/-- A park block that this package has written: the session, its length and exit map, the bytes of the pages that this position holds at their
places from the first page on, and what its rows stand for (05 R276, R277, 08 R438, R439). -/
structure BlockNote where
  sid : Nat
  seed : Nat
  len : Nat
  exits : List Byte
  parts : List (Nat × List Byte)
  hist : List (Nat × Bool × Nat)
  taint : Nat
deriving DecidableEq, Repr

/-- A host transfer of 08 R431. -/
inductive XferKind where
  | preSave
  | restore
  | park (ctx : Nat)
  | unpark (ctx : Nat)
  | saveState (ref : CmdRef) (addr len : Nat)
  | restoreState (ref : CmdRef) (addr len : Nat)
deriving DecidableEq, Repr

/-- A pending or running host transfer (08 R429 to R431). -/
structure Xfer where
  kind : XferKind
  started : Bool
  doneAt : Nat
deriving DecidableEq, Repr

/-- The header fields of the resident image (08). -/
structure ImgHdr where
  host : Nat := 0
  len : Nat := 0
  ident : Nat := 0
  hbmEnd : Nat := 0
  spillOff : Nat := 0
  q : Nat := 0
  rate : Nat := 0
  hide : Nat := 0
  afterExit : Bool := false
deriving DecidableEq, Repr

/-- An image load between its acceptance and its completion (08 R423, R424). -/
structure Loading where
  ref : CmdRef
  addr : Nat
  len : Nat
  spillBw : Nat
  hdr : ImgHdr
deriving DecidableEq, Repr

/-- A suspended execution (08 R451 to R454): its command, its held schedule cycle, the execution as it stood, the launch-cleared
registers with their values, the lines of its caches by logical cluster (R451 saves their tags), and the count at which its restore
began. Registers, scratchpad, Peat, stacks and waits lie in the save area. -/
structure Suspended where
  rk : RunK
  cyc : Nat
  exec : Exec
  live : Nat
  regs : List (Nat × Word) := []
  lines : SMap (SMap (Option CLine) × SMap (Option CLine)) := []
  resuming : Option Nat
deriving DecidableEq, Repr

/-- A frame kept until it is acknowledged (07 R373, R394). -/
structure TxFrame where
  frame : Frame
  due : Option Nat
  sentAt : Nat
  sends : Nat
deriving DecidableEq, Repr

/-- A port's side of the IEEE 1588 exchange: the next sequence numbers, the Sync last received with its arrival, the last Sync's sending and
arrival, the Delay_Req under way with its sending, twice the one-way delay once it is measured, and the messages last sent (07 R376, R377,
15 R699). -/
structure PtpSide where
  syncSeq : Nat := 0
  reqSeq : Nat := 0
  heard : Option (Nat × Nat) := none
  t12 : Option (Nat × Nat) := none
  asked : Option (Nat × Nat) := none
  d2 : Option Int := none
  out : List PtpMsg := []
deriving DecidableEq, Repr

/-- An Azlink port beside its registers: `txFree` is the count from which its transmitter is free, and `peerSa` the peer's station address
as learnt in the handshake, `early` a HELLO that came before the delay was measured (07 R367, R372 to R380, R394). -/
structure Port where
  txFree : Nat := 0
  peerSa : Nat := 0
  ptp : PtpSide := {}
  txSeq : Nat := 0
  rxSeq : Nat := 0
  replay : List TxFrame := []
  lastRx : Nat := 0
  ackAt : Option Nat := none
  lastKeep : Nat := 0
  helloAt : Option Nat := none
  beyondAt : Option Nat := none
  last : Option Frame := none
  ptpAt : Nat := 0
  announceAt : Nat := 0
  early : Option Frame := none
deriving DecidableEq, Repr

/-- One source of a reduction: 8 is the local partial, k the port k; its 64-byte units (07 R386 to R388). -/
structure RedSrc where
  src : Nat
  units : SMap (List Byte)
deriving DecidableEq, Repr

/-- One reduction slot of the running step; `eccs` tells by source and unit what the engine's reads of the partials find (07 R383 to R389, 09
R455). -/
structure Reduction where
  slot : Nat
  layer : Nat
  width : Nat
  record : List Nat
  srcs : List RedSrc := []
  result : SMap (List Byte) := []
  eccs : List (Nat × Nat × Ecc) := []
  sentUp : List Nat := []
deriving DecidableEq, Repr

/-- A link loss of a group of more than 32 that waits for the far member's notice (07 R415). -/
structure LinkWait where
  port : Nat
  pos : Nat
  since : Nat
deriving DecidableEq, Repr

/-- A lock-step triple: step number, commit count, step digest (05 R301). -/
structure Triple where
  n : Nat
  count : Nat
  digest : Nat
deriving DecidableEq, Repr

/-- Lock-step comparison beside its registers (05 R300 to R308); `held` pairs the lock-step number and the step number of each step whose
tokens wait for the comparison, and `orphans` the steps whose comparison can no longer be made. -/
structure LockStep where
  on : Bool := false
  next : Nat := 0
  own : List Triple := []
  twin : List Triple := []
  held : List (Nat × Nat) := []
  haltAt : Option Nat := none
  rewindStep : Option Nat := none
  orphans : List Nat := []
deriving DecidableEq, Repr

/-- The step that a member has completed and not committed, with what its replay needs (07 R404, R407, 06 R329); `exact` when its results
are in the exact class (05 R262, R263). -/
structure DoneStep where
  record : StepRec
  clean : Bool
  ledger : Ledger
  frozen : Nat
  exact : Bool := true
deriving DecidableEq, Repr

/-- A session command that an entry site has forwarded and not completed: `base` is the session's TOKENS when its GENERATE was first seen under
way (07 R414, 13 R613). -/
structure SiteWait where
  ref : CmdRef
  sid : Nat
  base : Option Nat
deriving DecidableEq, Repr

/-- Group state beside the AZL registers (07). `committed` holds the last step that each position is known to have committed, `releaseQ` the
tokens of the steps that have not been released, oldest first, and `released` the last step that has (R403, R419). `losses` holds the
declaring and the lost position of each loss that no rejoin has answered (R405, R407). -/
structure AzlState where
  ports : List Port := List.replicate 8 {}
  reds : List Reduction := []
  ledgers : List (Nat × Ledger) := []
  committed : List (Nat × Nat) := []
  releaseQ : List (Nat × List TokRec) := []
  formed : List Nat := []
  staged : List (Nat × Nat) := []
  waitSince : Option Nat := none
  holdNo : Nat := 0
  floods : List (Nat × Nat × Nat) := []
  linkWaits : List LinkWait := []
  losses : List (Nat × Nat) := []
  epochTo : Option Nat := none
  restarting : Bool := false
  reformed : Bool := true
  stepBase : Nat := 0
  released : Nat := 0
  siteWaits : List SiteWait := []
deriving DecidableEq, Repr

/-- What REWIND restores of a session: the context before the commit and its exit-map bytes (16 R743). -/
structure CtxSave where
  ctx : Nat
  old : Context
  exitAddr : Nat
  exitBytes : List Byte
deriving DecidableEq, Repr

/-- A committed step as REWIND needs it (16 R743). -/
structure StepSave where
  n : Nat
  record : StepRec
  ctxs : List CtxSave
deriving DecidableEq, Repr

/-- A damaged image region that waits for its reload; one that `failed` is tried again before the next replay (09 R467, R469). -/
structure Reload where
  addr : Nat
  due : Option Nat
  failed : Bool := false
deriving DecidableEq, Repr

/-- Quarantine counts of the HBM stacks in the current window (09 R472). -/
structure QuarCount where
  stackUe : SMap Nat := []
  lateRuns : SMap Nat := []
deriving DecidableEq, Repr

/-- A write in the persistent store's queue (14 R658). -/
structure StoreWrite where
  reg : Nat
  val : Word
  host : Bool
deriving DecidableEq, Repr

end Sys2Proof.Machine
end

