-- ==== Sys2Proof/Machine/FalboTypes.lean ====
section
/-!
DEFINITION. State of the Falbo die beside its SNS, RBK, FCL, DEC, WIR and PG registers: frames, the classifier, the
wideband chains, the Weirs and the pulse generators (10, 11, 12).
-/
namespace Sys2Proof.Machine

/-- The cold-reset RBK.SEC value of feature f = 32 p + s (10 R494, R496). -/
def secCold (f : Nat) : Nat := 16 * (f % 32) + 8 + 512

/-- Frames and Reedbanks (10 R479 to R497): `last` is the tick of the last boundary, `done` what a feature of the frame that
ended there is formed from. -/
structure FrameInfo where
  number : Nat := 0
  len : Nat := 3
  irregular : Bool := false
  firstOfLen : Bool := false
  ctl : SMap Nat := []
  secs : SMap Nat := []
  settle : SMap Nat := []
deriving DecidableEq, Repr

/-- Frames: `now` holds what is in force for the frame in progress, `done` the frame under conversion; `conv` counts, port by port, the
held integrators converted and reset since the boundary (10 R481, R489, R493). -/
structure Frames where
  last : Option Nat := none
  lenAt : Nat := 0
  now : FrameInfo := {}
  done : FrameInfo := {}
  written : SMap Nat := []
  ctlWritten : Nat := 0
  sat : SMap Nat := []
  conv : SMap Nat := []
deriving DecidableEq, Repr

/-- The classifier's settings in force (10 R507). -/
structure FclCfg where
  ema : Nat := 4
  t : Nat := 8
  nr : Nat := 64
  shift : Nat := 0
deriving DecidableEq, Repr

/-- The frame classifier (10 R498 to R512). -/
structure Classifier where
  weights : Mem := []
  avg : SMap Nat := []
  a1 : SMap Nat := []
  refs : SMap Nat := []
  running : Bool := false
  stopping : Bool := false
  first : Bool := false
  waiting : Bool := false
  dropping : Bool := false
  cfgNow : FclCfg := {}
  cfgDone : FclCfg := {}
deriving DecidableEq, Repr

/-- A sample of a stage of the wideband chain: its value, and whether it saturated or was produced during a fade (11 R525,
R538). -/
structure ChainVal where
  v : Int := 0
  sat : Bool := false
  fade : Bool := false
deriving DecidableEq, Repr

/-- A cross-fade: its length, outputs so far, and the index of its first output; before that output the swap is pending (11 R537, R538). -/
structure Fade where
  len : Nat
  j : Nat := 0
  start : Nat := 0
deriving DecidableEq, Repr

/-- A sample record: the tick at which its last sample leaves the chain, run, first index, samples, flags (11 R540, R541). -/
structure DecRec where
  at_ : Nat := 0
  run : Nat := 0
  k : Nat := 0
  samples : List Int := []
  sat : Bool := false
  settle : Bool := false
  fade : Bool := false
  last : Bool := false
deriving DecidableEq, Repr

/-- One wideband channel (11 R520 to R543): `n` counts converter samples and `m` CIC outputs of the run, `pos` and `res` are
the resampler's position, `k` counts its outputs; `z` and `f` are the newest-first histories; `staged` marks the registers of the staged
set: bit 0 CFG, bit 1 RS_RATIO, bit 2 DELAY. -/
structure DecChan where
  running : Bool := false
  t0 : Nat := 0
  n : Nat := 0
  i : List Nat := []
  cprev : List Nat := []
  m : Nat := 0
  z : List ChainVal := []
  f : List ChainVal := []
  pos : Int := 0
  res : Nat := 0
  seen : Int := -1
  k : Nat := 0
  enAt : Option Nat := none
  ending : Bool := false
  staged : Nat := 0
  loaded : Bool := false
  firFade : Option Fade := none
  rsFade : Option Fade := none
  coefs : SMap Nat := []
  buf : DecRec := {}
  recs : List DecRec := []
  ovr : Bool := false
  gap : Option Nat := none
  dropping : Bool := false
deriving DecidableEq, Repr

/-- One Weir (12 R548 to R557): its configuration in force, the source level in units of 2^-16 of full scale, the raw output
and its samples at the last two D15 ticks; `staged` marks the registers of the staged set: bit 0 CFG, bit 1 THR. -/
structure Weir where
  cfg : Nat := 0
  thr : Nat := 0
  u : Nat := 0
  raw : Bool := false
  raw1 : Bool := false
  raw2 : Bool := false
  hist : Nat := 0x7FFF
  qual : Bool := true
  above : Bool := false
  below : Bool := false
  blankUntil : Option Nat := none
  staged : Nat := 0
  err : Bool := false
  outSeen : Bool := false
  inSeen : Bool := false
deriving DecidableEq, Repr

/-- A pulse program (12 R568). -/
structure PgProg where
  period : Nat := 4
  start : Nat := 0
  rep : Nat := 0
  edges : List (Nat × Bool) := []
deriving DecidableEq, Repr

/-- What a pulse-generator pin shows (12 R559, R562, R574). -/
inductive Pin where
  | low | high | off
deriving DecidableEq, Repr

/-- One pulse generator (12 R558 to R578): `wrote`, `ctlOld`, `maskOld` and `clearOld` keep what a boundary at the count of
a register write still sees (12 R565). -/
structure Pulse where
  armed : Bool := false
  tripped : Bool := false
  clear : Bool := false
  autoCount : Nat := 0
  autoStopped : Bool := false
  bsince : Nat := 0
  prog : PgProg := {}
  pend : Option (PgProg × Nat) := none
  seq : Nat := 0
  pin : Pin := .off
  report : Bool := false
  trippedAt : Nat := 0
  wrote : Option Nat := none
  ctlOld : Nat := 0
  maskOld : Nat := 0
  clearOld : Bool := false
deriving DecidableEq, Repr

/-- The Falbo die: `ticks` counts its own time, which a load of the global counter does not move. -/
structure Falbo where
  ticks : Nat := 0
  frames : Frames := {}
  fcl : Classifier := {}
  dec : SMap DecChan := []
  weirs : SMap Weir := []
  pulses : SMap Pulse := []
deriving DecidableEq, Repr

end Sys2Proof.Machine
end

