-- ==== Sys2Proof/Machine/RegTable.lean ====
section
/-!
DEFINITION. The register map: the pages of 17 R747 and, for each, one row per register array with its offset,
write masks, reset values and what a warm reset keeps, as the chapters' register tables give them (17 R750 to R760).
-/
namespace Sys2Proof.Machine

/-- One register array of a page: `n` registers `stride` apart from page offset `off`. -/
structure RegRow where
  off : Nat
  n : Nat
  stride : Nat
  rw : Nat
  w1c : Nat
  cold : Nat
  keep : Nat
  sat : Bool
deriving DecidableEq, Repr

/-- One row of the page map: the pages of one kind, with the block type, the defined EVTSTA bits, the number of
distinct instances of the type and the first page's instance (17 R747, R750). -/
structure PageRow where
  base : Nat
  pages : Nat
  type : Nat
  evt : Nat
  insts : Nat
  inst0 : Nat
  regs : List RegRow
deriving DecidableEq, Repr

namespace Reg

def pageGlb : Nat := 0x000000
def pageClk : Nat := 0x001000
def pageGct : Nat := 0x002000
def pagePst : Nat := 0x003000
def pageMgt : Nat := 0x004000
def pageDbg : Nat := 0x005000
def pageThm : Nat := 0x006000
def pageLdg : Nat := 0x007000
def pageHif : Nat := 0x010000
def pageEvq : Nat := 0x011000
def pageCmq : Nat := 0x020000
def pageSlu : Nat := 0x100000
def pageSlt : Nat := 0x101000
def pageDlm : Nat := 0x110000
def pageTil : Nat := 0x120000
def pageKvp : Nat := 0x130000
def pageSch : Nat := 0x140000
def pageNoc : Nat := 0x150000
def pageHbc : Nat := 0x160000
def pageAzl : Nat := 0x170000
def pageAzp : Nat := 0x171000
def pageAzr : Nat := 0x179000
def pageLsp : Nat := 0x180000
def pageClu : Nat := 0x200000
def pageSns : Nat := 0x400000
def pageRbk : Nat := 0x401000
def pageFcl : Nat := 0x411000
def pageDec : Nat := 0x412000
def pageWir : Nat := 0x416000
def pagePg : Nat := 0x41A000
def pageVfc : Nat := 0x2001000
def sluCtl : Nat := 0x100040
def sluAdmitCtl : Nat := 0x100044
def sluCount : Nat := 0x100048
def sluCount2 : Nat := 0x10004C
def sluStepLo : Nat := 0x100050
def sluStepHi : Nat := 0x100054
def sluLast : Nat := 0x100058
def sluDefer : Nat := 0x10005C
def sluDeferNeed : Nat := 0x100060
def sluImage : Nat := 0x100064
def sluVocab : Nat := 0x100068
def sluJoins : Nat := 0x10006C
def sluLeaves : Nat := 0x100070
def sluDeferrals : Nat := 0x100074
def sluBlocks : Nat := 0x100078
def dlmGap : Nat := 0x110040
def dlmDlDefault : Nat := 0x110044
def dlmFullD0 : Nat := 0x110048
def dlmFullSa : Nat := 0x11004C
def dlmFullFc : Nat := 0x110050
def dlmExitD0 : Nat := 0x110054
def dlmExitSa : Nat := 0x110058
def dlmExitFc : Nat := 0x11005C
def dlmExitKernel : Nat := 0x110060
def dlmPlanFull : Nat := 0x110064
def dlmPlanExit : Nat := 0x110068
def dlmPxMax : Nat := 0x11006C
def dlmLast : Nat := 0x110070
def dlmFallbacks : Nat := 0x110074
def dlmExitSteps : Nat := 0x110078
def tilCount : Nat := 0x120040
def tilSf : Nat := 0x120044
def tilLimits : Nat := 0x120048
def tilTableLo : Nat := 0x12004C
def tilTableHi : Nat := 0x120050
def tilPartialLo : Nat := 0x120054
def tilPartialHi : Nat := 0x120058
def kvpPages : Nat := 0x130040
def kvpFree : Nat := 0x130044
def kvpFloor : Nat := 0x130048
def kvpLowWater : Nat := 0x13004C
def kvpCtxMax : Nat := 0x130050
def kvpStride : Nat := 0x130054
def kvpBaseLo : Nat := 0x130058
def kvpBaseHi : Nat := 0x13005C
def kvpListLo : Nat := 0x130088
def kvpListHi : Nat := 0x13008C
def kvpExitmapLo : Nat := 0x130090
def kvpExitmapHi : Nat := 0x130094
def kvpMapLo : Nat := 0x130098
def kvpMapHi : Nat := 0x13009C
def schStatus : Nat := 0x140040
def schSchedCyc : Nat := 0x140044
def schPlanDur : Nat := 0x140048
def schLaunchLo : Nat := 0x14004C
def schLaunchHi : Nat := 0x140050
def schFrozen : Nat := 0x140054
def schStop : Nat := 0x140058
def schStopCyc : Nat := 0x14005C
def schImage : Nat := 0x140060
def nocColl : Nat := 0x150040
def nocCollCyc : Nat := 0x150044
def nocUnits : Nat := 0x150048
def hbcRef : Nat := 0x160040
def hbcLat : Nat := 0x160044
def hbcLate : Nat := 0x160048
def hbcLateCyc : Nat := 0x16004C
def hbcUnits : Nat := 0x160050
def azlCtl : Nat := 0x170040
def azlGroupId : Nat := 0x170044
def azlMember : Nat := 0x170048
def azlEthertype : Nat := 0x17004C
def azlState : Nat := 0x170050
def azlCommitLo : Nat := 0x170054
def azlCommitHi : Nat := 0x170058
def azlReleasedLo : Nat := 0x17005C
def azlRejoinWait : Nat := 0x170060
def azlReplayMax : Nat := 0x170064
def azlHoldLead : Nat := 0x170068
def azlHoldPad : Nat := 0x17006C
def azlHolds : Nat := 0x170070
def azlEpoch : Nat := 0x170074
def azlSwitchLo : Nat := 0x170078
def azlSwitchHi : Nat := 0x17007C
def azlLost : Nat := 0x170080
def azlSyncTol : Nat := 0x170084
def azlCtrl : Nat := 0x170088
def azlSites : Nat := 0x17008C
def azlSitesValid : Nat := 0x170090
def portCtl : Nat := 0x171040
def portStatus : Nat := 0x171044
def portDelay : Nat := 0x171048
def portOffset : Nat := 0x17104C
def portHopMax : Nat := 0x171050
def portSlack : Nat := 0x171054
def portRetries : Nat := 0x171058
def portRetryHolds : Nat := 0x17105C
def portFecCorr : Nat := 0x171060
def portFecUncorr : Nat := 0x171064
def portFcsErr : Nat := 0x171068
def portDiscard : Nat := 0x17106C
def portTxFrames : Nat := 0x171070
def portRxFrames : Nat := 0x171074
def portStationLo : Nat := 0x171078
def portStationHi : Nat := 0x17107C
def redStatus : Nat := 0x179040
def redLate : Nat := 0x179044
def redUnitsIn : Nat := 0x179048
def redUnitsOut : Nat := 0x17904C
def redLateCyc : Nat := 0x179050
def lspCtl : Nat := 0x180040
def lspStatus : Nat := 0x180044
def lspDrift : Nat := 0x180048
def lspBound : Nat := 0x18004C
def lspSeq : Nat := 0x180050
def lspExecSum : Nat := 0x180054
def lspSamples : Nat := 0x180058
def lspConfine : Nat := 0x18005C
def lspTotal : Nat := 0x180060
def lspFail : Nat := 0x180064
def dbgLsCtl : Nat := 0x005040
def dbgLsLag : Nat := 0x005044
def dbgLsStatus : Nat := 0x005048
def dbgLsSeq : Nat := 0x00504C
def dbgLsHaltLo : Nat := 0x005050
def dbgLsHaltHi : Nat := 0x005054
def dbgStepDigLo : Nat := 0x005058
def dbgStepDigHi : Nat := 0x00505C
def dbgTwinDigLo : Nat := 0x005060
def dbgTwinDigHi : Nat := 0x005064
def dbgDigCtl : Nat := 0x005068
def dbgKdigSel : Nat := 0x00506C
def dbgCdigSel : Nat := 0x005070
def dbgKdigLo : Nat := 0x005074
def dbgKdigHi : Nat := 0x005078
def dbgCdigLo : Nat := 0x00507C
def dbgCdigHi : Nat := 0x005080
def dbgRkDigLo : Nat := 0x005084
def dbgRkDigHi : Nat := 0x005088
def dbgVarAdmit : Nat := 0x00508C
def dbgVarRoute : Nat := 0x005090
def ldgCur : Nat := 0x007040
def ldgLastStep : Nat := 0x007060
def ldgLastRk : Nat := 0x007080
def ldgPolicy : Nat := 0x0070A0
def ldgQuarWindow : Nat := 0x0070A4
def ldgLimits : Nat := 0x0070A8
def ldgCeLimit : Nat := 0x0070AC
def ldgQuarantine : Nat := 0x0070B0
def ldgRollbacks : Nat := 0x0070B4
def ldgAbandons : Nat := 0x0070B8
def ldgReloads : Nat := 0x0070BC
def ldgQuarantines : Nat := 0x0070C0
def ldgFault : Nat := 0x0070C4
def hifCtl : Nat := 0x010040
def hifStatus : Nat := 0x010044
def hifBar2Ctl : Nat := 0x010048
def hifBar2BaseLo : Nat := 0x01004C
def hifBar2BaseHi : Nat := 0x010050
def hifBar2Denied : Nat := 0x010054
def hifHeld : Nat := 0x010058
def hifRingOwner : Nat := 0x010060
def hifEvqOwner : Nat := 0x0100A0
def hifRoute : Nat := 0x0100C0
def hifMsixAddrLo : Nat := 0x010800
def hifMsixAddrHi : Nat := 0x010804
def hifMsixData : Nat := 0x010808
def hifMsixCtrl : Nat := 0x01080C
def hifMsixPba : Nat := 0x010C00
def evqCtl : Nat := 0x011040
def evqBaseLo : Nat := 0x011044
def evqBaseHi : Nat := 0x011048
def evqSize : Nat := 0x01104C
def evqTail : Nat := 0x011050
def evqHead : Nat := 0x011054
def evqIrq : Nat := 0x011058
def evqLost : Nat := 0x01105C
def evqStatus : Nat := 0x011060
def cmqDoorbell : Nat := 0x020040
def cmqCtl : Nat := 0x020044
def cmqBaseLo : Nat := 0x020048
def cmqBaseHi : Nat := 0x02004C
def cmqSize : Nat := 0x020050
def cmqHead : Nat := 0x020054
def cmqStatus : Nat := 0x020058
def cmqOutstanding : Nat := 0x02005C
def cmqCompleted : Nat := 0x020060
def glbIdcode : Nat := 0x000084
def glbScratch : Nat := 0x000088
def glbUnmapped : Nat := 0x000098
def glbUnmappedAddr : Nat := 0x00009C
def glbServiceLevel : Nat := 0x000040
def glbLevel : Nat := 0x000048
def glbReset : Nat := 0x000070
def glbResetCause : Nat := 0x000074
def glbBoot : Nat := 0x000078
def glbPost : Nat := 0x00007C
def glbIdent : Nat := 0x000080
def dbgLock : Nat := 0x005100
def dbgUnlockCmd : Nat := 0x005104
def dbgNonce : Nat := 0x005140
def dbgResponse : Nat := 0x005180
def dbgHaltCtl : Nat := 0x005240
def dbgHaltAtLo : Nat := 0x005244
def dbgHaltAtHi : Nat := 0x005248
def dbgResumeAtLo : Nat := 0x00524C
def dbgResumeAtHi : Nat := 0x005250
def dbgHaltStatus : Nat := 0x005254
def dbgHaltCountLo : Nat := 0x005258
def dbgHaltCountHi : Nat := 0x00525C
def dbgHaltPc : Nat := 0x005260
def dbgHaltAddr : Nat := 0x005264
def dbgStep : Nat := 0x005268
def dbgStepN : Nat := 0x00526C
def dbgBkpt : Nat := 0x005270
def dbgWpCtl : Nat := 0x005280
def dbgWpLo : Nat := 0x005284
def dbgWpHi : Nat := 0x005288
def dbgAccCmd : Nat := 0x0052C0
def dbgAccSel : Nat := 0x0052C4
def dbgAddrLo : Nat := 0x0052C8
def dbgAddrHi : Nat := 0x0052CC
def dbgAccStatus : Nat := 0x0052D0
def dbgAccData : Nat := 0x0052E0
def dbgDivCtl : Nat := 0x0052F0
def dbgDivStatus : Nat := 0x0052F4
def dbgCapture : Nat := 0x005400
def clkStatus : Nat := 0x001040
def clkSteer : Nat := 0x001044
def clkLeanWin : Nat := 0x001048
def clkVmtxLate : Nat := 0x00104C
def clkSense : Nat := 0x001050
def clkRefLosses : Nat := 0x001054
def gctCountLo : Nat := 0x002040
def gctCountHi : Nat := 0x002044
def gctCtl : Nat := 0x002048
def gctPtpDomain : Nat := 0x00204C
def gctPtpRole : Nat := 0x002050
def gctOffset : Nat := 0x002054
def gctStatus : Nat := 0x002058
def gctLockThr : Nat := 0x00205C
def gctLoadThr : Nat := 0x002060
def gctPpsSecLo : Nat := 0x002064
def gctPpsSecHi : Nat := 0x002068
def gctLoads : Nat := 0x00206C
def gctPpsReject : Nat := 0x002070
def gctLastLoadLo : Nat := 0x002074
def gctLastLoadHi : Nat := 0x002078
def thmCtl : Nat := 0x006040
def thmHoldT : Nat := 0x006044
def thmHbmHoldT : Nat := 0x006048
def thmPeriod : Nat := 0x00604C
def thmStep : Nat := 0x006050
def thmMaxLen : Nat := 0x006054
def thmLen : Nat := 0x006058
def thmHottest : Nat := 0x00605C
def thmHolds : Nat := 0x006060
def thmHeldLo : Nat := 0x006064
def thmHeldHi : Nat := 0x006068
def thmTemp : Nat := 0x006080
def pstStatus : Nat := 0x003040
def pstLastFail : Nat := 0x003044
def pstDiscarded : Nat := 0x003048
def pstWrites : Nat := 0x00304C
def pstReg : Nat := 0x003400
def pstWear : Nat := 0x003800
def mgtMboxCmd : Nat := 0x004040
def mgtMboxStatus : Nat := 0x004044
def mgtArg0 : Nat := 0x004048
def mgtArg1 : Nat := 0x00404C
def mgtStatus : Nat := 0x004050
def mgtData : Nat := 0x004800
def vfcCtl : Nat := 0x2001040
def vfcStatus : Nat := 0x2001044
def vfcHeld : Nat := 0x2001058
def vfcMsixAddrLo : Nat := 0x2001800
def vfcMsixAddrHi : Nat := 0x2001804
def vfcMsixData : Nat := 0x2001808
def vfcMsixCtrl : Nat := 0x200180C
def vfcMsixPba : Nat := 0x2001C00
def snsFrame : Nat := 0x400040
def snsFrameLo : Nat := 0x400044
def snsFrameHi : Nat := 0x400048
def snsStatus : Nat := 0x40004C
def rbkCtl : Nat := 0x401040
def rbkSat : Nat := 0x401044
def rbkSettle : Nat := 0x401048
def rbkSec : Nat := 0x401080
def rbkFeat : Nat := 0x401100
def fclCtl : Nat := 0x411040
def fclStatus : Nat := 0x411044
def fclDeltaT : Nat := 0x411048
def fclRefresh : Nat := 0x41104C
def fclShift : Nat := 0x411050
def fclWaddr : Nat := 0x411054
def fclWdata : Nat := 0x411058
def fclResult : Nat := 0x41105C
def fclRframe : Nat := 0x411060
def fclScore : Nat := 0x411080
def fclRingLo : Nat := 0x4110C0
def fclRingHi : Nat := 0x4110C4
def fclRingSize : Nat := 0x4110C8
def fclRingTail : Nat := 0x4110CC
def fclRingHead : Nat := 0x4110D0
def fclDropped : Nat := 0x4110D4
def fclWakeMask : Nat := 0x4110D8
def fclWakeScore : Nat := 0x4110DC
def fclResults : Nat := 0x4110E0
def decCtl : Nat := 0x412040
def decCfg : Nat := 0x412044
def decRatio : Nat := 0x412048
def decDelay : Nat := 0x41204C
def decActCfg : Nat := 0x412050
def decActRatio : Nat := 0x412054
def decActDelay : Nat := 0x412058
def decStatus : Nat := 0x41205C
def decRun : Nat := 0x412060
def decT0 : Nat := 0x412064
def decXfade : Nat := 0x41206C
def decCaddr : Nat := 0x412070
def decCdata : Nat := 0x412074
def decRingLo : Nat := 0x412080
def decRingHi : Nat := 0x412084
def decRingSize : Nat := 0x412088
def decRingTail : Nat := 0x41208C
def decRingHead : Nat := 0x412090
def decDropped : Nat := 0x412094
def decOvr : Nat := 0x412098
def decSatCnt : Nat := 0x41209C
def decSamples : Nat := 0x4120A0
def decFirA : Nat := 0x412100
def decFirB : Nat := 0x412180
def wirSummary : Nat := 0x416040
def wirCfg : Nat := 0x416080
def wirThr : Nat := 0x416084
def wirState : Nat := 0x416088
def wirTrans : Nat := 0x41608C
def wirLastLo : Nat := 0x416090
def wirLastHi : Nat := 0x416094
def wirLastInLo : Nat := 0x416098
def wirLastInHi : Nat := 0x41609C
def pgCtl : Nat := 0x41A040
def pgTripMask : Nat := 0x41A044
def pgStatus : Nat := 0x41A048
def pgCmd : Nat := 0x41A04C
def pgPeriod : Nat := 0x41A050
def pgStartLo : Nat := 0x41A054
def pgStartHi : Nat := 0x41A058
def pgRepeat : Nat := 0x41A05C
def pgShape : Nat := 0x41A060
def pgApplyLo : Nat := 0x41A064
def pgApplyHi : Nat := 0x41A068
def pgEdge0 : Nat := 0x41A070
def pgEdge1 : Nat := 0x41A074
def pgEdge2 : Nat := 0x41A078
def pgEdge3 : Nat := 0x41A07C
def pgEdge4 : Nat := 0x41A080
def pgEdge5 : Nat := 0x41A084
def pgEdge6 : Nat := 0x41A088
def pgEdge7 : Nat := 0x41A08C
def pgTripAtLo : Nat := 0x41A090
def pgTripAtHi : Nat := 0x41A094
def pgTripIn : Nat := 0x41A098
def pgTripCause : Nat := 0x41A09C
def pgTrips : Nat := 0x41A0A0

end Reg

/-- Registers of the GLB pages. -/
def regsGLB : List RegRow :=
  [⟨0x084, 1, 4, 0x0, 0x0, 0x4800A6F, 0x0, false⟩,
   ⟨0x088, 4, 4, 0xFFFFFFFF, 0x0, 0x0, 0xFFFFFFFF, false⟩,
   ⟨0x098, 1, 4, 0x0, 0x0, 0x0, 0xFFFFFFFF, true⟩,
   ⟨0x09C, 1, 4, 0x0, 0x0, 0x0, 0xFFFFFFFF, false⟩,
   ⟨0x040, 1, 4, 0x0, 0x0, 0x0, 0x707, false⟩,
   ⟨0x048, 10, 4, 0x0, 0x0, 0x0, 0xFFFFFFFF, false⟩,
   ⟨0x070, 1, 4, 0x0, 0x0, 0x0, 0x0, false⟩,
   ⟨0x074, 1, 4, 0x0, 0x0, 0x0, 0x0, false⟩,
   ⟨0x078, 1, 4, 0x0, 0x0, 0x0, 0xFFFFFFFF, false⟩,
   ⟨0x07C, 1, 4, 0x0, 0x0, 0x0, 0xFFFFFFFF, false⟩,
   ⟨0x080, 1, 4, 0x0, 0x0, 0x8000, 0xFFFFFFFF, false⟩]

/-- Registers of the CLK pages. -/
def regsCLK : List RegRow :=
  [⟨0x040, 1, 4, 0x0, 0x0, 0x0, 0xFFFFFFFF, false⟩,
   ⟨0x044, 1, 4, 0x0, 0x0, 0x0, 0xFFFFFFFF, false⟩,
   ⟨0x048, 1, 4, 0x0, 0x0, 0x1E848, 0x0, false⟩,
   ⟨0x04C, 1, 4, 0x0, 0x0, 0x0, 0xFFFFFFFF, true⟩,
   ⟨0x050, 1, 4, 0x0, 0x0, 0x0, 0xFFFFFFFF, false⟩,
   ⟨0x054, 1, 4, 0x0, 0x0, 0x0, 0xFFFFFFFF, true⟩]

/-- Registers of the GCT pages. -/
def regsGCT : List RegRow :=
  [⟨0x040, 1, 4, 0x0, 0x0, 0x0, 0xFFFFFFFF, false⟩,
   ⟨0x044, 1, 4, 0x0, 0x0, 0x0, 0xFFFFFFFF, false⟩,
   ⟨0x048, 1, 4, 0xF, 0x0, 0x4, 0xFFFFFFFF, false⟩,
   ⟨0x04C, 1, 4, 0xFF, 0x0, 0x0, 0xFFFFFFFF, false⟩,
   ⟨0x050, 1, 4, 0xFFFF, 0x0, 0x0, 0xFFFFFFFF, false⟩,
   ⟨0x054, 1, 4, 0x0, 0x0, 0x0, 0xFFFFFFFF, false⟩,
   ⟨0x058, 1, 4, 0x0, 0x0, 0x0, 0xFFFFFFFF, false⟩,
   ⟨0x05C, 1, 4, 0xFFFF, 0x0, 0x8, 0xFFFFFFFF, false⟩,
   ⟨0x060, 1, 4, 0xFFFFFFFF, 0x0, 0x30D4, 0xFFFFFFFF, false⟩,
   ⟨0x064, 1, 4, 0xFFFFFFFF, 0x0, 0x0, 0xFFFFFFFF, false⟩,
   ⟨0x068, 1, 4, 0xFFFFFFFF, 0x0, 0x0, 0xFFFFFFFF, false⟩,
   ⟨0x06C, 1, 4, 0x0, 0x0, 0x0, 0xFFFFFFFF, true⟩,
   ⟨0x070, 1, 4, 0x0, 0x0, 0x0, 0xFFFFFFFF, true⟩,
   ⟨0x074, 1, 4, 0x0, 0x0, 0x0, 0xFFFFFFFF, false⟩,
   ⟨0x078, 1, 4, 0x0, 0x0, 0x0, 0xFFFFFFFF, false⟩]

/-- Registers of the PST pages. -/
def regsPST : List RegRow :=
  [⟨0x040, 1, 4, 0x0, 0x20, 0x0, 0xFFFFFFFF, false⟩,
   ⟨0x044, 1, 4, 0x0, 0x0, 0x0, 0xFFFFFFFF, false⟩,
   ⟨0x048, 1, 4, 0x0, 0x0, 0x0, 0xFFFFFFFF, true⟩,
   ⟨0x04C, 1, 4, 0x0, 0x0, 0x0, 0xFFFFFFFF, true⟩,
   ⟨0x400, 256, 4, 0x0, 0x0, 0x0, 0xFFFFFFFF, false⟩,
   ⟨0x800, 256, 4, 0x0, 0x0, 0x0, 0xFFFFFFFF, false⟩]

/-- Registers of the MGT pages. -/
def regsMGT : List RegRow :=
  [⟨0x040, 1, 4, 0xFFFF, 0x0, 0x0, 0xFFFFFFFF, false⟩,
   ⟨0x044, 1, 4, 0x0, 0x0, 0x0, 0xFFFFFFFF, false⟩,
   ⟨0x048, 1, 4, 0xFFFFFFFF, 0x0, 0x0, 0xFFFFFFFF, false⟩,
   ⟨0x04C, 1, 4, 0xFFFFFFFF, 0x0, 0x0, 0xFFFFFFFF, false⟩,
   ⟨0x050, 1, 4, 0x0, 0x0, 0x0, 0xFFFFFFFF, false⟩,
   ⟨0x800, 512, 4, 0xFFFFFFFF, 0x0, 0x0, 0xFFFFFFFF, false⟩]

/-- Registers of the DBG pages. -/
def regsDBG0 : List RegRow :=
  [⟨0x040, 1, 4, 0xF, 0x0, 0x0, 0x0, false⟩,
   ⟨0x044, 1, 4, 0xFFFFFFFF, 0x0, 0x30D4, 0xFFFFFFFF, false⟩,
   ⟨0x048, 1, 4, 0x0, 0x0, 0x0, 0x0, false⟩,
   ⟨0x04C, 1, 4, 0x0, 0x0, 0x0, 0x0, false⟩,
   ⟨0x050, 1, 4, 0x0, 0x0, 0x0, 0x0, false⟩,
   ⟨0x054, 1, 4, 0x0, 0x0, 0x0, 0x0, false⟩,
   ⟨0x058, 1, 4, 0x0, 0x0, 0x0, 0x0, false⟩,
   ⟨0x05C, 1, 4, 0x0, 0x0, 0x0, 0x0, false⟩,
   ⟨0x060, 1, 4, 0x0, 0x0, 0x0, 0x0, false⟩,
   ⟨0x064, 1, 4, 0x0, 0x0, 0x0, 0x0, false⟩,
   ⟨0x068, 1, 4, 0x1, 0x0, 0x0, 0x0, false⟩,
   ⟨0x06C, 1, 4, 0xFFF, 0x0, 0x0, 0x0, false⟩,
   ⟨0x070, 1, 4, 0xFF, 0x0, 0x0, 0x0, false⟩,
   ⟨0x074, 1, 4, 0x0, 0x0, 0x0, 0x0, false⟩,
   ⟨0x078, 1, 4, 0x0, 0x0, 0x0, 0x0, false⟩,
   ⟨0x07C, 1, 4, 0x0, 0x0, 0x0, 0x0, false⟩,
   ⟨0x080, 1, 4, 0x0, 0x0, 0x0, 0x0, false⟩,
   ⟨0x084, 1, 4, 0x0, 0x0, 0x0, 0x0, false⟩,
   ⟨0x088, 1, 4, 0x0, 0x0, 0x0, 0x0, false⟩,
   ⟨0x08C, 1, 4, 0x0, 0x0, 0x0, 0xFFFFFFFF, true⟩,
   ⟨0x090, 1, 4, 0x0, 0x0, 0x0, 0xFFFFFFFF, true⟩,
   ⟨0x100, 1, 4, 0x0, 0x0, 0x0, 0xFFFFFFFF, false⟩,
   ⟨0x104, 1, 4, 0x0, 0x0, 0x0, 0x0, false⟩,
   ⟨0x140, 12, 4, 0x0, 0x0, 0x0, 0xFFFFFFFF, false⟩]

/-- Registers of the DBG pages. -/
def regsDBG1 : List RegRow :=
  [⟨0x180, 48, 4, 0xFFFFFFFF, 0x0, 0x0, 0xFFFFFFFF, false⟩,
   ⟨0x240, 1, 4, 0xC, 0x0, 0x0, 0x0, false⟩,
   ⟨0x244, 1, 4, 0xFFFFFFFF, 0x0, 0x0, 0xFFFFFFFF, false⟩,
   ⟨0x248, 1, 4, 0xFFFFFFFF, 0x0, 0x0, 0xFFFFFFFF, false⟩,
   ⟨0x24C, 1, 4, 0xFFFFFFFF, 0x0, 0x0, 0xFFFFFFFF, false⟩,
   ⟨0x250, 1, 4, 0xFFFFFFFF, 0x0, 0x0, 0xFFFFFFFF, false⟩,
   ⟨0x254, 1, 4, 0x0, 0x0, 0x0, 0x0, false⟩,
   ⟨0x258, 1, 4, 0x0, 0x0, 0x0, 0x0, false⟩,
   ⟨0x25C, 1, 4, 0x0, 0x0, 0x0, 0x0, false⟩,
   ⟨0x260, 1, 4, 0x0, 0x0, 0x0, 0x0, false⟩,
   ⟨0x264, 1, 4, 0x0, 0x0, 0x0, 0x0, false⟩,
   ⟨0x268, 1, 4, 0x7FF03, 0x0, 0x0, 0x7FF03, false⟩,
   ⟨0x26C, 1, 4, 0xFFFFFFFF, 0x0, 0x0, 0xFFFFFFFF, false⟩,
   ⟨0x270, 4, 4, 0x3FFFFFF, 0x0, 0x0, 0x0, false⟩,
   ⟨0x280, 4, 16, 0x3FF03, 0x0, 0x0, 0x0, false⟩,
   ⟨0x284, 4, 16, 0xFFFFF, 0x0, 0x0, 0x0, false⟩,
   ⟨0x288, 4, 16, 0xFFFFF, 0x0, 0x0, 0x0, false⟩,
   ⟨0x2C0, 1, 4, 0x7E, 0x0, 0x0, 0x7E, false⟩,
   ⟨0x2C4, 1, 4, 0xFFFF, 0x0, 0x0, 0xFFFF, false⟩,
   ⟨0x2C8, 1, 4, 0xFFFFFFFF, 0x0, 0x0, 0xFFFFFFFF, false⟩,
   ⟨0x2CC, 1, 4, 0x3F, 0x0, 0x0, 0x3F, false⟩,
   ⟨0x2D0, 1, 4, 0x0, 0x0, 0x0, 0x0, false⟩,
   ⟨0x2E0, 4, 4, 0xFFFFFFFF, 0x0, 0x0, 0xFFFFFFFF, false⟩,
   ⟨0x2F0, 1, 4, 0x3FFF, 0x0, 0x0, 0xFFF, false⟩]

/-- Registers of the DBG pages. -/
def regsDBG2 : List RegRow :=
  [⟨0x2F4, 1, 4, 0x0, 0x0, 0x0, 0x0, false⟩,
   ⟨0x400, 256, 4, 0x0, 0x0, 0x0, 0x0, false⟩]

/-- Registers of the THM pages. -/
def regsTHM : List RegRow :=
  [⟨0x040, 1, 4, 0x1, 0x0, 0x1, 0xFFFFFFFF, false⟩,
   ⟨0x044, 1, 4, 0xFFFFFFFF, 0x0, 0x300640, 0xFFFFFFFF, false⟩,
   ⟨0x048, 1, 4, 0xFFFF, 0x0, 0x5A0, 0xFFFFFFFF, false⟩,
   ⟨0x04C, 1, 4, 0xFFFFFFFF, 0x0, 0x1312D0, 0xFFFFFFFF, false⟩,
   ⟨0x050, 1, 4, 0xFFFFFFFF, 0x0, 0xF424, 0xFFFFFFFF, false⟩,
   ⟨0x054, 1, 4, 0xFFFFFFFF, 0x0, 0x98968, 0xFFFFFFFF, false⟩,
   ⟨0x058, 1, 4, 0x0, 0x0, 0x0, 0xFFFFFFFF, false⟩,
   ⟨0x05C, 1, 4, 0x0, 0x0, 0x0, 0xFFFFFFFF, false⟩,
   ⟨0x060, 1, 4, 0x0, 0x0, 0x0, 0xFFFFFFFF, true⟩,
   ⟨0x064, 1, 4, 0x0, 0x0, 0x0, 0xFFFFFFFF, false⟩,
   ⟨0x068, 1, 4, 0x0, 0x0, 0x0, 0xFFFFFFFF, false⟩,
   ⟨0x080, 23, 4, 0x0, 0x0, 0x0, 0xFFFFFFFF, false⟩]

/-- Registers of the LDG pages. -/
def regsLDG : List RegRow :=
  [⟨0x040, 8, 4, 0x0, 0x0, 0x0, 0x0, false⟩,
   ⟨0x060, 8, 4, 0x0, 0x0, 0x0, 0x0, false⟩,
   ⟨0x080, 8, 4, 0x0, 0x0, 0x0, 0x0, false⟩,
   ⟨0x0A0, 1, 4, 0x3, 0x0, 0x0, 0xFFFFFFFF, false⟩,
   ⟨0x0A4, 1, 4, 0xFFFFFFFF, 0x0, 0x418, 0xFFFFFFFF, false⟩,
   ⟨0x0A8, 1, 4, 0xFFFF, 0x0, 0x402, 0xFFFFFFFF, false⟩,
   ⟨0x0AC, 1, 4, 0xFFFFFFFF, 0x0, 0x1000, 0xFFFFFFFF, false⟩,
   ⟨0x0B0, 1, 4, 0x0, 0x0, 0x0, 0x0, false⟩,
   ⟨0x0B4, 1, 4, 0x0, 0x0, 0x0, 0xFFFFFFFF, true⟩,
   ⟨0x0B8, 1, 4, 0x0, 0x0, 0x0, 0xFFFFFFFF, true⟩,
   ⟨0x0BC, 1, 4, 0x0, 0x0, 0x0, 0xFFFFFFFF, true⟩,
   ⟨0x0C0, 1, 4, 0x0, 0x0, 0x0, 0xFFFFFFFF, true⟩,
   ⟨0x0C4, 1, 4, 0x0, 0x0, 0x0, 0x0, false⟩]

/-- Registers of the HIF pages. -/
def regsHIF : List RegRow :=
  [⟨0x040, 1, 4, 0x0, 0x0, 0x0, 0x0, false⟩,
   ⟨0x044, 1, 4, 0x0, 0x0, 0x400, 0xFFFFFFFF, false⟩,
   ⟨0x048, 1, 4, 0x1, 0x0, 0x0, 0xFFFFFFFF, false⟩,
   ⟨0x04C, 1, 4, 0xF0000000, 0x0, 0x0, 0xFFFFFFFF, false⟩,
   ⟨0x050, 1, 4, 0x3F, 0x0, 0x0, 0xFFFFFFFF, false⟩,
   ⟨0x054, 1, 4, 0x0, 0x0, 0x0, 0xFFFFFFFF, true⟩,
   ⟨0x058, 1, 4, 0x0, 0x0, 0x0, 0xFFFFFFFF, false⟩,
   ⟨0x060, 16, 4, 0xFFFFFFFF, 0x0, 0x0, 0xFFFFFFFF, false⟩,
   ⟨0x0A0, 1, 4, 0xFFFFFFFF, 0x0, 0x0, 0xFFFFFFFF, false⟩,
   ⟨0x0C0, 16, 4, 0xFFFFFFFF, 0x0, 0x0, 0xFFFFFFFF, false⟩,
   ⟨0x800, 16, 16, 0xFFFFFFFC, 0x0, 0x0, 0xFFFFFFFF, false⟩,
   ⟨0x804, 16, 16, 0xFFFFFFFF, 0x0, 0x0, 0xFFFFFFFF, false⟩,
   ⟨0x808, 16, 16, 0xFFFFFFFF, 0x0, 0x0, 0xFFFFFFFF, false⟩,
   ⟨0x80C, 16, 16, 0x1, 0x0, 0x1, 0xFFFFFFFF, false⟩,
   ⟨0xC00, 2, 4, 0x0, 0x0, 0x0, 0xFFFFFFFF, false⟩]

/-- Registers of the EVQ pages. -/
def regsEVQ : List RegRow :=
  [⟨0x040, 1, 4, 0x1, 0x0, 0x0, 0xFFFFFFFF, false⟩,
   ⟨0x044, 1, 4, 0xFFFFFFE0, 0x0, 0x0, 0xFFFFFFFF, false⟩,
   ⟨0x048, 1, 4, 0xFFFFFFFF, 0x0, 0x0, 0xFFFFFFFF, false⟩,
   ⟨0x04C, 1, 4, 0x1FFFF, 0x0, 0x0, 0xFFFFFFFF, false⟩,
   ⟨0x050, 1, 4, 0x0, 0x0, 0x0, 0xFFFFFFFF, false⟩,
   ⟨0x054, 1, 4, 0xFFFFFFFF, 0x0, 0x0, 0xFFFFFFFF, false⟩,
   ⟨0x058, 1, 4, 0xFFFFFF1F, 0x0, 0x0, 0xFFFFFFFF, false⟩,
   ⟨0x05C, 1, 4, 0x0, 0x0, 0x0, 0xFFFFFFFF, true⟩,
   ⟨0x060, 1, 4, 0x0, 0x0, 0x0, 0xFFFFFFFF, false⟩]

/-- Registers of the CMQ pages. -/
def regsCMQ : List RegRow :=
  [⟨0x040, 1, 4, 0xFFFFFFFF, 0x0, 0x0, 0xFFFFFFFF, false⟩,
   ⟨0x044, 1, 4, 0xF, 0x0, 0x0, 0xFFFFFFFF, false⟩,
   ⟨0x048, 1, 4, 0xFFFFFFC0, 0x0, 0x0, 0xFFFFFFFF, false⟩,
   ⟨0x04C, 1, 4, 0xFFFFFFFF, 0x0, 0x0, 0xFFFFFFFF, false⟩,
   ⟨0x050, 1, 4, 0x1FFFF, 0x0, 0x0, 0xFFFFFFFF, false⟩,
   ⟨0x054, 1, 4, 0x0, 0x0, 0x0, 0xFFFFFFFF, false⟩,
   ⟨0x058, 1, 4, 0x0, 0x0, 0x0, 0xFFFFFFFF, false⟩,
   ⟨0x05C, 1, 4, 0x0, 0x0, 0x0, 0xFFFFFFFF, false⟩,
   ⟨0x060, 1, 4, 0x0, 0x0, 0x0, 0xFFFFFFFF, true⟩]

/-- Registers of the SLU pages. -/
def regsSLU : List RegRow :=
  [⟨0x040, 1, 4, 0x3, 0x0, 0x0, 0x0, false⟩,
   ⟨0x044, 1, 4, 0xFF03, 0x0, 0x800, 0x0, false⟩,
   ⟨0x048, 1, 4, 0x0, 0x0, 0x0, 0x0, false⟩,
   ⟨0x04C, 1, 4, 0x0, 0x0, 0x0, 0x0, false⟩,
   ⟨0x050, 1, 4, 0x0, 0x0, 0x0, 0x0, false⟩,
   ⟨0x054, 1, 4, 0x0, 0x0, 0x0, 0x0, false⟩,
   ⟨0x058, 1, 4, 0x0, 0x0, 0x0, 0x0, false⟩,
   ⟨0x05C, 1, 4, 0x0, 0x0, 0x0, 0x0, false⟩,
   ⟨0x060, 1, 4, 0x0, 0x0, 0x0, 0x0, false⟩,
   ⟨0x064, 1, 4, 0x0, 0x0, 0x0, 0x0, false⟩,
   ⟨0x068, 1, 4, 0x0, 0x0, 0x0, 0x0, false⟩,
   ⟨0x06C, 1, 4, 0x0, 0x0, 0x0, 0xFFFFFFFF, true⟩,
   ⟨0x070, 1, 4, 0x0, 0x0, 0x0, 0xFFFFFFFF, true⟩,
   ⟨0x074, 1, 4, 0x0, 0x0, 0x0, 0xFFFFFFFF, true⟩,
   ⟨0x078, 1, 4, 0x0, 0x0, 0x0, 0xFFFFFFFF, true⟩]

/-- Registers of the DLM pages. -/
def regsDLM : List RegRow :=
  [⟨0x040, 1, 4, 0xFFFFFFFF, 0x0, 0x0, 0xFFFFFFFF, false⟩,
   ⟨0x044, 1, 4, 0xFFFFFFFF, 0x0, 0x0, 0xFFFFFFFF, false⟩,
   ⟨0x048, 1, 4, 0x0, 0x0, 0x0, 0xFFFFFFFF, false⟩,
   ⟨0x04C, 1, 4, 0x0, 0x0, 0x0, 0xFFFFFFFF, false⟩,
   ⟨0x050, 1, 4, 0x0, 0x0, 0x0, 0xFFFFFFFF, false⟩,
   ⟨0x054, 1, 4, 0x0, 0x0, 0x0, 0xFFFFFFFF, false⟩,
   ⟨0x058, 1, 4, 0x0, 0x0, 0x0, 0xFFFFFFFF, false⟩,
   ⟨0x05C, 1, 4, 0x0, 0x0, 0x0, 0xFFFFFFFF, false⟩,
   ⟨0x060, 1, 4, 0x0, 0x0, 0x0, 0xFFFFFFFF, false⟩,
   ⟨0x064, 1, 4, 0x0, 0x0, 0x0, 0x0, false⟩,
   ⟨0x068, 1, 4, 0x0, 0x0, 0x0, 0x0, false⟩,
   ⟨0x06C, 1, 4, 0x0, 0x0, 0x0, 0x0, false⟩,
   ⟨0x070, 1, 4, 0x0, 0x0, 0x0, 0x0, false⟩,
   ⟨0x074, 1, 4, 0x0, 0x0, 0x0, 0xFFFFFFFF, true⟩,
   ⟨0x078, 1, 4, 0x0, 0x0, 0x0, 0xFFFFFFFF, true⟩]

/-- Registers of the TIL pages. -/
def regsTIL : List RegRow :=
  [⟨0x040, 1, 4, 0x0, 0x0, 0x0, 0x0, false⟩,
   ⟨0x044, 1, 4, 0x0, 0x0, 0x0, 0x0, false⟩,
   ⟨0x048, 1, 4, 0x0, 0x0, 0x0, 0x0, false⟩,
   ⟨0x04C, 1, 4, 0x0, 0x0, 0x0, 0x0, false⟩,
   ⟨0x050, 1, 4, 0x0, 0x0, 0x0, 0x0, false⟩,
   ⟨0x054, 1, 4, 0x0, 0x0, 0x0, 0x0, false⟩,
   ⟨0x058, 1, 4, 0x0, 0x0, 0x0, 0x0, false⟩]

/-- Registers of the KVP pages. -/
def regsKVP : List RegRow :=
  [⟨0x040, 1, 4, 0x0, 0x0, 0x0, 0xFFFFFFFF, false⟩,
   ⟨0x044, 1, 4, 0x0, 0x0, 0x0, 0xFFFFFFFF, false⟩,
   ⟨0x048, 1, 4, 0xFFFF, 0x0, 0x20, 0x0, false⟩,
   ⟨0x04C, 1, 4, 0xFFFF, 0x0, 0x0, 0xFFFFFFFF, false⟩,
   ⟨0x050, 1, 4, 0x0, 0x0, 0x0, 0xFFFFFFFF, false⟩,
   ⟨0x054, 1, 4, 0x0, 0x0, 0x0, 0xFFFFFFFF, false⟩,
   ⟨0x058, 6, 8, 0x0, 0x0, 0x0, 0xFFFFFFFF, false⟩,
   ⟨0x05C, 6, 8, 0x0, 0x0, 0x0, 0xFFFFFFFF, false⟩,
   ⟨0x088, 1, 4, 0x0, 0x0, 0x0, 0xFFFFFFFF, false⟩,
   ⟨0x08C, 1, 4, 0x0, 0x0, 0x0, 0xFFFFFFFF, false⟩,
   ⟨0x090, 1, 4, 0x0, 0x0, 0x0, 0xFFFFFFFF, false⟩,
   ⟨0x094, 1, 4, 0x0, 0x0, 0x0, 0xFFFFFFFF, false⟩,
   ⟨0x098, 1, 4, 0x0, 0x0, 0x0, 0xFFFFFFFF, false⟩,
   ⟨0x09C, 1, 4, 0x0, 0x0, 0x0, 0xFFFFFFFF, false⟩]

/-- Registers of the SCH pages. -/
def regsSCH : List RegRow :=
  [⟨0x040, 1, 4, 0x0, 0x0, 0x0, 0x0, false⟩,
   ⟨0x044, 1, 4, 0x0, 0x0, 0x0, 0x0, false⟩,
   ⟨0x048, 1, 4, 0x0, 0x0, 0x0, 0x0, false⟩,
   ⟨0x04C, 1, 4, 0x0, 0x0, 0x0, 0x0, false⟩,
   ⟨0x050, 1, 4, 0x0, 0x0, 0x0, 0x0, false⟩,
   ⟨0x054, 1, 4, 0x0, 0x0, 0x0, 0x0, true⟩,
   ⟨0x058, 1, 4, 0x0, 0x0, 0x0, 0xFFFFFFFF, false⟩,
   ⟨0x05C, 1, 4, 0x0, 0x0, 0x0, 0xFFFFFFFF, false⟩,
   ⟨0x060, 1, 4, 0x0, 0x0, 0x0, 0x0, false⟩]

/-- Registers of the NOC pages. -/
def regsNOC : List RegRow :=
  [⟨0x040, 1, 4, 0x0, 0x0, 0x0, 0x0, false⟩,
   ⟨0x044, 1, 4, 0x0, 0x0, 0x0, 0x0, false⟩,
   ⟨0x048, 1, 4, 0x0, 0x0, 0x0, 0x0, true⟩]

/-- Registers of the HBC pages. -/
def regsHBC : List RegRow :=
  [⟨0x040, 1, 4, 0x0, 0x0, 0x801000, 0x0, false⟩,
   ⟨0x044, 1, 4, 0x0, 0x0, 0x100, 0x0, false⟩,
   ⟨0x048, 1, 4, 0x0, 0x0, 0x0, 0x0, false⟩,
   ⟨0x04C, 1, 4, 0x0, 0x0, 0x0, 0x0, false⟩,
   ⟨0x050, 1, 4, 0x0, 0x0, 0x0, 0x0, true⟩]

/-- Registers of the AZL pages. -/
def regsAZL : List RegRow :=
  [⟨0x040, 1, 4, 0x1, 0x0, 0x0, 0x0, false⟩,
   ⟨0x044, 1, 4, 0xFFFFFFFF, 0x0, 0x0, 0xFFFFFFFF, false⟩,
   ⟨0x048, 1, 4, 0xFF, 0x0, 0x100, 0xFFFFFFFF, false⟩,
   ⟨0x04C, 1, 4, 0xFFFF, 0x0, 0x88B5, 0xFFFFFFFF, false⟩,
   ⟨0x050, 1, 4, 0x0, 0x0, 0x0, 0x0, false⟩,
   ⟨0x054, 1, 4, 0x0, 0x0, 0x0, 0x0, false⟩,
   ⟨0x058, 1, 4, 0x0, 0x0, 0x0, 0x0, false⟩,
   ⟨0x05C, 1, 4, 0x0, 0x0, 0x0, 0x0, false⟩,
   ⟨0x060, 1, 4, 0xFFFFFFFF, 0x0, 0x4A817C80, 0xFFFFFFFF, false⟩,
   ⟨0x064, 1, 4, 0xF, 0x0, 0x3, 0xFFFFFFFF, false⟩,
   ⟨0x068, 1, 4, 0x0, 0x0, 0x0, 0xFFFFFFFF, false⟩,
   ⟨0x06C, 1, 4, 0xFFFFFFFF, 0x0, 0x9C4, 0xFFFFFFFF, false⟩,
   ⟨0x070, 1, 4, 0x0, 0x0, 0x0, 0xFFFFFFFF, true⟩,
   ⟨0x074, 1, 4, 0x0, 0x0, 0x0, 0xFFFF0000, false⟩,
   ⟨0x078, 1, 4, 0x0, 0x0, 0x0, 0xFFFFFFFF, false⟩,
   ⟨0x07C, 1, 4, 0x0, 0x0, 0x0, 0xFFFFFFFF, false⟩,
   ⟨0x080, 1, 4, 0x0, 0x0, 0x0, 0xFFFFFFFF, false⟩,
   ⟨0x084, 1, 4, 0xFFFF, 0x0, 0x10, 0xFFFFFFFF, false⟩,
   ⟨0x088, 1, 4, 0x0, 0x0, 0x0, 0xFFFFFFFF, false⟩,
   ⟨0x08C, 1, 4, 0x0, 0x0, 0x0, 0xFFFFFFFF, false⟩,
   ⟨0x090, 1, 4, 0x0, 0x0, 0x0, 0xFFFFFFFF, false⟩]

/-- Registers of the AZP pages. -/
def regsAZP : List RegRow :=
  [⟨0x040, 1, 4, 0xF, 0x0, 0xC, 0xFFFFFFFE, false⟩,
   ⟨0x044, 1, 4, 0x0, 0x0, 0x0, 0x0, false⟩,
   ⟨0x048, 1, 4, 0x0, 0x0, 0x0, 0x0, false⟩,
   ⟨0x04C, 1, 4, 0x0, 0x0, 0x0, 0x0, false⟩,
   ⟨0x050, 1, 4, 0x0, 0x0, 0x0, 0xFFFFFFFF, false⟩,
   ⟨0x054, 1, 4, 0x0, 0x0, 0x0, 0xFFFFFFFF, false⟩,
   ⟨0x058, 1, 4, 0x0, 0x0, 0x0, 0xFFFFFFFF, true⟩,
   ⟨0x05C, 1, 4, 0x0, 0x0, 0x0, 0xFFFFFFFF, true⟩,
   ⟨0x060, 1, 4, 0x0, 0x0, 0x0, 0xFFFFFFFF, true⟩,
   ⟨0x064, 1, 4, 0x0, 0x0, 0x0, 0xFFFFFFFF, true⟩,
   ⟨0x068, 1, 4, 0x0, 0x0, 0x0, 0xFFFFFFFF, true⟩,
   ⟨0x06C, 1, 4, 0x0, 0x0, 0x0, 0xFFFFFFFF, true⟩,
   ⟨0x070, 1, 4, 0x0, 0x0, 0x0, 0xFFFFFFFF, true⟩,
   ⟨0x074, 1, 4, 0x0, 0x0, 0x0, 0xFFFFFFFF, true⟩,
   ⟨0x078, 1, 4, 0x0, 0x0, 0x0, 0x0, false⟩,
   ⟨0x07C, 1, 4, 0x0, 0x0, 0x0, 0x0, false⟩]

/-- Registers of the AZR pages. -/
def regsAZR : List RegRow :=
  [⟨0x040, 1, 4, 0x0, 0x0, 0x0, 0x0, false⟩,
   ⟨0x044, 1, 4, 0x0, 0x0, 0x0, 0x0, true⟩,
   ⟨0x048, 1, 4, 0x0, 0x0, 0x0, 0x0, true⟩,
   ⟨0x04C, 1, 4, 0x0, 0x0, 0x0, 0x0, true⟩,
   ⟨0x050, 1, 4, 0x0, 0x0, 0x0, 0x0, false⟩]

/-- Registers of the LSP pages. -/
def regsLSP : List RegRow :=
  [⟨0x040, 1, 4, 0xF1F07, 0x0, 0x40802, 0x0, false⟩,
   ⟨0x044, 1, 4, 0x0, 0x2, 0x4, 0x2, false⟩,
   ⟨0x048, 1, 4, 0xFFFFFFFF, 0x0, 0x0, 0xFFFFFFFF, false⟩,
   ⟨0x04C, 1, 4, 0xFFFFFFFF, 0x0, 0x2000, 0xFFFFFFFF, false⟩,
   ⟨0x050, 1, 4, 0x0, 0x0, 0x0, 0xFFFFFFFF, false⟩,
   ⟨0x054, 1, 4, 0x0, 0x0, 0x0, 0x0, true⟩,
   ⟨0x058, 1, 4, 0x0, 0x0, 0x0, 0x0, true⟩,
   ⟨0x05C, 1, 4, 0x0, 0x0, 0x0, 0x0, true⟩,
   ⟨0x060, 1, 4, 0x0, 0x0, 0x0, 0xFFFFFFFF, true⟩,
   ⟨0x064, 1, 4, 0x0, 0x0, 0x0, 0xFFFFFFFF, false⟩]

/-- Registers of the SNS pages. -/
def regsSNS : List RegRow :=
  [⟨0x040, 1, 4, 0x7, 0x0, 0x3, 0xFFFFFFFF, false⟩,
   ⟨0x044, 1, 4, 0x0, 0x0, 0x0, 0xFFFFFFFF, false⟩,
   ⟨0x048, 1, 4, 0x0, 0x0, 0x0, 0xFFFFFFFF, false⟩,
   ⟨0x04C, 1, 4, 0x0, 0x0, 0x33, 0xFFFFFFFC, false⟩]

/-- Registers of the RBK pages. -/
def regsRBK0 : List RegRow :=
  [⟨0x040, 1, 4, 0xF, 0x0, 0x9, 0xFFFFFFFF, false⟩,
   ⟨0x044, 1, 4, 0x0, 0x0, 0x0, 0xFFFFFFFF, false⟩,
   ⟨0x048, 1, 4, 0x0, 0x0, 0x0, 0xFFFFFFFF, false⟩,
   ⟨0x080, 1, 4, 0x3FFF, 0x0, 0x208, 0xFFFFFFFF, false⟩,
   ⟨0x084, 1, 4, 0x3FFF, 0x0, 0x218, 0xFFFFFFFF, false⟩,
   ⟨0x088, 1, 4, 0x3FFF, 0x0, 0x228, 0xFFFFFFFF, false⟩,
   ⟨0x08C, 1, 4, 0x3FFF, 0x0, 0x238, 0xFFFFFFFF, false⟩,
   ⟨0x090, 1, 4, 0x3FFF, 0x0, 0x248, 0xFFFFFFFF, false⟩,
   ⟨0x094, 1, 4, 0x3FFF, 0x0, 0x258, 0xFFFFFFFF, false⟩,
   ⟨0x098, 1, 4, 0x3FFF, 0x0, 0x268, 0xFFFFFFFF, false⟩,
   ⟨0x09C, 1, 4, 0x3FFF, 0x0, 0x278, 0xFFFFFFFF, false⟩,
   ⟨0x0A0, 1, 4, 0x3FFF, 0x0, 0x288, 0xFFFFFFFF, false⟩,
   ⟨0x0A4, 1, 4, 0x3FFF, 0x0, 0x298, 0xFFFFFFFF, false⟩,
   ⟨0x0A8, 1, 4, 0x3FFF, 0x0, 0x2A8, 0xFFFFFFFF, false⟩,
   ⟨0x0AC, 1, 4, 0x3FFF, 0x0, 0x2B8, 0xFFFFFFFF, false⟩,
   ⟨0x0B0, 1, 4, 0x3FFF, 0x0, 0x2C8, 0xFFFFFFFF, false⟩,
   ⟨0x0B4, 1, 4, 0x3FFF, 0x0, 0x2D8, 0xFFFFFFFF, false⟩,
   ⟨0x0B8, 1, 4, 0x3FFF, 0x0, 0x2E8, 0xFFFFFFFF, false⟩,
   ⟨0x0BC, 1, 4, 0x3FFF, 0x0, 0x2F8, 0xFFFFFFFF, false⟩,
   ⟨0x0C0, 1, 4, 0x3FFF, 0x0, 0x308, 0xFFFFFFFF, false⟩,
   ⟨0x0C4, 1, 4, 0x3FFF, 0x0, 0x318, 0xFFFFFFFF, false⟩,
   ⟨0x0C8, 1, 4, 0x3FFF, 0x0, 0x328, 0xFFFFFFFF, false⟩,
   ⟨0x0CC, 1, 4, 0x3FFF, 0x0, 0x338, 0xFFFFFFFF, false⟩,
   ⟨0x0D0, 1, 4, 0x3FFF, 0x0, 0x348, 0xFFFFFFFF, false⟩]

/-- Registers of the RBK pages. -/
def regsRBK1 : List RegRow :=
  [⟨0x0D4, 1, 4, 0x3FFF, 0x0, 0x358, 0xFFFFFFFF, false⟩,
   ⟨0x0D8, 1, 4, 0x3FFF, 0x0, 0x368, 0xFFFFFFFF, false⟩,
   ⟨0x0DC, 1, 4, 0x3FFF, 0x0, 0x378, 0xFFFFFFFF, false⟩,
   ⟨0x0E0, 1, 4, 0x3FFF, 0x0, 0x388, 0xFFFFFFFF, false⟩,
   ⟨0x0E4, 1, 4, 0x3FFF, 0x0, 0x398, 0xFFFFFFFF, false⟩,
   ⟨0x0E8, 1, 4, 0x3FFF, 0x0, 0x3A8, 0xFFFFFFFF, false⟩,
   ⟨0x0EC, 1, 4, 0x3FFF, 0x0, 0x3B8, 0xFFFFFFFF, false⟩,
   ⟨0x0F0, 1, 4, 0x3FFF, 0x0, 0x3C8, 0xFFFFFFFF, false⟩,
   ⟨0x0F4, 1, 4, 0x3FFF, 0x0, 0x3D8, 0xFFFFFFFF, false⟩,
   ⟨0x0F8, 1, 4, 0x3FFF, 0x0, 0x3E8, 0xFFFFFFFF, false⟩,
   ⟨0x0FC, 1, 4, 0x3FFF, 0x0, 0x3F8, 0xFFFFFFFF, false⟩,
   ⟨0x100, 32, 4, 0x0, 0x0, 0x0, 0xFFFF7FFF, false⟩]

/-- Registers of the FCL pages. -/
def regsFCL : List RegRow :=
  [⟨0x040, 1, 4, 0x7F, 0x0, 0x8, 0xFFFFFFFF, false⟩,
   ⟨0x044, 1, 4, 0x0, 0x0, 0x0, 0xFFFFFFFF, false⟩,
   ⟨0x048, 1, 4, 0xFFF, 0x0, 0x8, 0xFFFFFFFF, false⟩,
   ⟨0x04C, 1, 4, 0xFF, 0x0, 0x40, 0xFFFFFFFF, false⟩,
   ⟨0x050, 1, 4, 0x1F1F1F, 0x0, 0x0, 0xFFFFFFFF, false⟩,
   ⟨0x054, 1, 4, 0x7FFFC, 0x0, 0x0, 0xFFFFFFFF, false⟩,
   ⟨0x058, 1, 4, 0x0, 0x0, 0x0, 0xFFFFFFFF, false⟩,
   ⟨0x05C, 1, 4, 0x0, 0x0, 0x0, 0xFFFF01FF, false⟩,
   ⟨0x060, 2, 4, 0x0, 0x0, 0x0, 0xFFFFFFFF, false⟩,
   ⟨0x080, 16, 4, 0x0, 0x0, 0x0, 0xFFFFFFFF, false⟩,
   ⟨0x0C0, 1, 4, 0xFFFFFF80, 0x0, 0x0, 0xFFFFFFFF, false⟩,
   ⟨0x0C4, 1, 4, 0xFFFFFFFF, 0x0, 0x0, 0xFFFFFFFF, false⟩,
   ⟨0x0C8, 1, 4, 0xF, 0x0, 0x0, 0xFFFFFFFF, false⟩,
   ⟨0x0CC, 1, 4, 0x0, 0x0, 0x0, 0xFFFFFFFF, false⟩,
   ⟨0x0D0, 1, 4, 0xFFFF, 0x0, 0x0, 0xFFFFFFFF, false⟩,
   ⟨0x0D4, 1, 4, 0x0, 0x0, 0x0, 0xFFFFFFFF, true⟩,
   ⟨0x0D8, 1, 4, 0xFFFFFFFF, 0x0, 0x0, 0xFFFFFFFF, false⟩,
   ⟨0x0DC, 1, 4, 0xFFFF001F, 0x0, 0x7FFF0000, 0xFFFFFFFF, false⟩,
   ⟨0x0E0, 1, 4, 0x0, 0x0, 0x0, 0xFFFFFFFF, true⟩]

/-- Registers of the DEC pages. -/
def regsDEC : List RegRow :=
  [⟨0x040, 1, 4, 0x3, 0x0, 0x0, 0xFFFFFFFF, false⟩,
   ⟨0x044, 1, 4, 0x7FFF0FF7, 0x0, 0x46200023, 0xFFFF0FF7, false⟩,
   ⟨0x048, 1, 4, 0x3FF03FF, 0x0, 0x10001, 0xFFFFFFFF, false⟩,
   ⟨0x04C, 1, 4, 0x7FFF, 0x0, 0x0, 0xFFFFFFFF, false⟩,
   ⟨0x050, 1, 4, 0x0, 0x0, 0x46200023, 0xFFFFFFFF, false⟩,
   ⟨0x054, 1, 4, 0x0, 0x0, 0x10001, 0xFFFFFFFF, false⟩,
   ⟨0x058, 1, 4, 0x0, 0x0, 0x0, 0xFFFFFFFF, false⟩,
   ⟨0x05C, 1, 4, 0x0, 0x0, 0x0, 0xFFFFFFFF, false⟩,
   ⟨0x060, 1, 4, 0x0, 0x0, 0x0, 0xFFFFFFFF, false⟩,
   ⟨0x064, 2, 4, 0x0, 0x0, 0x0, 0xFFFFFFFF, false⟩,
   ⟨0x06C, 1, 4, 0xFFFF, 0x0, 0x0, 0xFFFFFFFF, false⟩,
   ⟨0x070, 1, 4, 0x7FF, 0x0, 0x0, 0xFFFFFFFF, false⟩,
   ⟨0x074, 1, 4, 0x0, 0x0, 0x0, 0xFFFFFFFF, false⟩,
   ⟨0x080, 1, 4, 0xFFFFFF80, 0x0, 0x0, 0xFFFFFFFF, false⟩,
   ⟨0x084, 1, 4, 0xFFFFFFFF, 0x0, 0x0, 0xFFFFFFFF, false⟩,
   ⟨0x088, 1, 4, 0x1F, 0x0, 0x0, 0xFFFFFFFF, false⟩,
   ⟨0x08C, 1, 4, 0x0, 0x0, 0x0, 0xFFFFFFFF, false⟩,
   ⟨0x090, 1, 4, 0xFFFF, 0x0, 0x0, 0xFFFFFFFF, false⟩,
   ⟨0x094, 1, 4, 0x0, 0x0, 0x0, 0xFFFFFFFF, true⟩,
   ⟨0x098, 1, 4, 0x0, 0x0, 0x0, 0xFFFFFFFF, true⟩,
   ⟨0x09C, 1, 4, 0x0, 0x0, 0x0, 0xFFFFFFFF, true⟩,
   ⟨0x0A0, 2, 4, 0x0, 0x0, 0x0, 0xFFFFFFFF, false⟩,
   ⟨0x100, 32, 4, 0x3FFFF, 0x0, 0x0, 0xFFFFFFFF, false⟩,
   ⟨0x180, 32, 4, 0x3FFFF, 0x0, 0x0, 0xFFFFFFFF, false⟩]

/-- Registers of the WIR pages. -/
def regsWIR : List RegRow :=
  [⟨0x040, 1, 4, 0x0, 0x0, 0xFF00, 0xFFFFFFFF, false⟩,
   ⟨0x080, 8, 32, 0xFFFFFFFF, 0x0, 0x0, 0xFFFFFFFF, false⟩,
   ⟨0x084, 8, 32, 0xFFF0FFF, 0x0, 0x0, 0xFFFFFFFF, false⟩,
   ⟨0x088, 8, 32, 0x0, 0x0, 0x12, 0xFFFFFFFF, false⟩,
   ⟨0x08C, 8, 32, 0x0, 0x0, 0x0, 0xFFFFFFFF, true⟩,
   ⟨0x090, 8, 32, 0x0, 0x0, 0x0, 0xFFFFFFFF, false⟩,
   ⟨0x094, 8, 32, 0x0, 0x0, 0x0, 0xFFFFFFFF, false⟩,
   ⟨0x098, 8, 32, 0x0, 0x0, 0x0, 0xFFFFFFFF, false⟩,
   ⟨0x09C, 8, 32, 0x0, 0x0, 0x0, 0xFFFFFFFF, false⟩]

/-- Registers of the PG pages. -/
def regsPG : List RegRow :=
  [⟨0x040, 8, 128, 0xFFF0FF, 0x0, 0x0, 0xFFFFFFFF, false⟩,
   ⟨0x044, 8, 128, 0xFFFFFFFF, 0x0, 0x0, 0xFFFFFFFF, false⟩,
   ⟨0x048, 8, 128, 0x0, 0x0, 0x10, 0xFFFFFFFF, false⟩,
   ⟨0x04C, 8, 128, 0x0, 0x0, 0x0, 0x0, false⟩,
   ⟨0x050, 8, 128, 0xFFFFFFFF, 0x0, 0x0, 0xFFFFFFFF, false⟩,
   ⟨0x054, 8, 128, 0xFFFFFFFF, 0x0, 0x0, 0xFFFFFFFF, false⟩,
   ⟨0x058, 8, 128, 0xFFFFFFFF, 0x0, 0x0, 0xFFFFFFFF, false⟩,
   ⟨0x05C, 8, 128, 0xFFFFFFFF, 0x0, 0x0, 0xFFFFFFFF, false⟩,
   ⟨0x060, 8, 128, 0xF, 0x0, 0x0, 0xFFFFFFFF, false⟩,
   ⟨0x064, 8, 128, 0xFFFFFFFF, 0x0, 0x0, 0xFFFFFFFF, false⟩,
   ⟨0x068, 8, 128, 0xFFFFFFFF, 0x0, 0x0, 0xFFFFFFFF, false⟩,
   ⟨0x070, 8, 128, 0xFFFFFFFF, 0x0, 0x0, 0xFFFFFFFF, false⟩,
   ⟨0x074, 8, 128, 0xFFFFFFFF, 0x0, 0x0, 0xFFFFFFFF, false⟩,
   ⟨0x078, 8, 128, 0xFFFFFFFF, 0x0, 0x0, 0xFFFFFFFF, false⟩,
   ⟨0x07C, 8, 128, 0xFFFFFFFF, 0x0, 0x0, 0xFFFFFFFF, false⟩,
   ⟨0x080, 8, 128, 0xFFFFFFFF, 0x0, 0x0, 0xFFFFFFFF, false⟩,
   ⟨0x084, 8, 128, 0xFFFFFFFF, 0x0, 0x0, 0xFFFFFFFF, false⟩,
   ⟨0x088, 8, 128, 0xFFFFFFFF, 0x0, 0x0, 0xFFFFFFFF, false⟩,
   ⟨0x08C, 8, 128, 0xFFFFFFFF, 0x0, 0x0, 0xFFFFFFFF, false⟩,
   ⟨0x090, 8, 128, 0x0, 0x0, 0x0, 0xFFFFFFFF, false⟩,
   ⟨0x094, 8, 128, 0x0, 0x0, 0x0, 0xFFFFFFFF, false⟩,
   ⟨0x098, 8, 128, 0x0, 0x0, 0x0, 0xFFFFFFFF, false⟩,
   ⟨0x09C, 8, 128, 0x0, 0x0, 0x0, 0xFFFFFFFF, false⟩,
   ⟨0x0A0, 8, 128, 0x0, 0x0, 0x0, 0xFFFFFFFF, true⟩]

/-- Registers of the VFC pages. -/
def regsVFC : List RegRow :=
  [⟨0x040, 1, 4, 0x0, 0x0, 0x0, 0x0, false⟩,
   ⟨0x044, 1, 4, 0x0, 0x0, 0x0, 0x0, false⟩,
   ⟨0x058, 1, 4, 0x0, 0x0, 0x0, 0x0, false⟩,
   ⟨0x800, 2, 16, 0xFFFFFFFC, 0x0, 0x0, 0xFFFFFFFF, false⟩,
   ⟨0x804, 2, 16, 0xFFFFFFFF, 0x0, 0x0, 0xFFFFFFFF, false⟩,
   ⟨0x808, 2, 16, 0xFFFFFFFF, 0x0, 0x0, 0xFFFFFFFF, false⟩,
   ⟨0x80C, 2, 16, 0x1, 0x0, 0x1, 0xFFFFFFFF, false⟩,
   ⟨0xC00, 2, 4, 0x0, 0x0, 0x0, 0xFFFFFFFF, false⟩]

/-- The page map (17 R747); the logical CLU view is not a page of its own (02 R134). -/
def pageRows : List PageRow :=
  [⟨0x000000, 1, 0x01, 0x3, 1, 0, regsGLB⟩,
   ⟨0x001000, 1, 0x02, 0x7, 1, 0, regsCLK⟩,
   ⟨0x002000, 1, 0x03, 0x1F, 1, 0, regsGCT⟩,
   ⟨0x003000, 1, 0x04, 0x7, 1, 0, regsPST⟩,
   ⟨0x004000, 1, 0x05, 0x1, 1, 0, regsMGT⟩,
   ⟨0x005000, 1, 0x06, 0x3F, 1, 0, regsDBG0 ++ regsDBG1 ++ regsDBG2⟩,
   ⟨0x006000, 1, 0x07, 0x7, 1, 0, regsTHM⟩,
   ⟨0x007000, 1, 0x08, 0x3F, 1, 0, regsLDG⟩,
   ⟨0x010000, 1, 0x10, 0x3F, 9, 0, regsHIF⟩,
   ⟨0x011000, 8, 0x10, 0x3, 9, 1, regsEVQ⟩,
   ⟨0x020000, 128, 0x11, 0x1, 128, 0, regsCMQ⟩,
   ⟨0x100000, 1, 0x20, 0xF, 16, 0, regsSLU⟩,
   ⟨0x101000, 15, 0x20, 0x0, 16, 1, []⟩,
   ⟨0x110000, 1, 0x21, 0x3, 1, 0, regsDLM⟩,
   ⟨0x120000, 1, 0x22, 0x0, 1, 0, regsTIL⟩,
   ⟨0x130000, 1, 0x23, 0x3, 1, 0, regsKVP⟩] ++
  [⟨0x140000, 1, 0x24, 0x7, 1, 0, regsSCH⟩,
   ⟨0x150000, 1, 0x25, 0x1, 1, 0, regsNOC⟩,
   ⟨0x160000, 6, 0x26, 0x1, 6, 0, regsHBC⟩,
   ⟨0x170000, 1, 0x27, 0xFF, 10, 8, regsAZL⟩,
   ⟨0x171000, 8, 0x27, 0x1F, 10, 0, regsAZP⟩,
   ⟨0x179000, 1, 0x27, 0x1, 10, 9, regsAZR⟩,
   ⟨0x180000, 1, 0x28, 0x7, 1, 0, regsLSP⟩,
   ⟨0x200000, 144, 0x30, 0x1, 144, 0, []⟩,
   ⟨0x400000, 1, 0x40, 0x3, 1, 0, regsSNS⟩,
   ⟨0x401000, 16, 0x41, 0x1, 16, 0, regsRBK0 ++ regsRBK1⟩,
   ⟨0x411000, 1, 0x42, 0xF, 1, 0, regsFCL⟩,
   ⟨0x412000, 4, 0x43, 0x3F, 4, 0, regsDEC⟩,
   ⟨0x416000, 4, 0x44, 0xFF01FF, 4, 0, regsWIR⟩,
   ⟨0x41A000, 2, 0x45, 0x3FFFF, 2, 0, regsPG⟩,
   ⟨0x2001000, 8, 0x10, 0x3F, 9, 0, regsVFC⟩]

end Sys2Proof.Machine
end

