-- ==== Sys2Proof/Machine/State.lean ====
section
/-!
DEFINITION. The state of the block, as plain data, and its reset value.
-/
namespace Sys2Proof.Machine

/-- The model has no fault of its own: every fault of the spec is a next state (R203, R458). The one constructor is
raised by no command; it keeps the type inhabited. Safe. -/
inductive Fault where
  | none
deriving DecidableEq, Repr

/-- A command without a meaning: `notModelled` is raised by a refused arm of `exec` only. Safe: the machine stops. -/
inductive Refusal where
  | notModelled (mnemonic : String)
deriving DecidableEq, Repr

/-- Executions, plans, HBM and freezes (04); `copies` holds, by the number in a save copy's header, the execution the copy was taken of
(08 R454). -/
structure Sched where
  exec : Exec := {}
  freezes : List FreezeWin := []
  susp : Option Suspended := none
  rkWait : Option RunK := none
  chans : SMap HbmChan := []
  kdig : SMap Nat := []
  nextStep : Option StepRec := none
  nextLaunch : Option Nat := none
  launchReady : Bool := false
  replay : Bool := false
  lastLaunch : Nat := 0
  lastPlan : Nat := 0
  lastFrozen : Nat := 0
  done : Option DoneStep := none
  halted : Bool := false
  recovered : Bool := true
  recordLate : Bool := false
  saveEnd : Option Nat := none
  reloads : List Reload := []
  copies : SMap (Option Suspended) := []
  copyNo : Nat := 0
deriving DecidableEq, Repr

/-- Sessions, the Sluice and residency (06, 08). `imgTaint` tells that something but a load wrote the resident image's bytes; `blocks` keeps what
the rows of each park block stand for (05 R277, 08 R438). -/
structure Gener where
  ctxs : SMap Context := []
  image : Option Image := none
  hdr : ImgHdr := {}
  loading : Option Loading := none
  unloading : List (CmdRef × Bool) := []
  joinSeq : Nat := 0
  boundary : Nat := 0
  atBoundary : Bool := false
  again : Bool := false
  commits : Nat := 0
  prio : Option Nat := none
  deadlock : Bool := false
  gap : Nat := 0
  dlDef : Nat := 0
  varSeen : Nat × Nat := (0, 0)
  xfers : List Xfer := []
  saves : List StepSave := []
  imgTaint : Nat := 0
  blocks : List BlockNote := []
deriving DecidableEq, Repr

/-- The configuration of a PCIe function: its power state, the limits on payload and read request in bytes, 10-bit tags, ECRC, the Unsupported
Request status of its AER, and MSI-X Enable and Function Mask (13 R587, R626). PRESUMED values at reset (log 70). -/
structure PcieFn where
  d3hot : Bool := false
  payload : Nat := 128
  readReq : Nat := 512
  tag10 : Bool := false
  ecrcGen : Bool := false
  ecrcCheck : Bool := false
  unsupported : Bool := false
  msixEn : Bool := false
  msixMask : Bool := false
deriving DecidableEq, Repr

/-- The host interface beside its registers (13). -/
structure Hif where
  rings : SMap Ring := []
  evqs : SMap EvQueue := []
  held : List TokRec := []
  vfBme : List Bool := List.replicate 8 false
  vfSusp : List Bool := List.replicate 8 true
  trained : Bool := false
  speed : Nat := 0
  width : Nat := 0
  bar2Log2 : Nat := 28
  pcie : SMap PcieFn := []
  lastRead : List Byte := []
  unsupported : Bool := false
  retryStatus : Bool := false
deriving DecidableEq, Repr

/-- Supplies, clocks, the global counter, temperature and the lean point beside their registers (15): `steerTo` is what CLK.STEER moves to,
`vmtxEnd` the VMTX that the last move to the nominal point ended with. -/
structure Power where
  pll : Bool := false
  resetN : Bool := false
  lean : Bool := false
  leanEn : Bool := false
  window : Option Nat := none
  toNominal : Bool := false
  lateFrom : Option Nat := none
  holdoverAt : Option Nat := none
  lockRun : Nat := 0
  missRun : Nat := 0
  lastMeas : Nat := 0
  lastPps : Option Nat := none
  deferring : Bool := false
  ppsOut : Bool := false
  periodEff : Nat := 0x1312D0
  nextPeriod : Nat := 0x1312D0
  failed : List Nat := []
  invalidAt : SMap Nat := []
  overtempAt : Option Nat := none
  thermtrip : Bool := false
  quarAt : Nat := 0
  driftWas : Option (Nat × Nat) := none
  steerTo : Int := 0
  vmtxEnd : Nat := 0
deriving DecidableEq, Repr

/-- Bring-up, firmware, mailbox and the persistent store beside their registers (14). `flash` holds the complement of each byte, so that erased
flash, whose bytes read 0xFF, lists nothing; `staging` the images under way into the inactive slot, oldest first, empty for one that is
already there. `store` holds each register's newer valid copy, `older` the copy that the next write programs, none when it is not valid
(14 R656 to R660). -/
structure Boot where
  flash : Mem := []
  store : SMap Word := []
  older : SMap (Option Word) := []
  wear : SMap Nat := []
  queue : List StoreWrite := []
  pstLoaded : Bool := false
  fwRunning : Bool := false
  recovery : Bool := false
  selfTested : Bool := false
  qRouters : List Nat := []
  qStacks : List Nat := []
  qPorts : List Nat := []
  quar : QuarCount := {}
  mbox : Option (Nat × Nat) := none
  staging : List (CmdRef × List Byte) := []
  mapped : Bool := false
  d2d : Bool := false
deriving DecidableEq, Repr

/-- The instructions of the TAP (16 R717). -/
inductive TapIr where
  | extest | idcode | samplePreload | clamp | highz | dbgReg | bypass
deriving DecidableEq, Repr

/-- A halt: its count, cause, logical cluster, group, comparator, watchpoint source, address and watched address (16 R731,
R732, R745). -/
structure HaltRec where
  h : Nat
  cause : Nat
  cluster : Nat := 0
  group : Nat := 0
  index : Nat := 0
  source : Nat := 0
  pc : Nat := 0
  addr : Nat := 0
deriving DecidableEq, Repr

/-- The debug controller and the TAP beside the DBG registers (16): `ir` is the instruction register, `irOut` and `drOut` what its last scan and
that of the data register it selects shifted out. -/
structure Debug where
  halt : Option HaltRec := none
  stepMode : Option Nat := none
  stepLeft : Nat := 0
  stepHaltAt : Option Nat := none
  resumeAt : Option Nat := none
  noLaunch : Bool := false
  nonceReq : Bool := false
  submit : Option (List Word) := none
  ir : Byte := 0x01
  irOut : Byte := 0x01
  drOut : BitVec 59 := 0
  held : Bool := true
  boundary : BitVec 52 := 0
  tapDone : Bool := false
  tapData : Word := 0
deriving DecidableEq, Repr

/-- The state of the block. `wrote` lists the writes to host memory that the package has issued in this count, in order, each with the function
whose requester ID it carries, its address and its bytes (13 R588, R597). -/
structure State where
  pending : List Instr := []
  count : Nat := 0
  draw : Nat := 0
  regs : SMap Word := []
  snap : SMap Word := []
  hw : SMap Word := []
  clusters : SMap Cluster := []
  sched : Sched := {}
  gener : Gener := {}
  hif : Hif := {}
  azl : AzlState := {}
  lock : LockStep := {}
  power : Power := {}
  boot : Boot := {}
  dbgp : Debug := {}
  falbo : Falbo := {}
  hbm : Mem := []
  host : Mem := []
  wrote : List (Nat × Nat × Nat) := []
deriving DecidableEq, Repr

/-- The machine right after reset: every register at its cold-reset value. -/
def State.reset : State := {}

end Sys2Proof.Machine
end

