-- ==== Sys2Proof/Machine/Ops.lean ====
section
/-!
DEFINITION. The named operations over State that every family uses: registers of BAR0, status bits and event
records, completions, host memory, clusters and ledgers (09, 13, 17).
-/
namespace Sys2Proof.Machine

/-! Replacing one part of the state. -/

/-- Replace `pending`. -/
def putPending (s : State) (x : List Instr) : State := { s with pending := x }

/-- Replace `count`. -/
def putCount (s : State) (x : Nat) : State := { s with count := x }

/-- Replace `draw`. -/
def putDraw (s : State) (x : Nat) : State := { s with draw := x }

/-- Replace `regs`. -/
def putRegs (s : State) (x : SMap Word) : State := { s with regs := x }

/-- Replace `snap`. -/
def putSnap (s : State) (x : SMap Word) : State := { s with snap := x }

/-- Replace `hw`. -/
def putHw (s : State) (x : SMap Word) : State := { s with hw := x }

/-- Replace `clusters`. -/
def putClusters (s : State) (x : SMap Cluster) : State := { s with clusters := x }

/-- Replace `sched`. -/
def putSched (s : State) (x : Sched) : State := { s with sched := x }

/-- Replace `gener`. -/
def putGener (s : State) (x : Gener) : State := { s with gener := x }

/-- Replace `hif`. -/
def putHif (s : State) (x : Hif) : State := { s with hif := x }

/-- Replace `azl`. -/
def putAzl (s : State) (x : AzlState) : State := { s with azl := x }

/-- Replace `lock`. -/
def putLock (s : State) (x : LockStep) : State := { s with lock := x }

/-- Replace `power`. -/
def putPower (s : State) (x : Power) : State := { s with power := x }

/-- Replace `boot`. -/
def putBoot (s : State) (x : Boot) : State := { s with boot := x }

/-- Replace `dbgp`. -/
def putDbgp (s : State) (x : Debug) : State := { s with dbgp := x }

/-- Replace `falbo`. -/
def putFalbo (s : State) (x : Falbo) : State := { s with falbo := x }

/-- Replace `hbm`. -/
def putHbm (s : State) (x : Mem) : State := { s with hbm := x }

/-- Replace `host`. -/
def putHost (s : State) (x : Mem) : State := { s with host := x }

/-- Replace `wrote`. -/
def putWrote (s : State) (x : List (Nat × Nat × Nat)) : State := { s with wrote := x }

/-- The page map's row for a BAR0 offset (17 R747). -/
def pageOf (off : Nat) : Option PageRow :=
  pageRows.find? fun p => decide (p.base ≤ off) && decide (off < p.base + p.pages * 0x1000)

/-- The base of the page an offset lies in. -/
def pageBase (off : Nat) : Nat := off / 0x1000 * 0x1000

/-- A register array holds a page offset. -/
def rowHas (r : RegRow) (o : Nat) : Bool :=
  decide (r.off ≤ o) && decide (o < r.off + r.n * r.stride) && (o - r.off) % r.stride == 0

/-- The register row of a BAR0 offset. -/
def regRow (off : Nat) : Option RegRow :=
  match pageOf off with
  | some p => p.regs.find? fun r => rowHas r (off % 0x1000)
  | none => none

/-- The cold-reset value of a stored register (17 R750, R758). -/
def coldReg (off : Nat) : Word :=
  match pageOf off with
  | none => 0
  | some p =>
    if off % 0x1000 = 0x010 then w32 p.evt
    else match p.regs.find? fun r => rowHas r (off % 0x1000) with
      | some r => w32 r.cold
      | none => 0

/-- Read a stored register. -/
def rdReg (s : State) (off : Nat) : Word := smGet coldReg s.regs off

/-- Write a stored register. -/
def wrReg (s : State) (off : Nat) (v : Word) : State := putRegs s (smSet coldReg s.regs off v)

/-- A stored register as a number. -/
def rdN (s : State) (off : Nat) : Nat := (rdReg s off).toNat

/-- Write a stored register from a number. -/
def wrN (s : State) (off v : Nat) : State := wrReg s off (w32 v)

/-- Read field [hi:lo] of a register. -/
def rdF (s : State) (off hi lo : Nat) : Nat := rfld (rdReg s off) hi lo

/-- Read bit n of a register. -/
def rdB (s : State) (off n : Nat) : Bool := rbit (rdReg s off) n

/-- Write field [hi:lo] of a register. -/
def wrF (s : State) (off hi lo v : Nat) : State := wrReg s off (putFld (rdReg s off) hi lo v)

/-- Write bit n of a register. -/
def wrB (s : State) (off n : Nat) (b : Bool) : State := wrReg s off (putBit (rdReg s off) n b)

/-- A 64-bit value in two registers, low first. -/
def rd64 (s : State) (off : Nat) : Nat := rdN s off + rdN s (off + 4) * 2 ^ 32

/-- Write a 64-bit value in two registers, low first. -/
def wr64 (s : State) (off v : Nat) : State := wrN (wrN s off (lo32 v)) (off + 4) (hi32 v)

/-- Add to a saturating 32-bit counter. -/
def cntReg (s : State) (off n : Nat) : State := wrN s off (satAdd 32 (rdN s off) n)

/-- A register of the k-th page of a kind. -/
def onPage (off k : Nat) : Nat := off + k * 0x1000

/-- Note the bits of a register that hardware sets at the present count: a register write of them is lost (17 R756). -/
def noteHw (s : State) (off : Nat) (bits : Word) : State :=
  putHw s (smSet (dflt 0) s.hw off (smGet (dflt 0) s.hw off ||| bits))

/-- Set EVTSTA bits of a page (17 R751). -/
def setEvt (s : State) (page bits : Nat) : State :=
  wrReg (noteHw s (page + 0x14) (w32 bits)) (page + 0x14) (rdReg s (page + 0x14) ||| w32 bits)

/-- Add to ERRCNT of a page (17 R750). -/
def cntErr (s : State) (page n : Nat) : State := cntReg s (page + 0x1C) n

/-- The ring's record. -/
def ringOf (s : State) (r : Nat) : Ring := smGet (dflt {}) s.hif.rings r

/-- Change a ring's record. -/
def setRing (s : State) (r : Nat) (x : Ring) : State :=
  putHif s { s.hif with rings := smSet (dflt {}) s.hif.rings r x }

/-- The queue's record. -/
def evqOf (s : State) (q : Nat) : EvQueue := smGet (dflt {}) s.hif.evqs q

/-- Change a queue's record. -/
def setEvq (s : State) (q : Nat) (x : EvQueue) : State :=
  putHif s { s.hif with evqs := smSet (dflt {}) s.hif.evqs q x }

/-- The function that owns a ring; 0 is the PF (13 R593, R637). -/
def ringOwner (s : State) (r : Nat) : Nat := rdF s (Reg.hifRingOwner + 4 * (r / 8)) (4 * (r % 8) + 3) (4 * (r % 8))

/-- The function that owns a queue (13 R593, R637). -/
def evqOwner (s : State) (q : Nat) : Nat := rdF s Reg.hifEvqOwner (4 * q + 3) (4 * q)

/-- A function is suspended (13 R627, R631, R632). -/
def fnSuspended (s : State) (fn : Nat) : Bool :=
  if fn = 0 then rdB s Reg.hifStatus 10 else nth s.hif.vfSusp (fn - 1) true

/-- A function's Bus Master Enable (13 R627). -/
def fnBme (s : State) (fn : Nat) : Bool :=
  if fn = 0 then rdB s Reg.hifStatus 9 else nth s.hif.vfBme (fn - 1) false

/-- A function is in D3hot, in which it sends and answers no memory request (13 R587; PCIe, PRESUMED, log 70). -/
def fnAsleep (s : State) (fn : Nat) : Bool := (smGet (dflt ({} : PcieFn)) s.hif.pcie fn).d3hot

/-- Writes of a function to host memory are permitted (13 R587, R627). -/
def permitted (s : State) (fn : Nat) : Bool := rdB s Reg.hifStatus 0 && fnBme s fn && !fnSuspended s fn && !fnAsleep s fn

/-- A write to host memory goes out with a function's requester ID (13 R588, R597). -/
def noteWrote (s : State) (fn addr n : Nat) : State := putWrote s (s.wrote ++ [(fn, addr % 2 ^ 64, n)])

/-- Write bytes to host memory for a function (13 R588, R597). -/
def hostWrite (s : State) (fn addr : Nat) (bs : List Byte) : State :=
  putHost (noteWrote s fn addr bs.length) (memStore s.host (addr % 2 ^ 64) bs)

/-- Write 32-bit words to host memory, little-endian (00 R16). -/
def hostWords (s : State) (fn addr : Nat) (ws : List Nat) : State := hostWrite s fn addr (ws.flatMap (leBytes 4))

/-- Write to host memory what lies in another memory. -/
def hostCopy (s : State) (fn : Nat) (m : Mem) (src dst n : Nat) : State := putHost (noteWrote s fn dst n) (memCopy m src s.host dst n)

/-- Read 32-bit words of a memory. -/
def memWords (m : Mem) (addr n : Nat) : List Nat := (List.range n).map fun i => memNat m (addr + 4 * i) 4

/-- The running determinism epoch (05 R259, 07 R416). -/
def runEpoch (s : State) : Nat := rdF s Reg.azlEpoch 15 0

/-- An event record's eight words before its phase tag is set (13 R617). -/
def evRecord (s : State) (type inst code w1 : Nat) (d : List Nat) : EvRec :=
  [(type % 128) * 2 ^ 24 + (inst % 256) * 2 ^ 16 + code % 2 ^ 16, (runEpoch s) * 2 ^ 16 + w1 % 2 ^ 16,
   lo32 s.count, hi32 s.count, nthN d 0 % 2 ^ 32, nthN d 1 % 2 ^ 32, nthN d 2 % 2 ^ 32, nthN d 3 % 2 ^ 32]

/-- The count of a record. -/
def recCount (r : EvRec) : Nat := nthN r 2 + nthN r 3 * 2 ^ 32

/-- Insert a record after those of its count with no greater type, instance and code (13 R622). -/
def insertRec (x : Bool × EvRec) : List (Bool × EvRec) → List (Bool × EvRec)
  | [] => [x]
  | y :: ys =>
    if recCount y.2 = recCount x.2 ∧ nthN x.2 0 < nthN y.2 0 then x :: y :: ys else y :: insertRec x ys

/-- The queue has a free slot in host memory (13 R619). -/
def evqRoom (s : State) (q : Nat) : Bool :=
  (rdN s (onPage Reg.evqTail q) + 2 ^ 32 - rdN s (onPage Reg.evqHead q)) % 2 ^ 32 != rdN s (onPage Reg.evqSize q)

/-- A record can be written to the queue now: queues run while firmware does (13 R619, R624, R628, 14 R641). -/
def evqOpen (s : State) (q : Nat) : Bool :=
  rdB s (onPage Reg.evqCtl q) 0 && evqRoom s q && permitted s (evqOwner s q) && s.boot.fwRunning

/-- Records of the backlog: waiting records that are no completion records (13 R623). -/
def backlog (e : EvQueue) : Nat := e.waiting.countP fun x => !x.1

/-- Slots of a queue that waiting records other than completions take as soon as each is written (13 R619, R623). -/
def evqSpare (s : State) (q : Nat) : Nat :=
  let e := evqOf s q
  if evqOpen s q then
    rdN s (onPage Reg.evqSize q) - (rdN s (onPage Reg.evqTail q) + 2 ^ 32 - rdN s (onPage Reg.evqHead q)) % 2 ^ 32 - (e.waiting.length - backlog e)
  else 0

/-- Show the reserve and the backlog in EVQ.STATUS (13 R639). -/
def showEvq (s : State) (q : Nat) : State :=
  let e := evqOf s q
  let o := onPage Reg.evqStatus q
  wrF (wrF s o 11 1 e.reserved) o 20 12 (min 256 (backlog e))

/-- Queue a record: a completion record always, any other unless the queue's free slots and the backlog of 256 are taken (13 R623). -/
def pushRec (s : State) (q : Nat) (completion : Bool) (r : EvRec) : State :=
  let e := evqOf s q
  if !completion && decide (256 + evqSpare s q ≤ backlog e) then
    setEvt (cntReg (setEvq s q { e with lostSince := e.lostSince + 1 }) (onPage Reg.evqLost q) 1) (onPage Reg.pageEvq q) 2
  else showEvq (setEvq s q { e with waiting := insertRec (completion, r) e.waiting }) q

/-- The queue that HIF.ROUTE gives for a block type (13 R621). -/
def routeOf (s : State) (type : Nat) : Option Nat :=
  let f := rdF s (Reg.hifRoute + 4 * (type / 8)) (4 * (type % 8) + 3) (4 * (type % 8))
  if bitN f 3 then none else some (f % 8)

/-- The queue of a ring's events (13 R621). -/
def ringQueue (s : State) (r : Nat) : Nat := rdF s (onPage Reg.cmqCtl r) 3 1

/-- Where an event goes (13 R621). -/
inductive Dest where
  | block
  | ring (r : Nat)
deriving DecidableEq, Repr

/-- Set a page's status bits, and write the record when the matching EVTEN bits allow it (17 R751, 13 R621). -/
def raiseEv (s : State) (page bits : Nat) (dst : Dest) (type inst code w1 : Nat) (d : List Nat) : State :=
  let s1 := if bits = 0 then s else setEvt s page bits
  if bits ≠ 0 ∧ rdReg s (page + 0x10) &&& w32 bits = 0 then s1
  else
    let r := evRecord s1 type inst code w1 d
    match dst with
    | .ring k => pushRec s1 (ringQueue s1 k) false r
    | .block => match routeOf s1 type with
      | some q => pushRec s1 q false r
      | none => s1

/-- Read and not completed descriptors of a ring, counted in OUTSTANDING (13 R638). -/
def outstanding (g : Ring) : Nat := g.out.length

/-- Free a completion slot of a queue (13 R602, R623). -/
def freeSlot (s : State) (q : Nat) : State :=
  let e := evqOf s q
  showEvq (setEvq s q { e with reserved := e.reserved - 1 }) q

/-- A status of the host interface's own checks (13 R614). -/
def hifCode (status : Nat) : Bool := decide (0x60 ≤ status) && decide (status ≤ 0x64)

/-- Record one command's completion: status, result words, OUTSTANDING, COMPLETED, and ERRCNT of the ring for a descriptor that fails a check
of the host interface (13 R607, R613, R614, R616, R638). -/
def complete1 (s : State) (c : CmdRef) (status w6 w7 : Nat) : State :=
  let g := ringOf s c.ring
  let g1 := { g with out := g.out.filter fun x => x.era != c.era || x.idx != c.idx }
  let g2 := { g1 with busy := g1.busy.filter (· != (c.era, c.idx)) }
  let s1 := setRing s c.ring g2
  let s2 := wrN s1 (onPage Reg.cmqOutstanding c.ring) (outstanding g2)
  let s3 := cntErr (cntReg s2 (onPage Reg.cmqCompleted c.ring) 1) (onPage Reg.pageCmq c.ring) (b2n (hifCode status))
  if c.quiet ∧ status = 0 then freeSlot s3 c.q
  else
    pushRec s3 c.q true
      (evRecord s3 0x11 c.ring 1 c.ring [c.tag % 2 ^ 16 + status * 2 ^ 16 + c.op * 2 ^ 24, c.idx, w6, w7])

/-- Every descriptor of a FENCE's ring read before it has completed, under whichever enable it was read (13 R613). -/
def fenceDue (g : Ring) (f : CmdRef) : Bool := g.out.head? == some f

/-- A command completes; a FENCE of the ring that waited for it alone completes too (13 R613). -/
def complete (s : State) (c : CmdRef) (status w6 w7 : Nat) : State :=
  let s1 := complete1 s c status w6 w7
  let g := ringOf s1 c.ring
  match g.fences.find? (fenceDue g) with
  | some f => complete1 (setRing s1 c.ring { g with fences := g.fences.filter (· != f) }) f 0 0 0
  | none => s1

/-- A physical cluster. -/
def clOf (s : State) (p : Nat) : Cluster := smGet (dflt {}) s.clusters p

/-- Replace a physical cluster. -/
def setCl (s : State) (p : Nat) (c : Cluster) : State := putClusters s (smSet (dflt {}) s.clusters p c)

/-- Change a physical cluster. -/
def modCl (s : State) (p : Nat) (f : Cluster → Cluster) : State := setCl s p (f (clOf s p))

/-- Change every physical cluster (02: 144 of them). -/
def allCl (s : State) (f : Cluster → Cluster) : State := each (List.range 144) (fun p t => modCl t p f) s

/-- The physical cluster that holds a logical number (04 R225). -/
def physOf (s : State) (l : Nat) : Option Nat := (List.range 144).find? fun p => (clOf s p).logical == some l

/-- Change an execution's data. -/
def modExec (s : State) (f : Exec → Exec) : State := putSched s { s.sched with exec := f s.sched.exec }

/-- A context. -/
def ctxOf (s : State) (c : Nat) : Context := smGet (dflt {}) s.gener.ctxs c

/-- Replace a context. -/
def setCtx (s : State) (c : Nat) (x : Context) : State :=
  putGener s { s.gener with ctxs := smSet (dflt {}) s.gener.ctxs c x }

/-- Change a context. -/
def modCtx (s : State) (c : Nat) (f : Context → Context) : State := setCtx s c (f (ctxOf s c))

/-- A ledger field grows, saturating at 0xFFFF (09 R459). -/
def led16 (a n : Nat) : Nat := satAdd 16 a n

/-- Change the execution's ledger. -/
def modLed (s : State) (f : Ledger → Ledger) : State := modExec s fun e => { e with led := f e.led }

/-- Record an uncorrectable error in the execution's ledger (09 R458, R460, R463). -/
def ledUe (l : Ledger) (src stack cluster page addr : Nat) : Ledger :=
  let l1 := { l with uncorr := led16 l.uncorr 1 }
  if l.ueSrc = 0 then { l1 with ueSrc := src, ueStack := stack, ueCluster := cluster, uePage := page, ueAddr := addr } else l1

/-- The eight words of a ledger record (09 R463). -/
def ledWords (l : Ledger) : List Nat :=
  [lo32 l.step, hi32 l.step, l.uncorr + l.spill * 2 ^ 16, l.nonfinite + l.linkLate * 2 ^ 16,
   l.leanDrift + l.position * 2 ^ 16 + b2n l.runk * 2 ^ 24 + b2n l.stopped * 2 ^ 25 + l.stopCause * 2 ^ 26,
   l.ueSrc + l.ueStack * 8 + l.ueCluster * 64 + l.uePage * 2 ^ 14, lo32 l.ueAddr, hi32 l.ueAddr % 64]

/-- A ledger is clean (09 R461). -/
def ledClean (s : State) (l : Ledger) : Bool :=
  l.uncorr == 0 && l.linkLate == 0 && l.leanDrift == 0 && !l.stopped
    && (l.spill == 0 || rdB s Reg.ldgPolicy 0) && (l.nonfinite == 0 || rdB s Reg.ldgPolicy 1)

/-- This package's group position (07 R416). -/
def memberPos (s : State) : Nat := rdF s Reg.azlMember 7 0

/-- The number of logical clusters in use: the mapped ones (04 R224, 09 R476). -/
def mappedCount (s : State) : Nat := ((List.range 144).filter fun p => (clOf s p).logical.isSome).length

/-- The die is frozen by a hold window (04 R211). -/
def holdActive (s : State) : Bool := s.sched.freezes.any fun w => w.active

/-- The die is frozen, by a hold window or by the debug port (04 R211, 16). -/
def dieFrozen (s : State) : Bool := holdActive s || s.sched.halted

end Sys2Proof.Machine
end

