-- ==== Sys2Proof/Machine/Halt.lean ====
section
/-!
DEFINITION. Debug halts: which source is recorded, when a halt takes effect, and the breakpoints and watchpoints
that ask for one (16 R730 to R736).
-/
namespace Sys2Proof.Machine

/-- The order in which one of several sources for the same count is recorded (16 R732). -/
def haltKey (r : HaltRec) : Nat := (r.cause * 256 + r.cluster) * 4 + r.index

/-- Show a halt in the DBG registers; its own AT_EN clears, whatever is written in the same count (16 R730, R731, R745, 17 R756). -/
def showHalt (s : State) (r : HaltRec) : State :=
  let taint := b2n (rdB s Reg.dbgHaltStatus 4)
  let v := 1 + r.cause * 2 + taint * 16 + r.source * 32 + r.cluster % 256 * 2 ^ 8 + r.group % 8 * 2 ^ 16
    + r.index % 4 * 2 ^ 19
  let s1 := wr64 (wrN s Reg.dbgHaltStatus v) Reg.dbgHaltCountLo r.h
  let s2 := wrN (wrN s1 Reg.dbgHaltPc (r.pc % 2 ^ 20)) Reg.dbgHaltAddr r.addr
  if r.cause = 2 then wrB (noteHw s2 Reg.dbgHaltCtl 4) Reg.dbgHaltCtl 2 false else s2

/-- A halt takes effect: the die freezes from its count. A step is over with it; behind a halt of a higher cause the step may still end at the
same count (16 R730, R732, R746). -/
def takeHalt (s : State) (r : HaltRec) : State :=
  let d := { s.dbgp with halt := some r, stepMode := if 5 < r.cause then s.dbgp.stepMode else none, stepHaltAt := if 5 < r.cause then s.dbgp.stepHaltAt else none }
  let s1 := showHalt (putDbgp (putSched s { s.sched with halted := true }) d) r
  raiseEv s1 Reg.pageDbg 0x10 .block 0x06 0 0x0010 0
    [lo32 r.h, hi32 r.h, rdN s1 Reg.dbgHaltStatus, rdN s1 Reg.dbgHaltPc]

/-- A halt source fires for a count: while the die is halted it is not recorded; of several for one count the lowest is
(16 R732). A halt for the present count takes effect at once, one for the next count when it is reached. -/
def fireHalt (s : State) (r : HaltRec) : State :=
  if s.sched.halted then
    match s.dbgp.halt with
    | some o => if o.h = r.h ∧ haltKey r < haltKey o then showHalt (putDbgp s { s.dbgp with halt := some r }) r else s
    | none => s
  else if r.h ≤ s.count then takeHalt s r
  else match s.dbgp.halt with
    | some o => if o.h = r.h ∧ haltKey r < haltKey o then putDbgp s { s.dbgp with halt := some r } else s
    | none => putDbgp s { s.dbgp with halt := some r }

/-- The pending halt of a count that has been reached (16 R730). -/
def haltDue (s : State) : State :=
  match s.dbgp.halt with
  | some r => if !s.sched.halted && decide (r.h ≤ s.count) then takeHalt s r else s
  | none => s

/-- A comparator's cluster filter: ALL, or the logical number (16 R735, R736). -/
def filterHit (all : Bool) (want l : Nat) : Bool := all || want == l

/-- The lowest breakpoint comparator that matches (16 R735). -/
def bkptHit (s : State) (l n : Nat) : Option Nat :=
  (List.range 4).find? fun b =>
    let w := rdReg s (Reg.dbgBkpt + 4 * b)
    rbit w 25 && rfld w 15 0 == n && filterHit (rbit w 24) (rfld w 23 16) l

/-- An access matches a watchpoint's kind (16 R736). -/
def kindHit (kind sort : Nat) : Bool :=
  (kind == 0 && sort == 0) || (kind == 1 && decide (sort ≤ 1)) || (kind == 2 && sort == 2)

/-- The first address of an access that a watchpoint's range holds (16 R736). -/
def rangeHit (lo hi a n : Nat) : Option Nat :=
  let x := max lo a
  if x ≤ hi ∧ x < a + n then some x else none

/-- What a watchpoint sees of a list of accesses. -/
def wpSees (s : State) (l w : Nat) (ts : List (Nat × Nat × Nat)) : Option (Nat × Nat) :=
  let c := rdReg s (Reg.dbgWpCtl + 16 * w)
  let lo := rdN s (Reg.dbgWpLo + 16 * w)
  let hi := rdN s (Reg.dbgWpHi + 16 * w)
  if rbit c 17 && filterHit (rbit c 16) (rfld c 15 8) l then
    ts.findSome? fun t => if kindHit (rfld c 1 0) t.1 then (rangeHit lo hi t.2.1 t.2.2).map fun a => (t.1, a) else none
  else none

/-- Watchpoints over a cluster's accesses: each match fires a halt of the next count (16 R731, R736). -/
def watch (s : State) (l g pc source : Nat) (ts : List (Nat × Nat × Nat)) : State :=
  each (List.range 4) (fun w s => match wpSees s l w ts with
    | some (sort, a) => fireHalt s { h := s.count + 1, cause := 4, cluster := l, group := if source = 1 then 0 else g,
                                     index := w, source := if sort = 2 then 2 else source, pc := pc, addr := a }
    | none => s) s

/-- A breakpoint instruction (03 R198, 16 R735). -/
def breakAt (s : State) (l : Nat) (b : Option (Nat × Nat × Nat)) : State :=
  match b with
  | none => s
  | some (n, g, pc) => match bkptHit s l n with
    | some i => fireHalt s { h := s.count + 1, cause := 3, cluster := l, group := g, index := i, pc := pc }
    | none => s

/-- Stepping by instructions counts the issues of one group (16 R734). -/
def stepIssue (s : State) (l g : Nat) (issued : Bool) : State :=
  if issued && s.dbgp.stepMode == some 1 && rdF s Reg.dbgStep 15 8 == l && rdF s Reg.dbgStep 18 16 == g then
    if s.dbgp.stepLeft ≤ 1 then fireHalt (putDbgp s { s.dbgp with stepLeft := 0 }) { h := s.count + 1, cause := 5 }
    else putDbgp s { s.dbgp with stepLeft := s.dbgp.stepLeft - 1 }
  else s

end Sys2Proof.Machine
end

