-- ==== Sys2Proof/Config.lean ====
section
/-!
DEFINITION. What the spec leaves open and the machine goes on with: opaque free values, none with a body.
Each is named in the assumption log.
-/
namespace Sys2Proof

/-- The three low bits of a lean product at the lean point (01 R68): execution-order draw, product index. -/
opaque Config.leanBits : Nat → Nat → BitVec 3

/-- Logit v of a session's next token (06 R349; the model image computes them): image identity, epoch, what foreign writes have made of
the image and of the session's rows, the session's tokens so far with the head and the class of each, whether the exit head gives the
token, what keeps this step out of the exact class (0 for nothing), v. Neither the batch, the split of a prompt, the pages,
the group nor the member is among them (00 R3, R4, 05 R263, R266, R276). -/
opaque Config.logit : Nat → Nat → Nat × Nat → List (Nat × Bool × Nat) → Bool → Nat → Nat → BitVec 16

/-- The NCL that the slice of a group position names: image identity, position (07 R378, cause 6). -/
opaque Config.sliceNcl : Nat → Nat → Nat

/-- The part of the longest control path beyond this package's own link: image identity (07 R392; only the other
members measure it). -/
opaque Config.ctlTail : Nat → Nat

/-- The status that an entry site returns for a command it forwards: the command's sixteen words (07 R414). -/
opaque Config.siteStatus : List Nat → BitVec 8

/-- The result word that an entry site returns for an OPEN_SESSION or APPEND_PROMPT that it forwards, before it is cut to the field's
width: no frame carries the entry's (07 R414, 13 R616): the command's sixteen words. -/
opaque Config.siteWord : List Nat → BitVec 32

/-- What the supplies' sensors read of VCORE and VMTX, in millivolts, at a sample (15 R713): draw, supply. -/
opaque Config.sense : Nat → Bool → BitVec 16

/-- What an entry of a divergence stack holds that a debug write of the depth adds (16 R737): draw, word. -/
opaque Config.divWord : Nat → Nat → BitVec 64

/-- The nonces of the on-die entropy source (16 R727): draw, word. -/
opaque Config.nonce : Nat → Nat → BitVec 32

/-- The steering the PLL loop takes (15 R695): old steering, offset, counts since the last measurement. -/
opaque Config.steer : Nat → Int → Nat → Int

/-- Whether a persistent write that a reset interrupts has landed (14 R657): draw. -/
opaque Config.torn : Nat → Bool

/-- How many 64-byte units of the spill stream host memory gives in a count (08 R432): count. -/
opaque Config.spillPace : Nat → Nat

/-- Whether an HBC still corrects an error in a logged unit that it reads again (09 R457): draw, address. -/
opaque Config.reread : Nat → Nat → Bool

/-- What a failed persistent write leaves in the copy that it programmed; none when that copy is not valid (14 R660): register, old value, new
value, draw. -/
opaque Config.readBack : Nat → BitVec 32 → BitVec 32 → Nat → Option (BitVec 32)

/-- A byte of a save area that the spec gives no layout for: held schedule cycle, offset in the area (08 R451, R454). -/
opaque Config.saveByte : Nat → Nat → BitVec 8

/-- The positions with unclean ledgers that a member shows in ROLLBACK: the VERDICT frame does not carry them (07 R370,
R419): step. -/
opaque Config.uncleanMask : Nat → BitVec 32

/-- A comparator's decision within its offset, or while AVDD is out of range (12 R551, R578): draw, comparator. -/
opaque Config.comparator : Nat → Nat → Bool

/-- The counts from a trip to PG.TRIP_AT, before they are bounded (12 R559, R560): draw. -/
opaque Config.tripLag : Nat → Nat

/-- The pins of the boundary register that no block of the model drives: QSPI, PPS_IN, PERST_N (16 R719): draw. -/
opaque Config.pins : Nat → BitVec 52

end Sys2Proof
end

