-- ==== Sys2Proof/Machine/Kcg.lean ====
section
/-!
DEFINITION. The keyed counter generator (05 R271 to R275) and the digest fold (05 R295, R299).
-/
namespace Sys2Proof.Machine

/-- Rotate a 64-bit word left (05 R274). -/
def rotl64 (v : BitVec 64) (n : Nat) : BitVec 64 := v.rotateLeft n

/-- The key constant KC (05 R274). -/
def kcgKC : BitVec 64 := 0x6C8E9CF570932BD5

/-- The rotation amounts by round (05 R274). -/
def kcgRot : List Nat := [24, 44, 8, 36, 52, 16, 28, 4, 48, 20, 40, 12]

/-- The key schedule: k0, k1, k2 (05 R274). -/
def kcgKey (key : BitVec 128) (j : Nat) : BitVec 64 :=
  let k0 := key.setWidth 64
  let k1 := (key >>> 64).setWidth 64
  if j = 0 then k0 else if j = 1 then k1 else (kcgKC + k0) ^^^ rotl64 k1 32

/-- One round, with its key injection after every fourth (05 R274). -/
def kcgRound (key : BitVec 128) (x : BitVec 64 × BitVec 64) (r : Nat) : BitVec 64 × BitVec 64 :=
  let x1 := rotl64 (x.2 ^^^ x.1) (nthN kcgRot r)
  let x0 := x.1 + x1
  if r % 4 = 3 then
    let j := (r + 1) / 4
    (x0 ^^^ kcgKey key (j % 3), x1 + kcgKey key ((j + 2) % 3) + BitVec.ofNat 64 j)
  else (x0, x1)

/-- The keyed counter generator (05 R274). -/
def kcg (key ctr : BitVec 128) : BitVec 128 :=
  let x := (List.range 12).foldl (kcgRound key)
    (ctr.setWidth 64 ^^^ kcgKey key 0, (ctr >>> 64).setWidth 64 + kcgKey key 1)
  x.2 ++ x.1

/-- The counter of a model image's draw (05 R271). -/
def kcgCounter (element stream token session : Nat) : BitVec 128 :=
  BitVec.ofNat 128 (element % 2 ^ 48 + (stream % 2 ^ 16) * 2 ^ 48 + (token % 2 ^ 48) * 2 ^ 64
    + (session % 2 ^ 16) * 2 ^ 112)

/-- DIG_INIT (05 R295). -/
def digInit : Nat := 0x6A5D39E2C4178B05

/-- The digest fold (05 R295). -/
def digFold (d v : Nat) : Nat :=
  let t := ((d ^^^ (v % 2 ^ 32)) * 0xC3A59E174B2D6F0B) % 2 ^ 64
  t ^^^ (t >>> 29)

/-- Fold a list of words (05 R295). -/
def digFoldAll (d : Nat) (ws : List Nat) : Nat := ws.foldl digFold d

/-- The four words of one committed token in the step digest (05 R299). -/
def stepDigWords (session index token : Nat) (exited : Bool) : List Nat :=
  [session % 2 ^ 16 + b2n exited * 2 ^ 16, index % 2 ^ 32, (index / 2 ^ 32) % 2 ^ 16, token % 2 ^ 32]

end Sys2Proof.Machine
end

