-- ==== Sys2Proof/Machine/ClusterOps.lean ====
section
/-!
DEFINITION. What one cluster does to itself: registers, divergence, issue and the scoreboard, unit order,
barriers, caches and landing (02 R73 to R130). Effects on the package are answered as a `CEff`.
-/
namespace Sys2Proof.Machine

/-- What a cluster sees of the package when it acts. -/
structure CEnv where
  count : Nat
  lcl : Nat
  ncl : Nat
  nDma : Nat
  nNet : Nat
  done : List (Bool × Nat)
  lean : Bool
  seq : Nat
  sampLog : Nat
  draw : Nat
deriving DecidableEq, Repr

/-- What a cluster's action does to the package: ledger counts, ECC outcomes, a fault, the exact class, a breakpoint
(number, group, address), the accesses watchpoints see (0 scratchpad write, 1 scratchpad read, 2 Peat write; address;
length) with the group and address of the instruction that makes them. -/
structure CEff where
  spill : Nat := 0
  nonfinite : Nat := 0
  ue : Option (Nat × Nat) := none
  ce : Nat := 0
  fault : Option ClFault := none
  vary : Bool := false
  bkpt : Option (Nat × Nat × Nat) := none
  touch : List (Nat × Nat × Nat) := []
  by_ : Nat × Nat := (0, 0)
  drawn : Nat := 0
  sampled : Nat := 0
  issued : Bool := false
deriving DecidableEq, Repr

/-- All 32 lanes. -/
def allLanes : BitVec 32 := BitVec.allOnes 32

/-- The lanes of a mask in ascending order. -/
def maskLanes (m : BitVec 32) : List Nat := (List.range 32).filter fun l => m.getLsbD l

/-- A lane register; cleared registers are unlisted (02 R77). -/
def rdLane (c : Cluster) (g r l : Nat) : Word := smGet (dflt 0) c.lanes ((g * 256 + r) * 32 + l)

/-- A uniform register; u0 reads as zero (02 R78). -/
def rdUni (c : Cluster) (g r : Nat) : Word := if r = 0 then 0 else smGet (dflt 0) c.unis (g * 64 + r)

/-- A predicate over the lanes; p0 reads as true (02 R78). -/
def rdPred (c : Cluster) (g p : Nat) : BitVec 32 := if p = 0 then allLanes else smGet (dflt 0) c.preds (g * 8 + p)

/-- A Peat register. -/
def rdPeat (c : Cluster) (q : Nat) : Peat := smGet (dflt 0) c.peat q

/-- Write a lane register. -/
def wrLane (c : Cluster) (g r l : Nat) (v : Word) : Cluster :=
  { c with lanes := smSet (dflt 0) c.lanes ((g * 256 + r) * 32 + l) v }

/-- Write a uniform register; a write to u0 is discarded (02 R78). -/
def wrUni (c : Cluster) (g r : Nat) (v : Word) : Cluster :=
  if r = 0 then c else { c with unis := smSet (dflt 0) c.unis (g * 64 + r) v }

/-- Write a predicate of one lane; a write to p0 is discarded (02 R78). -/
def wrPred (c : Cluster) (g p l : Nat) (b : Bool) : Cluster :=
  if p = 0 then c
  else
    let m := BitVec.ofNat 32 (1 <<< l)
    { c with preds := smSet (dflt 0) c.preds (g * 8 + p)
              (if b then rdPred c g p ||| m else rdPred c g p &&& ~~~ m) }

/-- Write a Peat register. -/
def wrPeat (c : Cluster) (q : Nat) (v : Peat) : Cluster := { c with peat := smSet (dflt 0) c.peat q v }

/-- Write a landed result. -/
def wrDst (c : Cluster) (g : Nat) (w : Dst × Word) : Cluster :=
  match w.1 with
  | .lane r l => wrLane c g r l w.2
  | .uni r => wrUni c g r w.2
  | .pred p l => wrPred c g p l (rbit w.2 0)

/-- The group's record. -/
def grp (c : Cluster) (g : Nat) : Group := nth c.groups g {}

/-- Change a group's record. -/
def modGrp (c : Cluster) (g : Nat) (f : Group → Group) : Cluster := { c with groups := listMod f c.groups g }

/-- Lanes that take part under a guard (03 R144, R145). -/
def guardLanes (c : Cluster) (g : Nat) (gd : Guard) : BitVec 32 :=
  let m := rdPred c g gd.p.val
  (grp c g).active &&& (if gd.neg then ~~~ m else m)

/-- The registers a guard reads; p0 is always ready (02 R78, R87). -/
def guardSrc (gd : Guard) : List RegId := if gd.p.val = 0 then [] else [.p gd.p.val]

/-- What the scoreboard tracks: u0 and p0 are never written (02 R78). -/
def tracked : RegId → Bool
  | .v _ => true
  | .u r => r != 0
  | .p r => r != 0

/-- A run of lane registers. -/
def vRun (r n : Nat) : List RegId := (List.range n).map fun i => .v (r + i)

/-- No earlier instruction of the group still has to land one of these (02 R87). -/
def regsReady (c : Cluster) (g : Nat) (rs : List RegId) : Bool :=
  c.flights.all fun f => f.g != g || !(f.dsts.any fun d => tracked d && rs.contains d)

/-- Two uses share a unit. -/
def sameUnit (a b : UnitUse) : Bool :=
  match a, b with
  | .sfu, .sfu => true
  | .mma, .mma => true
  | .gport, .gport => true
  | .gport, .both => true
  | .both, .gport => true
  | .peat, .peat => true
  | .peat, .both => true
  | .both, .peat => true
  | .both, .both => true
  | _, _ => false

/-- No earlier instruction of the group for the same unit is still to start (02 R87). -/
def unitReady (c : Cluster) (g : Nat) (u : UnitUse) : Bool :=
  c.flights.all fun f => f.g != g || f.started || !(sameUnit f.use u)

/-- Where a group goes after an instruction issues (02 R80 to R85, 03 R152). -/
inductive Jump where
  | next
  | goto (pc : Nat)
  | diverge (fixed : Bool) (taken : BitVec 32) (target reconv : Nat)
  | leave (lanes : BitVec 32)
deriving DecidableEq, Repr

/-- What an instruction does at its issue. -/
structure Act where
  srcs : List RegId := []
  dsts : List RegId := []
  job : Job := .value
  use : UnitUse := .free
  lat : Nat := 8
  mask : BitVec 32 := 0
  faults : List (Nat × Nat × Nat) := []
  emptyFaults : Bool := false
  writes : List (Dst × Word) := []
  addrs : List (Nat × Nat) := []
  vals : List Nat := []
  reads : List (Nat × Nat) := []
  ranges : List (Nat × Nat) := []
  frag : List (List Nat) := []
  jump : Jump := .next
  wait : Wait := .none
  fill : Option Nat := none
  ocMiss : Bool := false
  digest : Option Nat := none
  buf : Option (Nat × MFmt) := none
  lean : Bool := false
  eff : CEff := {}

/-- The instruction may wait no longer than its word and its slot, of which a cycle has one (02 R86, R98; 03 R206). -/
def atSlot (c : Cluster) (st : Site) (w : Option Instr) : Bool :=
  let gr := grp c st.g.val
  c.st == .running && c.kcyc % 8 == st.g.val && c.issuedAt != some c.kcyc && gr.started && !gr.finished
    && (gr.wait == .none || (match gr.wait with | .til t => t ≤ c.kcyc | _ => false))
    && (match gr.held with | some x => decide (decodeWord st x = w) | none => false)

/-- The conditions of R87 at the group's slot. -/
def issuable (c : Cluster) (st : Site) (i : Instr) (a : Act) : Bool :=
  atSlot c st (some i) && regsReady c st.g.val (a.srcs ++ a.dsts) && unitReady c st.g.val a.use

/-- Leave finished paths and reconverge; costs no slot (02 R80, R84, R85). -/
def settle : Nat → Group → Group
  | 0, gr => gr
  | n + 1, gr =>
    match gr.stack with
    | [] => gr
    | e :: rest =>
      if gr.pc = e.reconv ∨ (gr.active = 0 ∧ e.fixed = false) then
        if e.onTaken then
          settle n { gr with stack := rest, pc := e.reconv, active := gr.active ||| e.joined }
        else
          settle n { gr with stack := { e with onTaken := true, joined := gr.active } :: rest,
                             pc := e.takenPc, active := e.taken }
      else gr

/-- The group after an instruction's control effect, its word consumed. -/
def advance (gr : Group) (j : Jump) : Group :=
  let b := { gr with held := none, lastPc := gr.pc, regEcc := .clean }
  let g1 :=
    match j with
    | .next => { b with pc := gr.pc + 8 }
    | .goto t => { b with pc := t }
    | .diverge fixed taken target reconv =>
      { b with pc := gr.pc + 8, active := gr.active &&& ~~~ taken,
               stack := ⟨reconv, target, taken, 0, false, fixed⟩ :: gr.stack }
    | .leave ls =>
      { b with pc := gr.pc + 8, active := gr.active &&& ~~~ ls, exited := gr.exited ||| ls,
               stack := gr.stack.map fun e => { e with taken := e.taken &&& ~~~ ls, joined := e.joined &&& ~~~ ls } }
  settle (2 * g1.stack.length + 1) g1

/-- All lanes have exited and no path runs on (02 R84; DEDUCED, log 9). -/
def laneless (gr : Group) : Bool := gr.exited == allLanes && gr.stack.isEmpty

/-- The group has no instruction in flight. -/
def drained (c : Cluster) (g : Nat) : Bool := c.flights.all fun f => f.g != g

/-- Started groups that have not finished. -/
def openGroups (c : Cluster) : List (Nat × Group) :=
  ((List.range 8).map fun g => (g, grp c g)).filter fun x => x.2.started && !x.2.finished

/-- Group waits that the completions so far end (02 R124, R127). -/
def ripen (c : Cluster) (g : Nat) (gr : Group) : Group :=
  if drained c g then
    match gr.wait with
    | .barg t => { gr with wait := .til (max t c.kcyc + 8) }
    | .barc id t none => { gr with wait := .barc id t (some (max t c.kcyc)) }
    | _ => if laneless gr then { gr with finished := true } else gr
  else gr

/-- The arrivals at cluster barriers, with their cycles. -/
def arrivals (c : Cluster) : List (Nat × Nat × Nat) :=
  (openGroups c).filterMap fun x =>
    match x.2.wait with
    | .barc id _ (some t) => some (x.1, id, t)
    | _ => none

/-- The group that R130 names: latest arrival, lowest number. -/
def lastArrival : List (Nat × Nat × Nat) → Nat × Nat × Nat
  | [] => (0, 0, 0)
  | x :: xs =>
    let r := lastArrival xs
    if xs.isEmpty || decide (r.2.2 ≤ x.2.2) then x else r

/-- Complete a cluster barrier, or answer the deadlock of R130 (02 R126, R128, R130). -/
def settleBarrier (c : Cluster) : Cluster × Option ClFault :=
  let gs := openGroups c
  let ar := arrivals c
  if gs.isEmpty || ar.length != gs.length then (c, none)
  else
    let id := (ar.map fun x => x.2.1).headD 0
    if ar.all fun x => x.2.1 == id then
      ({ c with groups := c.groups.map fun gr =>
          match gr.wait with
          | .barc _ _ (some _) => { gr with wait := .til (c.kcyc + 8) }
          | _ => gr }, none)
    else
      let w := lastArrival ar
      (c, some { code := 8, group := w.1, lane := 0, pc := (grp c w.1).lastPc, addr := 0, kcyc := c.kcyc })

/-- Re-examine waits, finishes and barriers after a completion or an issue. -/
def settleWaits (c : Cluster) : Cluster × Option ClFault :=
  settleBarrier { c with groups := (c.groups.zipIdx).map fun x => if x.1.started then ripen c x.2 x.1 else x.1 }

/-- The recorded fault of several: lowest code, then lowest lane (03 R204). -/
def pickFault : List (Nat × Nat × Nat) → Option (Nat × Nat × Nat)
  | [] => none
  | x :: xs =>
    match pickFault xs with
    | none => some x
    | some y => if y.1 < x.1 ∨ (y.1 = x.1 ∧ y.2.1 < x.2.1) then some y else some x

/-- The flight an issue starts (02, issue table). -/
def mkFlight (c : Cluster) (g : Nat) (a : Act) : Flight where
  g := g
  pc := (grp c g).pc
  job := a.job
  use := a.use
  issueAt := c.kcyc
  started := a.use == .free
  startAt := c.kcyc
  readyAt := c.kcyc + a.lat
  occ := 1
  mask := a.mask
  dsts := a.dsts
  writes := a.writes
  addrs := a.addrs
  vals := a.vals
  reads := a.reads
  ranges := a.ranges
  frag := a.frag
  acc := []
  stores := []
  live := decide ((grp c g).active ≠ 0)

/-- A line of the scratchpad (02 R97). -/
def lineBytes (c : Cluster) (line : Nat) : List Byte := memRange c.spad (line * 64) 64

/-- Start a fill of a line: the line at that index is displaced (02 R97, R100). Its bytes are read at the end of this cycle (`refill`). -/
def startFill (c : Cluster) (oc : Bool) (line : Nat) : Cluster :=
  let c1 := { c with fills := c.fills ++ [({ oc := oc, line := line, bytes := lineBytes c line, doneAt := c.kcyc + 24 } : Fill)] }
  if oc then { c1 with oc := smSet (dflt none) c.oc (line % 256) none }
  else { c1 with ic := smSet (dflt none) c.ic (line % 512) none }

/-- A missed line starts to fill (02 R97). -/
def actFill (a : Act) (c : Cluster) : Cluster :=
  match a.fill with
  | some l => startFill c true l
  | none => c

/-- DIGEST folds at its issue (03 R199). -/
def actDigest (a : Act) (c : Cluster) : Cluster :=
  match a.digest with
  | some d => { c with digest := d }
  | none => c

/-- MLD records its format at its issue (03 R177). -/
def actBuf (a : Act) (c : Cluster) : Cluster :=
  match a.buf with
  | some (b, fmt) => { c with sbufs := listMod (fun sb => { sb with fmt := some fmt }) c.sbufs b }
  | none => c

/-- A lean MMA takes the next index (05 R281). -/
def actLean (a : Act) (c : Cluster) : Cluster := if a.lean then { c with leanIdx := c.leanIdx + 1 } else c

/-- An operand-cache miss counts (02 R135). -/
def actMiss (a : Act) (c : Cluster) : Cluster := if a.ocMiss then { c with ocMiss := c.ocMiss + 1 } else c

/-- The act's local effects beside its flight. -/
def applyAct (c : Cluster) (g : Nat) (a : Act) : Cluster :=
  modGrp (actMiss a (actLean a (actBuf a (actDigest a (actFill a c))))) g fun gr => { gr with wait := a.wait }

/-- Whether a flight is kept for the instruction: it has a unit, a result or an effect to land (02 R84). -/
def keepsFlight (a : Act) : Bool := a.use != .free || !a.dsts.isEmpty

/-- Issue an instruction: unchanged while it cannot issue, its fault, or its effects (02 R86, R87, R131). -/
def issueIns (c : Cluster) (st : Site) (i : Instr) (a : Act) : Cluster × CEff :=
  let g := st.g.val
  if issuable c st i a then
    let live := (grp c g).active ≠ 0
    match (if live ∨ a.emptyFaults = true then pickFault a.faults else none) with
    | some (code, lane, addr) =>
      (c, { fault := some { code := code, group := g, lane := lane, pc := (grp c g).pc, addr := addr, kcyc := c.kcyc },
            ce := a.eff.ce, ue := a.eff.ue })
    | none =>
      let c1 := if keepsFlight a then { c with flights := c.flights ++ [mkFlight c g a] } else c
      let c2 := applyAct c1 g a
      let c3 := modGrp c2 g fun gr => advance gr a.jump
      let (c4, flt) := settleWaits c3
      ({ c4 with issuedAt := some c.kcyc }, { a.eff with fault := flt, issued := true })
  else (c, {})

/-- An illegal word faults at its first slot after its fetch, waiting for nothing (03 R206). -/
def issueIllegal (c : Cluster) (st : Site) : Cluster × CEff :=
  if atSlot c st none then
    (c, { fault := some { code := 1, group := st.g.val, lane := 0, pc := (grp c st.g.val).pc, addr := 0, kcyc := c.kcyc } })
  else (c, {})

/-- A group may fetch: it runs, holds no word and waits for nothing (02 R98). The spec names no fetch cycle: DESIGN CHOICE (log 23),
a group fetches in a cycle of its own slot, that of its last issue included. -/
def mayFetch (c : Cluster) (g : Nat) : Bool :=
  let gr := grp c g
  c.st == .running && c.kcyc % 8 == g && gr.started && !gr.finished && !(laneless gr) && gr.held.isNone
    && (match gr.wait with | .none => true | .til t => t ≤ c.kcyc | _ => false)

/-- The 64-bit word of a line at an address (03 R136). -/
def lineWord (bytes : List Byte) (addr : Nat) : Nat := leNat ((bytes.drop (addr % 64)).take 8)

/-- Fetch the group's next word through the instruction cache (02 R96 to R98, 03 R137). -/
def fetchWord (c : Cluster) (g : Nat) : Cluster × Option ClFault :=
  let gr := grp c g
  if mayFetch c g then
    if gr.pc ≥ 0x100000 then
      (c, some { code := 2, group := g, lane := 0, pc := gr.lastPc, addr := 0x100000, kcyc := c.kcyc })
    else
      let line := gr.pc / 64
      match smGet (dflt none) c.ic (line % 512) with
      | some cl =>
        if cl.line = line then (modGrp c g fun r => { r with held := some (lineWord cl.bytes gr.pc), wait := .none }, none)
        else
          let c1 := { c with icMiss := c.icMiss + 1 }
          let c2 := if c.fills.any fun f => !f.oc && f.line == line then c1 else startFill c1 false line
          (modGrp c2 g fun r => { r with wait := .fill line }, none)
      | none =>
        let c1 := { c with icMiss := c.icMiss + 1 }
        let c2 := if c.fills.any fun f => !f.oc && f.line == line then c1 else startFill c1 false line
        (modGrp c2 g fun r => { r with wait := .fill line }, none)
  else (c, none)

/-- The due fill of an index. -/
def dueFill (c : Cluster) (oc : Bool) (idx : Nat) : Option Fill :=
  c.fills.find? fun f => f.oc == oc && f.line % (if oc then 256 else 512) == idx && decide (f.doneAt ≤ c.kcyc)

/-- The cache line of a constant load. -/
def flightLine (f : Flight) : Nat :=
  match f.job with
  | .uldc _ _ ad => ad / 64
  | _ => 0

/-- A constant load that found its line being filled, or started the fill (02 R97, R761). -/
def missed (x : Fill) (f : Flight) : Bool :=
  match f.job with
  | .uldc _ _ ad => x.oc && ad / 64 == x.line && decide (x.doneAt ≤ f.issueAt + 24)
  | _ => false

/-- The registers a constant load writes from the bytes of its line (03 R188, R189). -/
def uldcWrites (x64 : Bool) (d ad : Nat) (bytes : List Byte) : List (Dst × Word) :=
  let v := leNat ((bytes.drop (ad % 64)).take (if x64 then 8 else 4))
  if x64 then [(.uni d, w32 v), (.uni (d + 1), w32 (v / 2 ^ 32))] else [(.uni d, w32 v)]

/-- A constant load takes its value from a line. -/
def uldcTake (f : Flight) (bytes : List Byte) : Flight :=
  match f.job with
  | .uldc x64 d ad => { f with writes := uldcWrites x64 d ad bytes }
  | _ => f

/-- A fill reads its line in its first cycle, after the group port and the stream port; the ULDCs that missed in that cycle take their
value from it (02 R95, R97). -/
def refill (c : Cluster) : Cluster :=
  let now := c.fills.filter fun f => !f.read
  if now.isEmpty then c
  else
    { c with
      fills := c.fills.map fun f => if f.read then f else { f with bytes := lineBytes c f.line, read := true }
      flights := c.flights.map fun f => if now.any (fun x => x.oc && missed x f) then uldcTake f (lineBytes c (flightLine f)) else f }

/-- A fill completes with its ECC outcome: its line is usable, the groups stalled on it hold their word, and an uncorrectable read
reaches the ULDCs that wait for the line (02 R97 to R100, 09 R458). -/
def fillDone (c : Cluster) (oc : Bool) (idx : Nat) (flip : List Byte → List Byte) : Cluster :=
  match dueFill c oc idx with
  | none => c
  | some f0 =>
    let f := { f0 with bytes := flip f0.bytes }
    let fills := c.fills.filter fun x => x != f0
    let later := fills.any fun x => x.oc == oc && x.line % (if oc then 256 else 512) == idx
    let c1 := { c with fills := fills }
    let c2 := if later then c1
      else if oc then { c1 with oc := smSet (dflt none) c.oc idx (some ⟨f.line, f.bytes⟩) }
      else { c1 with ic := smSet (dflt none) c.ic idx (some ⟨f.line, f.bytes⟩) }
    if oc then { c2 with flights := c2.flights.map fun x => if missed f x then uldcTake x f.bytes else x }
    else { c2 with groups := c2.groups.map fun gr =>
            if gr.wait = .fill f.line then { gr with held := some (lineWord f.bytes gr.pc), wait := .none } else gr }

/-- The lines an access of n bytes touches. -/
def accLines (n a : Nat) : List Nat := (List.range ((a + n - 1) / 16 - a / 16 + 1)).map fun i => a / 16 + i

/-- The parts of an access of n bytes by one lane or slice, one for each 16-byte line. -/
def linePieces (who a n : Nat) : List Piece :=
  (accLines n a).map fun l =>
    let lo := max a (16 * l)
    { cyc := 0, who := who, addr := lo, off := lo - a, len := min (a + n) (16 * l + 16) - lo }

/-- Lines requested from one bank are served one per cycle (02 R92), in the order in which the lanes or slices name them (DESIGN
CHOICE, log 21). -/
def byLine (ps : List Piece) : List Piece :=
  let ls := (ps.map fun p => p.addr / 16).eraseDups
  ps.map fun p => { p with cyc := (ls.filter fun l => l % 64 == p.addr / 16 % 64).idxOf (p.addr / 16) }

/-- The lanes of one bank are served in ascending order, one per cycle (02 R117, R118). -/
def byLane : List Piece → List Piece → List Piece
  | _, [] => []
  | pre, p :: ps => { p with cyc := pre.countP fun q => q.addr / 16 % 64 == p.addr / 16 % 64 } :: byLane (pre ++ [p]) ps

/-- The largest number of distinct lines in any one bank, at least 1 (02 R92). -/
def occLines (lines : List Nat) : Nat :=
  let ls := lines.eraseDups
  max 1 (maxN ((List.range 64).map fun b => ls.countP fun x => x % 64 == b))

/-- Two ranges of Peat registers overlap (02 R111). -/
def rangesMeet (xs ys : List (Nat × Nat)) : Bool :=
  xs.any fun x => ys.any fun y => decide (x.1 < y.1 + y.2) && decide (y.1 < x.1 + x.2)

/-- Every Peat register of each range exists (02 R112). -/
def peatRangeOk (rs : List (Nat × Nat)) : Bool := rs.all fun r => decide (r.1 + r.2 ≤ 4096)

/-- An address fault of one access: range first, then alignment (02 R91, 03 R203). -/
def accFaults (n al : Nat) (lane a : Nat) : List (Nat × Nat × Nat) :=
  (if a + n > 0x100000 then [(2, lane, a)] else []) ++ (if a % al ≠ 0 then [(3, lane, a)] else [])

end Sys2Proof.Machine
end

