-- ==== Sys2Proof/Machine/Num.lean ====
section
/-!
DEFINITION. The number formats and exact arithmetic of 01: floating decode and encode, the vector unit's
IEEE operations, Peat flooring, spill, wire width and conversion out of Peat.
-/
namespace Sys2Proof.Machine

/-- A decoded floating value; a finite value is ±m × 2^k (01 R25). -/
inductive Fp where
  | nan
  | inf (neg : Bool)
  | fin (neg : Bool) (m : Nat) (k : Int)
deriving DecidableEq, Repr

/-- A floating format by its field widths. -/
structure FpFmt where
  eb : Nat
  fb : Nat
deriving DecidableEq, Repr

/-- S32 and H16 (01 R25). -/
def s32Fmt : FpFmt := ⟨8, 23⟩
def h16Fmt : FpFmt := ⟨5, 10⟩

/-- The weight of a format's least subnormal: -149 for S32, -24 for H16 (01 R25). -/
def FpFmt.lsbMin (f : FpFmt) : Int := 2 - (2 ^ (f.eb - 1) : Nat) - f.fb

/-- Decode a word of a format (01 R25). -/
def fpDec (f : FpFmt) (w : Nat) : Fp :=
  let fr := w % 2 ^ f.fb
  let e := (w >>> f.fb) % 2 ^ f.eb
  let neg := bitN w (f.eb + f.fb)
  if e = 2 ^ f.eb - 1 then (if fr = 0 then .inf neg else .nan)
  else if e = 0 then .fin neg fr f.lsbMin
  else .fin neg (2 ^ f.fb + fr) (f.lsbMin + (e : Int) - 1)

/-- The default NaN (01 R26). -/
def fpNan (f : FpFmt) : Nat := ((2 ^ f.eb - 1) <<< f.fb) + 2 ^ (f.fb - 1)

/-- A signed infinity. -/
def fpInf (f : FpFmt) (neg : Bool) : Nat := (b2n neg <<< (f.eb + f.fb)) + ((2 ^ f.eb - 1) <<< f.fb)

/-- A signed zero. -/
def fpZero (f : FpFmt) (neg : Bool) : Nat := b2n neg <<< (f.eb + f.fb)

/-- a × 2^-sh rounded to nearest, ties to even (01, rne_shift). -/
def rneShift (a : Nat) (sh : Int) : Nat :=
  if sh ≤ 0 then a <<< (-sh).toNat
  else
    let n := sh.toNat
    let r := a >>> n
    let rem := a - (r <<< n)
    let half := 2 ^ (n - 1)
    if half < rem ∨ (rem = half ∧ r % 2 = 1) then r + 1 else r

/-- Round |v| × 2^k to a significand of at most p bits (01, round_to_float): the lsb weight and the significand. -/
def roundToFloat (a : Nat) (k : Int) (p : Nat) (lsbMin : Int) : Int × Nat :=
  if a = 0 then (lsbMin, 0)
  else
    let e := k + (bitlen a : Int) - 1
    let lsb := max (e - p + 1) lsbMin
    let m := rneShift a (lsb - k)
    if m = 2 ^ p then (lsb + 1, 2 ^ (p - 1)) else (lsb, m)

/-- Encode ±a × 2^k with IEEE overflow, keeping the given sign (01 R55, enc_s32). -/
def fpEnc (f : FpFmt) (neg : Bool) (a : Nat) (k : Int) : Nat :=
  let (lsb, m) := roundToFloat a k (f.fb + 1) f.lsbMin
  let sg := fpZero f neg
  if m < 2 ^ f.fb then sg + m
  else
    let ex := lsb - f.lsbMin + 1
    if ex > (2 ^ f.eb : Nat) - 2 then fpInf f neg
    else sg + (ex.toNat <<< f.fb) + (m - 2 ^ f.fb)

/-- The signed integer of a finite value's magnitude. -/
def sgnI (neg : Bool) (m : Nat) : Int := if neg then -(m : Int) else m

/-- Exact sum of two finite values, rounded once; an exact zero is negative only when both are (01 R55). -/
def fpSumEnc (f : FpFmt) (na : Bool) (ma : Nat) (ka : Int) (nb : Bool) (mb : Nat) (kb : Int) : Nat :=
  let k := min ka kb
  let v := sgnI na (ma <<< (ka - k).toNat) + sgnI nb (mb <<< (kb - k).toNat)
  if v = 0 then fpZero f (na && nb) else fpEnc f (decide (v < 0)) v.natAbs k

/-- FADD (01 R55). -/
def fpAdd (f : FpFmt) (x y : Nat) : Nat :=
  match fpDec f x, fpDec f y with
  | .nan, _ => fpNan f
  | _, .nan => fpNan f
  | .inf a, .inf b => if a = b then fpInf f a else fpNan f
  | .inf a, .fin _ _ _ => fpInf f a
  | .fin _ _ _, .inf b => fpInf f b
  | .fin na ma ka, .fin nb mb kb => fpSumEnc f na ma ka nb mb kb

/-- The other sign of a word of the format. -/
def fpFlip (f : FpFmt) (x : Nat) : Nat := x ^^^ (1 <<< (f.eb + f.fb))

/-- FSUB (01 R55). -/
def fpSub (f : FpFmt) (x y : Nat) : Nat := fpAdd f x (fpFlip f y)

/-- FFMA: x × y + z rounded once (01 R55, R56). -/
def fpFma (f : FpFmt) (x y z : Nat) : Nat :=
  match fpDec f x, fpDec f y, fpDec f z with
  | .nan, _, _ => fpNan f
  | _, .nan, _ => fpNan f
  | .inf a, .inf b, c =>
    (match c with
     | .nan => fpNan f
     | .inf d => if (a ^^ b) = d then fpInf f d else fpNan f
     | .fin _ _ _ => fpInf f (a ^^ b))
  | .inf a, .fin nb mb _, c =>
    if mb = 0 then fpNan f else
    (match c with
     | .nan => fpNan f
     | .inf d => if (a ^^ nb) = d then fpInf f d else fpNan f
     | .fin _ _ _ => fpInf f (a ^^ nb))
  | .fin na ma _, .inf b, c =>
    if ma = 0 then fpNan f else
    (match c with
     | .nan => fpNan f
     | .inf d => if (na ^^ b) = d then fpInf f d else fpNan f
     | .fin _ _ _ => fpInf f (na ^^ b))
  | .fin na ma ka, .fin nb mb kb, c =>
    (match c with
     | .nan => fpNan f
     | .inf d => fpInf f d
     | .fin nc mc kc => fpSumEnc f (na ^^ nb) (ma * mb) (ka + kb) nc mc kc)

/-- FMUL (01 R55). -/
def fpMul (f : FpFmt) (x y : Nat) : Nat :=
  match fpDec f x, fpDec f y with
  | .nan, _ => fpNan f
  | _, .nan => fpNan f
  | .inf a, .inf b => fpInf f (a ^^ b)
  | .inf a, .fin nb mb _ => if mb = 0 then fpNan f else fpInf f (a ^^ nb)
  | .fin na ma _, .inf b => if ma = 0 then fpNan f else fpInf f (na ^^ b)
  | .fin na ma ka, .fin nb mb kb => fpEnc f (na ^^ nb) (ma * mb) (ka + kb)

/-- Whether a word is a NaN. -/
def fpIsNan (f : FpFmt) (x : Nat) : Bool := fpDec f x == .nan

/-- The magnitude bits of a word. -/
def fpMag (f : FpFmt) (x : Nat) : Nat := x % 2 ^ (f.eb + f.fb)

/-- Order of FMIN and FMAX: -0 below +0 (03 R167). -/
def fpKeyZ (f : FpFmt) (x : Nat) : Int :=
  if bitN x (f.eb + f.fb) then -(fpMag f x : Int) - 1 else fpMag f x

/-- Order of FSETP: -0 equals +0 (03 R165). -/
def fpKey (f : FpFmt) (x : Nat) : Int :=
  if bitN x (f.eb + f.fb) then -(fpMag f x : Int) else fpMag f x

/-- FMIN (03 R167). -/
def fpMin (f : FpFmt) (x y : Nat) : Nat :=
  if fpIsNan f x then (if fpIsNan f y then fpNan f else y)
  else if fpIsNan f y then x
  else if fpKeyZ f x ≤ fpKeyZ f y then x else y

/-- FMAX (03 R167). -/
def fpMax (f : FpFmt) (x y : Nat) : Nat :=
  if fpIsNan f x then (if fpIsNan f y then fpNan f else y)
  else if fpIsNan f y then x
  else if fpKeyZ f x ≤ fpKeyZ f y then y else x

/-- FABS (03 R168). -/
def fpAbs (f : FpFmt) (x : Nat) : Nat := if fpIsNan f x then fpNan f else fpMag f x

/-- FNEG (03 R168). -/
def fpNeg (f : FpFmt) (x : Nat) : Nat := if fpIsNan f x then fpNan f else fpFlip f x

/-- CVT.S32.H16: exact widening (01 R58). -/
def cvtS32H16 (x : Nat) : Nat :=
  match fpDec h16Fmt x with
  | .nan => fpNan s32Fmt
  | .inf n => fpInf s32Fmt n
  | .fin n m k => fpEnc s32Fmt n m k

/-- CVT.H16.S32: narrowing (01 R58). -/
def cvtH16S32 (x : Nat) : Nat :=
  match fpDec s32Fmt x with
  | .nan => fpNan h16Fmt
  | .inf n => fpInf h16Fmt n
  | .fin n m k => fpEnc h16Fmt n m k

/-- Round ±a × 2^k to F8 with saturation; a zero is positive (01 R51, R52). -/
def encF8 (neg : Bool) (a : Nat) (k : Int) : Nat :=
  let (lsb, m) := roundToFloat a k 4 (-9)
  let sg := b2n neg <<< 7
  if m = 0 then 0
  else if m < 8 then sg + m
  else if lsb + 10 > 15 then sg + 0x7F
  else sg + ((lsb + 10).toNat <<< 3) + (m - 8)

/-- CVT.F8 from a floating format (01 R53, 03 R170). -/
def cvtF8 (f : FpFmt) (x : Nat) : Nat :=
  match fpDec f x with
  | .nan => 0
  | .inf n => (b2n n <<< 7) + 0x7F
  | .fin n m k => encF8 n m k

/-- The magnitude and weight of an F8 code (01 R23). -/
def f8Mag (x : Nat) : Nat × Int :=
  let e := fld x 6 3
  let fr := fld x 2 0
  if e = 0 then (fr, -9) else (8 + fr, (e : Int) - 10)

/-- CVT.H16.F8: exact; 0x80 reads as positive zero (01 R24, 03 R170). -/
def cvtH16F8 (x : Nat) : Nat :=
  let (m, k) := f8Mag x
  fpEnc h16Fmt (bitN x 7 && m != 0) m k

/-- CVT.S32.I32 (03). -/
def cvtS32I32 (x : Nat) : Nat :=
  let v := sext 32 x
  fpEnc s32Fmt (decide (v < 0)) v.natAbs 0

/-- Clamp an integer. -/
def clampI (lo hi v : Int) : Int := max lo (min hi v)

/-- CVT.I32.S32 (03 R171). -/
def cvtI32S32 (x : Nat) : Nat :=
  match fpDec s32Fmt x with
  | .nan => 0
  | .inf n => if n then 2 ^ 31 else 2 ^ 31 - 1
  | .fin n m k => wrapN 32 (clampI (-(2 ^ 31 : Nat)) (2 ^ 31 - 1 : Nat) (sgnI n (rneShift m (-k))))

/-- floor(mp × 2^(xp - G)), modulo 2^128 (01 R31, R33). -/
def floorGrid (mp : Int) (xp g : Int) : Peat :=
  if xp ≥ g then BitVec.ofInt 128 (mp * (2 ^ (xp - g).toNat : Nat))
  else BitVec.ofInt 128 (mp / (2 ^ (g - xp).toNat : Nat))

/-- A product whose magnitude is at least 2^(G + 126) (01 R37). -/
def isSpill (mp : Int) (xp g : Int) : Bool :=
  let d := xp - (g + 126)
  if d ≥ 0 then decide (1 ≤ mp.natAbs * 2 ^ d.toNat) else decide (2 ^ (-d).toNat ≤ mp.natAbs)

/-- The grid exponent: 8-bit two's complement (01 R28). -/
def gridExp (b : Nat) : Int := sext 8 b

/-- The decoded wire width (01 R28). -/
def wireWidth (code : Nat) : Nat := nthN [48, 64, 96, 128] (code % 4)

/-- Wire extract (01 R44). -/
def wireExtract (q : Peat) (w : Nat) : Nat := q.toNat % 2 ^ w

/-- One reduction addition (01 R45). -/
def wireReduce (x y w : Nat) : Nat := (x + y) % 2 ^ w

/-- Wire insert (01 R46). -/
def wireInsert (r w : Nat) : Peat := BitVec.ofInt 128 (sext w r)

/-- An operand element as an integer times a power of two; `none` where it is replaced by zero (01 R40 to R42). -/
def fpElem (f : FpFmt) (x : Nat) : Option (Int × Int) :=
  match fpDec f x with
  | .fin n m k => some (sgnI n m, k)
  | _ => none

/-- The element of an F8 operand (01 R23, R24). -/
def f8Elem (x : Nat) : Int × Int :=
  let (m, k) := f8Mag x
  (sgnI (bitN x 7) m, k)

/-- Convert a Peat value to H16 (01 R50 to R52). -/
def peatToH16 (q : Peat) (g : Int) : Nat :=
  let v := q.toInt
  let (lsb, m) := roundToFloat v.natAbs g 11 (-24)
  let sg := b2n (decide (v < 0)) <<< 15
  if m = 0 then 0
  else if m < 1024 then sg + m
  else if lsb + 25 > 30 then sg + 0x7BFF
  else sg + ((lsb + 25).toNat <<< 10) + (m - 1024)

/-- Convert a Peat value to F8 (01 R50 to R52). -/
def peatToF8 (q : Peat) (g : Int) : Nat := encF8 (decide (q.toInt < 0)) q.toInt.natAbs g

/-- Round a signed value at a shift (01 R54, rnd_signed). -/
def rndSigned (v : Int) (sh : Int) : Int := sgnI (decide (v < 0)) (rneShift v.natAbs sh)

/-- Convert a block of 32 Peat values to B8: the scale byte and the mantissas (01 R54). -/
def peatToB8 (qs : List Peat) (g : Int) : Nat × List Nat :=
  let vs := qs.map fun q => q.toInt
  let mx := maxN (vs.map Int.natAbs)
  if mx = 0 then (0, qs.map fun _ => 0)
  else
    let s0 := max (g + (bitlen mx : Int) - 7) (-64)
    let s1 := if s0 ≤ 63 ∧ vs.any (fun v => decide (rndSigned v (s0 - g) > 127)) then s0 + 1 else s0
    let sc := min s1 63
    ((sc + 64).toNat, vs.map fun v => wrapN 8 (clampI (-128) 127 (rndSigned v (sc - g))))

end Sys2Proof.Machine
end

