-- ==== Sys2Proof/Machine/Sfu.lean ====
section
/-!
DEFINITION. The special-function unit: tables by their generating rules and the procedures of 01 R59 to R63.
-/
namespace Sys2Proof.Machine

def expT0 : List Nat :=
  [1073741824, 1085434106, 1097253708, 1109202018, 1121280436, 1133490379, 1145833280, 1158310587,
   1170923762, 1183674286, 1196563654, 1209593378, 1222764986, 1236080024, 1249540052, 1263146652,
   1276901417, 1290805962, 1304861917, 1319070932, 1333434672, 1347954824, 1362633090, 1377471191,
   1392470869, 1407633882, 1422962010, 1438457051, 1454120821, 1469955159, 1485961921, 1502142985]
def expT1 : List Nat :=
  [1518500250, 1535035634, 1551751076, 1568648537, 1585730000, 1602997467, 1620452965, 1638098541,
   1655936265, 1673968228, 1692196547, 1710623359, 1729250827, 1748081133, 1767116489, 1786359126,
   1805811301, 1825475297, 1845353420, 1865448001, 1885761398, 1906295993, 1927054196, 1948038440,
   1969251188, 1990694927, 2012372174, 2034285470, 2056437387, 2078830522, 2101467502, 2124350982]
/-- EXP_T: 2^(i/64) at weight 2^-30 (01 R61). -/
def expT : List Nat := expT0 ++ expT1

def rcpT0 : List Nat :=
  [1073741824, 1057222719, 1041204193, 1025663832, 1010580540, 995934445, 981706811, 967879954,
   954437177, 941362695, 928641578, 916259690, 904203641, 892460737, 881018933, 869866794,
   858993459, 848388602, 838042399, 827945503, 818089009, 808464432, 799063683, 789879043,
   780903145, 772128952, 763549742, 755159085, 746950834, 738919105, 731058263, 723362913]
def rcpT1 : List Nat :=
  [715827883, 708448214, 701219150, 694136129, 687194767, 680390859, 673720360, 667179386,
   660764199, 654471207, 648296950, 642238100, 636291451, 630453915, 624722516, 619094385,
   613566757, 608136962, 602802428, 597560667, 592409282, 587345955, 582368447, 577474594,
   572662306, 567929560, 563274399, 558694933, 554189329, 549755814, 545392673, 541098242]
/-- RCP_T: 64/(64 + i) (01 R61). -/
def rcpT : List Nat := rcpT0 ++ rcpT1

def logT0 : List Nat :=
  [0, 24017256, 47667823, 70962728, 93912511, 116527249, 138816582, 160789745,
   182455581, 203822568, 224898838, 245692198, 266210141, 286459867, 306448298, 326182095,
   345667660, 364911161, 383918542, 402695523, 421247625, 439580171, 457698295, 475606957,
   493310944, 510814882, 528123240, 545240343, 562170370, 578917365, 595485245, 611877800]
def logT1 : List Nat :=
  [628098702, 644151509, 660039670, 675766524, 691335320, 706749198, 722011214, 737124328,
   752091421, 766915285, 781598637, 796144115, 810554284, 824831638, 838978603, 852997541,
   866890746, 880660456, 894308842, 907838030, 921250079, 934547002, 947730758, 960803258,
   973766363, 986621888, 999371608, 1012017244, 1024560485, 1037002979, 1049346326, 1061592099]
/-- LOG_T: -log2 of the rounded RCP_T entry (01 R61). -/
def logT : List Nat := logT0 ++ logT1

def rsqT0 : List Nat :=
  [1073741824, 1065450257, 1057347856, 1049427536, 1041682578, 1034106604, 1026693558, 1019437682,
   1012333500, 1005375799, 998559613, 991880210, 985333074, 978913898, 972618566, 966443148,
   960383883, 954437177, 948599586, 942867814, 937238702, 931709222, 926276469, 920937655,
   915690104, 910531246, 905458609, 900469818, 895562589, 890734723, 885984104, 881308694]
def rsqT1 : List Nat :=
  [876706528, 872175715, 867714429, 863320910, 858993459, 854730438, 850530263, 846391405,
   842312387, 838291779, 834328203, 830420321, 826566842, 822766514, 819018128, 815320510,
   811672525, 808073073, 804521086, 801015531, 797555404, 794139734, 790767575, 787438013,
   784150157, 780903145, 777696137, 774528319, 771398898, 768307107, 765252196, 762233438]
def rsqT2 : List Nat :=
  [759250125, 753387102, 747657839, 742057327, 736580814, 731223792, 725981977, 720851298,
   715827883, 710908045, 706088274, 701365222, 696735698, 692196655, 687745184, 683378504,
   679093957, 674889000, 670761200, 666708225, 662727842, 658817909, 654976372, 651201261,
   647490682, 643842818, 640255922, 636728315, 633258380, 629844563, 626485368, 623179354]
def rsqT3 : List Nat :=
  [619925131, 616721362, 613566757, 610460069, 607400100, 604385689, 601415717, 598489102,
   595604800, 592761802, 589959130, 587195840, 584471019, 581783781, 579133272, 576518662,
   573939147, 571393950, 568882316, 566403514, 563956835, 561541591, 559157115, 556802759,
   554477894, 552181909, 549914212, 547674226, 545461392, 543275165, 541115017, 538980433]
/-- RSQ_T: reciprocal square roots (01 R61). -/
def rsqT : List Nat := rsqT0 ++ rsqT1 ++ rsqT2 ++ rsqT3

def sinT0 : List Nat :=
  [0, 26350943, 52686014, 78989349, 105245103, 131437462, 157550647, 183568930,
   209476638, 235258165, 260897982, 286380643, 311690799, 336813204, 361732726, 386434353,
   410903207, 435124548, 459083786, 482766489, 506158392, 529245404, 552013618, 574449320,
   596538995, 618269338, 639627258, 660599890, 681174602, 701339000, 721080937, 740388522]
def sinT1 : List Nat :=
  [759250125, 777654384, 795590213, 813046808, 830013654, 846480531, 862437520, 877875009,
   892783698, 907154608, 920979082, 934248793, 946955747, 959092290, 970651112, 981625251,
   992008094, 1001793390, 1010975242, 1019548121, 1027506862, 1034846671, 1041563127, 1047652185,
   1053110176, 1057933813, 1062120190, 1065666786, 1068571464, 1070832474, 1072448455, 1073418433]
/-- SIN_T: sin(2 pi i/256) (01 R61). -/
def sinT : List Nat := sinT0 ++ sinT1

def cosT0 : List Nat :=
  [1073741824, 1073418433, 1072448455, 1070832474, 1068571464, 1065666786, 1062120190, 1057933813,
   1053110176, 1047652185, 1041563127, 1034846671, 1027506862, 1019548121, 1010975242, 1001793390,
   992008094, 981625251, 970651112, 959092290, 946955747, 934248793, 920979082, 907154608,
   892783698, 877875009, 862437520, 846480531, 830013654, 813046808, 795590213, 777654384]
def cosT1 : List Nat :=
  [759250125, 740388522, 721080937, 701339000, 681174602, 660599890, 639627258, 618269338,
   596538995, 574449320, 552013618, 529245404, 506158392, 482766489, 459083786, 435124548,
   410903207, 386434353, 361732726, 336813204, 311690799, 286380643, 260897982, 235258165,
   209476638, 183568930, 157550647, 131437462, 105245103, 78989349, 52686014, 26350943]
/-- COS_T: cos(2 pi i/256) (01 R61). -/
def cosT : List Nat := cosT0 ++ cosT1

/-- The polynomial constants at weight 2^-30 (01 R61). -/
def expC1 : Int := 744261118
def expC2 : Int := 257941248
def expC3 : Int := 59597083
def logD1 : Int := 1549082005
def logD2 : Int := -774541002
def logD3 : Int := 516360668
def logD4 : Int := -387270501
def logD5 : Int := 309816401
def k2Pi : Int := 6746518852
def sinP3 : Int := 178956971
def sinP5 : Int := 8947849
def cosP4 : Int := 44739243

/-- Arithmetic shift right: floor (01). -/
def asr (v : Int) (n : Nat) : Int := v / (2 ^ n : Nat)

/-- A table entry as an integer. -/
def tabI (t : List Nat) (i : Nat) : Int := (nthN t i : Int)

/-- enc_s32: v × 2^k; a zero result is positive (01). -/
def encS32 (v : Int) (k : Int) : Nat :=
  if (roundToFloat v.natAbs k 24 (-149)).2 = 0 then 0 else fpEnc s32Fmt (decide (v < 0)) v.natAbs k

/-- norm: exponent and 24-bit significand of a finite non-zero S32 (01). -/
def sfuNorm (x : Nat) : Int × Nat :=
  match fpDec s32Fmt x with
  | .fin _ m k =>
    let sh := 24 - bitlen m
    (k - sh + 23, m <<< sh)
  | _ => (0, 0)

/-- fixv: x × 2^n rounded to nearest, ties to even (01). -/
def fixv (x : Nat) (n : Nat) : Int :=
  match fpDec s32Fmt x with
  | .fin neg m k => sgnI neg (rneShift m (-(k + n)))
  | _ => 0

/-- sfu_exp2 (01 R59). -/
def sfuExp2 (x : Nat) : Nat :=
  if fpIsNan s32Fmt x then 0x7FC00000
  else if !bitN x 31 && decide (fpMag s32Fmt x ≥ 0x43000000) then 0x7F800000
  else if bitN x 31 && decide (fpMag s32Fmt x ≥ 0x43160000) then 0
  else
    let xx := fixv x 24
    let n := asr xx 24
    let f := (xx - n * 2 ^ 24).toNat
    let i := f >>> 18
    let r : Int := (f - (i <<< 18) : Nat)
    let a2 := expC2 + asr (expC3 * r) 24
    let a1 := expC1 + asr (a2 * r) 24
    let a0 := 2 ^ 30 + asr (a1 * r) 24
    encS32 (asr (tabI expT i * a0) 30) (n - 30)

/-- sfu_log2 (01 R59). -/
def sfuLog2 (x : Nat) : Nat :=
  if fpIsNan s32Fmt x then 0x7FC00000
  else if fpMag s32Fmt x = 0 then 0xFF800000
  else if bitN x 31 then 0x7FC00000
  else if x % 2 ^ 32 = 0x7F800000 then 0x7F800000
  else
    let (e, mm) := sfuNorm x
    let i := (mm >>> 17) - 64
    let u := asr ((mm : Int) * tabI rcpT i - 2 ^ 53) 23
    let a4 := logD4 + asr (logD5 * u) 30
    let a3 := logD3 + asr (a4 * u) 30
    let a2 := logD2 + asr (a3 * u) 30
    let a1 := logD1 + asr (a2 * u) 30
    encS32 (e * 2 ^ 30 + tabI logT i + asr (a1 * u) 30) (-30)

/-- sfu_rcp (01 R59). -/
def sfuRcp (x : Nat) : Nat :=
  let neg := bitN x 31
  if fpIsNan s32Fmt x then 0x7FC00000
  else if fpMag s32Fmt x = 0 then fpInf s32Fmt neg
  else if fpMag s32Fmt x = 0x7F800000 then fpZero s32Fmt neg
  else
    let (e, mm) := sfuNorm x
    let i := (mm >>> 17) - 64
    let u := asr ((mm : Int) * tabI rcpT i - 2 ^ 53) 23
    let st := fun acc : Int => 2 ^ 30 - asr (acc * u) 30
    fpZero s32Fmt neg + encS32 (tabI rcpT i * st (st (st (st (st (2 ^ 30)))))) (-60 - e)

/-- sfu_rsqrt (01 R59). -/
def sfuRsqrt (x : Nat) : Nat :=
  if fpIsNan s32Fmt x then 0x7FC00000
  else if fpMag s32Fmt x = 0 then fpInf s32Fmt (bitN x 31)
  else if bitN x 31 then 0x7FC00000
  else if x % 2 ^ 32 = 0x7F800000 then 0
  else
    let (e, mm) := sfuNorm x
    let k := (mm >>> 17) - 64
    let even := e % 2 = 0
    let j := if even then k else 64 + k
    let sh := if even then 23 else 22
    let h : Int := if even then e / 2 else (e - 1) / 2
    let qv := tabI rsqT j
    let u := asr ((mm : Int) * qv * qv - 2 ^ (sh + 60)) (sh + 30)
    let a4 := 35 * 2 ^ 23 + asr (-63 * 2 ^ 22 * u) 30
    let a3 := -5 * 2 ^ 26 + asr (a4 * u) 30
    let a2 := 3 * 2 ^ 27 + asr (a3 * u) 30
    let a1 := -(2 ^ 29) + asr (a2 * u) 30
    let a0 := 2 ^ 30 + asr (a1 * u) 30
    encS32 (qv * a0) (-60 - h)

/-- sfu_sincos (01 R62, R63). -/
def sfuSinCos (cosine : Bool) (x : Nat) : Nat :=
  if fpMag s32Fmt x ≥ 0x7F800000 then 0x7FC00000
  else
    let ph := wrapN 32 (fixv x 32)
    let qd := ((ph >>> 30) + b2n cosine) % 4
    let w := ph % 2 ^ 30
    let i := w >>> 24
    let th := asr (((w % 2 ^ 24 : Nat) : Int) * k2Pi) 32
    let t2 := asr (th * th) 30
    let sa := 2 ^ 30 - asr ((sinP3 - asr (sinP5 * t2) 30) * t2) 30
    let sn := asr (sa * th) 30
    let ca := 2 ^ 29 - asr (cosP4 * t2) 30
    let cs := 2 ^ 30 - asr (ca * t2) 30
    let sw := asr (tabI sinT i * cs + tabI cosT i * sn) 30
    let cw := asr (tabI cosT i * cs - tabI sinT i * sn) 30
    let y := if qd = 0 then sw else if qd = 1 then cw else if qd = 2 then -sw else -cw
    encS32 y (-30)

/-- A special function in H16: widen, compute, narrow (01 R60). -/
def sfuH16 (f : Nat → Nat) (x : Nat) : Nat := cvtH16S32 (f (cvtS32H16 x))

end Sys2Proof.Machine
end

