-- ==== Sys2Proof/Machine/Operands.lean ====
section
/-!
DEFINITION. Operand forms of the instruction words: guards, lane and uniform operands, register runs,
vector elements, lane addresses and fragments (02 R101 to R116, 03 R141 to R190).
-/
namespace Sys2Proof.Machine

/-- What an instruction builder sees. -/
structure Ctx where
  c : Cluster
  g : Nat
  env : CEnv

/-- A lane register of the context's group. -/
def Ctx.v (x : Ctx) (r l : Nat) : Word := rdLane x.c x.g r l

/-- A uniform register of the context's group. -/
def Ctx.u (x : Ctx) (r : Nat) : Word := rdUni x.c x.g r

/-- The lanes a guard admits. -/
def Ctx.lanes (x : Ctx) (gd : Guard) : BitVec 32 := guardLanes x.c x.g gd

/-- IMM28 sign-extended (03 R158). -/
def immWord (v : BitVec 28) : Word := v.signExtend 32

/-- Field B of a lane instruction at a lane (03 R157, R158). -/
def laneBVal (x : Ctx) (b : LaneB) (l : Nat) : Word :=
  match b with
  | .reg r => x.v r.val l
  | .uni r => x.u r.val
  | .imm v => immWord v

/-- The registers field B reads. -/
def laneBSrc (b : LaneB) : List RegId :=
  match b with
  | .reg r => [.v r.val]
  | .uni r => [.u r.val]
  | .imm _ => []

/-- Field B of a uniform instruction (03 R158, R159). -/
def uniBVal (x : Ctx) (b : UniB) : Word :=
  match b with
  | .reg r => x.u r.val
  | .imm v => immWord v

/-- The registers field B of a uniform instruction reads. -/
def uniBSrc (b : UniB) : List RegId :=
  match b with
  | .reg r => [.u r.val]
  | .imm _ => []

/-- Field B of IMAD and SEL as a lane operand. -/
def regBLane (b : RegB) : LaneB :=
  match b with
  | .reg r => .reg r
  | .uni r => .uni r

/-- An act that writes one lane register of each lane of the guard. -/
def laneAct (x : Ctx) (gd : Guard) (srcs : List RegId) (d : Nat) (f : Nat → Word) : Act :=
  let m := x.lanes gd
  { srcs := guardSrc gd ++ srcs, dsts := [.v d], mask := m,
    writes := (maskLanes m).map fun l => (.lane d l, f l) }

/-- An act that writes one uniform register (uniform instructions act on every path, 03 R155). -/
def uniAct (srcs : List RegId) (d : Nat) (v : Word) : Act :=
  { srcs := srcs, dsts := [.u d], writes := [(.uni d, v)] }

/-- A two-operand integer instruction in its lane or uniform form (03 R157 to R159). -/
def aluAct (f : Word → Word → Word) (o : Alu) (x : Ctx) : Act :=
  match o with
  | .lane gd d a b => laneAct x gd ([.v a.val] ++ laneBSrc b) d.val fun l => f (x.v a.val l) (laneBVal x b l)
  | .uni d a b => uniAct ([.u a.val] ++ uniBSrc b) d.val (f (x.u a.val) (uniBVal x b))

/-- POPC and CLZ in their lane or uniform form (03 R160). -/
def alu1Act (f : Word → Word) (o : Alu1) (x : Ctx) : Act :=
  match o with
  | .lane gd _ d a => laneAct x gd [.v a.val] d.val fun l => f (x.v a.val l)
  | .uni _ d a => uniAct [.u a.val] d.val (f (x.u a.val))

/-- The integer results of 03. -/
def aluAdd (a b : Word) : Word := a + b
def aluSub (a b : Word) : Word := a - b
def aluMul (a b : Word) : Word := a * b
def aluMulHu (a b : Word) : Word := w32 ((a.toNat * b.toNat) / 2 ^ 32)
def aluMulHs (a b : Word) : Word := wi32 ((a.toInt * b.toInt) / (2 ^ 32 : Nat))
def aluAnd (a b : Word) : Word := a &&& b
def aluOr (a b : Word) : Word := a ||| b
def aluXor (a b : Word) : Word := a ^^^ b
def aluShl (a b : Word) : Word := a <<< (b.toNat % 32)
def aluShr (a b : Word) : Word := a >>> (b.toNat % 32)
def aluSra (a b : Word) : Word := a.sshiftRight (b.toNat % 32)
def aluSmin (a b : Word) : Word := if a.slt b then a else b
def aluSmax (a b : Word) : Word := if a.slt b then b else a
def aluUmin (a b : Word) : Word := if a.ult b then a else b
def aluUmax (a b : Word) : Word := if a.ult b then b else a
def aluPopc (a : Word) : Word := w32 (popN 32 a.toNat)
def aluClz (a : Word) : Word := w32 (32 - bitlen a.toNat)

/-- The value of one element of a vector register: element h of lane l (02 R113). -/
def elemVal (x : Ctx) (fmt : VFmt) (r h l : Nat) : Nat :=
  match fmt with
  | .s32 => (x.v (r + h) l).toNat
  | .h16 => fld (x.v r l).toNat (16 * h + 15) (16 * h)

/-- The registers of a vector operand (02 R113). -/
def vecRun (fmt : VFmt) (r : Nat) : List RegId :=
  match fmt with
  | .s32 => vRun r 2
  | .h16 => vRun r 1

/-- The writes of two elements per lane in a format (02 R113). -/
def vecWrites (m : BitVec 32) (fmt : VFmt) (d : Nat) (f : Nat → Nat → Nat) : List (Dst × Word) :=
  (maskLanes m).flatMap fun l =>
    match fmt with
    | .s32 => [(.lane d l, w32 (f 0 l)), (.lane (d + 1) l, w32 (f 1 l))]
    | .h16 => [(.lane d l, w32 (f 0 l % 2 ^ 16 + (f 1 l % 2 ^ 16) * 2 ^ 16))]

/-- The format of a vector form. -/
def vfp (fmt : VFmt) : FpFmt :=
  match fmt with
  | .s32 => s32Fmt
  | .h16 => h16Fmt

/-- A vector instruction on its elements, ready 16 cycles after issue (02 R115). -/
def vecAct (x : Ctx) (gd : Guard) (srcs dsts : List RegId) (fd : VFmt) (d : Nat) (f : Nat → Nat → Nat) : Act :=
  let m := x.lanes gd
  { srcs := guardSrc gd ++ srcs, dsts := dsts, lat := 16, mask := m, writes := vecWrites m fd d f }

/-- Vector instruction of two sources. -/
def vec2Act (f : FpFmt → Nat → Nat → Nat) (o : Vec2) (x : Ctx) : Act :=
  vecAct x o.gd (vecRun o.fmt o.a.val ++ vecRun o.fmt o.b.val) (vecRun o.fmt o.d.val) o.fmt o.d.val
    fun h l => f (vfp o.fmt) (elemVal x o.fmt o.a.val h l) (elemVal x o.fmt o.b.val h l)

/-- Vector instruction of one source. -/
def vec1Act (f : FpFmt → Nat → Nat) (fmt : VFmt) (o : Vec1) (x : Ctx) : Act :=
  vecAct x o.gd (vecRun fmt o.a.val) (vecRun fmt o.d.val) fmt o.d.val
    fun h l => f (vfp fmt) (elemVal x fmt o.a.val h l)

/-- FFMA, rounded once (01 R56). -/
def fmaAct (o : Vec2) (c : Fin 256) (x : Ctx) : Act :=
  vecAct x o.gd (vecRun o.fmt o.a.val ++ vecRun o.fmt o.b.val ++ vecRun o.fmt c.val) (vecRun o.fmt o.d.val) o.fmt o.d.val
    fun h l => fpFma (vfp o.fmt) (elemVal x o.fmt o.a.val h l) (elemVal x o.fmt o.b.val h l) (elemVal x o.fmt c.val h l)

/-- A conversion between two vector formats (03 R169 to R171). -/
def cvtAct (f : Nat → Nat) (src dst : VFmt) (o : Vec1) (x : Ctx) : Act :=
  vecAct x o.gd (vecRun src o.a.val) (vecRun dst o.d.val) dst o.d.val fun h l => f (elemVal x src o.a.val h l)

/-- A conversion to F8, bits [31:16] zero (03 R169). -/
def cvtToF8Act (f : Nat → Nat) (src : VFmt) (o : Vec1) (x : Ctx) : Act :=
  let m := x.lanes o.gd
  { srcs := guardSrc o.gd ++ vecRun src o.a.val, dsts := [.v o.d.val], lat := 16, mask := m,
    writes := (maskLanes m).map fun l =>
      (.lane o.d.val l, w32 (f (elemVal x src o.a.val 0 l) + f (elemVal x src o.a.val 1 l) * 256)) }

/-- A conversion from F8: element h in bits [8h + 7 : 8h] (03 R169). -/
def cvtFromF8Act (f : Nat → Nat) (o : Vec1) (x : Ctx) : Act :=
  vecAct x o.gd [.v o.a.val] [.v o.d.val] .h16 o.d.val
    fun h l => f (fld (x.v o.a.val l).toNat (8 * h + 7) (8 * h))

/-- A special-function instruction on the SFU (02 R116, 03 R172). -/
def sfuAct (f : Nat → Nat) (fmt : VFmt) (o : Vec1) (x : Ctx) : Act :=
  let fn := match fmt with | .s32 => f | .h16 => sfuH16 f
  let m := x.lanes o.gd
  { srcs := guardSrc o.gd ++ vecRun fmt o.a.val, dsts := vecRun fmt o.d.val, use := .sfu, mask := m,
    writes := vecWrites m fmt o.d.val fun h l => fn (elemVal x fmt o.a.val h l) }

/-- A 128-bit value of four lane registers, word 0 least significant (03 R173). -/
def quadVal (x : Ctx) (r l : Nat) : BitVec 128 :=
  BitVec.ofNat 128 ((x.v r l).toNat + (x.v (r + 1) l).toNat * 2 ^ 32 + (x.v (r + 2) l).toNat * 2 ^ 64
    + (x.v (r + 3) l).toNat * 2 ^ 96)

/-- KCG on the SFU (03 R173, R174). -/
def kcgAct (gd : Guard) (d a b : Nat) (x : Ctx) : Act :=
  let m := x.lanes gd
  { srcs := guardSrc gd ++ vRun a 4 ++ vRun b 4, dsts := vRun d 4, use := .sfu, mask := m,
    writes := (maskLanes m).flatMap fun l =>
      let o := (kcg (quadVal x a l) (quadVal x b l)).toNat
      (List.range 4).map fun i => (.lane (d + i) l, w32 (o / 2 ^ (32 * i))) }

/-- The lane addresses of a register plus an immediate, modulo 2^32 (03 R188). -/
def laneAddrs (x : Ctx) (m : BitVec 32) (a : Nat) (off : Word) : List (Nat × Nat) :=
  (maskLanes m).map fun l => (l, (x.v a l + off).toNat)

/-- The faults of a list of lane accesses. -/
def laneFaults (n al : Nat) (addrs : List (Nat × Nat)) : List (Nat × Nat × Nat) :=
  addrs.flatMap fun p => accFaults n al p.1 p.2

/-- LD (03 R185, R186, R188). -/
def ldAct (o : MemOp) (x : Ctx) : Act :=
  let m := x.lanes o.gd
  let n := szBytes o.sz
  let ad := laneAddrs x m o.a.val (immWord o.imm)
  { srcs := guardSrc o.gd ++ [.v o.a.val], dsts := vRun o.d.val (szRegs o.sz), job := .ld o.sz o.t o.d.val, use := .gport, mask := m,
    addrs := ad, faults := laneFaults n n ad }

/-- The bytes a lane stores (03 R187). -/
def stBytes (x : Ctx) (sz : Sz) (d l : Nat) : List Byte :=
  ((List.range (szRegs sz)).flatMap fun i => leBytes 4 (x.v (d + i) l).toNat).take (szBytes sz)

/-- ST (03 R185, R187, R188). -/
def stAct (o : MemOp) (x : Ctx) : Act :=
  let m := x.lanes o.gd
  let n := szBytes o.sz
  let ad := laneAddrs x m o.a.val (immWord o.imm)
  { srcs := guardSrc o.gd ++ [.v o.a.val] ++ vRun o.d.val (szRegs o.sz), job := .st o.sz o.t, use := .gport, mask := m,
    addrs := ad, faults := laneFaults n n ad, vals := ad.map fun p => leNat (stBytes x o.sz o.d.val p.1) }

/-- The operand-cache result of a line: hit, being filled, or a miss (02 R761). -/
def ocLook (c : Cluster) (line : Nat) : Option (List Byte) :=
  match smGet (dflt none) c.oc (line % 256) with
  | some cl => if cl.line = line then some cl.bytes else none
  | none => none

/-- ULDC (03 R188 to R190, 02 R96 to R100, R761). It faults on every path, since it acts on every path (02 R91, 03 R155). A miss takes its
value from the fill (`refill`). A guard on it changes nothing and its predicate is not waited for: R144 gives a guard a meaning for
per-lane instructions only, and R147 does not forbid one here (DESIGN CHOICE, log 66). -/
def uldcAct (x64 t : Bool) (d a : Nat) (imm : BitVec 28) (x : Ctx) : Act :=
  let n := if x64 then 8 else 4
  let ad := (x.u a + immWord imm).toNat
  let line := ad / 64
  let hit := ocLook x.c line
  let pend := x.c.fills.find? fun f => f.oc && f.line == line
  let known := match hit with
    | some b => some b
    | none => pend.map (·.bytes)
  { srcs := [.u a], dsts := (if x64 then [.u d, .u (d + 1)] else [.u d]),
    job := .uldc x64 d ad, lat := if hit.isSome && !t then 8 else 32, emptyFaults := true,
    faults := accFaults n n 0 ad,
    fill := if hit.isNone && pend.isNone then some line else none,
    ocMiss := hit.isNone,
    writes := match known with | some b => uldcWrites x64 d ad b | none => [] }

/-- Bytes and alignment of a Peat transfer (03 R184). -/
def wireBytes (w : Nat) : Nat := w / 8
def wireAlign (w : Nat) : Nat := if w = 48 then 2 else if w = 96 then 4 else w / 8

/-- A Peat transfer over the group port and the Peat unit (03 R183, R184, 02 R112). -/
def peatMemAct (job : Job) (o : PeatMem) (n al : Nat) (x : Ctx) : Act :=
  let m := x.lanes o.gd
  let ad := laneAddrs x m o.a.val 0
  { srcs := guardSrc o.gd ++ [.v o.a.val], job := job, use := .both, mask := m, addrs := ad, ranges := [(o.p.val, 32)],
    faults := laneFaults n al ad ++ (if peatRangeOk [(o.p.val, 32)] then [] else [(5, 0, 0)]) }

/-- A Peat-unit act over register ranges (02 R111, R112). -/
def peatAct (job : Job) (m : BitVec 32) (srcs dsts : List RegId) (rs : List (Nat × Nat)) (vals : List Nat) : Act :=
  { srcs := srcs, dsts := dsts, job := job, use := .peat, mask := m, ranges := rs, vals := vals,
    faults := if peatRangeOk rs then [] else [(5, 0, 0)] }

/-- The lane addresses and operands of an atomic (03 R195, R196). -/
def atomAct (fn : AtomFn) (o : AtomOp) (c : Option Nat) (x : Ctx) : Act :=
  let m := x.lanes o.gd
  let k := if o.x64 then 2 else 1
  let n := 4 * k
  let ad := laneAddrs x m o.a.val 0
  let val := fun r l => (x.v r l).toNat + (if o.x64 then (x.v (r + 1) l).toNat * 2 ^ 32 else 0)
  { srcs := guardSrc o.gd ++ [.v o.a.val] ++ vRun o.b.val k ++ (match c with | some r => vRun r k | none => []),
    dsts := vRun o.d.val k, job := .atom fn o.x64 o.t o.d.val, use := .gport, mask := m, addrs := ad, faults := laneFaults n n ad,
    vals := ad.map fun p => val o.b.val p.1 + (match c with | some r => val r p.1 * 2 ^ 64 | none => 0) }

/-- Mantissa slice bytes and scale slice bytes of a stationary format (02). -/
def mldMant (fmt : MFmt) : Nat := if fmt = .h16 then 32 else 64
def mldScale (fmt : MFmt) : Nat :=
  match fmt with
  | .b4 => 4
  | .b8 => 2
  | _ => 0

/-- The slices of an MLD in column order, mantissa before scale: address, bytes (02 R108, 03 R175). -/
def mldSlices (x : Ctx) (fmt : MFmt) (a b c e : Nat) : List (Nat × Nat) :=
  (List.range 40).flatMap fun i =>
    let k : Word := w32 i
    let mant := ((x.u a + k * x.u b).toNat, mldMant fmt)
    if mldScale fmt = 0 then [mant] else [mant, ((x.u c + k * x.u e).toNat, mldScale fmt)]

/-- The first offending slice of a kind, in column order (02 R108). -/
def sliceFault (code : Nat) (bad : Nat × Nat → Bool) (sl : List (Nat × Nat)) : List (Nat × Nat × Nat) :=
  match sl.find? bad with
  | some s => [(code, 0, s.1)]
  | none => []

/-- MLD (02 R104, R108, 03 R175, R177). -/
def mldAct (gd : Guard) (fmt : MFmt) (buf a b c e : Nat) (x : Ctx) : Act :=
  let m := x.lanes gd
  let sl := mldSlices x fmt a b c e
  let live := (grp x.c x.g).active ≠ 0
  { srcs := guardSrc gd ++ [.u a, .u b] ++ (if mldScale fmt = 0 then [] else [.u c, .u e]), job := .mld fmt buf, use := .gport, mask := m,
    reads := sl, buf := if live then some (buf, fmt) else none,
    faults := sliceFault 2 (fun s => decide (s.1 + s.2 > 0x100000)) sl
      ++ sliceFault 3 (fun s => s.1 % s.2 != 0) sl
      ++ (if m = allLanes then [] else [(6, 0, 0)]) }

/-- The stationary format of a pair (03 R178). -/
def pairStat (p : Pair) : MFmt :=
  match p with
  | .b4b4 => .b4
  | .b4b8 => .b4
  | .b8b8 => .b8
  | .f8f8 => .f8
  | .h16h16 => .h16

/-- MMA (02 R101 to R107, 03 R176, R178). -/
def mmaAct (gd : Guard) (p : Pair) (buf : Nat) (lean : Bool) (va vs pb : Nat) (x : Ctx) : Act :=
  let m := x.lanes gd
  let sb := nth x.c.sbufs buf {}
  { srcs := guardSrc gd ++ vRun va (pairRun p) ++ (if pairScaled p then [.v vs] else []), job := .mma p buf lean, use := .mma, mask := m,
    ranges := [(pb, 1280)],
    frag := (List.range 32).map fun l =>
      ((List.range (pairRun p)).map fun i => (x.v (va + i) l).toNat) ++ [if pairScaled p then (x.v vs l).toNat else 0],
    vals := [x.c.leanIdx],
    lean := lean,
    faults := (if pb > 2816 then [(5, 0, 0)] else []) ++ (if m = allLanes then [] else [(6, 0, 0)])
      ++ (if sb.fmt = some (pairStat p) then [] else [(9, 0, 0)]) }

end Sys2Proof.Machine
end

