-- ==== Sys2Proof/Machine/Flags.lean ====
section
/-!
DEFINITION. Predicates: the comparisons of ISETP and FSETP and the logic of PLOP (03 R164 to R166). The
machine has no arithmetic flags: integer arithmetic sets none (03) and the vector unit has none (01 R57).
-/
namespace Sys2Proof.Machine

/-- An integer comparison (03 R164). -/
def cmpInt (cc : Cmp) (a b : Word) : Bool :=
  match cc with
  | .eq => a == b
  | .ne => a != b
  | .lt => a.slt b
  | .le => a.sle b
  | .gt => b.slt a
  | .ge => b.sle a
  | .ltu => a.ult b
  | .leu => a.ule b
  | .gtu => b.ult a
  | .geu => b.ule a

/-- An ordered float comparison; with a NaN only NE is true (03 R165). -/
def cmpFp (f : FpFmt) (cc : Cmp) (a b : Nat) : Bool :=
  if fpIsNan f a || fpIsNan f b then cc == .ne
  else
    match cc with
    | .eq => fpKey f a == fpKey f b
    | .ne => fpKey f a != fpKey f b
    | .lt => decide (fpKey f a < fpKey f b)
    | .le => decide (fpKey f a ≤ fpKey f b)
    | .gt => decide (fpKey f a > fpKey f b)
    | .ge => decide (fpKey f a ≥ fpKey f b)
    | _ => false

/-- PLOP's operation (03). -/
def plopOp (op : POp) (a b : Bool) : Bool :=
  match op with
  | .and => a && b
  | .or => a || b
  | .xor => a ^^ b
  | .andn => a && !b

/-- An act that writes the predicate of each lane of the guard (03 R166). -/
def predAct (x : Ctx) (gd : Guard) (srcs : List RegId) (lat d : Nat) (f : Nat → Bool) : Act :=
  let m := x.lanes gd
  { srcs := guardSrc gd ++ srcs, dsts := [.p d], lat := lat, mask := m,
    writes := (maskLanes m).map fun l => (.pred d l, w32 (b2n (f l))) }

/-- ISETP (03 R164, R166). -/
def isetpAct (gd : Guard) (cc : Cmp) (d a : Nat) (b : LaneB) (x : Ctx) : Act :=
  predAct x gd ([.v a] ++ laneBSrc b) 8 d fun l => cmpInt cc (x.v a l) (laneBVal x b l)

/-- FSETP (03 R165, R166). -/
def fsetpAct (gd : Guard) (cc : Cmp) (fmt : VFmt) (e d a b : Nat) (x : Ctx) : Act :=
  predAct x gd (match fmt with | .s32 => [.v (a + e), .v (b + e)] | .h16 => [.v a, .v b]) 16 d
    fun l => cmpFp (vfp fmt) cc (elemVal x fmt a e l) (elemVal x fmt b e l)

/-- PLOP (03 R166). -/
def plopAct (gd : Guard) (op : POp) (d a b : Nat) (x : Ctx) : Act :=
  predAct x gd (([.p a, .p b] : List RegId).filter tracked) 8 d
    fun l => plopOp op ((rdPred x.c x.g a).getLsbD l) ((rdPred x.c x.g b).getLsbD l)

end Sys2Proof.Machine
end

