-- ==== Sys2Proof/Machine/Units.lean ====
section
/-!
DEFINITION. The shared units of a cluster: when an instruction starts, what it does there and what lands
(02 R88 to R95, R101 to R112, R116 to R123; 03 R175 to R190).
-/
namespace Sys2Proof.Machine

/-- The use a unit's start event names. -/
def unitOf (u : UnitId) : UnitUse :=
  match u with
  | .sfu => .sfu
  | .gport => .gport
  | .mma => .mma
  | .peat => .peat

/-- The first instruction waiting for a unit, with those issued before it (02 R88). -/
def unitHead (u : UnitUse) : List Flight → List Flight → Option (List Flight × Flight)
  | _, [] => none
  | pre, f :: fs =>
    if !f.started && sameUnit f.use u then some (pre, f) else unitHead u (pre ++ [f]) fs

/-- The cycle from which the units a flight uses are free. -/
def unitFree (c : Cluster) (u : UnitUse) : Nat :=
  match u with
  | .free => 0
  | .sfu => c.sfuFree
  | .gport => c.gportFree
  | .mma => c.mmaFree
  | .peat => c.peatFree
  | .both => max c.gportFree c.peatFree

/-- Cycles from issue to the earliest start (02, issue table). -/
def startLat (u : UnitUse) : Nat := if u = .mma then 4 else 2

/-- A flight is an MMA on a buffer. -/
def readsBuf (b : Nat) (f : Flight) : Bool :=
  match f.job with
  | .mma _ x _ => x == b
  | _ => false

/-- A flight is an MLD into a buffer. -/
def loadsBuf (b : Nat) (f : Flight) : Bool :=
  match f.job with
  | .mld _ x => x == b
  | _ => false

/-- The buffer hazards of R105 and R106. -/
def bufOk (c : Cluster) (pre : List Flight) (f : Flight) : Bool :=
  match f.job with
  | .mma _ b _ =>
    decide ((nth c.sbufs b {}).usableAt ≤ c.kcyc) && pre.all fun e => !(loadsBuf b e) || e.started
  | .mld _ b => pre.all fun e => !(readsBuf b e) || (e.started && decide (e.startAt + 31 < c.kcyc))
  | _ => true

/-- The Peat hazard of R111: every earlier overlapping operation completed before this cycle. -/
def peatOk (c : Cluster) (pre : List Flight) (f : Flight) : Bool :=
  pre.all (fun e => !(rangesMeet e.ranges f.ranges))
    && c.peatLanded.all fun r => !(rangesMeet [(r.1, r.2.1)] f.ranges) || decide (r.2.2 < c.kcyc)

/-- The flight may start in this cycle (02 R88). -/
def startOk (c : Cluster) (pre : List Flight) (f : Flight) : Bool :=
  decide (f.issueAt + startLat f.use ≤ c.kcyc) && decide (unitFree c f.use ≤ c.kcyc)
    && pre.all (fun e => e.started || !(sameUnit e.use f.use)) && bufOk c pre f && peatOk c pre f

/-- Flip the first four bytes of a byte list. -/
def flipBytes (m : Word) (bs : List Byte) : List Byte :=
  leBytes bs.length (leNat bs ^^^ m.toNat)

/-- Flip the first column of a stationary load. -/
def flipCols (m : Word) : List (List Byte × List Byte) → List (List Byte × List Byte)
  | [] => []
  | w :: ws => (flipBytes m w.1, w.2) :: ws

/-- The stored bits' difference, zero when corrected. -/
def eccMask (e : Ecc) : Word :=
  match e with
  | .uncorrectable m => m
  | _ => 0

/-- The outcome that a list gives a number; clean when it gives none. -/
def eccAt (errs : List (Nat × Ecc)) (n : Nat) : Ecc := ((errs.find? fun x => x.1 == n).map (·.2)).getD .clean

/-- The package effect of an ECC outcome on an array (09 R456, R458). -/
def eccEff (e : Ecc) (src addr : Nat) : CEff :=
  match e with
  | .clean => {}
  | .corrected => { ce := 1 }
  | .uncorrectable _ => { ue := some (src, addr) }

/-- The value a load gives a register, extended (03 R186). -/
def ldValue (sz : Sz) (bs : List Byte) : Nat :=
  let v := leNat bs
  match sz with
  | .s8 => wrapN 32 (sext 8 v)
  | .s16 => wrapN 32 (sext 16 v)
  | _ => v

/-- The registers a load writes in one lane from the lane's bytes, lowest bytes first (03 R186). -/
def ldWrites (sz : Sz) (d l : Nat) (bs : List Byte) : List (Dst × Word) :=
  let v := ldValue sz bs
  (List.range (szRegs sz)).map fun i => (.lane (d + i) l, w32 (v / 2 ^ (32 * i)))

/-- The lanes' stores in ascending order, so that the higher lane's byte remains (02 R93). -/
def storeAll (m : Mem) (xs : List (Nat × List Byte)) : Mem := xs.foldl (fun a x => memStore a x.1 x.2) m

/-- The new value of an atomic (02 R122, R123, 03). -/
def atomNew (fn : AtomFn) (bits old b cmp : Nat) : Nat :=
  let so := sext bits old
  let sb := sext bits b
  match fn with
  | .add => (old + b) % 2 ^ bits
  | .smin => if so ≤ sb then old else b
  | .smax => if so ≤ sb then b else old
  | .umin => min old b
  | .umax => max old b
  | .and => old &&& b
  | .or => old ||| b
  | .xor => old ^^^ b
  | .xchg => b
  | .cas => if old = cmp then b else old
  | .fadd => fpAdd s32Fmt old b

/-- The registers of a lane that receive the old value of its atomic (02 R121). -/
def oldWrites (x64 : Bool) (d l v : Nat) : List (Dst × Word) :=
  if x64 then [(.lane d l, w32 v), (.lane (d + 1) l, w32 (v / 2 ^ 32))] else [(.lane d l, w32 v)]

/-- The column slices an MLD reads (02, the stationary operand). -/
def pairSlices (scaled : Bool) : List (List Byte) → List (List Byte × List Byte)
  | m :: s :: r => if scaled then (m, s) :: pairSlices scaled r else (m, []) :: (s, []) :: pairSlices scaled r
  | [m] => [(m, [])]
  | [] => []

/-- A block-scaled element: none when its scale byte is invalid (01 R18, R19, R21; 02 R110). -/
def blockElem (bits m scale : Nat) : Option (Int × Int) :=
  if scale ≥ 128 then none else some (sext bits m, (scale : Int) - 64)

/-- Element k of a stationary column (02). -/
def statElem (fmt : MFmt) (col : List Byte × List Byte) (k : Nat) : Option (Int × Int) :=
  let byte := fun i => (nth col.1 i 0).toNat
  let sc := (nth col.2 (k / 32) 0).toNat
  match fmt with
  | .b4 => blockElem 4 (fld (byte (k / 2)) (4 * (k % 2) + 3) (4 * (k % 2))) sc
  | .b8 => blockElem 8 (byte k) sc
  | .f8 => some (f8Elem (byte k))
  | .h16 => fpElem h16Fmt (byte (2 * k) + 256 * byte (2 * k + 1))

/-- Element k of a streamed row (02, fragment layouts). -/
def rowElem (p : Pair) (row : List Nat) (k : Nat) : Option (Int × Int) :=
  let sc := fld (nthN row (pairRun p)) (8 * (k / 32) + 7) (8 * (k / 32))
  match p with
  | .b4b4 => blockElem 4 (fld (nthN row (k / 8)) (4 * (k % 8) + 3) (4 * (k % 8))) sc
  | .b4b8 => blockElem 8 (fld (nthN row (k / 4)) (8 * (k % 4) + 7) (8 * (k % 4))) sc
  | .b8b8 => blockElem 8 (fld (nthN row (k / 4)) (8 * (k % 4) + 7) (8 * (k % 4))) sc
  | .f8f8 => some (f8Elem (fld (nthN row (k / 4)) (8 * (k % 4) + 7) (8 * (k % 4))))
  | .h16h16 => fpElem h16Fmt (fld (nthN row (k / 2)) (16 * (k % 2) + 15) (16 * (k % 2)))

/-- The depth of a pair (02). -/
def pairDepth (p : Pair) : Nat :=
  match p with
  | .b4b4 => 128
  | .b4b8 => 128
  | .b8b8 => 64
  | .f8f8 => 64
  | .h16h16 => 16

/-- A fetched element with its replacement by zero (01 R40, R41). -/
def elemOr0 (e : Option (Int × Int)) : Int × Int := e.getD (0, 0)

/-- A product as formed: at the lean point its three low bits are free (01 R30, R65, R68). -/
def formProduct (lean : Bool) (draw idx : Nat) (m : Int) : Int :=
  if lean then (m / 8) * 8 + (Config.leanBits draw idx).toNat else m

/-- One output of an MMA: the sum of floored products and the spills (01 R31, R37, 02 R102). -/
def mmaOut (lean : Bool) (draw base : Nat) (g : Int) :
    Nat → List (Option (Int × Int)) → List (Option (Int × Int)) → Peat × Nat
  | k, some a :: as, some b :: bs =>
    let m := formProduct lean draw (base + k) (a.1 * b.1)
    let r := mmaOut lean draw base g (k + 1) as bs
    (floorGrid m (a.2 + b.2) g + r.1, b2n (isSpill m (a.2 + b.2) g) + r.2)
  | k, _ :: as, _ :: bs => mmaOut lean draw base g (k + 1) as bs
  | _, _, _ => (0, 0)

/-- |formed - exact| of block j of an output (05 R282, R283). -/
def blockDelta (draw base j : Nat) (as bs : List (Option (Int × Int))) : Nat :=
  ((List.range 32).map fun i =>
    let k := 32 * j + i
    match nth as k none, nth bs k none with
    | some a, some b => formProduct true draw (base + k) (a.1 * b.1) - a.1 * b.1
    | _, _ => 0).foldl (· + ·) 0 |>.natAbs

/-- The elements of an MMA: rows, columns and the replaced elements counted once each (01 R40). -/
def mmaElems (p : Pair) (frag : List (List Nat)) (cols : List (List Byte × List Byte)) :
    List (List (Option (Int × Int))) × List (List (Option (Int × Int))) :=
  let ks := List.range (pairDepth p)
  (frag.map fun row => ks.map (rowElem p row),
   (List.range 40).map fun n => ks.map (statElem (pairStat p) (nth cols n ([], []))))

/-- The result of streaming an MMA: Peat additions, spills and replaced elements (02 R102). -/
def mmaRun (lean : Bool) (draw pb : Nat) (g : Int) (rows cols : List (List (Option (Int × Int)))) :
    List (Nat × Peat) × Nat × Nat :=
  let outs := (rows.zipIdx).flatMap fun r => (cols.zipIdx).map fun cc =>
    (pb + 40 * r.2 + cc.2, mmaOut lean draw ((40 * r.2 + cc.2) * 64) g 0 r.1 cc.1)
  let bad := fun (xs : List (List (Option (Int × Int)))) => sumN (xs.map fun ys => ys.countP Option.isNone)
  (outs.map fun o => (o.1, o.2.1), sumN (outs.map fun o => o.2.2), bad rows + bad cols)

/-- The sampled blocks of a lean MMA (05 R282, R283). -/
def mmaDeltas (draw : Nat) (rows cols : List (List (Option (Int × Int)))) : List Nat :=
  (rows.zipIdx).flatMap fun r => (cols.zipIdx).flatMap fun cc => [0, 1].map fun j =>
    blockDelta draw ((40 * r.2 + cc.2) * 64) j r.1 cc.1

/-- The sampler samples instruction i of a cluster (05 R281). -/
def isSampled (env : CEnv) (i : Nat) : Bool :=
  let n := 2 ^ env.sampLog
  (i + (67 * env.lcl + env.seq) % n) % n == 0

/-- The value accumulates of PACC: floored elements, spills and replaced elements (01 R32, R37, R40, 03 R179). -/
def paccRun (fmt : VFmt) (g : Int) (pb : Nat) (mask : BitVec 32) (vals : List Nat) : List (Nat × Peat) × Nat × Nat :=
  let es := (maskLanes mask).flatMap fun l => [0, 1].map fun h =>
    (pb + 32 * h + l, fpElem (vfp fmt) (nthN vals (2 * l + h)))
  (es.map fun e => (e.1, let v := elemOr0 e.2; floorGrid v.1 v.2 g),
   es.countP (fun e => let v := elemOr0 e.2; isSpill v.1 v.2 g),
   es.countP fun e => e.2.isNone)

/-- The base of a flight's Peat range. -/
def flightBase (f : Flight) : Nat := (f.ranges.headD (0, 0)).1

/-- Fold conversion results into the digest when automatic folding is on (05 R297). -/
def autoFold (c : Cluster) (live : Bool) (vs : List Nat) : Cluster :=
  if c.autoDig && live then { c with digest := digFoldAll c.digest vs } else c

/-- The occupancy of a group-port access: 32 when fixed-time (02 R92, R94). -/
def gpOcc (t : Bool) (n : Nat) : Nat := if t then 32 else n

/-- What a start answers: the cluster, the flight with its results, its occupancy and its effects. -/
structure Started where
  c : Cluster
  f : Flight
  occ : Nat
  land : Nat
  conflict : Nat := 0
  eff : CEff := {}

/-- The parts of a flight's access of n bytes for each lane, one line at a time (02 R92). -/
def lanePieces (f : Flight) (n : Nat) : List Piece := byLine (f.addrs.flatMap fun p => linePieces p.1 p.2 n)

/-- Cycles an access needs: one more than its last part's cycle, at least 1 (02 R92, R118). -/
def piecesOcc (ps : List Piece) : Nat := max 1 (maxN (ps.map fun p => p.cyc + 1))

/-- A flight's first address, for the ledger (09 R460). -/
def firstAddr (f : Flight) : Nat := (f.addrs.headD (0, 0)).2

/-- The start of a group-port access in its parts: it occupies n cycles, or 32 (02 R92, R94), and adds n - 1 to CONFLICT_CYC unless it
is fixed-time. -/
def startAccess (c : Cluster) (f : Flight) (t : Bool) (ps : List Piece) (after : Nat) (eff : CEff) : Started :=
  let n := gpOcc t (piecesOcc ps)
  { c := c, f := { f with plan := ps }, occ := n, land := n + after, conflict := if t then 0 else n - 1, eff := eff }

/-- A Peat register as the unit reads it; an uncorrectable read flips the first of the access (09 R458). -/
def peatIn (c : Cluster) (f : Flight) (m : Word) (base l : Nat) : Peat :=
  let v := rdPeat c (base + l)
  if (maskLanes f.mask).head? = some l then v ^^^ m.setWidth 128 else v

/-- What a job does in its start cycle; a group-port access then runs cycle by cycle (`portCycle`) (02 R88 to R95, R101 to R112, R117 to
R121, 03 R179 to R190). -/
def runJob (env : CEnv) (c : Cluster) (f : Flight) (ecc : Ecc) : Started :=
  let m := eccMask ecc
  let pb := flightBase f
  let sp := eccEff ecc 2 (firstAddr f)
  let pt := eccEff ecc 3 0
  let fl := { f with flip := m }
  match f.job with
  | .value => { c := c, f := f, occ := 4, land := 32 }
  | .uldc _ _ _ => { c := c, f := f, occ := 1, land := 32 }
  | .ld sz t _ => startAccess c fl t (lanePieces f (szBytes sz)) 20 sp
  | .st sz t => startAccess c f t (lanePieces f (szBytes sz)) 0 {}
  | .atom _ x64 t _ => startAccess c fl t (byLane [] (f.addrs.flatMap fun p => linePieces p.1 p.2 (if x64 then 8 else 4))) 20 sp
  | .mld _ b =>
    let ps := byLine ((f.reads.zipIdx).flatMap fun r => linePieces r.2 r.1.1 r.1.2)
    let r := startAccess c fl false ps 3 (eccEff ecc 2 ((f.reads.headD (0, 0)).1))
    { r with c := { c with sbufs := listMod (fun sb => { sb with usableAt := c.kcyc + r.occ + 3 }) c.sbufs b } }
  | .mma p b lean =>
    let e := mmaElems p f.frag (flipCols m (nth c.sbufs b {}).cols)
    let vary := lean && env.lean
    let r := mmaRun vary env.draw pb c.gExp e.1 e.2
    let samp := vary && f.live && isSampled env (nthN f.vals 0)
    { c := if samp then { c with samples := c.samples ++ [⟨mmaDeltas env.draw e.1 e.2⟩] } else c,
      f := { f with acc := if f.live then r.1 else [] }, occ := 32, land := 39,
      eff := if f.live then { eccEff ecc 4 0 with spill := r.2.1, nonfinite := r.2.2, drawn := b2n vary, sampled := b2n samp }
        else {} }
  | .pclr => { c := c, f := { f with acc := (maskLanes f.mask).map fun l => (pb + l, 0) }, occ := 1, land := 16 }
  | .pacc fmt =>
    let r := paccRun fmt c.gExp pb f.mask f.vals
    { c := c, f := { f with acc := r.1 }, occ := 1, land := 16, eff := { spill := r.2.1, nonfinite := r.2.2 } }
  | .padd src =>
    { c := c, f := { f with acc := (maskLanes f.mask).map fun l => (pb + l, peatIn c f m src l) }, occ := 1, land := 16, eff := pt }
  | .pld t => startAccess c fl t (lanePieces f 16) 20 sp
  | .paddm t => startAccess c fl t (lanePieces f 16) 20 sp
  | .pins t => startAccess c fl t (lanePieces f (wireBytes c.wBits)) 20 sp
  | .pst t =>
    startAccess c { f with stores := f.addrs.map fun p => (p.2, leBytes 16 (peatIn c f m pb p.1).toNat) } t (lanePieces f 16) 20 pt
  | .pext t =>
    let k := wireBytes c.wBits
    startAccess c { f with stores := f.addrs.map fun p => (p.2, leBytes k (wireExtract (peatIn c f m pb p.1) c.wBits)) } t
      (lanePieces f k) 20 pt
  | .pcvtH16 d =>
    let vs := (maskLanes f.mask).map fun l => (l, peatToH16 (peatIn c f m pb l) c.gExp)
    { c := autoFold c f.live (vs.map (·.2)),
      f := { f with writes := vs.map fun v => (.lane d v.1, w32 v.2) }, occ := 1, land := 16, eff := pt }
  | .pcvtF8 d =>
    let vs := (maskLanes f.mask).map fun l => (l, peatToF8 (peatIn c f m pb l) c.gExp)
    { c := autoFold c f.live (vs.map (·.2)),
      f := { f with writes := vs.map fun v => (.lane d v.1, w32 v.2) }, occ := 1, land := 16, eff := pt }
  | .pcvtB8 d u =>
    let r := peatToB8 ((List.range 32).map fun l => peatIn c f m pb l) c.gExp
    let vs := (maskLanes f.mask).map fun l => (l, nthN r.2 l)
    let ws := vs.map fun v => ((.lane d v.1 : Dst), w32 v.2)
    { c := autoFold c f.live (vs.map (·.2) ++ (if vs.isEmpty then [] else [r.1])),
      f := { f with writes := if ws.isEmpty then [] else ws ++ [(.uni u, w32 r.1)] }, occ := 2, land := 24, eff := pt }

/-- The bytes a flight has read of a lane or slice, in address order. -/
def gotBytes (f : Flight) (who : Nat) : List Byte :=
  let mine := f.got.filter fun g => g.1 == who
  (List.range (mine.length)).flatMap fun k =>
    ((mine.find? fun g => (mine.countP fun h => decide (h.2.1 < g.2.1)) == k).map (·.2.2)).getD []

/-- The bytes of a part, those of the access's first read flipped by an uncorrectable error (09 R458). -/
def pieceBytes (c : Cluster) (f : Flight) (p : Piece) : List Byte :=
  let bs := memRange c.spad p.addr p.len
  if f.got.isEmpty then flipBytes f.flip bs else bs

/-- A part that reads. -/
def readPiece (r : Cluster × Flight) (p : Piece) : Cluster × Flight :=
  (r.1, { r.2 with got := r.2.got ++ [(p.who, p.off, pieceBytes r.1 r.2 p)] })

/-- A part of an ST writes its bytes (02 R93). -/
def writePiece (sz : Sz) (r : Cluster × Flight) (p : Piece) : Cluster × Flight :=
  match (r.2.addrs.zip r.2.vals).find? fun x => x.1.1 == p.who with
  | some x => ({ r.1 with spad := memStore r.1.spad p.addr (((leBytes (szBytes sz) x.2).drop p.off).take p.len) }, r.2)
  | none => r

/-- A lane's read-modify-write (02 R117, R121): the new value comes from the bits as they were read. -/
def atomPiece (fn : AtomFn) (n : Nat) (r : Cluster × Flight) (p : Piece) : Cluster × Flight :=
  match (r.2.addrs.zip r.2.vals).find? fun x => x.1.1 == p.who with
  | some x =>
    let old := leNat (pieceBytes r.1 r.2 p)
    ({ r.1 with spad := memPutNat r.1.spad p.addr n
                  (atomNew fn (8 * n) old (x.2 % 2 ^ (8 * n)) ((x.2 / 2 ^ 64) % 2 ^ (8 * n))) },
     { r.2 with got := r.2.got ++ [(p.who, 0, leBytes n old)] })
  | none => r

/-- One part of a flight's access, in its cycle. -/
def servePiece (r : Cluster × Flight) (p : Piece) : Cluster × Flight :=
  match r.2.job with
  | .st sz _ => writePiece sz r p
  | .atom fn x64 _ _ => atomPiece fn (if x64 then 8 else 4) r p
  | .pst _ => r
  | .pext _ => r
  | _ => readPiece r p

/-- An MLD whose last port cycle has passed has filled its buffer (02 R104, 03 R177). -/
def fillBuf (c : Cluster) (f : Flight) : Cluster :=
  match f.job with
  | .mld fmt b =>
    if f.live ∧ f.cycIn + 1 = f.occ then
      { c with sbufs := listMod (fun sb => { sb with
          cols := pairSlices (mldScale fmt != 0) ((List.range f.reads.length).map (gotBytes f)) }) c.sbufs b }
    else c
  | _ => c

/-- A row enters the array (02 R101, R135). -/
def streamRow (c : Cluster) (f : Flight) : Cluster :=
  match f.job with
  | .mma _ _ _ => { c with mtxRows := c.mtxRows + 1 }
  | _ => c

/-- The parts of a flight's access that fall in its present cycle. -/
def nowPieces (f : Flight) : List Piece :=
  if f.started ∧ f.cycIn < f.occ then f.plan.filter fun p => p.cyc == f.cycIn else []

/-- One flight in one cycle: the parts of its access that fall in it, an MMA's row. -/
def flightCycle (c : Cluster) (f : Flight) : Cluster × Flight :=
  if f.started ∧ f.cycIn < f.occ then
    let r := (nowPieces f).foldl servePiece (c, f)
    (streamRow (fillBuf r.1 r.2) r.2, { r.2 with cycIn := f.cycIn + 1 })
  else (c, f)

/-- The group port and the array in one cycle, flight by flight in issue order (02 R92 to R95, R101, R117). -/
def portCycle (c : Cluster) : Cluster :=
  let r := c.flights.foldl (fun r f => let x := flightCycle r.1 f; (x.1, r.2 ++ [x.2])) (c, [])
  { r.1 with flights := r.2 }

/-- Set the next free cycle of the units a flight uses (02 R88). -/
def occupy (c : Cluster) (u : UnitUse) (free : Nat) : Cluster :=
  match u with
  | .free => c
  | .sfu => { c with sfuFree := free }
  | .gport => { c with gportFree := free }
  | .mma => { c with mmaFree := free }
  | .peat => { c with peatFree := free }
  | .both => { c with gportFree := free, peatFree := free }

/-- Replace the first flight equal to one. -/
def putFlight (f f' : Flight) : List Flight → List Flight
  | [] => []
  | x :: xs => if x = f then f' :: xs else x :: putFlight f f' xs

/-- Remove the first flight equal to one. -/
def dropFlight (f : Flight) : List Flight → List Flight
  | [] => []
  | x :: xs => if x = f then xs else x :: dropFlight f xs

/-- What a watchpoint sees of an atomic's part: a write (0), but only a read (1) where a compare-exchange finds another value (02 R123, 16
R736). -/
def atomTouch (c : Cluster) (f : Flight) (fn : AtomFn) (n : Nat) (p : Piece) : Nat :=
  if fn = .cas then
    match (f.addrs.zip f.vals).find? fun x => x.1.1 == p.who with
    | some x => if leNat (pieceBytes c f p) = (x.2 / 2 ^ 64) % 2 ^ (8 * n) then 0 else 1
    | none => 1
  else 0

/-- The accesses of a flight's present cycle that watchpoints see (16 R736): scratchpad writes 0, reads 1. -/
def portTouches (c : Cluster) (f : Flight) : List (Nat × Nat × Nat) :=
  match f.job with
  | .st _ _ => (nowPieces f).map fun p => (0, p.addr, p.len)
  | .atom fn x64 _ _ => (nowPieces f).map fun p => (atomTouch c f fn (if x64 then 8 else 4) p, p.addr, p.len)
  | .pst _ => []
  | .pext _ => []
  | _ => (nowPieces f).map fun p => (1, p.addr, p.len)

/-- The accesses of a landing that watchpoints see: the bytes of a PST or PEXT, and the Peat registers written (03 R183, 16 R736). -/
def landTouches (f : Flight) : List (Nat × Nat × Nat) :=
  (f.stores.map fun x => (0, x.1, x.2.length)) ++ f.acc.map fun p => (2, p.1, 1)

/-- A start's ECC outcome, of which there is none where no lane takes part: nothing is read then (03 R155, 09 R455). -/
def startEcc (f : Flight) (e : Ecc) : Ecc := if f.live ∧ f.mask ≠ 0 then e else .clean

/-- Start the head of a unit when its order, the unit and its hazards allow (02 R88). -/
def startUnit (env : CEnv) (c : Cluster) (u : UnitId) (ecc : Ecc) : Cluster × CEff :=
  match unitHead (unitOf u) [] c.flights with
  | none => (c, {})
  | some (pre, f) =>
    if c.st == .running && startOk c pre f then
      let r := runJob env c f (startEcc f ecc)
      let f' := { r.f with started := true, startAt := c.kcyc, occ := r.occ, readyAt := c.kcyc + r.land }
      let c1 := occupy r.c f.use (c.kcyc + r.occ)
      ({ c1 with flights := putFlight f f' c1.flights, conflict := c1.conflict + r.conflict },
        r.eff)
    else (c, {})

/-- The Peat effect of a landing job: set for clear, load and insert, add for the others (01, Peat operations). -/
def landPeat (c : Cluster) (job : Job) (acc : List (Nat × Peat)) : Cluster :=
  match job with
  | .pclr => each acc (fun p c => wrPeat c p.1 p.2) c
  | .pld _ => each acc (fun p c => wrPeat c p.1 p.2) c
  | .pins _ => each acc (fun p c => wrPeat c p.1 p.2) c
  | _ => each acc (fun p c => wrPeat c p.1 (rdPeat c p.1 + p.2)) c

/-- The oldest instruction of a group whose result is due; a stopped cluster's started instructions complete (02 R131). -/
def dueFlight (c : Cluster) (g : Nat) : Option Flight :=
  c.flights.find? fun f => f.g == g && f.started && (decide (f.readyAt ≤ c.kcyc) || (c.st != .running && decide (f.occ ≤ f.cycIn)))

/-- What an access has read becomes its results (03 R184, R186, 02 R121). -/
def takeGot (c : Cluster) (f : Flight) : Flight :=
  match f.job with
  | .ld sz _ d => { f with writes := f.addrs.flatMap fun p => ldWrites sz d p.1 (gotBytes f p.1) }
  | .atom _ x64 _ d => { f with writes := f.addrs.flatMap fun p => oldWrites x64 d p.1 (leNat (gotBytes f p.1)) }
  | .pld _ => { f with acc := f.addrs.map fun p => (flightBase f + p.1, BitVec.ofNat 128 (leNat (gotBytes f p.1))) }
  | .paddm _ => { f with acc := f.addrs.map fun p => (flightBase f + p.1, BitVec.ofNat 128 (leNat (gotBytes f p.1))) }
  | .pins _ => { f with acc := f.addrs.map fun p => (flightBase f + p.1, wireInsert (leNat (gotBytes f p.1)) c.wBits) }
  | _ => f

/-- The array a landing reads: the operand cache for a constant load, the Peat file for what adds to it (01 R31, 02 R102). -/
def landSrc (f : Flight) : Option Nat :=
  match f.job with
  | .uldc _ _ _ => some 4
  | .mma _ _ _ => if f.acc.isEmpty then none else some 3
  | .pacc _ => if f.acc.isEmpty then none else some 3
  | .padd _ => if f.acc.isEmpty then none else some 3
  | .paddm _ => if f.acc.isEmpty then none else some 3
  | _ => none

/-- The effect of the ECC outcome of a landing's read; a landing that reads no array has none (09 R455, R456, R458). -/
def landEff (f : Flight) (ecc : Ecc) : CEff :=
  match landSrc f with
  | some k => eccEff ecc k 0
  | none => {}

/-- An uncorrectable read of a landing delivers the stored bits: the constant, or the Peat register it adds to. -/
def landFlip (f : Flight) (m : Word) : Flight :=
  match landSrc f, f.writes, f.acc with
  | some 4, w :: ws, _ => { f with writes := (w.1, w.2 ^^^ m) :: ws }
  | _, _, _ => f

/-- The Peat register a landing adds to first, as an uncorrectable read gives it. -/
def landPeatFlip (c : Cluster) (f : Flight) (m : Word) : Cluster :=
  match landSrc f, f.acc with
  | some 3, a :: _ => wrPeat c a.1 (rdPeat c a.1 ^^^ m.setWidth 128)
  | _, _ => c

/-- Land an instruction's results and effects (02 R84, R87, R111). -/
def landFlight (c : Cluster) (f0 : Flight) (ecc : Ecc) : Cluster :=
  let f := landFlip (takeGot c f0) (eccMask ecc)
  let c0 := { c with flights := dropFlight f0 c.flights }
  let c1 := each f.writes (fun w c => wrDst c f.g w) c0
  let c2 := landPeat (landPeatFlip c1 f (eccMask ecc)) f.job f.acc
  let c3 := { c2 with spad := storeAll c2.spad f.stores }
  { c3 with peatLanded := (c3.peatLanded.filter fun r => decide (c.kcyc ≤ r.2.2)) ++
              f.ranges.map fun r => (r.1, r.2, c.kcyc) }

/-- A result lands, and what waited for it goes on (02 R84, R124, R127, R128). -/
def resultReady (c : Cluster) (g : Nat) (ecc : Ecc) : Cluster × CEff :=
  match dueFlight c g with
  | none => (c, {})
  | some f =>
    let c1 := landFlight c f ecc
    let (c2, flt) := if c1.st == .running then settleWaits c1 else (c1, none)
    let t := takeGot c f
    (c2, { landEff t ecc with fault := flt, touch := landTouches t, by_ := (t.g, t.pc) })

end Sys2Proof.Machine
end

