-- ==== Sys2Proof/Machine/Issue.lean ====
section
/-!
DEFINITION. How a cluster's action reaches the package: what the cluster sees, its ledger counts, faults and
stops (02 R131, R132, R762; 04 R239, R243; 09 R458 to R460).
-/
namespace Sys2Proof.Machine

/-- The plan instances of a cluster's current kernel in one plan (04 R231). -/
def planOf (s : State) (l : Nat) (net : Bool) : List PlanInst :=
  match s.sched.exec.cur with
  | none => []
  | some k => s.sched.exec.insts.filter fun i => i.cl == l && i.net == net && i.kernel == k

/-- What a cluster sees of the package. -/
def mkEnv (s : State) (p : Nat) : CEnv :=
  let l := (clOf s p).logical.getD 0
  { count := s.count, lcl := l, ncl := mappedCount s,
    nDma := (planOf s l false).length, nNet := (planOf s l true).length,
    done := ((planOf s l false ++ planOf s l true).filter fun i => i.doneAt.isSome).map fun i => (i.net, i.k),
    lean := s.sched.exec.lean, seq := s.sched.exec.seq, sampLog := rdF s Reg.lspCtl 12 8, draw := s.draw }

/-- The page of a physical cluster. -/
def cluPage (p : Nat) : Nat := onPage Reg.pageClu p

/-- Stop the execution: SCH.STOP and the ledger; the clusters that have not faulted go idle at the end of the cycle (`idleStopped`) (02
R762, 04 R221, R239, R243, 09 R460). -/
def stopExec (s : State) (cause cluster : Nat) : State :=
  let e := s.sched.exec
  if e.running && !e.stopped then
    let s1 := modExec s fun e => { e with stopped := true, led := { e.led with stopped := true, stopCause := cause } }
    let s2 := wrN s1 Reg.schStop (cluster % 256 + cause * 2 ^ 8 + (e.cur.getD 0) * 2 ^ 16)
    setEvt (wrN s2 Reg.schStopCyc e.cyc) Reg.pageSch 2
  else s

/-- Every running cluster returns to idle. -/
def idleClusters (s : State) : State := allCl s fun c => if c.st = .running then { c with st := .idle } else c

/-- After the cycle of a stop the clusters that have not faulted are idle (02 R762). -/
def idleStopped (s : State) : State := if s.sched.exec.stopped then idleClusters s else s

/-- Plan instances may still start: the execution has not stopped, or a cluster fault has stopped it in this very cycle (02 R762). -/
def mayStart (s : State) : Bool :=
  let e := s.sched.exec
  !e.stopped || (e.led.stopCause == 4 && rdN s Reg.schStopCyc == e.cyc % 2 ^ 32)

/-- A cluster fault: the first is recorded, it counts among its execution's, and it stops the execution (02 R131, R132, R762, 09 R472). -/
def clusterFault (s : State) (p : Nat) (f : ClFault) : State :=
  let c := clOf s p
  if c.st = .faulted then s
  else
    let s1 := setCl s p { c with st := .faulted, flt := { f with kcyc := f.kcyc % 2 ^ 32 } }
    stopExec (modExec (setEvt s1 (cluPage p) 1) fun e => { e with faults := p :: e.faults }) 4 (c.logical.getD 0)

/-- Spills and replaced elements in the execution's ledger (09 R459). -/
def effCounts (e : CEff) (s : State) : State :=
  if e.spill = 0 ∧ e.nonfinite = 0 then s
  else modLed s fun d => { d with spill := led16 d.spill e.spill, nonfinite := led16 d.nonfinite e.nonfinite }

/-- An uncorrectable error of a cluster's arrays (09 R458, R460). -/
def effUe (p l : Nat) (e : CEff) (s : State) : State :=
  match e.ue with
  | some (src, addr) => modCl (modLed s fun d => ledUe d src 0 l 0 addr) p fun c => { c with ueThis := true }
  | none => s

/-- A corrected error of a cluster's arrays: the scratchpad, the Peat file and the register file (02 R134), and as 09 R456 counts every
array of the block the instruction cache and the stationary buffers too (DEDUCED, log 69). -/
def effCe (p : Nat) (e : CEff) (s : State) : State :=
  if e.ce = 0 then s else modCl (cntErr s (cluPage p) e.ce) p fun c => { c with ceCount := c.ceCount + e.ce }

/-- The execution leaves the exact class (05 R262). -/
def effVary (e : CEff) (s : State) : State := if e.vary then wrB s Reg.lspStatus 2 false else s

/-- Sampled matrix instructions (05 R288). -/
def effSampled (e : CEff) (s : State) : State :=
  if e.sampled = 0 then s else cntReg (cntReg s Reg.lspSamples e.sampled) Reg.lspTotal e.sampled

/-- Breakpoints and watchpoints (16 R735, R736). -/
def effHalts (l : Nat) (e : CEff) (s : State) : State :=
  let s1 := breakAt s l e.bkpt
  if e.touch.isEmpty then s1 else watch s1 l e.by_.1 e.by_.2 0 e.touch

/-- The fault of an action (02 R131). -/
def effFault (p : Nat) (e : CEff) (s : State) : State :=
  match e.fault with
  | some f => clusterFault s p f
  | none => s

/-- Apply a cluster action's effects to the package (09 R456, R458 to R460, 05 R262, R288). -/
def applyEff (s : State) (p : Nat) (e : CEff) : State :=
  let l := (clOf s p).logical.getD 0
  let s1 := effSampled e (effVary e (effCe p e (effUe p l e (effCounts e s))))
  effFault p e (effHalts l e (putDraw s1 (s1.draw + e.drawn)))

/-- An action of one cluster, which a frozen die does not take (04 R211). -/
def actOn (s : State) (p : Nat) (f : CEnv → Cluster → Cluster × CEff) : State :=
  if dieFrozen s then s
  else
    let r := f (mkEnv s p) (clOf s p)
    applyEff (setCl s p r.1) p r.2

/-- The registers as an uncorrectable read gives them to an instruction: its first source, of a lane register the lowest active lane
(09 R455, R458). -/
def flipSrc (c : Cluster) (g : Nat) (m : Word) : List RegId → Cluster
  | .v r :: _ =>
    match maskLanes (grp c g).active with
    | l :: _ => wrLane c g r l (rdLane c g r l ^^^ m)
    | [] => c
  | .u r :: _ => wrUni c g r (rdUni c g r ^^^ m)
  | .p r :: _ => if r = 0 then c else { c with preds := smSet (dflt 0) c.preds (g * 8 + r) (rdPred c g r ^^^ m) }
  | [] => c

/-- An act has its effect on a path without lanes too: uniform results, a loop or branch, a plan wait, a fault of its own (03 R155). -/
def actsEmpty (a : Act) : Bool :=
  a.emptyFaults || (a.use == .free && a.dsts.any fun d => match d with | .u _ => true | _ => false)

/-- The act reads registers that its ECC outcome is of: none does on a path without lanes, but for what acts there (03 R155, 09 R455). -/
def readsRegs (x : Ctx) (a : Act) : Bool :=
  !a.srcs.isEmpty && (decide ((grp x.c x.g).active ≠ 0) || actsEmpty a)

/-- An instruction's act with the outcome that its register reads have (09 R455, R456, R458); an instruction that reads no register has
none. -/
def actAt (mk : Ctx → Act) (x : Ctx) : Act :=
  let e := (grp x.c x.g).regEcc
  let a := mk x
  if e = .clean ∨ readsRegs x a = false then a
  else
    let b := mk { x with c := flipSrc x.c x.g (eccMask e) a.srcs }
    { b with eff := { b.eff with ce := (eccEff e 1 0).ce, ue := (eccEff e 1 0).ue } }

/-- Issue an instruction at a site; none issues while a pre-emption drains (02 R86, R87, 08 R452). -/
def issue (s : State) (st : Site) (i : Instr) (mk : Ctx → Act) : Host.Outcome State Fault Refusal :=
  let s1 := if s.sched.exec.draining then s else actOn s st.cl.val fun env c => issueIns c st i (actAt mk ⟨c, st.g.val, env⟩)
  let did := !dieFrozen s && !s.sched.exec.draining
    && issuable (clOf s st.cl.val) st i (actAt mk ⟨clOf s st.cl.val, st.g.val, mkEnv s st.cl.val⟩)
  .next (stepIssue s1 ((clOf s st.cl.val).logical.getD 256) st.g.val did)

end Sys2Proof.Machine
end

