-- ==== Sys2Proof/Machine/Control.lean ====
section
/-!
DEFINITION. Control, fetch, units, waits, barriers and debug instructions (02 R80 to R100, R124 to R130; 03 R152 to R156, R192 to R199).
-/
namespace Sys2Proof.Machine

/-- The result of a command. -/
abbrev Out := Host.Outcome State Fault Refusal

/-- NOP: its slot and nothing else (03 R152). -/
def execNop (st : Site) (gd : Guard) (s : State) : Out :=
  issue s st (.nop st gd) fun _ => { srcs := guardSrc gd }

/-- BRA: the group continues at TARGET (03 R152). -/
def execBra (st : Site) (target : Nat) (s : State) : Out :=
  issue s st (.bra st target) fun _ => { jump := .goto target }

/-- The jump of a conditional branch: it diverges when the lanes differ, the fixed-time form always; on a path without
lanes the ordinary form falls through (02 R80, R82, R83, 03 R146, R155). -/
def branchJump (fixed : Bool) (gd : Guard) (target reconv : Nat) (x : Ctx) : Jump :=
  let act := (grp x.c x.g).active
  let taken := x.lanes gd
  if fixed = true then .diverge true taken target reconv
  else if taken = 0 then .next
  else if taken = act then .goto target
  else .diverge false taken target reconv

/-- A divergence that finds 16 entries faults (02 R81). -/
def depthFaults (j : Jump) (x : Ctx) : List (Nat × Nat × Nat) :=
  match j with
  | .diverge _ _ _ _ => if 16 ≤ (grp x.c x.g).stack.length then [(4, 0, 0)] else []
  | _ => []

/-- The act of a conditional branch, which reads its condition at issue (03 R146, R153). -/
def branchAct (fixed : Bool) (gd : Guard) (target reconv : Nat) (x : Ctx) : Act :=
  let j := branchJump fixed gd target reconv x
  { srcs := guardSrc gd, jump := j, faults := depthFaults j x, emptyFaults := true }

/-- BRA.P (02 R80 to R82). -/
def execBraP (st : Site) (gd : Guard) (target reconv : Nat) (s : State) : Out :=
  issue s st (.braP st gd target reconv) (branchAct false gd target reconv)

/-- BRA.T (02 R83). -/
def execBraT (st : Site) (gd : Guard) (target reconv : Nat) (s : State) : Out :=
  issue s st (.braT st gd target reconv) (branchAct true gd target reconv)

/-- LOOP (03 R154). -/
def loopAct (a target : Nat) (x : Ctx) : Act :=
  let n := (x.u a).toNat
  if 2 ≤ n then { uniAct [.u a] a (w32 (n - 1)) with jump := .goto target } else uniAct [.u a] a 0

/-- LOOP uA, target (03 R154). -/
def execLoop (st : Site) (a : Fin 64) (target : Nat) (s : State) : Out :=
  issue s st (.loop st a target) (loopAct a.val target)

/-- EXIT: the guard's lanes leave the group (02 R84). -/
def execExit (st : Site) (gd : Guard) (s : State) : Out :=
  issue s st (.exit st gd) fun x => { srcs := guardSrc gd, jump := .leave (x.lanes gd) }

/-- An illegal word faults at issue, of which there is none while a pre-emption drains (03 R205, R206, 08 R452). -/
def execIllegalEncoding (st : Site) (s : State) : Out :=
  .next (if s.sched.exec.draining then s else actOn s st.cl.val fun _ c => issueIllegal c st)

/-- A fetch with its ECC outcome: a corrected cache read counts, an uncorrectable one delivers the stored bits (09 R456, R458). `regs` is
what the word's register reads find when it issues (09 R455). -/
def fetchAct (g : Nat) (ecc regs : Ecc) (c : Cluster) : Cluster × CEff :=
  let may := mayFetch c g
  let r := fetchWord c g
  let got := (grp c g).held.isNone && (grp r.1 g).held.isSome
  let flip := fun h : Option Nat => h.map fun w => w ^^^ (eccMask ecc).toNat
  let c1 := modGrp r.1 g fun gr => if may then { gr with regEcc := regs } else gr
  if got then (modGrp c1 g fun gr => { gr with held := flip gr.held }, { eccEff ecc 4 0 with fault := r.2 })
  else (c1, { fault := r.2 })

/-- INSTRUCTION_FETCH (02 R97, R98, 03 R137). -/
def execInstructionFetch (st : Site) (ecc : Ecc) (s : State) (regs : Ecc := .clean) : Out :=
  .next (actOn s st.cl.val fun _ c => fetchAct st.g.val ecc regs c)

/-- A fill ends with the outcome of its scratchpad read (02 R97 to R100, 09 R455 to R458). -/
def fillAct (oc : Bool) (idx : Nat) (ecc : Ecc) (c : Cluster) : Cluster × CEff :=
  (fillDone c oc idx (flipBytes (eccMask ecc)),
    match dueFill c oc idx with
    | some f => eccEff ecc 2 (f.line * 64)
    | none => {})

/-- CACHE_FILL_DONE (02 R97 to R100). -/
def execCacheFillDone (cl : Fin 144) (oc : Bool) (idx : Nat) (s : State) (ecc : Ecc := .clean) : Out :=
  .next (actOn s cl.val fun _ c => fillAct oc idx ecc c)

/-- UNIT_START: the head of a unit's order starts (02 R88). -/
def execUnitStart (cl : Fin 144) (u : UnitId) (ecc : Ecc) (s : State) : Out :=
  .next (actOn s cl.val fun env c => startUnit env c u ecc)

/-- RESULT_READY: the oldest due result of a group lands (02 R84, R87). -/
def execResultReady (st : Site) (ecc : Ecc) (s : State) : Out :=
  .next (actOn s st.cl.val fun _ c => resultReady c st.g.val ecc)

/-- DSYNC and NSYNC wait for a plan instance (03 R192 to R194). -/
def planAct (net : Bool) (k : Nat) (x : Ctx) : Act :=
  { wait := if x.env.done.contains (net, k) then .none else .plan net k, emptyFaults := true,
    faults := if (if net then x.env.nNet else x.env.nDma) ≤ k then [(10, 0, 0)] else [] }

/-- DSYNC k (03 R193). -/
def execDsync (st : Site) (k : BitVec 16) (s : State) : Out :=
  issue s st (.dsync st k) (planAct false k.toNat)

/-- NSYNC k (03 R193). -/
def execNsync (st : Site) (k : BitVec 16) (s : State) : Out :=
  issue s st (.nsync st k) (planAct true k.toNat)

/-- A barrier's act: a fault unless the lanes taking part and the exited lanes are all 32; none on a path without lanes (02 R125, 03 R155). -/
def barAct (gd : Guard) (w : Wait) (x : Ctx) : Act :=
  let gr := grp x.c x.g
  let m := x.lanes gd
  { srcs := guardSrc gd, mask := m, wait := if gr.active = 0 then .none else w,
    faults := if m ||| gr.exited = allLanes then [] else [(7, 0, 0)] }

/-- BARG (02 R124, R125). -/
def execBarg (st : Site) (gd : Guard) (s : State) : Out :=
  issue s st (.barg st gd) fun x => barAct gd (.barg x.c.kcyc) x

/-- BARC (02 R125 to R130). -/
def execBarc (st : Site) (gd : Guard) (id : Fin 4) (s : State) : Out :=
  issue s st (.barc st gd id) fun x => barAct gd (.barc id.val x.c.kcyc none) x

/-- BKPT: an armed breakpoint halts at the instruction's address; otherwise the slot alone (03 R198). -/
def execBkpt (st : Site) (n : BitVec 16) (s : State) : Out :=
  issue s st (.bkpt st n) fun x =>
    { eff := { bkpt := if (grp x.c x.g).active ≠ 0 then some (n.toNat, x.g, (grp x.c x.g).pc) else none } }

/-- DIGEST folds its active lanes in ascending order (03 R199, 05 R295, R296). -/
def digestAct (gd : Guard) (a : Nat) (x : Ctx) : Act :=
  let m := x.lanes gd
  { srcs := guardSrc gd ++ [.v a], mask := m,
    digest := some (digFoldAll x.c.digest ((maskLanes m).map fun l => (x.v a l).toNat)) }

/-- DIGEST vA (03 R199). -/
def execDigest (st : Site) (gd : Guard) (a : Fin 256) (s : State) : Out :=
  issue s st (.digest st gd a) (digestAct gd a.val)

end Sys2Proof.Machine
end

