-- ==== Sys2Proof/Machine/Plan.lean ====
section
/-!
DEFINITION. Descriptors, placement, routes, the tiler and plan instances (04), and the checks that an image or a
kernel block must pass (04 R215 to R254, R764; 07 R362, R383, R385; 08 R434, R436; 13 R610).
-/
namespace Sys2Proof.Machine

/-- Launch-descriptor fields (04 R217). -/
def kEntry (d : List Nat) : Nat := fld (nthN d 0) 19 0
def kGroups (d : List Nat) : Nat := fld (nthN d 0) 23 20
def kLeanOk (d : List Nat) : Bool := bitN (nthN d 0) 24
def kTiled (d : List Nat) : Bool := bitN (nthN d 0) 25
def kLayer (d : List Nat) : Nat := fld (nthN d 1) 15 0
def kWindow (d : List Nat) : Nat := nthN d 10

/-- Layer-descriptor fields (04 R215). -/
def lGrid (l : List Nat) : Int := gridExp (fld (nthN l 0) 7 0)
def lWidth (l : List Nat) : Nat := wireWidth (fld (nthN l 0) 9 8)
def lAttn (l : List Nat) : Bool := bitN (nthN l 0) 16
def lExit (l : List Nat) : Bool := bitN (nthN l 0) 17
def lShard (l : List Nat) : Nat := fld (nthN l 1) 31 16
def lTilePages (l : List Nat) : Nat := fld (nthN l 2) 7 0
def lPageBytes (l : List Nat) : Nat := fld (nthN l 2) 31 8
def lA0 (l : List Nat) : Nat := nthN l 3
def lAP (l : List Nat) : Nat := nthN l 4
def lA1 (l : List Nat) : Nat := nthN l 5
def lC1 (l : List Nat) : Nat := nthN l 6
def lPartial (l : List Nat) : Nat := nthN l 7

/-- A layer of the image. -/
def imgLayer (im : Image) (i : Nat) : List Nat := nth im.layers i []

/-- The plan directory's offset in the image or the kernel block (04 R217, R219). -/
def planDir (d : List Nat) : Nat := nthN d 11 + fld (nthN d 12) 5 0 * 2 ^ 32

/-- The records of a kernel's plan directory, in logical order (04 R219). -/
def dirOf (im : Image) (d : List Nat) : List (List Nat) :=
  match im.dirs.find? fun x => x.at_ == planDir d with
  | some x => x.recs
  | none => []

/-- The plans that the directories name, for every kernel and logical cluster: `i` is 0 for DMA, 2 for network (04 R219). A PLAN_DIR that names
no directory gives empty plans, and a record that reaches past the plan area the entries that lie in it: R219 says what a record names and
not what a wrong one does, and no check of R426 speaks of it (DESIGN CHOICE, log 45). -/
def imgPlans (im : Image) (i : Nat) : List (List (List (List Nat))) :=
  im.kernels.map fun d => (dirOf im d).map fun r => (im.area.drop (nthN r i)).take (nthN r (i + 1))

/-- The DMA and the network plans of an image. -/
def imgDma (im : Image) : List (List (List (List Nat))) := imgPlans im 0
def imgNet (im : Image) : List (List (List (List Nat))) := imgPlans im 2

/-- STACK and OFF of a layer's record in the pool map (06 R322). -/
def poolRec (im : Image) (l : Nat) : Nat × Nat :=
  let r := nth im.poolMap l []
  (fld (nthN r 0) 2 0, nthN r 1)

/-- The window of a kernel (04 R209). -/
def kernelWindow (d l : List Nat) (sl f : Nat) : Nat :=
  if kTiled d then lA0 l + sl * lA1 l + f * lC1 l else kWindow d

/-- The launch cycles of kernels in order, from a first launch cycle (04 R208). -/
def layRuns (im : Image) (sl f : Nat) : Nat → Nat → List (List Nat) → List KRun
  | _, _, [] => []
  | i, at_, d :: ds =>
    let l := imgLayer im (kLayer d)
    let w := kernelWindow d l sl f
    ⟨i, at_, w, d, l, kLayer d⟩ :: layRuns im sl f (i + 1) (at_ + w + 16) ds

/-- The kernels of a step: all, or 0 to EXIT_KERNEL (04 R208, 06 R343). -/
def stepKernels (im : Image) (exited : Bool) : List (List Nat) :=
  if exited then im.kernels.take (im.exitKernel + 1) else im.kernels

/-- The planned duration D (04 R208). -/
def planEnd (rs : List KRun) : Nat :=
  match rs.getLast? with
  | some r => r.at_ + r.window
  | none => 0

/-- The logical cluster count in effect (04 R224, 09 R476). -/
def ncl (s : State) : Nat := rdF s Reg.glbIdent 15 8

/-- Home positions within a block (04 R224). -/
def homeOffs : List (Nat × Nat) := [(0, 0), (1, 0), (2, 0), (0, 1), (2, 1), (0, 2), (1, 2), (2, 2)]

/-- Clusters of a block: 8 for 128 logical clusters, 7 for 112 (04 R224). -/
def perBlock (n : Nat) : Nat := n / 16

/-- The block of a logical cluster. -/
def blockOf (n l : Nat) : Nat := l / max 1 (perBlock n)

/-- The home router of a logical cluster (04 R224). -/
def homePos (n l : Nat) : Nat × Nat :=
  let b := blockOf n l
  let o := nth homeOffs (l % max 1 (perBlock n)) (0, 0)
  (3 * (b % 4) + o.1, 3 * (b / 4) + o.2)

/-- Position number of a router (04). -/
def posNum (p : Nat × Nat) : Nat := p.1 + 12 * p.2

/-- The spare positions of a block, ascending (04 R224). -/
def spares (n b : Nat) : List Nat :=
  ((if perBlock n = 8 then [(1, 1)] else [(1, 1), (2, 2)]).map fun o => posNum (3 * (b % 4) + o.1, 3 * (b / 4) + o.2))

/-- A physical cluster that the disabled-unit map admits. -/
def clusterOk (s : State) (p : Nat) : Bool := !(clOf s p).quarantined

/-- Map the homes in ascending order; the block of the first that cannot be mapped otherwise (04 R225). -/
def mapHomes (s : State) (n : Nat) : List Nat → List (Nat × Nat) → Except Nat (List (Nat × Nat))
  | [], m => .ok m
  | l :: ls, m =>
    let p := posNum (homePos n l)
    if clusterOk s p then mapHomes s n ls (m ++ [(l, p)])
    else match (spares n (blockOf n l)).find? fun q => clusterOk s q && !(m.any fun x => x.2 == q) with
      | some q => mapHomes s n ls (m ++ [(l, q)])
      | none => .error (blockOf n l)

/-- The mapping of R225 for a logical count; every router must be admitted. -/
def mapping (s : State) (n : Nat) : Except Nat (List (Nat × Nat)) :=
  if s.boot.qRouters.isEmpty then mapHomes s n (List.range n) [] else .error 0

/-- Give every physical cluster its logical number (04 R225, 02 R134). -/
def applyMapping (s : State) (m : List (Nat × Nat)) : State :=
  each m (fun x t => modCl t x.2 fun c => { c with logical := some x.1 }) (allCl s fun c => { c with logical := none })

/-- The router of an edge port (04). -/
def edgePos (e : Nat) : Nat × Nat :=
  if e < 12 then (e, 0) else if e < 24 then (11, e - 12) else if e < 36 then (e - 24, 11) else (0, e - 36)

/-- Numbers from a to b, in either direction. -/
def walk (a b : Nat) : List Nat := if a ≤ b then (List.range (b - a + 1)).map (a + ·) else (List.range (a - b + 1)).map (a - ·)

/-- The routers of a route, first to last: columns first for ORDER 0 (04 R230, R233). -/
def routers (order : Nat) (a b : Nat × Nat) : List (Nat × Nat) :=
  if order = 0 then (walk a.1 b.1).map (fun x => (x, a.2)) ++ ((walk a.2 b.2).drop 1).map fun y => (b.1, y)
  else (walk a.2 b.2).map (fun y => (a.1, y)) ++ ((walk a.1 b.1).drop 1).map fun x => (x, b.2)

/-- The first and last router of an instance (04 R233). -/
def routeEnds (n cl kind peer : Nat) : (Nat × Nat) × (Nat × Nat) :=
  let me := homePos n cl
  if kind = 0 then (edgePos peer, me) else if kind = 1 then (me, edgePos peer)
  else if kind = 2 then (me, homePos n peer) else (homePos n peer, me)

/-- The route of an instance. -/
def instRoute (n : Nat) (i : PlanInst) : List (Nat × Nat) :=
  let e := routeEnds n i.cl i.kind i.port
  routers i.order e.1 e.2

/-- An edge port of the Azlink block (04 R229). -/
def edgeAzl (e : Nat) : Bool := decide (36 ≤ e) && decide (e ≤ 43)

/-- The stack of an HBM address (04 R240). -/
def hbmStack (a : Nat) : Nat := a / 0x600000000

/-- The pseudo-channel of an HBM address (04 R240). -/
def hbmPc (a : Nat) : Nat := fld a 10 6

/-- The key of a pseudo-channel in State. -/
def chanKey (h pc : Nat) : Nat := h * 32 + pc

/-- One tile (04 R245, R246, R253). -/
structure Tile where
  ctx : Nat
  b : Nat
  first : Nat
  pages : Nat
  isFirst : Bool
  isLast : Bool
deriving DecidableEq, Repr

/-- Tokens a session holds in the step, those of the step included (04 R245; DEDUCED, log 20). -/
def stepTokens (s : State) (e : BatchEntry) : Nat :=
  let x := ctxOf s e.ctx
  if e.decode then x.len + 1 else x.len + e.rows + b2n (decide (x.waiting.length ≤ e.rows))

/-- The tiles of one session (04 R245). -/
def sessionTiles (tp pages ctx b : Nat) : List Tile :=
  let n := ceilDiv pages (max 1 tp)
  (List.range n).map fun i =>
    ⟨ctx, b, i * tp, min tp (pages - i * tp), i == 0, i + 1 == n⟩

/-- TILE_PAGES, which every tiled layer shares (04 R251, 06 R336). -/
def tilePages (im : Image) : Nat :=
  match im.layers.find? lAttn with
  | some l => lTilePages l
  | none => 1

/-- The tiles of a batch in order (04 R246). -/
def batchTiles (s : State) (im : Image) (batch : List BatchEntry) : List Tile :=
  (batch.zipIdx).flatMap fun e => sessionTiles (tilePages im) (ceilDiv (stepTokens s e.1) 64) e.1.ctx e.2

/-- The tiles folded on a cluster, in order (04 R248). -/
def foldsOf (n c : Nat) (ts : List Tile) : List (Nat × Tile) :=
  ((ts.zipIdx).filter fun t => t.1.b % n == c).map fun t => (t.2, t.1)

/-- S and F of a list of tiles (04 R247 to R249). -/
def tilerCounts (n : Nat) (ts : List Tile) : Nat × Nat :=
  (ceilDiv ts.length n, maxN ((List.range n).map fun c => (foldsOf n c ts).length))

/-- A slot record (04 R253). -/
def slotWords (t : Option (Nat × Tile)) : List Nat :=
  match t with
  | none => [0, 0, 0, 0]
  | some (i, t) => [t.ctx % 512 + t.first % 2 ^ 16 * 2 ^ 16, t.pages % 256 + b2n t.isFirst * 256 + b2n t.isLast * 512, i, t.b % 2 ^ 16]

/-- A fold record (04 R253). -/
def foldWords (t : Option (Nat × Tile)) : List Nat :=
  match t with
  | none => [0, 0, 0, 0]
  | some (i, t) => [t.ctx % 512, i, b2n t.isFirst + b2n t.isLast * 2 + 4, t.b % 2 ^ 16]

/-- Tile t with its number, when it exists. -/
def tileAt (ts : List Tile) (i : Nat) : Option (Nat × Tile) := (ts[i]?).map fun t => (i, t)

/-- The tile table of a cluster (04 R253). -/
def tileTable (im : Image) (n c : Nat) (ts : List Tile) : List Nat :=
  ((List.range im.sMax).flatMap fun j => slotWords (if j < ceilDiv ts.length n then tileAt ts (j * n + c) else none)) ++
  ((List.range im.fMax).flatMap fun f => foldWords ((foldsOf n c ts)[f]?))

/-- Plan-entry fields (04 R230). -/
def eKind (e : List Nat) : Nat := fld (nthN e 0) 2 0
def eLane (e : List Nat) : Nat := fld (nthN e 0) 3 3
def eOrder (e : List Nat) : Nat := fld (nthN e 0) 4 4
def eAsrc (e : List Nat) : Nat := fld (nthN e 0) 7 5
def ePeer (e : List Nat) : Nat := fld (nthN e 0) 15 8
def eRepeat (e : List Nat) : Nat := fld (nthN e 0) 17 16
def ePidx (e : List Nat) : Nat := fld (nthN e 0) 25 18
def eOffset (e : List Nat) : Int := sext 32 (nthN e 1)
def eHaddr (e : List Nat) : Nat := nthN e 2 + fld (nthN e 3) 5 0 * 2 ^ 32
def eSaddr (e : List Nat) : Nat := fld (nthN e 4) 19 0
def eLength (e : List Nat) : Nat := nthN e 5

/-- What plan expansion uses: counts, the tiler tables, the page pool and the image areas (04 R231, R232, R252). -/
structure PlanEnv where
  n : Nat
  sl : Nat
  f : Nat
  tiles : List Tile
  pageOf : Nat → Nat → Option Nat
  pageAddr : Nat → Nat → Nat
  partialAt : Nat
  tableAt : Nat
  tabRow : Nat

/-- The pool page of a context's session-local page (06 R323). -/
def ctxPage (s : State) (c k : Nat) : Option Nat := (ctxOf s c).pages[k]?

/-- The HBM address of a layer's slice of a pool page (06 R322). -/
def pageAddrOf (s : State) (layer page : Nat) : Nat :=
  match s.gener.image with
  | none => 0
  | some im =>
    let m := poolRec im layer
    rdN s (Reg.kvpBaseLo + 8 * m.1) + rdN s (Reg.kvpBaseHi + 8 * m.1) * 2 ^ 32 + page * rdN s Reg.kvpStride + m.2

/-- The environment of a step's plans. -/
def stepEnv (s : State) (im : Image) (r : StepRec) : PlanEnv where
  n := ncl s
  sl := r.s
  f := r.f
  tiles := batchTiles s im r.batch
  pageOf := ctxPage s
  pageAddr := pageAddrOf s
  partialAt := im.partialAt
  tableAt := im.tableAt
  tabRow := (im.sMax + im.fMax) * 16

/-- The environment of a RUN_KERNEL's plans: no tiler, no image (13 R610). -/
def runkEnv (s : State) : PlanEnv where
  n := ncl s
  sl := 0
  f := 0
  tiles := []
  pageOf := fun _ _ => none
  pageAddr := fun _ _ => 0
  partialAt := 0
  tableAt := 0
  tabRow := 0

/-- The HBM address an entry's address source gives, none when the page or partial does not exist (04 R252, R254). An entry whose REPEAT is of
another kind than its source has no slot or fold of its own: its repetition number is taken for one (R252 is silent; DESIGN CHOICE, log 45). -/
def entryAddr (v : PlanEnv) (lidx : Nat) (layer : List Nat) (cl rep : Nat) (e : List Nat) : Option Nat :=
  let h := eHaddr e
  let slot := tileAt v.tiles (rep * v.n + cl)
  if eAsrc e = 0 then some h
  else if eAsrc e = 1 then
    match slot with
    | some (_, t) => if ePidx e < t.pages then (v.pageOf t.ctx (t.first + ePidx e)).map fun p => v.pageAddr lidx p + h else none
    | none => none
  else if eAsrc e = 2 then slot.map fun t => v.partialAt + t.1 * lPartial layer + h
  else if eAsrc e = 3 then ((foldsOf v.n cl v.tiles)[rep]?).map fun t => v.partialAt + t.1 * lPartial layer + h
  else if eAsrc e = 4 then some (v.tableAt + cl * v.tabRow + h)
  else none

/-- The reduction slot and unit of an Azlink-edge address (07 R383). -/
def redSlot (a : Nat) : Nat := fld a 29 22
def redUnit (a : Nat) : Nat := fld a 21 6

/-- What an entry's instance moves between. -/
def entryRoute (a : Option Nat) (e : List Nat) : Route :=
  match a with
  | none => .nothing
  | some a =>
    if eLength e = 0 then .nothing
    else if eKind e = 0 then
      if ePeer e < 36 then .hbmIn a else if edgeAzl (ePeer e) then .redIn (redSlot a) (redUnit a) else .spillIn a
    else if eKind e = 1 then
      if ePeer e < 36 then .hbmOut a else if edgeAzl (ePeer e) then .redOut (redSlot a) (redUnit a) else .nothing
    else if eKind e = 2 then .send (ePeer e) 0
    else if eKind e = 3 then .recv (ePeer e) else .nothing

/-- The start cycle of an instance (04 R232). -/
def instStart (v : PlanEnv) (r : KRun) (rep : Nat) (e : List Nat) : Int :=
  if eRepeat e = 0 then r.at_ + eOffset e
  else if eRepeat e = 1 then r.at_ + lAP r.layer + rep * lA1 r.layer + eOffset e
  else r.at_ + lAP r.layer + v.sl * lA1 r.layer + rep * lC1 r.layer + eOffset e

/-- One instance of an entry. -/
def mkInst (v : PlanEnv) (r : KRun) (cl : Nat) (net : Bool) (k rep : Nat) (e : List Nat) : PlanInst :=
  let ends := routeEnds v.n cl (eKind e) (ePeer e)
  { cl := cl, net := net, k := k, kernel := r.idx, start := (instStart v r rep e).toNat, kind := eKind e, lane := eLane e,
    order := eOrder e, port := ePeer e, sadr := eSaddr e, units := eLength e / 64,
    hops := if eKind e = 4 then 0 else (routers (eOrder e) ends.1 ends.2).length,
    route := entryRoute (entryAddr v r.lidx r.layer cl rep e) e }

/-- The instances of one plan in order (04 R231). -/
def expandPlan (v : PlanEnv) (r : KRun) (cl : Nat) (net : Bool) (es : List (List Nat)) : List PlanInst :=
  let reps := fun (rp n : Nat) => (List.range n).flatMap fun j => (es.filter fun e => eRepeat e == rp).map fun e => (j, e)
  ((reps 0 1 ++ reps 1 v.sl ++ reps 2 v.f).zipIdx).map fun x => mkInst v r cl net x.2 x.1.1 x.1.2

/-- Whether a receive instance is the one a send names (04 R237). -/
def sendMatch (a b : PlanInst) : Bool :=
  b.kind == 3 && b.cl == a.port && b.port == a.cl && b.kernel == a.kernel && b.start == a.start && b.units == a.units
    && b.lane == a.lane && b.order == a.order

/-- Give each send the scratchpad address of its receiver (04 R234, R237). -/
def pairSends (is : List PlanInst) : List PlanInst :=
  is.map fun i => match i.route with
    | .send p _ => { i with route := .send p (match is.find? (sendMatch i) with | some r => r.sadr | none => i.sadr) }
    | _ => i

/-- A plan of the image: kernel, cluster. -/
def planAt (ps : List (List (List (List Nat)))) (k cl : Nat) : List (List Nat) := nth (nth ps k []) cl []

/-- The instances of every kernel of a run list. -/
def expandAll (v : PlanEnv) (dma net : List (List (List (List Nat)))) (rs : List KRun) : List PlanInst :=
  pairSends (rs.flatMap fun r => (List.range v.n).flatMap fun cl =>
    expandPlan v r cl false (planAt dma r.idx cl) ++ expandPlan v r cl true (planAt net r.idx cl))

/-- The cycle at which an instance completes (04 R236). -/
def instEnd (i : PlanInst) : Nat :=
  if i.kind = 4 ∨ i.units = 0 then i.start
  else if i.kind = 0 then i.start + i.units - 1 + 2 * i.hops + 262
  else if i.kind = 3 then i.start + i.units - 1 + 2 * i.hops + 12
  else i.start + i.units - 1

/-- The direction of a link between neighbouring routers: 0 north, 1 east, 2 south, 3 west (04 R257). -/
def linkDir (a b : Nat × Nat) : Nat :=
  if b.2 < a.2 then 0 else if a.1 < b.1 then 1 else if a.2 < b.2 then 2 else 3

/-- Whether an instance moves units. -/
def moves (i : PlanInst) : Bool := decide (0 < i.units) && i.kind != 4 && i.route != .nothing

/-- The unit of an instance that uses its stream port in a cycle (04 R234). -/
def portUnit (i : PlanInst) (cyc : Nat) : Option Nat :=
  let t := if i.kind = 0 then i.start + 2 * i.hops + 262 else if i.kind = 3 then i.start + 2 * i.hops + 12 else i.start
  if moves i = true ∧ t ≤ cyc ∧ cyc < t + i.units then some (cyc - t) else none

/-- What an instance uses in a cycle: (position, link or 4, lane) (04 R234, R239). -/
def instUses (n : Nat) (i : PlanInst) (cyc : Nat) : List (Nat × Nat × Nat) :=
  let port := match portUnit i cyc with | some _ => [(posNum (homePos n i.cl), 4, i.lane)] | none => []
  let rt := instRoute n i
  let e := i.start + (if i.kind = 0 then 256 else 6) + 1
  let links := if moves i = true ∧ i.kind ≠ 3 then
      ((rt.zip (rt.drop 1)).zipIdx).filterMap fun x =>
        if e + 2 * x.2 ≤ cyc ∧ cyc < e + 2 * x.2 + i.units then some (posNum x.1.1, linkDir x.1.1 x.1.2, i.lane) else none
    else []
  port ++ links

/-- Whether two uses meet: one stream port, or one lane of one link direction (04 R239). -/
def usesMeet (a b : Nat × Nat × Nat) : Bool := a.1 == b.1 && a.2.1 == b.2.1 && (a.2.1 == 4 || a.2.2 == b.2.2)

/-- The use that is recorded of several that collide in one cycle: the lowest router position, then link, then lane (04 R239, R257 give no
order; DESIGN CHOICE, log 24). -/
def leastUse : List (Nat × Nat × Nat) → Option (Nat × Nat × Nat)
  | [] => none
  | x :: xs => match leastUse xs with
    | none => some x
    | some y => if y.1 * 64 + y.2.1 * 4 + y.2.2 < x.1 * 64 + x.2.1 * 4 + x.2.2 then some y else some x

/-- The uses of a list that meet a later one. -/
def clashes : List (Nat × Nat × Nat) → List (Nat × Nat × Nat)
  | [] => []
  | x :: xs => (if xs.any (usesMeet x) then [x] else []) ++ clashes xs

/-- The collision of a cycle that NOC.COLL records: the least, and for two units at one stream port the lane of the first of them in
instance order (04 R239, R257; DESIGN CHOICE, log 24). -/
def collisionAt (n : Nat) (is : List PlanInst) (cyc : Nat) : Option (Nat × Nat × Nat) :=
  leastUse (clashes (is.flatMap fun i => instUses n i cyc))

/-- The cycles in which an instance uses something. -/
def busyCycles (i : PlanInst) : List Nat :=
  if moves i then (List.range (instEnd i + 2 * i.hops + 20 - i.start)).map (i.start + ·) else []

/-- No two units of a set of instances meet (04 R239, the load check). -/
def noCollision (n : Nat) (is : List PlanInst) : Bool :=
  (is.flatMap busyCycles).eraseDups.all fun c => (collisionAt n is c).isNone

/-- The planned access starts of an instance: cycle and address (04 R234, R243). -/
def instAccesses (i : PlanInst) : List (Nat × Nat) :=
  match i.route with
  | .hbmIn a => (List.range i.units).map fun u => (i.start + u, a + 64 * u)
  | .hbmOut a => (List.range i.units).map fun u => (i.start + u + 2 * i.hops + 8, a + 64 * u)
  | _ => []

/-- The accesses of a list that start on the pseudo-channel of one and in the w cycles from it. -/
def nearOf (w : Nat) (a : Nat × Nat) (bs : List (Nat × Nat)) : Nat :=
  bs.countP fun b => hbmStack b.2 == hbmStack a.2 && hbmPc b.2 == hbmPc a.2 && decide (a.1 ≤ b.1) && decide (b.1 < a.1 + w)

/-- Every pseudo-channel keeps the rates of R244, whichever address each instance takes of those that its source can give: an instance stands
here with its alternatives, and the others are counted at the one that meets the channel most. -/
def rateOk (xs : List (List PlanInst)) : Bool :=
  let acc := (xs.map fun alts => alts.map instAccesses).zipIdx
  acc.all fun x => x.1.all fun own => own.all fun a =>
    let near := fun (w : Nat) => nearOf w a own + sumN (acc.map fun y => if y.2 = x.2 then 0 else maxN (y.1.map (nearOf w a)))
    decide (near 4 ≤ 1) && decide (near 4096 ≤ 992)

/-- A layer descriptor keeps R215 and R216. R215 does not say whether AP below A0 binds a layer with ATTN 0, which has no tiled window: it is
tested for ATTN 1 only (DESIGN CHOICE, log 45). -/
def layerOk (layers shards : Nat) (l : List Nat) : Bool :=
  let w0 := nthN l 0
  l.length == 8 && fld w0 31 18 == 0 && decide (fld w0 12 10 ≤ 3) && decide (fld w0 15 13 ≤ 3)
    && (if lExit l then decide (fld (nthN l 1) 15 0 < layers) else fld (nthN l 1) 15 0 == 0xFFFF)
    && (if lAttn l then decide (1 ≤ lTilePages l) && decide (lTilePages l * lPageBytes l ≤ 393216) else lTilePages l == 0)
    && (!lAttn l || decide (lAP l < lA0 l)) && lPartial l % 64 == 0 && (shards == 0 || decide (lShard l < shards))

/-- A launch descriptor keeps R217; the window is not looked at for a RUN_KERNEL (13 R610). -/
def launchOk (layers : List (List Nat)) (runk : Bool) (d : List Nat) : Bool :=
  let w0 := nthN d 0
  d.length == 16 && kEntry d % 8 == 0 && decide (1 ≤ kGroups d) && decide (kGroups d ≤ 8) && fld w0 31 26 == 0
    && fld (nthN d 1) 31 16 == 0 && decide (kLayer d < layers.length)
    && (!kTiled d || lAttn (nth layers (kLayer d) []))
    && (runk || (if kTiled d then kWindow d == 0 else decide (1 ≤ kWindow d)))
    && fld (nthN d 12) 31 6 == 0 && nthN d 13 == 0 && nthN d 14 == 0 && nthN d 15 == 0

/-- REPEAT values rise through a plan (04 R230). -/
def repeatsRise : Nat → List (List Nat) → Bool
  | _, [] => true
  | m, e :: es => decide (m ≤ eRepeat e) && repeatsRise (eRepeat e) es

/-- An entry keeps R230 and R764. -/
def entryOk (n : Nat) (net tiled runk : Bool) (layer : List Nat) (e : List Nat) : Bool :=
  let k := eKind e
  e.length == 8 && decide (k ≤ 4) && (k == 4 || (if net then k == 2 || k == 3 else decide (k ≤ 1)))
    && decide (eAsrc e ≤ 4) && decide (eRepeat e ≤ 2) && (eRepeat e == 0 || tiled) && fld (nthN e 0) 31 26 == 0
    && (if eAsrc e = 1 then decide (ePidx e < lTilePages layer) else ePidx e == 0)
    && fld (nthN e 3) 31 6 == 0 && eHaddr e % 64 == 0 && fld (nthN e 4) 31 20 == 0 && eSaddr e % 64 == 0
    && eLength e % 64 == 0 && decide (eLength e ≤ 0x100000) && nthN e 6 == 0 && nthN e 7 == 0
    && (k != 4 || ePeer e == 0) && (eAsrc e == 0 || (tiled && !runk)) && decide (eSaddr e + eLength e ≤ 0x100000)
    && (decide (2 ≤ k) || decide (ePeer e ≤ 45)) && (!(k == 2 || k == 3) || decide (ePeer e < n))

/-- The lowest and the highest base that a template entry's address source can give: the layer's slice of any pool page, the partial of
any tile, the cluster's own tile table (04 R252, R253, 06 R322). -/
def srcSpan (im : Image) (n cl lidx : Nat) (layer : List Nat) (e : List Nat) : Nat × Nat :=
  if eAsrc e = 1 then
    let m := poolRec im lidx
    let b := nthN im.bases m.1 + m.2
    (b, b + (im.pages - 1) * im.stride)
  else if eAsrc e = 4 then let t := im.tableAt + cl * ((im.sMax + im.fMax) * 16); (t, t)
  else (im.partialAt, im.partialAt + (im.sMax * n - 1) * lPartial layer)

/-- An edge entry names an edge that holds its address, over the whole range its address source can give (04 R238, 06 R322, 07 R383, 08
R434). -/
def edgeOk (im : Option Image) (n cl spillQ : Nat) (lidx : Nat) (layer : List Nat) (e : List Nat) : Bool :=
  let p := ePeer e
  let inStack := fun (lo hi : Nat) =>
    hbmStack (lo + eHaddr e) == p / 6 && hbmStack (hi + eHaddr e + (eLength e - 1)) == p / 6
  if eKind e ≥ 2 then true
  else if p < 36 then
    if eAsrc e = 0 then inStack 0 0
    else match im with
      | some im =>
        let r := srcSpan im n cl lidx layer e
        inStack r.1 r.2 && (eAsrc e != 1 || (poolRec im lidx).1 == p / 6)
      | none => false
  else if edgeAzl p then
    eAsrc e == 0 && fld (eHaddr e) 37 30 == 0 &&
      (match im with
       | some im => decide (redSlot (eHaddr e) < (nth im.shards (lShard layer) {}).recs.length)
       | none => false)
  else eKind e == 0 && eAsrc e == 0 && eRepeat e == 0 && decide (eHaddr e + eLength e ≤ spillQ) && im.isSome

/-- No start cycle of the entries of the given REPEATs is negative for their first instance, in kernels laid out as given (04 R232). -/
def startsAt (v : PlanEnv) (rs : List KRun) (reps : List Nat) (dma net : List (List (List (List Nat)))) : Bool :=
  rs.all fun r => (List.range v.n).all fun cl => (planAt dma r.idx cl ++ planAt net r.idx cl).all fun e =>
    !reps.contains (eRepeat e) || decide (0 ≤ instStart v r 0 e)

/-- No start cycle can be negative (04 R232): launch cycles rise with S and F, so that an entry of REPEAT 0 starts earliest at S = F = 0
(R249), and one of REPEAT 1 or 2, which has no instance there, at S = F = 1. -/
def startsOk (v : PlanEnv) (rs0 rs1 : List KRun) (dma net : List (List (List (List Nat)))) : Bool :=
  startsAt { v with sl := 0 } rs0 [0] dma net && startsAt { v with sl := 1 } rs1 [1, 2] dma net

/-- Every send has its receive; a receive that no send names is accepted, since R237 speaks of what a kind 2 entry needs only (DESIGN
CHOICE, log 45). -/
def sendsOk (net : List (List (List (List Nat)))) (n k : Nat) : Bool :=
  (List.range n).all fun cl => (planAt net k cl).all fun e => eKind e != 2 ||
    ((planAt net k (ePeer e)).any fun r => eKind r == 3 && ePeer r == cl && eRepeat r == eRepeat e && nthN r 1 == nthN e 1
      && eLength r == eLength e && eLane r == eLane e && eOrder r == eOrder e)

/-- The spill units of a step with their planned cycles: byte offsets (08 R434). -/
def spillOrder (is : List PlanInst) : List (Nat × Nat) :=
  is.flatMap fun i => match i.route with
    | .spillIn a => (List.range i.units).map fun u => (i.start + u, a + 64 * u)
    | _ => []

/-- Each spill unit is read exactly once, in ascending offset by planned cycle (08 R434). -/
def spillOk (q : Nat) (is : List PlanInst) : Bool :=
  let us := spillOrder is
  us.length * 64 == q && ((List.range (q / 64)).all fun k => us.countP (fun a => a.2 == 64 * k) == 1)
    && us.all fun a => us.all fun b => !decide (a.2 < b.2) || decide (a.1 ≤ b.1)

/-- A step that reads no spill unit (08 R433). -/
def spillFree (is : List PlanInst) : Bool := (spillOrder is).isEmpty

/-- The plans of one kernel keep R230, R764 and R237, and those of an image R238, R322, R383 and R434 too, which are no checks of R610. -/
def plansOk (im : Option Image) (n spillQ : Nat) (runk : Bool) (r : KRun) (dma net : List (List (List (List Nat)))) : Bool :=
  (List.range n).all fun cl =>
    let d := planAt dma r.idx cl
    let w := planAt net r.idx cl
    repeatsRise 0 d && repeatsRise 0 w && sendsOk net n r.idx
      && (d.all fun e => entryOk n false (kTiled r.desc) runk r.layer e && (runk || edgeOk im n cl spillQ r.lidx r.layer e))
      && (w.all fun e => entryOk n true (kTiled r.desc) runk r.layer e)

/-- A reduction record keeps R385. -/
def redOk (r : List Nat) : Bool :=
  let w0 := nthN r 0
  let ring := bitN w0 0
  r.length == 8 && fld w0 7 5 == 0 && fld w0 31 25 == 0 && fld (nthN r 2) 31 9 == 0
    && (nthN r 3 == 0 && nthN r 4 == 0 && nthN r 5 == 0 && nthN r 6 == 0 && nthN r 7 == 0)
    && (if ring then !bitN w0 1 && popN 8 (fld w0 15 8) == 1 && decide (2 ≤ fld w0 24 16)
          && nthN r 1 % (192 * max 1 (fld w0 24 16)) == 0 && decide (fld (nthN r 2) 8 0 < fld w0 24 16)
        else fld w0 24 16 == 0 && nthN r 1 % 192 == 0)

/-- Column records cover the output width once, in order (07 R362). -/
def colsOk (w : Nat) : Nat → List (Nat × Nat) → Bool
  | at_, [] => at_ == w
  | at_, c :: cs => c.1 == at_ && colsOk w (at_ + c.2) cs

/-- A shard map keeps R361 and R362. R362 lists no reserved bit among its cases: a non-zero one in word 0 of the header, which holds the counts
that are tested, is refused, and one in words 2 and 3 is not looked at (DESIGN CHOICE, log 45). -/
def shardOk (size : Nat) (sh : ShardMap) : Bool :=
  fld (nthN sh.head 0) 8 0 == size && fld (nthN sh.head 0) 23 16 == sh.recs.length && sh.cols.length == size
    && fld (nthN sh.head 0) 15 9 == 0 && fld (nthN sh.head 0) 31 24 == 0
    && colsOk (nthN sh.head 1) 0 sh.cols && sh.recs.all redOk

/-- The spill cost of a full step (08 R436). -/
def spillCost (q rate hide : Nat) : Nat := if q = 0 then 0 else 2500 + ceilDiv (q * 1250) (max 1 rate) - hide

/-- The deadline constants over a kernel list: D0, SA, FC (06 R339). -/
def dlmConsts (im : Image) (ks : List (List Nat)) : Nat × Nat × Nat :=
  let t := ks.filter kTiled
  (sumN (ks.map fun d => 16 + (if kTiled d then lA0 (imgLayer im (kLayer d)) else kWindow d)),
   sumN (t.map fun d => lA1 (imgLayer im (kLayer d))), sumN (t.map fun d => lC1 (imgLayer im (kLayer d))))

/-- The word at an address in a code section. -/
def decodeAny (w : Nat) : Option Instr := decodeWord ⟨0, 0⟩ w

/-- A lean-eligible kernel's code holds a B8 by B8 matrix instruction without .L (01 R71). -/
def leanBreaks (code : List Nat) : Bool :=
  code.any fun w => match decodeAny w with
    | some (.mma _ _ .b8b8 _ false _ _ _) => true
    | _ => false

end Sys2Proof.Machine
end

