-- ==== Sys2Proof/Machine/Link.lean ====
section
/-!
DEFINITION. Azlink ports, frames and the control tree as every family uses them (07 R363 to R382, R390 to R405), and
the service level (14 R641, R642).
-/
namespace Sys2Proof.Machine

/-- A port's page. -/
def portPage (k : Nat) : Nat := onPage Reg.pageAzp k

/-- A port beside its registers. -/
def portOf (s : State) (k : Nat) : Port := nth s.azl.ports k {}

/-- Change a port. -/
def modPort (s : State) (k : Nat) (f : Port → Port) : State :=
  putAzl s { s.azl with ports := listMod f s.azl.ports k }

/-- AZL.STATE.STATE (07 R416). -/
def azlState (s : State) : Nat := rdF s Reg.azlState 2 0

/-- Set AZL.STATE.STATE. -/
def setAzl (s : State) (v : Nat) : State := wrF s Reg.azlState 2 0 v

/-- Members of the group; 1 without one (07 R416). -/
def groupSize (s : State) : Nat := rdF s Reg.azlMember 16 8

/-- The entry's position (07 R416). -/
def entryPos (s : State) : Nat := rdF s Reg.azlMember 31 24

/-- The package takes part in a group; one in no group is its own entry (09 R462). AZL.CTL.ENABLE lets it begin: the spec does not say what
clearing the bit in a group that forms or has formed does, and here it does nothing until the group is left (DESIGN CHOICE, log 71). -/
def inGroup (s : State) : Bool := decide (1 < groupSize s) && (rdB s Reg.azlCtl 0 || rdF s Reg.azlState 2 0 != 0)

/-- This package decides: it is the entry, or it is in no group (07, 09 R462). -/
def isEntry (s : State) : Bool := !inGroup s || memberPos s == entryPos s

/-- This package is one of the entry sites of a group of more than 32 (07 R360, R414). -/
def isSite (s : State) : Bool :=
  decide (32 < groupSize s) && (List.range 4).any fun i =>
    rdB s Reg.azlSitesValid i && rdF s Reg.azlSites (8 * i + 7) (8 * i) == memberPos s

/-- The group record of the resident image (07 R360). -/
def groupRec (s : State) : List Nat := match s.gener.image with | some im => im.group | none => []

/-- The position expected at the far end of a port (07 R360). -/
def peerPos (s : State) (k : Nat) : Nat := fld (nthN (groupRec s) (12 + k / 4)) (8 * (k % 4) + 7) (8 * (k % 4))

/-- The ports the group uses (07 R360). -/
def groupPorts (s : State) : List Nat := (List.range 8).filter fun k => bitN (nthN (groupRec s) 1) (24 + k)

/-- Handshake state of a port: 0 none, 1 handshaking, 2 accepted, 3 refused (07 R417). -/
def hsOf (s : State) (k : Nat) : Nat := rdF s (onPage Reg.portStatus k) 3 2

/-- Set a port's handshake state. -/
def setHs (s : State) (k v : Nat) : State := wrF s (onPage Reg.portStatus k) 3 2 v

/-- A port is enabled and its PCS is up (07 R417). -/
def portUp (s : State) (k : Nat) : Bool := rdB s (onPage Reg.portCtl k) 0 && rdB s (onPage Reg.portStatus k) 0

/-- A port's mode (07 R363). -/
def portMode (s : State) (k : Nat) : Nat := rdF s (onPage Reg.portCtl k) 2 1

/-- Wire time of a full PARTIAL frame, fixed time and control time by mode (07 R390). -/
def tFrame (m : Nat) : Nat := nthN [827, 414, 207] m
def tFix (m : Nat) : Nat := nthN [420, 470, 450] m
def tCtl (m : Nat) : Nat := nthN [440, 480, 460] m

/-- The lock-step twin port (05 R300, 07 R380). -/
def twinPort (s : State) (k : Nat) : Bool := rdB s Reg.dbgLsCtl 0 && rdF s Reg.dbgLsCtl 3 1 == k

/-- AZL.MEMBER and its companions from the group record (07 R360, R416, R417, 08 R423). -/
def loadGroupRegs (s : State) (g : List Nat) : State :=
  let w := nthN g
  let s1 := wrF (wrF s Reg.azlMember 16 8 (fld (w 0) 8 0)) Reg.azlMember 31 24 (fld (w 0) 23 16)
  let s2 := wrN s1 Reg.azlCtrl (fld (w 1) 11 8 + fld (w 1) 23 16 * 2 ^ 8)
  let s3 := wrN (wrN (wrN s2 Reg.azlHoldLead (w 2)) Reg.azlSites (w 3)) Reg.azlSitesValid (fld (w 15) 3 0)
  each (List.range 8) (fun k s =>
    wrN (wrN s (onPage Reg.portHopMax k) (w (4 + k))) (onPage Reg.portSlack k) (fld (w 14) 7 0 * 16)) s3

/-- A frame of this package (07 R368). -/
def mkFrame (s : State) (kind w4 w5 w6 w7 : Nat) (payload : List Nat) : Frame :=
  { kind := kind, group := rdN s Reg.azlGroupId, epoch := runEpoch s, src := memberPos s,
    w4 := w4 % 2 ^ 32, w5 := w5 % 2 ^ 32, w6 := w6 % 2 ^ 32, w7 := w7 % 2 ^ 32, payload := payload }

/-- The store as shipped: the GNZ-4800 grade record, FACTORY_LOCK and programmed key hashes (14 R662; DESIGN CHOICE, log 5). -/
def storeCold (n : Nat) : Word :=
  if n = 0 then 0x00018000 else if n = 1 then 1 else if 0x20 ≤ n ∧ n ≤ 0x37 then 0xFFFFFFFF else 0

/-- The stored value of a register. -/
def storeVal (s : State) (n : Nat) : Word := smGet storeCold s.boot.store n

/-- The station address of a port: LINK_ID + k (14 R662, R665, 07 R417). -/
def stationAddr (s : State) (k : Nat) : Nat := ((storeVal s 4).toNat + (storeVal s 5).toNat % 2 ^ 16 * 2 ^ 32 + k) % 2 ^ 48

/-- The IEEE 1588 clock identity: the EUI-64 of LINK_ID, with 0xFF and 0xFE between its third and fourth bytes (14 R665). -/
def clockId (s : State) : BitVec 64 :=
  let a := (storeVal s 4).toNat + (storeVal s 5).toNat % 2 ^ 16 * 2 ^ 32
  BitVec.ofNat 64 (a / 2 ^ 24 * 2 ^ 40 + 0xFFFE * 2 ^ 24 + a % 2 ^ 24)

/-- The acknowledgement fields that every frame carries; a HELLO, sent before the link's sequence begins, acknowledges nothing (07 R368,
R372). -/
def stampAck (p : Port) (f : Frame) : Frame :=
  if f.kind = 1 then { f with ack := 0, ackValid := false } else { f with ack := p.rxSeq, ackValid := true }

/-- The Ethernet header of a frame: HELLO goes to the group address, any other to the peer (07 R367). -/
def stampMac (s : State) (k : Nat) (f : Frame) : Frame :=
  { f with et := rdF s Reg.azlEthertype 15 0, sa := stationAddr s k, dst := if f.kind = 1 then 0x0180C200000E else (portOf s k).peerSa }

/-- The count at which a frame that is handed to a port now starts on the wire. -/
def txStart (s : State) (k : Nat) : Nat := max s.count (portOf s k).txFree

/-- A frame leaves a port; a PARTIAL takes the wire time of R390, which is that of a full one (07 R390; DESIGN CHOICE, log 31). -/
def putOut (s : State) (k : Nat) (f : Frame) : State :=
  let free := txStart s k + tFrame (portMode s k)
  modPort (cntReg s (onPage Reg.portTxFrames k) 1) k fun p =>
    { p with last := some (stampAck p (stampMac s k f)), ackAt := none, txFree := if f.kind = 0x10 then free else p.txFree }

/-- DUE of a PARTIAL frame whose transmission starts at a count (07 R394). -/
def dueOf (s : State) (k t : Nat) : Nat :=
  t + tFrame (portMode s k) + tFix (portMode s k) + rdN s (onPage Reg.portHopMax k) + rdN s (onPage Reg.portSlack k)

/-- A kept frame that goes out for the first time now: a PARTIAL is stamped with its DUE (07 R394). -/
def stampDue (s : State) (k : Nat) (t : TxFrame) : TxFrame :=
  let d := dueOf s k (txStart s k)
  let u := { t with sentAt := txStart s k, sends := 1 }
  if t.frame.kind = 0x10 then { u with due := some d, frame := { t.frame with w6 := lo32 d } } else u

/-- Send a frame without a sequence number (07 R368: kinds below 0x10). -/
def sendPlain (s : State) (k : Nat) (f : Frame) : State := putOut s k f

/-- Send a frame under link retry: it is kept until acknowledged, and waits for room among 1,024; the link's own fields are set anew. A twin
port carries TWIN and nothing else of this kind (07 R368, R372, R373, R380). -/
def sendSeq (s : State) (k : Nat) (f : Frame) : State :=
  if rdB s (onPage Reg.portStatus k) 20 && f.kind != 0x1D then s
  else
    let p := portOf s k
    let n := (p.txSeq + 1) % 2 ^ 16
    let t : TxFrame := ⟨{ f with seq := n, nak := false, corr := 0 }, none, s.count, 0⟩
    if p.replay.length < 1024 then
      let u := stampDue s k t
      putOut (modPort s k fun p => { p with txSeq := n, replay := p.replay ++ [u] }) k u.frame
    else modPort s k fun p => { p with txSeq := n, replay := p.replay ++ [t] }

/-- The port toward the entry (07 R360). -/
def parentPort (s : State) : Nat := rdF s Reg.azlCtrl 2 0

/-- Ports toward control-tree children (07 R360). -/
def childPorts (s : State) : List Nat := (List.range 8).filter fun k => rdB s Reg.azlCtrl (8 + k)

/-- Control-tree ports of this member. -/
def treePorts (s : State) : List Nat := (if rdB s Reg.azlCtrl 3 then [] else [parentPort s]) ++ childPorts s

/-- Send toward the entry. -/
def sendUp (s : State) (f : Frame) : State := if isEntry s then s else sendSeq s (parentPort s) f

/-- Send to every child. -/
def sendDown (s : State) (f : Frame) : State := each (childPorts s) (fun k s => sendSeq s k f) s

/-- Flood on every control-tree port but one (07 R371). -/
def flood (s : State) (but : Option Nat) (f : Frame) : State :=
  each ((treePorts s).filter fun k => some k != but) (fun k s => sendSeq s k f) s

/-- Raise an event whose name no EVTSTA bit bears, setting a status bit beside it (17 R751). -/
def raiseBeside (s : State) (page bits : Nat) (dst : Dest) (type inst code w1 : Nat) (d : List Nat) : State :=
  raiseEv (setEvt s page bits) page 0 dst type inst code w1 d

/-- An event of the AZL common page (07 R419). -/
def azlEv (s : State) (bits code pos : Nat) (d : List Nat) : State :=
  raiseEv s Reg.pageAzl bits .block 0x27 8 code pos d

/-- An AZL event that has a status bit of another name. -/
def azlEvBeside (s : State) (bits code pos : Nat) (d : List Nat) : State :=
  raiseBeside s Reg.pageAzl bits .block 0x27 8 code pos d

/-- The service level (14 R641). -/
def svcLevel (s : State) : Nat := rdF s Reg.glbServiceLevel 2 0

/-- Change the service level: highest level, the count at which a level was first reached, the event (14 R642, R669, R672). -/
def setLevel (s : State) (n : Nat) : State :=
  let old := svcLevel s
  if old = n then s
  else
    let hi := rdF s Reg.glbServiceLevel 10 8
    let s1 := wrF s Reg.glbServiceLevel 2 0 n
    let s2 := if hi < n then wr64 (wrF s1 Reg.glbServiceLevel 10 8 n) (Reg.glbLevel + 8 * (n - 1)) s.count else s1
    raiseEv s2 Reg.pageGlb 1 .block 0x01 0 0x0001 0 [n + old * 2 ^ 8]

/-- The last committed step of the group (07 R416). -/
def lastCommit (s : State) : Nat := rd64 s Reg.azlCommitLo

/-- The phase of a loss (07, loss table; DEDUCED, log 30). -/
def lossPhase (s : State) : Nat :=
  if s.sched.exec.running && s.sched.exec.kind == .step then 2
  else if s.sched.done.isSome then 3
  else if !s.azl.releaseQ.isEmpty then 4
  else if s.sched.nextStep.isSome then 1
  else if s.gener.atBoundary then 5 else 0

/-- A step that a loss or a stop of the group meets in its execution is discarded: it ends with no ledger of its own (07 R406, R408). -/
def dropRunning (s : State) : State :=
  if s.sched.exec.running && s.sched.exec.kind == .step then modExec s fun e => { e with dropped := true } else s

/-- Record a loss and enter WAIT: executions stop and nothing launches (07 R405, R406, R416, R419). -/
def enterWait (s : State) (pos phase port : Nat) (mine known : Bool) : State :=
  let s1 := dropRunning (stopExec s 0 0)
  let s2 := wrN s1 Reg.azlLost (pos % 256 + phase * 2 ^ 8 + (if mine then port * 2 ^ 11 else 0) + 2 ^ 14 + b2n known * 2 ^ 15)
  let s3 := putAzl s2 { s2.azl with waitSince := some (s2.azl.waitSince.getD s.count) }
  azlEv (setAzl s3 4) 2 0x0003 pos
    [pos % 256 + phase * 2 ^ 8 + port * 2 ^ 12 + b2n known * 2 ^ 15, lo32 (lastCommit s + 1), hi32 (lastCommit s + 1)]

/-- A loss is noted until its rejoin (07 R405, R407). -/
def noteLoss (s : State) (declarer lost : Nat) : State :=
  if s.azl.losses.contains (declarer, lost) then s else putAzl s { s.azl with losses := s.azl.losses ++ [(declarer, lost)] }

/-- A partner is lost: flood LOSS and wait (07 R405). -/
def partnerLoss (s0 : State) (k : Nat) : State :=
  let pos := peerPos s0 k
  let s := noteLoss s0 (memberPos s0) pos
  let ph := lossPhase s
  let s1 := flood s none (mkFrame s 0x16 (pos % 256 + memberPos s * 2 ^ 8 + k * 2 ^ 16 + 2 ^ 19) ph 0 0 [])
  if azlState s = 5 ∨ azlState s = 0 then s1 else enterWait s1 pos ph k true true

/-- Lock-step comparison halts the die (05 R305, R307, R308). -/
def lockHalt (s : State) (h : Nat) : State :=
  let s1 := wr64 (wrB s Reg.dbgLsStatus 3 true) Reg.dbgLsHaltLo h
  fireHalt s1 { h := h, cause := 6 }

/-- The twin is lost (05 R308, R312). -/
def twinLost (s : State) (k : Nat) : State :=
  let s1 := raiseEv (wrB s Reg.dbgLsStatus 2 true) Reg.pageDbg 2 .block 0x06 0 0x0002 0
    [k, lo32 s.count, hi32 s.count, rdN s Reg.dbgLsSeq]
  lockHalt s1 s.count

/-- The partner lives: the step in progress rolls back, and the routes change with its replay (07 R415, R419). -/
def reroute (s : State) (w : LinkWait) : State :=
  let s1 := putAzl s { s.azl with linkWaits := s.azl.linkWaits.filter fun x => x != w }
  let s2 := if s.sched.exec.running ∧ s.sched.exec.kind = .step then modLed s1 fun l => { l with linkLate := led16 l.linkLate 1 } else s1
  azlEv s2 0x80 0x0009 (memberPos s)
    [memberPos s + w.port * 2 ^ 8, lo32 (lastCommit s + 1), hi32 (lastCommit s + 1), 0]

/-- The notice of a link's far member, as floods are noted: its position and port (07 R371, R415). -/
def farNotice (s : State) (k : Nat) : Nat × Nat × Nat := (0x1E, peerPos s k, rdF s (onPage Reg.portStatus k) 18 16)

/-- A change of DBG.LS_CTL: an accepted port that becomes the twin port, or ceases to be, handshakes again, since the two take other causes and
carry other frames (05 R300, 07 R380; DEDUCED, log 41). -/
def twinAgain (s : State) : State :=
  each (List.range 8) (fun k s =>
    if hsOf s k == 2 && rdB s (onPage Reg.portStatus k) 20 != twinPort s k then modPort (setHs s k 0) k fun p => { p with helloAt := none }
    else s) s

/-- A port declares loss (07 R375, R405, R415; 05 R308). A far member's notice that has come before this declaration answers it too. -/
def declareLoss (s : State) (k : Nat) : State :=
  if rdB s (onPage Reg.portStatus k) 19 then s
  else
    let s1 := setEvt (wrB (setHs s k 0) (onPage Reg.portStatus k) 19 true) (portPage k) 4
    let s2 := modPort s1 k fun p => { p with replay := [], ackAt := none, beyondAt := none }
    if rdB s (onPage Reg.portStatus k) 20 then twinLost s2 k
    else if !inGroup s || !(groupPorts s).contains k then s2
    else if 32 < groupSize s then
      let own := putAzl s2 { s2.azl with floods := (0x1E, memberPos s, k) :: s2.azl.floods }
      let s3 := flood own none (mkFrame s 0x1E (memberPos s + k * 2 ^ 8) 0 0 0 [])
      let w : LinkWait := ⟨k, peerPos s k, s.count⟩
      if s.azl.floods.contains (farNotice s k) then reroute s3 w else putAzl s3 { s3.azl with linkWaits := s3.azl.linkWaits ++ [w] }
    else partnerLoss s2 k

/-- A hold window is scheduled; a start that has passed is not applied (07 R396, 15 R702). -/
def addFreeze (s : State) (start len : Nat) (c : FreezeCause) : State :=
  putSched s { s.sched with freezes := s.sched.freezes ++ [⟨start, len, c, false⟩] }

/-- Every unacknowledged frame's DUE grows by the part of a hold after it, in the kept frame too (07 R396). -/
def stretchDue (s : State) (start len : Nat) : State :=
  let g := fun (t : TxFrame) => match t.due with
    | some d => let e := d + (start + len - max start d)
      { t with due := some e, frame := { t.frame with w6 := lo32 e } }
    | none => t
  each (List.range 8) (fun k s => modPort s k fun p => { p with replay := p.replay.map g }) s

/-- Flood a hold of this member and apply it here (07 R395, R396, 15 R702). -/
def floodHold (s : State) (start len : Nat) (c : FreezeCause) : State :=
  let n := s.azl.holdNo
  let s1 := putAzl s { s.azl with holdNo := n + 1, floods := (0x15, memberPos s, n) :: s.azl.floods }
  let s2 := flood s1 none (mkFrame s 0x15 (lo32 start) (hi32 start) len (memberPos s + n % 2 ^ 24 * 2 ^ 8) [])
  let s3 := stretchDue (addFreeze s2 start len c) start len
  azlEvBeside (cntReg s3 Reg.azlHolds 1) 8 0x0005 (memberPos s) [lo32 start, hi32 start, len, memberPos s]

/-- Stop the group: unreleased tokens are discarded and the level falls to 4 (07 R404, R408, 14 R642). -/
def stopGroup (s : State) : State :=
  let s1 := dropRunning (stopExec s 0 0)
  let s2 := putLock (putSched (putAzl s1 { s1.azl with releaseQ := [], waitSince := none, ledgers := [], committed := [], losses := [] })
    { s1.sched with nextStep := none, nextLaunch := none, done := none }) { s1.lock with held := [], orphans := [] }
  let s3 := azlEvBeside (setAzl s2 5) 0x10 0x0006 (memberPos s)
    [lo32 (lastCommit s), hi32 (lastCommit s), lo32 s.azl.released, hi32 s.azl.released]
  if 5 ≤ svcLevel s then setLevel s3 4 else s3

/-- Every port that the group uses has been accepted (07 R381). -/
def portsReady (s : State) : Bool := (groupPorts s).all fun k => hsOf s k == 2

/-- FORM as the entry sends it, with its step base (07 R370, R381). -/
def formFrame (s : State) (kind : Nat) : Frame := mkFrame s kind (lo32 (lastCommit s)) (hi32 (lastCommit s)) 0 0 []

/-- A member's FORMED, once its own ports are accepted; `formed` holds the entry while the answer is owed (07 R381). -/
def answerForm (s : State) : State :=
  if !isEntry s && s.azl.formed == [entryPos s] && portsReady s && memberPos s != entryPos s then
    let s1 := sendUp s (formFrame s 0x18)
    putAzl s1 { s1.azl with formed := [memberPos s] }
  else s

/-- The entry starts forming when its ports are accepted (07 R381). -/
def startForm (s : State) : State :=
  if isEntry s && inGroup s && portsReady s && s.azl.formed.isEmpty && (azlState s == 1 || (azlState s == 6 && s.boot.fwRunning)) then
    let s1 := sendDown s (formFrame s 0x17)
    putAzl s1 { s1.azl with formed := [memberPos s] }
  else s

/-- A package that has an image and takes part in a group begins to form it (07 R381, R416). -/
def beginForm (s : State) : State :=
  if inGroup s && s.gener.image.isSome && azlState s == 0 then
    let s1 := setAzl s 1
    let owed := if isEntry s1 then [] else s1.azl.formed.filter fun p => p == entryPos s1
    answerForm (startForm (putAzl s1 { s1.azl with formed := owed }))
  else s

/-- The entry stops the group; the others learn of it by LOSS (07 R404, R408, R416). -/
def stopAll (s : State) : State := stopGroup (flood s none (mkFrame s 0x16 (memberPos s * 2 ^ 8) (lossPhase s) 0 0 []))

end Sys2Proof.Machine
end

