-- ==== Sys2Proof/Machine/Store.lean ====
section
/-!
DEFINITION. The persistent store (14 R656 to R664) and quarantine (09 R472 to R476).
-/
namespace Sys2Proof.Machine

/-- The value that a register has after some of the waiting writes. -/
def storeAfter (s : State) (ws : List StoreWrite) (n : Nat) : Word :=
  match (ws.filter fun w => w.reg == n).getLast? with
  | some w => w.val
  | none => storeVal s n

/-- What a read of a store register returns: the value most recently accepted; the queue of 8 holds what is, and a write from inside that waits
for room is not yet (14 R658). -/
def storeRead (s : State) (n : Nat) : Word := storeAfter s (s.boot.queue.take 8) n

/-- The value that a register comes to have once every write has been performed. -/
def storeLast (s : State) (n : Nat) : Word := storeAfter s s.boot.queue n

/-- Accept a write; PST.STATUS shows the queue (14 R658, R671). -/
def showQueue (s : State) : State :=
  let n := s.boot.queue.length
  wrF (wrB s Reg.pstStatus 0 (n != 0)) Reg.pstStatus 4 1 (min 8 n)

/-- A write enters the queue; one of the stored value completes at once, unless it follows another of its register (14 R658, R659). -/
def storePush (s : State) (n : Nat) (v : Word) (host : Bool) : State :=
  if storeVal s n = v ∧ (s.boot.queue.any fun w => w.reg == n) = false then s
  else showQueue (putBoot s { s.boot with queue := s.boot.queue ++ [⟨n, v, host⟩] })

/-- Bits of a store register that exist; the others read zero and are not written (14 R662, R663). -/
def storeMask (n : Nat) : Word :=
  if n = 0 then 0xFFFFFF01 else if n = 1 then 1 else if n = 4 then 0xFFFFFFF8 else if n = 5 then 0xFFFF
  else if 0x38 ≤ n ∧ n ≤ 0x3F then 0 else if n = 0x44 then 0xFFFF else if n = 0x49 then 0xFFFF
  else if n = 0x4A then 0xFF3F else if n = 0x4B ∨ n = 0x4E ∨ n = 0x4F then 0
  else if n = 0x4C then 1 else if n = 0x4D then 0xFFFF else 0xFFFFFFFF

/-- The register and bit of a unit in the disabled-unit map: kind 0 cluster, 1 router, 2 stack, 3 port (14 R662). -/
def mapBit (kind num : Nat) : Nat × Nat :=
  if kind = 0 then (0x40 + num / 32, num % 32) else if kind = 1 then (0x45 + num / 32, num % 32)
  else if kind = 2 then (0x4A, num % 6) else (0x4A, 8 + num % 8)

/-- How many units of a kind exist (09 R472). -/
def unitCount (kind : Nat) : Nat := nthN [144, 144, 6, 8] kind

/-- A unit is quarantined. -/
def isQuar (s : State) (kind num : Nat) : Bool :=
  if kind = 0 then (clOf s num).quarantined else if kind = 1 then s.boot.qRouters.contains num
  else if kind = 2 then s.boot.qStacks.contains num else s.boot.qPorts.contains num

/-- Mark a unit quarantined in the running package; a cluster shows it in CLU.STATE (`viewClu`) (09 R473). -/
def markQuar (s : State) (kind num : Nat) : State :=
  if kind = 0 then modCl s num fun c => { c with quarantined := true }
  else if kind = 1 then putBoot s { s.boot with qRouters := s.boot.qRouters ++ [num] }
  else if kind = 2 then putBoot s { s.boot with qStacks := s.boot.qStacks ++ [num] }
  else putBoot s { s.boot with qPorts := s.boot.qPorts ++ [num] }

/-- Quarantine a unit: its map bit in one persistent write, at once, and QUARANTINED (09 R472, R473, R478). -/
def quarantine (s : State) (kind num : Nat) : State :=
  if unitCount kind ≤ num ∨ isQuar s kind num = true then s
  else
    let b := mapBit kind num
    let remap := kind == 0 && (clOf s num).logical.isSome
    let s1 := storePush s b.1 (putBit (storeLast s b.1) b.2 true) false
    let s2 := cntReg (markQuar s1 kind num) Reg.ldgQuarantines 1
    raiseEv s2 Reg.pageLdg 8 .block 0x08 0 0x0004 0 [num % 256 + kind * 256, b2n remap, 0, 0]

/-- A powered-down port has lost its partner: a package that takes part in a group waits, and a twin is lost (07 R375, R405, 05 R308, 09
R475). -/
def portsLost (s : State) : State :=
  let lost := (List.range 8).filter fun k => hsOf s k == 2
  let s1 := each lost (fun k t => setEvt (wrB t (onPage Reg.portStatus k) 19 true) (portPage k) 4) s
  let s2 := match lost.find? fun k => rdB s (onPage Reg.portStatus k) 20 with
    | some k => twinLost s1 k
    | none => s1
  match lost.find? fun k => (groupPorts s).contains k with
  | some k => if inGroup s && azlState s != 0 && azlState s != 5 then
      enterWait (noteLoss s2 (memberPos s) (peerPos s k)) (peerPos s k) (lossPhase s) k true true else s2
  | none => s2

/-- The remap finds a home that cannot be mapped: no cluster is mapped, ports off with their partners lost, level 4, and no step launches until
the image goes (04 R225, 09 R475). -/
def remapFailed (s : State) (block : Nat) : State :=
  let s1 := raiseEv s Reg.pageLdg 0x10 .block 0x08 0 0x0005 0 [block, 0, 0, 0]
  let off := fun (k : Nat) (t : State) =>
    modPort (wrB (wrB (wrB (setHs t k 0) (onPage Reg.portCtl k) 0 false) (onPage Reg.portStatus k) 0 false) (onPage Reg.portStatus k) 1 false) k
      fun p => { p with replay := [], ackAt := none, beyondAt := none }
  let s2 := each (List.range 8) off (portsLost s1)
  let s3 := if 4 < svcLevel s2 then setLevel s2 4 else s2
  allCl (putBoot s3 { s3.boot with mapped := false }) fun c => { c with logical := none }

/-- A mapped cluster is quarantined, so that a remap is needed (09 R474). -/
def needsRemap (s : State) : Bool :=
  (List.range 144).any fun p => (clOf s p).quarantined && (clOf s p).logical.isSome

/-- Remap when one is needed, at a point at which no execution runs (09 R474, R475). -/
def remapNow (s : State) : State :=
  if needsRemap s && !s.sched.exec.running then
    match mapping s (ncl s) with
    | .ok m => applyMapping s m
    | .error b => remapFailed s b
  else s

/-- Quarantine counts: the uncorrectable errors of this execution and, of a step, its faults per cluster, and the CE limit (09 R472). -/
def quarClusters (s : State) : State :=
  let fs := if s.sched.exec.kind = .step then s.sched.exec.faults else []
  modExec (each (List.range 144) (fun p s =>
    let c := clOf s p
    let n := c.ueExecs + b2n (c.ueThis || fs.contains p)
    let s1 := if n = c.ueExecs then s else modCl s p fun c => { c with ueExecs := n, ueThis := false }
    if rdF s Reg.ldgLimits 7 0 ≤ n ∨ rdN s Reg.ldgCeLimit < c.ceCount then quarantine s1 0 p else s1) s) fun e => { e with faults := [] }

/-- The HBCs read again what they logged, and write back what they still correct: the bytes stay, and a corrected read counts (09 R456,
R457). Whether an error is still there is a free value (log 19). -/
def writeBack (s : State) : State :=
  let s1 := each s.sched.exec.wbLog (fun a t =>
    putDraw (if Config.reread t.draw a then cntErr t (onPage Reg.pageHbc (hbmStack a)) 1 else t) (t.draw + 1)) s
  modExec s1 fun e => { e with wbLog := [] }

/-- A step is over, committed or abandoned: its late executions are no longer consecutive (09 R472). -/
def clearLate (s : State) : State := putBoot s { s.boot with quar := { s.boot.quar with lateRuns := [] } }

/-- Quarantine counts of the HBM stacks: uncorrectable executions, and consecutive late executions of one step (09 R472). -/
def quarStacks (s : State) : State :=
  let l := s.sched.exec.led
  each (List.range 6) (fun h s =>
    let ue := s.sched.exec.ueStacks.contains h
    let n := smGet (dflt 0) s.boot.quar.stackUe h + b2n ue
    let late := l.stopCause == 3 && rdB s (onPage Reg.hbcLate h) 5
    let r0 := smGet (dflt 0) s.boot.quar.lateRuns h
    let r := if s.sched.exec.kind ≠ .step then r0 else if late then r0 + 1 else 0
    let q := { s.boot.quar with stackUe := smSet (dflt 0) s.boot.quar.stackUe h n,
                                lateRuns := smSet (dflt 0) s.boot.quar.lateRuns h r }
    let s1 := putBoot s { s.boot with quar := q }
    if rdF s Reg.ldgLimits 15 8 ≤ n ∨ 2 ≤ r then quarantine s1 2 h else s1) s

end Sys2Proof.Machine
end

