-- ==== Sys2Proof/Machine/Commit.lean ====
section
/-!
DEFINITION. Sampling, commit, token release, rollback and recovery (05 R299 to R305, 06 R316 to R353, 07 R401 to R404,
09 R461 to R471, 08 R438).
-/
namespace Sys2Proof.Machine

/-- The contexts that are not idle, ascending. -/
def liveCtxs (s : State) : List (Nat × Context) := s.gener.ctxs.filter fun x => decide (x.2.st ≠ .idle)

/-- The context that holds a session identifier (06 R314). -/
def ctxBySid (s : State) (sid : Nat) : Option (Nat × Context) := (liveCtxs s).find? fun x => x.2.sid == sid

/-- The state code of a context (06 R313). -/
def ctxCode : CtxSt → Nat
  | .idle => 0
  | .opened => 1
  | .prefill => 2
  | .decode => 3
  | .parked => 4
  | .closing => 5

/-- The context state of a code. -/
def ctxSt (n : Nat) : CtxSt := nth [.idle, .opened, .prefill, .decode, .parked, .closing] n .idle

/-- Pages that hold n tokens (06 R322). -/
def pagesFor (n : Nat) : Nat := ceilDiv n 64

/-- Pool pages in use (06 R324). -/
def usedPages (s : State) : List Nat := (liveCtxs s).flatMap fun x => x.2.pages

/-- Free pool pages, ascending (06 R323). -/
def freePages (s : State) : List Nat :=
  let u := usedPages s
  (List.range (rdN s Reg.kvpPages)).filter fun p => !u.contains p

/-- KVP.FREE with its events and low-water mark (06 R324, R358). -/
def showFree (s : State) : State :=
  let old := rdN s Reg.kvpFree
  let n := (freePages s).length
  let floor := rdN s Reg.kvpFloor
  let s1 := wrN s Reg.kvpFree n
  let s2 := if n < rdN s Reg.kvpLowWater then wrN (noteHw s1 Reg.kvpLowWater (w32 0xFFFF)) Reg.kvpLowWater n else s1
  let s3 := if n < floor ∧ floor ≤ old then setEvt s2 Reg.pageKvp 1 else s2
  if n = 0 ∧ old ≠ 0 then setEvt s3 Reg.pageKvp 2 else s3

/-- Two ranges, each a start and a length, share an address. -/
def meets (a n b m : Nat) : Bool := decide (a < b + m) && decide (b < a + n)

/-- Write bytes to HBM. -/
def hbmWrite (s : State) (a : Nat) (bs : List Byte) : State := putHbm s (memStore s.hbm a bs)

/-- A 38-bit address in two KVP registers. -/
def kvpAddr (s : State) (off : Nat) : Nat := rdN s off + rdF s (off + 4) 5 0 * 2 ^ 32

/-- Write a context's page list (06 R323). -/
def writeList (s : State) (c : Nat) : State :=
  hbmWrite s (kvpAddr s Reg.kvpListLo + c * (rdN s Reg.kvpCtxMax / 64) * 2) ((ctxOf s c).pages.flatMap (leBytes 2))

/-- Allocate the lowest free pages to a context (06 R323, R324). -/
def takePages (s : State) (c n : Nat) : State :=
  let ps := (freePages s).take n
  showFree (writeList (modCtx s c fun x => { x with pages := x.pages ++ ps }) c)

/-- Free a context's pages. -/
def freeCtxPages (s : State) (c : Nat) : State := showFree (modCtx s c fun x => { x with pages := [] })

/-- A context's pages reach into a range of HBM (06 R322). -/
def pagesMeet (s : State) (x : Context) (a n : Nat) : Bool :=
  let w := rdN s Reg.kvpStride
  x.pages.any fun p => (List.range 6).any fun h => meets (kvpAddr s (Reg.kvpBaseLo + 8 * h) + p * w) w a n

/-- Something but the steps and the transfers writes a range of HBM: the resident image's bytes there, and the rows of the sessions whose
pages lie there, are no longer what the tokens made of them (05 R264, 13 R590, 16 R739). -/
def foreignWrite (s : State) (a n : Nat) : State :=
  let t := s.draw + 1
  let img := match s.gener.image with | some im => im.sections.any fun x => meets x.hbm x.len a n | none => false
  let s1 := if img then putGener s { s.gener with imgTaint := t } else s
  putDraw (each (liveCtxs s) (fun x u => if pagesMeet s x.2 a n then modCtx u x.1 fun y => { y with taint := t } else u) s1) t

/-- The function that a session belongs to (13 R595, R596). -/
def ctxFn (s : State) (x : Context) : Nat := ringOwner s x.ring

/-- A remote command of an entry site completes at the site; any other here (07 R414). -/
def finish (s : State) (c : CmdRef) (status w6 w7 : Nat) : State := if c.remote then s else complete s c status w6 w7

/-- A completion that waits behind its session's records (06 R353). -/
def bareTok (c : Nat) (x : Context) (fn : Nat) (r : CmdRef) (status w6 w7 : Nat) : TokRec :=
  { ctx := c, sid := x.sid, ring := x.ring, fn := fn, idx := x.len, value := 0, exited := false, stop := false, limit := false, addr := none,
    fin := some (r, status, w6, w7), bare := true }

/-- A record of a session's context waits to be written. -/
def waitsFor (c sid : Nat) (t : TokRec) : Bool := t.ctx == c && t.sid == sid

/-- Put a completion behind the last of a list of waiting steps. -/
def behindLast (t : TokRec) : List (Nat × List TokRec) → List (Nat × List TokRec)
  | [] => []
  | [q] => [(q.1, q.2 ++ [t])]
  | q :: qs => if qs.any fun r => r.2.any (waitsFor t.ctx t.sid) then q :: behindLast t qs
    else if q.2.any (waitsFor t.ctx t.sid) then (q.1, q.2 ++ [t]) :: qs else q :: behindLast t qs

/-- Complete a session's command once its records have been written (06 R353). -/
def finishBehind (s : State) (c : Nat) (x : Context) (r : CmdRef) (status w6 w7 : Nat) : State :=
  let t := bareTok c x (ctxFn s x) r status w6 w7
  if s.azl.releaseQ.any fun q => q.2.any (waitsFor c x.sid) then putAzl s { s.azl with releaseQ := behindLast t s.azl.releaseQ }
  else if s.hif.held.any (waitsFor c x.sid) then putHif s { s.hif with held := s.hif.held ++ [t] }
  else finish s r status w6 w7

/-- The records of one GENERATE among those of its session that wait: from the last that ended another on, up to its own last (13 R616). -/
def waitsOf (r : CmdRef) : Nat → List TokRec → Nat
  | n, [] => n
  | n, t :: ts =>
    let k := n + b2n (!t.bare)
    match t.fin with
    | some f => if f.1 = r then k else waitsOf r 0 ts
    | none => waitsOf r k ts

/-- The token records that a GENERATE has written when those of `ts` have not been: the result word of one that ends CANCELLED, 0 of any
other command (13 R616). -/
def writtenOf (s : State) (ts : List TokRec) (r : CmdRef) : Nat :=
  match (liveCtxs s).find? fun x => x.2.gen.any fun g => g.ref == r with
  | some (c, x) => (x.gen.map (·.written)).getD 0 - waitsOf r 0 (ts.filter (waitsFor c x.sid))
  | none => match ts.find? fun t => t.fin.any fun f => f.1 == r with
    | some t => (t.fin.map fun f => f.2.2.1).getD 0 - waitsOf r 0 (ts.filter (waitsFor t.ctx t.sid))
    | none => 0

/-- A session's active GENERATE completes, with the token records it has written: all it has committed but those `lost` to a discard (06 R351,
13 R616, R633, R353, R766, 08 R427). -/
def endGen (s : State) (c status : Nat) (lost : Nat := 0) : State :=
  let x := ctxOf s c
  match x.gen with
  | some g => modCtx (finishBehind s c x g.ref status (g.written - lost) (b2n g.stop + 2 * b2n g.limit)) c fun x => { x with gen := none, budget := 0 }
  | none => s

/-- A command that no context's GENERATE stands for completes with CANCELLED. -/
def cancelRef (s : State) (r : Option CmdRef) : State :=
  match r with
  | some r => finish s r 0x0C 0 0
  | none => s

/-- Contexts in PREFILL or DECODE but one (06 R336). -/
def admitted (s : State) (but : Option Nat) : List (Nat × Context) :=
  (liveCtxs s).filter fun x => (x.2.st == .prefill || x.2.st == .decode) && some x.1 != but

/-- The pages a join needs (06 R332). -/
def joinNeed (x : Context) (unpark : Bool) : Nat :=
  pagesFor (x.len + if unpark then 0 else x.waiting.length) + 1 - x.pages.length

/-- The need that the admission test uses (06 R336). -/
def testNeed (s : State) (c : Nat) (x : Context) (unpark : Bool) : Nat :=
  if rdB s Reg.sluAdmitCtl 1 then
    (pagesFor x.limit + 1 - x.pages.length)
      + sumN ((admitted s (some c)).map fun y => pagesFor y.2.limit + 1 - y.2.pages.length)
  else joinNeed x unpark

/-- The ring that a join came on; its session's for one that came on none of this package's (06 R354). -/
def joinRing (x : Context) (j : Join) : Nat := if j.swap || j.ref.remote then x.ring else j.ref.ring

/-- SLU.DEFER and DEFER_NEED: the oldest join that is still deferred (06 R356). -/
def showDefer (s : State) : State :=
  let js := ((liveCtxs s).filterMap fun x => x.2.join.map fun j => (x.1, j)).filter fun x => x.2.deferred
  match sortBy (fun a b => decide (a.2.seq ≤ b.2.seq)) js with
  | [] => wrN (wrN s Reg.sluDefer 0) Reg.sluDeferNeed 0
  | (c, j) :: _ =>
    wrN (wrN s Reg.sluDefer (joinRing (ctxOf s c) j % 128 + 2 ^ 7 + min 255 j.deferrals * 2 ^ 8)) Reg.sluDeferNeed
      (testNeed s c (ctxOf s c) j.unpark % 2 ^ 32)

/-- A swap-parked session waits to come back: a held join (08 R447). -/
def swapWaits (s : State) : Bool := (liveCtxs s).any fun x => x.2.join.any (·.swap)

/-- PRIO falls when the last held join is gone (06 R335, R356, 08 R447). -/
def showPrio (s : State) : State :=
  wrB s Reg.sluAdmitCtl 23 (rdB s Reg.sluAdmitCtl 23 && (s.gener.prio.isSome || swapWaits s))

/-- A pending join is removed; its UNPARK completes with CANCELLED, a GENERATE with its context's (06 R319). -/
def cancelJoin (s : State) (c : Nat) : State :=
  match (ctxOf s c).join with
  | some j =>
    let s1 := if j.unpark && !j.swap then cancelRef s (some j.ref) else s
    let s2 := showDefer (modCtx s1 c fun x => { x with join := none })
    showPrio (putGener s2 { s2.gener with prio := if s2.gener.prio = some c then none else s2.gener.prio })
  | none => s

/-- A transfer that serves a context. -/
def xferOf (c : Nat) (k : XferKind) : Bool := k == .park c || k == .unpark c

/-- The PARK of a session whose save has not ended; a swap park is no command (08 R441, R444). -/
def parkOpen (x : Context) : Option CmdRef :=
  match x.park with
  | some p => if p.saved || p.swap then none else some p.ref
  | none => none

/-- A context becomes IDLE: its GENERATE, its pending join, an UNPARK that is being read and a PARK that waits for its
boundary or its save are cancelled, and its pages are free (06 R317, R319, R766, 09 R470). -/
def idleCtx (s : State) (c : Nat) : State :=
  let s1 := cancelJoin (endGen s c 0x0C) c
  let x := ctxOf s c
  let s2 := cancelRef (cancelRef (cancelRef s1 x.unparkRef) (x.parkPending.map (·.ref))) (parkOpen x)
  showFree (setCtx (putGener s2 { s2.gener with xfers := s2.gener.xfers.filter fun x => !xferOf c x.kind }) c {})

/-- A session event: it goes to the queue of the session's ring (13 R621). -/
def sessEv (s : State) (page bits type code : Nat) (x : Context) (d : List Nat) : State :=
  raiseEv s page bits (.ring x.ring) type 0 code x.sid d

/-- The HBM address and bit of a token's exit-map entry (06 R344). -/
def exitByteAddr (s : State) (c t : Nat) : Nat := kvpAddr s Reg.kvpExitmapLo + c * (rdN s Reg.kvpCtxMax) / 8 + t / 8

/-- Write a token's exit-map bit (06 R344). -/
def writeExit (s : State) (c t : Nat) (e : Bool) : State :=
  let a := exitByteAddr s c t
  let b := memNat s.hbm a 1
  hbmWrite s a [BitVec.ofNat 8 (putBit (w32 b) (t % 8) e).toNat]

/-- A logit, never a NaN: a NaN of the free value stands as the infinity of its sign (06 R349). -/
def logitOf (w : Nat) : Nat := if fpIsNan h16Fmt w then fpInf h16Fmt (decide (2 ^ 15 ≤ w)) else w

/-- The logits of a session's next token, of its history alone (06 R349, 05 R263). -/
def logits (s : State) (x : Context) (exited : Bool) (mark : Nat) : List Nat :=
  (List.range (rdN s Reg.sluVocab)).map fun v =>
    logitOf (Config.logit s.gener.hdr.ident (runEpoch s) (s.gener.imgTaint, x.taint) x.hist exited mark v).toNat

/-- Insert an index into a list sorted by logit descending, ties by index ascending (06 R349). -/
def insLogit (lg : List Nat) (i : Nat) : List Nat → List Nat
  | [] => [i]
  | j :: js => if fpKey h16Fmt (nthN lg j) < fpKey h16Fmt (nthN lg i) then i :: j :: js else j :: insLogit lg i js

/-- The candidates in order (06 R349). -/
def sortLogits (lg : List Nat) : List Nat := (List.range lg.length).foldl (fun a i => insLogit lg i a) []

/-- floor(x * 2^40) of a non-negative binary32 value (06 R349). -/
def weight40 (x : Nat) : Nat :=
  match fpDec s32Fmt x with
  | .fin _ m e => if 0 ≤ e + 40 then m * 2 ^ (e + 40).toNat else m / 2 ^ (-(e + 40)).toNat
  | _ => 2 ^ 40

/-- The weight of a candidate (06 R349). -/
def candWeight (lg : List Nat) (m f c : Nat) : Nat :=
  let x := fpMul s32Fmt (fpSub s32Fmt (cvtS32H16 (nthN lg c)) m) f
  if fpIsNan s32Fmt x then 2 ^ 40 else weight40 (sfuExp2 x)

/-- The least k whose first k elements sum to at least a limit, at most the length. -/
def leastSum (lim : Nat) : Nat → Nat → List Nat → Nat
  | k, acc, w :: ws => if lim ≤ acc then k else leastSum lim (k + 1) (acc + w) ws
  | k, _, [] => k

/-- The least index whose elements up to it sum above r. -/
def pickSum (r : Nat) : Nat → Nat → List Nat → Nat
  | k, acc, w :: ws => if r < acc + w then k else pickSum r (k + 1) (acc + w) ws
  | k, _, [] => k

/-- The token that R349 selects. -/
def sample (lg : List Nat) (temp topK topP : Nat) (key : BitVec 128) (sid tix : Nat) : Nat :=
  let c := sortLogits lg
  if temp % 2 ^ 15 = 0 then c.headD 0
  else
    let k := if topK = 0 then lg.length else min topK lg.length
    let m := cvtS32H16 (nthN lg (c.headD 0))
    let f := fpMul s32Fmt (sfuRcp (cvtS32H16 temp)) 0x3FB8AA3B
    let ws := (c.take k).map (candWeight lg m f)
    let lim := ceilDiv (sumN ws * topP) (2 ^ 16)
    let ws2 := if topP = 0 then ws else ws.take (leastSum lim 0 0 ws)
    let u := (kcg key (kcgCounter 0 0 tix sid)).toNat % 2 ^ 64
    nthN c (pickSum (u * sumN ws2 / 2 ^ 64) 0 0 ws2)

/-- A token is one of the session's stop tokens (06 R321, R351). -/
def isStop (x : Context) (t : Nat) : Bool := x.stops.any fun e => e == t && e != 0xFFFFFFFF

/-- Advance a context by the rows of a step; the prompt tokens processed are answered (06 R316, R317). -/
def advanceCtx (x : Context) (e : BatchEntry) (exited : Bool) (mark : Nat) : Context × List Nat × Bool :=
  if e.decode then (x, [], true)
  else
    let k := min e.rows x.waiting.length
    let rest := x.waiting.drop k
    let got := x.waiting.take k
    let y := { x with len := x.len + k, waiting := rest, hist := x.hist ++ got.map fun t => (t, exited, mark),
                      st := if rest.isEmpty ∧ x.st = .prefill then .decode else x.st }
    (y, got, rest.isEmpty)

/-- Commit one token of a context: length, exit map, budget and the GENERATE's end (06 R316, R344, R351). -/
def commitToken (s : State) (c tok : Nat) (exited : Bool) (mark : Nat) : State × TokRec :=
  let x := ctxOf s c
  let stop := isStop x tok
  let limit := decide (x.limit ≤ x.len + 1)
  let b := x.budget - 1
  let last := b = 0 ∨ stop = true ∨ limit = true
  let fn := ctxFn s x
  let t : TokRec :=
    { ctx := c, sid := x.sid, ring := x.ring, fn := fn, idx := x.len, value := tok, exited := exited, stop := stop, limit := limit,
      addr := x.gen.map fun g => g.addr + 16 * g.written,
      fin := if last then x.gen.map fun g => (g.ref, 0, g.written + 1, b2n stop + 2 * b2n limit) else none }
  let y := { x with len := x.len + 1, budget := if last then 0 else b,
                    gen := if last then none else x.gen.map fun g => { g with written := g.written + 1 },
                    tokens := satAdd 32 x.tokens 1, exits := satAdd 32 x.exits (b2n exited), exitLast := exited,
                    commitLo := lo32 s.count, hist := x.hist ++ [(tok, exited, mark)] }
  (setCtx (writeExit s c x.len exited) c y, t)

/-- What keeps the next results out of the exact class: nothing, or a number of its own (05 R262, R263). -/
def stepMark (s : State) (exact : Bool) : Nat := if exact then 0 else s.draw + 1

/-- The part of one batch entry in a commit; a prompt token is from no exit head (06 R344, R349, R765). The token it gives is what R299
folds and R353 releases; the prompt tokens it processes are committed too (R316) but not folded, since R299 folds what R351 writes out
(DEDUCED, log 68). -/
def commitEntry (exited exact : Bool) (a : State × List TokRec) (e : BatchEntry) : State × List TokRec :=
  let s := a.1
  let x := ctxOf s e.ctx
  let mark := stepMark s exact
  let (y0, prompt, gives) := advanceCtx x e exited mark
  let y := if prompt.isEmpty then y0 else { y0 with exitLast := false, commitLo := lo32 s.count }
  let s0 := putDraw (setCtx s e.ctx y) (s.draw + b2n (!exact))
  let s1 := each (List.range prompt.length) (fun i s => writeExit s e.ctx (x.len + i) false) s0
  if gives then
    let lg := logits s1 y exited mark
    let r := commitToken s1 e.ctx (sample lg y.temp y.topK y.topP (BitVec.ofNat 128 y.seed) y.sid y.len) exited mark
    (r.1, a.2 ++ [r.2])
  else (s1, a.2)

/-- Insert a token record by session identifier (06 R353). -/
def insTok (t : TokRec) : List TokRec → List TokRec
  | [] => [t]
  | u :: us => if t.sid < u.sid then t :: u :: us else u :: insTok t us

/-- Token records in ascending session identifier (05 R299, 06 R353). -/
def sortToks (ts : List TokRec) : List TokRec := ts.foldl (fun a t => insTok t a) []

/-- The step digest (05 R299). -/
def stepDigest (ts : List TokRec) : Nat :=
  ts.foldl (fun d t => digFoldAll d (stepDigWords t.sid t.idx t.value t.exited)) digInit

/-- Accrual at a commit (06 R341). -/
def accrue (period : Nat) (toks : List TokRec) (before : SMap Context) (s : State) : State :=
  each (liveCtxs s) (fun x s =>
    let had := (smGet (dflt {}) before x.1)
    if toks.any fun t => t.ctx == x.1 then modCtx s x.1 fun y => { y with accrued := 0 }
    else if had.eligible then
      modCtx s x.1 fun y => { y with accrued := if had.st ≠ .decode ∧ y.st = .decode then 0 else (y.accrued + period) % 2 ^ 32 }
    else s) s

/-- Contexts that became short (06 R325). -/
def markShort (s : State) : State :=
  each (liveCtxs s) (fun x s =>
    if x.2.st = .decode ∧ x.2.short = false ∧ x.2.pages.length ≤ pagesFor x.2.len then
      modCtx s x.1 fun y => { y with short := true, shortAt := s.gener.commits }
    else s) s

/-- The 16-byte token record (06 R352). -/
def tokWords (t : TokRec) : List Nat :=
  [t.value % 2 ^ 32, t.idx % 2 ^ 32,
   (t.idx / 2 ^ 32) % 2 ^ 16 + b2n t.exited * 2 ^ 16 + b2n t.stop * 2 ^ 17 + b2n t.limit * 2 ^ 18, t.sid % 2 ^ 16 + 2 ^ 31]

/-- What follows a token record's write: TOKEN, then the GENERATE's completion (06 R353, R354). -/
def afterTok (s : State) (t : TokRec) : State :=
  let s1 := if rdB s Reg.sluCtl 1 && !t.bare then
      raiseEv s Reg.pageSlu 8 (.ring t.ring) 0x20 0 0x0005 t.sid
        [t.value, t.idx % 2 ^ 32, (t.idx / 2 ^ 32) % 2 ^ 16 + b2n t.exited * 2 ^ 16, 0]
    else s
  match t.fin with
  | some (c, st, w6, w7) => finish s1 c st w6 w7
  | none => s1

/-- Write one token record, or hold it while its function may not write; once one of a function is held, the later ones
wait behind it (06 R352, R353, 13 R629, R630). -/
def releaseTok (s : State) (t : TokRec) : State :=
  if (permitted s t.fn || t.bare) && !(s.hif.held.any fun h => h.fn == t.fn) then
    afterTok (match t.addr with | some a => hostWords s t.fn a (tokWords t) | none => s) t
  else putHif s { s.hif with held := s.hif.held ++ [t] }

/-- Release the tokens of a step (07 R403, 05 R304). -/
def releaseToks (s : State) (step : Nat) (ts : List TokRec) : State :=
  let s1 := wrN (each ts (fun t s => releaseTok s t) s) Reg.azlReleasedLo (lo32 step)
  putAzl s1 { s1.azl with released := step }

/-- The tokens of a step may go: no comparison holds them, and every position has committed the step (05 R304, 07 R403, 06 R353). -/
def mayRelease (s : State) (n : Nat) : Bool :=
  !(s.lock.held.any fun h => h.2 == n) && !s.lock.orphans.contains n && (!inGroup s || (List.range (groupSize s)).all fun p =>
    p == memberPos s || s.azl.committed.any fun c => c.1 == p && decide (n ≤ c.2))

/-- Release the waiting steps in order, as far as they may go. -/
def releaseSome : Nat → State → State
  | 0, s => s
  | k + 1, s =>
    match s.azl.releaseQ with
    | [] => s
    | (n, ts) :: q => if mayRelease s n then releaseSome k (releaseToks (putAzl s { s.azl with releaseQ := q }) n ts) else s

/-- Release every waiting step that may go. -/
def releaseAll (s : State) : State := releaseSome s.azl.releaseQ.length s

/-- A position is known to have committed a step (07 R402, R407). -/
def noteCommitted (s : State) (pos step : Nat) : State :=
  let old := ((s.azl.committed.find? fun c => c.1 == pos).map (·.2)).getD 0
  putAzl s { s.azl with committed := (pos, max old step) :: s.azl.committed.filter fun c => c.1 != pos }

/-- H of a step: the later commit count plus LS_LAG (05 R303). -/
def lockH (s : State) (a b : Triple) : Nat := max a.count b.count + rdN s Reg.dbgLsLag

/-- Compare the triples of the next step number when both are held; a mismatch stands until REWIND or ABANDON (05 R303 to R307, R310, R312,
16 R743, R744). -/
def lockCompare (s : State) : State :=
  match s.lock.own, s.lock.twin with
  | a :: as, b :: bs =>
    if a.n = b.n ∧ rdB s Reg.dbgLsStatus 1 = false then
      let h := lockH s a b
      let s1 := wr64 (wrN s Reg.dbgLsSeq (lo32 a.n)) Reg.dbgTwinDigLo b.digest
      let late := decide (h < s.count)
      let s2 := if late then
          raiseEv (wrB s1 Reg.dbgLsStatus 4 true) Reg.pageDbg 4 .block 0x06 0 0x0003 0 [lo32 a.n, lo32 s.count, hi32 s.count, 0]
        else s1
      if a.digest = b.digest then
        let s3 := releaseAll (putLock s2 { s2.lock with own := as, twin := bs, held := s2.lock.held.eraseP fun x => x.1 == a.n })
        if late then lockHalt s3 s.count else s3
      else
        let s3 := raiseEv (wrB s2 Reg.dbgLsStatus 1 true) Reg.pageDbg 1 .block 0x06 0 0x0001 0 [lo32 a.n, lo32 h, hi32 h, 0]
        if late then lockHalt (putLock s3 { s3.lock with haltAt := none }) s.count
        else wr64 (putLock s3 { s3.lock with haltAt := some h }) Reg.dbgLsHaltLo h
    else s
  | _, _ => s

/-- The triples from the next that is numbered 0, with which a twin begins the mode again (05 R300). -/
def fromZero : List Triple → List Triple
  | [] => []
  | t :: ts => if t.n = 0 then t :: ts else fromZero ts

/-- The two sides speak of one run of the mode: of a side that has not begun again what lies before its next number 0 finds no triple to meet.
The tokens of such steps of our own stay held, since R305 releases none without equal digests: the spec does not say what becomes of them
(DESIGN CHOICE, log 41). -/
def lockAlign (s : State) : State :=
  match s.lock.own, s.lock.twin with
  | a :: as, b :: bs =>
    if a.n ≠ 0 ∧ b.n = 0 then
      let own := fromZero (a :: as)
      let k := (a :: as).length - own.length
      putLock s { s.lock with own := own, held := s.lock.held.drop k, orphans := s.lock.orphans ++ (s.lock.held.take k).map (·.2) }
    else if a.n = 0 ∧ b.n ≠ 0 then putLock s { s.lock with twin := fromZero (b :: bs) }
    else s
  | _, _ => s

/-- The lock-step mode of a commit: it begins at a commit with ENABLE set and the twin accepted on its port as a twin port (both twins have
then enabled it, since a package that has not refuses the other's group; DEDUCED, log 41), and ends at a commit with ENABLE clear; a port's
loss does not end it (05 R300, R302, R380). -/
def lockMode (s : State) : Bool :=
  let k := rdF s Reg.dbgLsCtl 3 1
  rdB s Reg.dbgLsCtl 0 && (s.lock.on || (hsOf s k == 2 && rdB s (onPage Reg.portStatus k) 20))

/-- Lock-step at a commit: the mode's change, the step's number, its triple to the twin. Comparisons under way stay when the mode ends and when it
begins again (05 R300, R301, R304, R305, R310). -/
def lockCommit (s : State) (step digest : Nat) : State :=
  let s0 := wrB s Reg.dbgLsStatus 0 (lockMode s)
  if !lockMode s then putLock s0 { s.lock with on := false }
  else
    let lk := if s.lock.on then s.lock else { s.lock with next := 0 }
    let s1 := putLock s0 { lk with on := true, next := lk.next + 1, own := lk.own ++ [⟨lk.next, s.count, digest⟩],
                                   held := lk.held ++ [(lk.next, step)] }
    let f := mkFrame s1 0x1D (lo32 lk.next) (hi32 lk.next) (lo32 s.count) (hi32 s.count) [lo32 digest, hi32 digest]
    sendSeq s1 (rdF s Reg.dbgLsCtl 3 1) f

/-- VARIANCE for a step in which a counter advanced (05 R294, R312). -/
def variance (s : State) : State :=
  let v := (rdN s Reg.dbgVarAdmit, rdN s Reg.dbgVarRoute)
  if v = s.gener.varSeen then s
  else
    raiseEv (putGener s { s.gener with varSeen := v }) Reg.pageDbg 8 .block 0x06 0 0x0004 0
      [rdN s Reg.sluStepLo, rdN s Reg.sluStepHi, v.1, v.2]

/-- What REWIND needs of the contexts of a step (16 R743). -/
def saveCtxs (s : State) (r : StepRec) : List CtxSave :=
  (liveCtxs s).map fun x =>
    let a := exitByteAddr s x.1 x.2.len
    let rows := sumN ((r.batch.filter fun e => e.ctx == x.1).map (·.rows))
    ⟨x.1, x.2, a, memRange s.hbm a (rows / 8 + 2)⟩

/-- Commit the completed step: lengths, budgets, accruals, digest; its tokens wait at the entry until they may be released. The counts that
the execution added are examined, and a remap that is due is made (07 R402, R403, 05 R299 to R301, 06 R341, R351, 09 R457, R472, R474). -/
def commitStep (s : State) (d : DoneStep) : State :=
  let r := d.record
  let before := s.gener.ctxs
  let saved := saveCtxs s r
  let s0 := wr64 (wr64 s Reg.azlCommitLo r.step) Reg.sluStepLo (rd64 s Reg.sluStepLo + 1)
  let s1 := putSched (putGener s0 { s0.gener with commits := s0.gener.commits + 1, atBoundary := true }) { s0.sched with done := none, replay := false }
  let (s2, ts0) := r.batch.foldl (commitEntry r.exitKind d.exact) (s1, [])
  let ts := sortToks ts0
  let s3 := markShort (accrue (r.planDur + s.gener.gap) ts before s2)
  let s4 := if r.exitKind then cntReg (cntReg s3 Reg.dlmExitSteps 1) Reg.dlmFallbacks ts.length else s3
  let dg := stepDigest ts
  let s5 := lockCommit (wr64 s4 Reg.dbgStepDigLo dg) r.step dg
  let n := s5.lock.next - 1
  let s6 := variance (putGener s5 { s5.gener with saves := (⟨n, r, saved⟩ :: s5.gener.saves).take 3 })
  let s7 := wrF (setAzl s6 (if azlState s6 = 3 then 2 else azlState s6)) Reg.azlState 11 8 0
  let s8 := remapNow (clearLate (quarClusters (writeBack s7)))
  let s9 := if isEntry s8 then putAzl s8 { s8.azl with releaseQ := s8.azl.releaseQ ++ [(r.step, ts)] } else s8
  lockCompare (lockAlign (releaseAll s9))

/-- The first faulted cluster, by logical number (09 R466). -/
def firstFault (s : State) : Option Cluster :=
  (List.range 128).findSome? fun l => match physOf s l with
    | some p => if (clOf s p).st = .faulted then some (clOf s p) else none
    | none => none

/-- Action 2 of the recovery: LDG.FAULT, and every faulted cluster is cleared (09 R466, R477). -/
def clearFaults (s : State) : State :=
  let s1 := match firstFault s with
    | some c => wrN s Reg.ldgFault (c.flt.code % 256 + (c.logical.getD 0) % 256 * 2 ^ 8 + c.flt.group % 8 * 2 ^ 16)
    | none => s
  allCl s1 fun c => if c.st = .faulted then { c with st := .idle, flt := {} } else c

/-- The image section that holds an HBM address (09 R467). -/
def sectionAt (s : State) (a : Nat) : Option Section :=
  match s.gener.image with
  | some im => im.sections.find? fun x => decide (x.hbm ≤ a) && decide (a < x.hbm + x.len)
  | none => none

/-- The reloads of action 5 are over, one way or the other. -/
def reloadsOver (s : State) : Bool := s.sched.reloads.all (·.failed)

/-- The recovery is over, in time for the replay's launch (09 R469). -/
def recoveryOver (s : State) : Bool :=
  s.sched.reloads.isEmpty && (match s.sched.nextLaunch with | some l => decide (s.count + 512 ≤ l) | none => true)

/-- The write-backs of action 6 follow the reloads (09 R466). -/
def afterReloads (s : State) : State := if reloadsOver s then writeBack s else s

/-- The recovery actions 2 to 6 of R466: faults are counted and cleared, a remap is made, the damaged regions and those whose reload
failed before are to be reloaded, and the write-backs follow (09 R466, R469). -/
def recover (s : State) : State :=
  let s2 := remapNow (clearFaults (quarStacks (quarClusters s)))
  let old := s2.sched.reloads.map fun r => { r with failed := false }
  let rl := s.sched.exec.regions.filter fun a => !(old.any fun r => r.addr == a)
  let s3 := putSched s2 { s2.sched with reloads := old ++ rl.map fun a => ({ addr := a, due := none } : Reload) }
  afterReloads (putSched s3 { s3.sched with recovered := recoveryOver s3 })

/-- Both members of the link that an alternate route set is for have given notice (07 R415). -/
def altDue (s : State) (a : AltRoute) : Bool :=
  s.azl.floods.contains (0x1E, a.pos, a.port) && s.azl.floods.contains (0x1E, a.farPos, a.farPort)

/-- An alternate route set takes effect, and DBG.VAR_ROUTE counts the change (07 R415, 05 R293). -/
def useAlt (a : AltRoute) (s : State) : State :=
  match s.gener.image with
  | some im =>
    let im1 := { im with group := a.group, shards := a.shards, alts := im.alts.filter fun b => b != a }
    cntReg (loadGroupRegs (putGener s { s.gener with image := some im1 }) a.group) Reg.dbgVarRoute 1
  | none => s

/-- From the replay onward a member uses the alternate routes whose link is lost; the entry stops the group when a route does not meet the
measured delay of its ports (07 R415; each package knows its own ports' delays only, log 32). -/
def applyAlts (s : State) : State :=
  let ds := match s.gener.image with | some im => im.alts.filter (altDue s) | none => []
  let s1 := each ds useAlt s
  if !ds.isEmpty && isEntry s1 && (groupPorts s1).any (fun k => decide (rdN s1 (onPage Reg.portHopMax k) < rdN s1 (onPage Reg.portDelay k)))
  then stopAll s1 else s1

/-- A rollback: the step is discarded and launches again with its record (07 R404, 09 R465, R466). -/
def rollBack (s : State) (d : DoneStep) (launch : Nat) (positions : Nat) : State :=
  let n := rdF s Reg.azlState 11 8 + 1
  let s1 := cntReg (putSched s { s.sched with done := none, replay := true, nextStep := some d.record,
                                                     nextLaunch := some launch, launchReady := true }) Reg.ldgRollbacks 1
  let s2 := wrF (setAzl s1 (if inGroup s1 then 3 else azlState s1)) Reg.azlState 11 8 (min 15 n)
  let s3 := azlEv s2 4 0x0004 (memberPos s) [lo32 d.record.step, hi32 d.record.step, min 15 n, positions]
  applyAlts (recover s3)

/-- The launch count after a step (06 R340, 07 R392). -/
def launchAfter (s : State) (cdown : Nat) : Nat :=
  max (s.sched.lastLaunch + s.sched.lastPlan + s.sched.lastFrozen + s.gener.gap) (s.count + cdown + 16)

/-- C_down of R390: this member's longest child link and what lies beyond it, which is nothing when every other member is a child; else only
the other members measure it (log 14). -/
def cDown (s : State) : Nat :=
  if inGroup s then
    maxN ((childPorts s).map fun k => tCtl (portMode s k) + rdN s (onPage Reg.portDelay k))
      + (if (childPorts s).length + 1 = groupSize s then 0 else Config.ctlTail s.gener.hdr.ident)
  else 0

/-- The context that holds a pool page with a committed token of it (09 R470). -/
def pageOwner (s : State) (page : Nat) : Option Nat :=
  ((liveCtxs s).find? fun x => (x.2.pages.zipIdx).any fun p => p.1 == page && decide (p.2 * 64 < x.2.len)).map (·.1)

/-- An uncorrectable error of some ledger lies in committed context: the context that owns its page (09 R470). -/
def lostCtx (s : State) (ls : List Ledger) : Option Nat :=
  (ls.filter fun l => l.ueSrc == 6).findSome? fun l => pageOwner s l.uePage

/-- The step is abandoned and a session is lost (09 R470, R478). -/
def abandonStep (s : State) (c : Nat) : State :=
  let x := ctxOf s c
  let s1 := cntReg (putGener (putSched s { s.sched with done := none, replay := false, nextStep := none, nextLaunch := none }) { s.gener with again := true }) Reg.ldgAbandons 1
  let s2 := idleCtx s1 c
  let s3 := if isEntry s then sessEv s2 Reg.pageLdg 0x20 0x08 0x0006 x [c, lo32 x.len, hi32 x.len, 0] else s2
  clearLate (recover (wrF s3 Reg.azlState 11 8 0))

/-- The first unclean ledger of a step, by position (09 R477). -/
def firstUnclean (s : State) (ls : List (Nat × Ledger)) : Option (Nat × Ledger) := ls.find? fun l => !ledClean s l.2

/-- Show a ledger record in eight registers. -/
def showLed (s : State) (off : Nat) (l : Ledger) : State :=
  each ((ledWords l).zipIdx) (fun w s => wrN s (off + 4 * w.2) w.1) s

/-- Positions with unclean ledgers, as a bit mask of the first 32 (07 R419). -/
def uncleanMask (s : State) (ls : List (Nat × Ledger)) : Nat :=
  sumN ((ls.filter fun l => !ledClean s l.2 && decide (l.1 < 32)).map fun l => 2 ^ l.1)

/-- The judgement of a step whose ledgers are all held (07 R401, R404, 09 R461, R462, R470, R472, R477, R478). A VERDICT with ABANDON carries the
number of the lost context in word 7: R370 gives the word no meaning, and the rules do not say how the members learn it (DESIGN CHOICE, log
71). -/
def judge (s : State) (ls : List (Nat × Ledger)) (d : DoneStep) : State :=
  let st := d.record.step
  match firstUnclean s ls with
  | none =>
    let s1 := showLed s Reg.ldgLastStep d.ledger
    let s2 := if inGroup s1 then sendDown s1 (mkFrame s1 0x12 (lo32 st) (hi32 st) 1 0 []) else s1
    commitStep (putAzl s2 { s2.azl with ledgers := [] }) d
  | some u =>
    let s1 := showLed (cntErr s Reg.pageLdg 1) Reg.ldgLastStep u.2
    let s2 := raiseEv s1 Reg.pageLdg 1 .block 0x08 0 0x0001 0 [lo32 st, hi32 st, u.1, nthN (ledWords u.2) 5]
    let s3 := putAzl s2 { s2.azl with ledgers := [] }
    match lostCtx s3 (ls.map (·.2)) with
    | some c =>
      abandonStep (if inGroup s3 then sendDown s3 (mkFrame s3 0x12 (lo32 st) (hi32 st) 2 c []) else s3) c
    | none =>
      if inGroup s3 ∧ rdF s3 Reg.azlReplayMax 3 0 ≤ rdF s3 Reg.azlState 11 8 ∧ s3.sched.exec.rewound = false then stopAll (recover s3)
      else
        let l := launchAfter s3 (cDown s3)
        let s4 := if inGroup s3 then sendDown s3 (mkFrame s3 0x12 (lo32 st) (hi32 st) 0 0 [lo32 l, hi32 l]) else s3
        rollBack s4 d l (uncleanMask s ls)

end Sys2Proof.Machine
end

