-- ==== Sys2Proof/Machine/Reduce.lean ====
section
/-!
DEFINITION. The in-line reduction engine: units of local and far partials, their sums, frames up, down and round the
ring, and late units (07 R383 to R389, R394, R418; 01 R45).
-/
namespace Sys2Proof.Machine

/-- Units are 64 bytes; a PARTIAL frame carries at most 128 of them (07 R369, R384). -/
def frameUnits : Nat := 128

/-- Fields of a reduction record (07 R385). -/
def rdRing (r : Reduction) : Bool := bitN (nthN r.record 0) 0
def rdRoot (r : Reduction) : Bool := bitN (nthN r.record 0) 1
def rdUp (r : Reduction) : Nat := fld (nthN r.record 0) 4 2
def rdDown (r : Reduction) : List Nat := (List.range 8).filter fun k => bitN (nthN r.record 0) (8 + k)
def rdM (r : Reduction) : Nat := fld (nthN r.record 0) 24 16
def rdIx (r : Reduction) : Nat := fld (nthN r.record 2) 8 0
def rdUnits (r : Reduction) : Nat := nthN r.record 1 / 64

/-- Find a reduction of the running step. -/
def findRed (s : State) (layer slot : Nat) : Option Reduction :=
  s.azl.reds.find? fun r => r.layer == layer && r.slot == slot

/-- The reduction that the image gives a layer's slot (07 R383, R385). -/
def imageRed (s : State) (layer slot : Nat) : Option Reduction :=
  match s.gener.image with
  | none => none
  | some im =>
    let l := imgLayer im layer
    ((nth im.shards (lShard l) {}).recs[slot]?).map fun r => { slot := slot, layer := layer, width := lWidth l, record := r }

/-- The reduction of a layer's slot, as far as it has come. -/
def redOf (s : State) (layer slot : Nat) : Option Reduction :=
  match findRed s layer slot with
  | some r => some r
  | none => imageRed s layer slot

/-- A reduction is in progress until its result is whole here (07 R387 to R389, R418). -/
def redOpen (r : Reduction) : Bool := decide (r.result.length < rdUnits r)

/-- Store a reduction; RED_STATUS.ACTIVE shows whether any is in progress (07 R418). -/
def putRed (s : State) (r : Reduction) : State :=
  let s1 := putAzl s { s.azl with reds := r :: s.azl.reds.filter fun x => !(x.layer == r.layer && x.slot == r.slot) }
  wrB s1 Reg.redStatus 0 (s1.azl.reds.any redOpen)

/-- The units of one source. -/
def srcUnits (r : Reduction) (k : Nat) : SMap (List Byte) :=
  match r.srcs.find? fun x => x.src == k with
  | some x => x.units
  | none => []

/-- Add a unit of a source, with what the engine's read of it will find (09 R455). -/
def addUnit (r : Reduction) (k u : Nat) (bs : List Byte) (e : Ecc) : Reduction :=
  { r with srcs := ⟨k, smSet (dflt []) (srcUnits r k) u bs⟩ :: r.srcs.filter fun x => x.src != k,
           eccs := (if e = .clean then [] else [(k, u, e)]) ++ r.eccs.filter fun x => !(x.1 == k && x.2.1 == u) }

/-- Sum two packed arrays element by element, modulo 2^W, elements of `b` bytes (07 R386, 01 R45). -/
def addPacked (b : Nat) : Nat → List Byte → List Byte → List Byte
  | 0, _, _ => []
  | _, [], _ => []
  | _, _, [] => []
  | n + 1, x :: xs, y :: ys =>
    let a := (x :: xs).take b
    let c := (y :: ys).take b
    leBytes a.length (wireReduce (leNat a) (leNat c) (8 * b)) ++ addPacked b n ((x :: xs).drop b) ((y :: ys).drop b)

/-- What the engine's read of a partial unit of a source finds (09 R455). -/
def partEcc (r : Reduction) (k u : Nat) : Ecc := ((r.eccs.find? fun x => x.1 == k && x.2.1 == u).map (·.2.2)).getD .clean

/-- A partial unit of a source as the engine reads it; empty when it has not come (09 R455, R458). -/
def partUnit (r : Reduction) (k u : Nat) : List Byte := flipBytes (eccMask (partEcc r k u)) (smGet (dflt []) (srcUnits r k) u)

/-- The units from a 192-byte boundary up to a unit, of one source, when all are there. -/
def runUp (r : Reduction) (k u : Nat) : Option (List Byte) :=
  let us := (List.range (u % 3 + 1)).map fun i => partUnit r k (u - u % 3 + i)
  if us.any List.isEmpty then none else some us.flatten

/-- The sum of a unit over sources, when all have delivered what it needs (07 R386, R387). -/
def unitSum (r : Reduction) (ks : List Nat) (u : Nat) : Option (List Byte) :=
  let runs := ks.filterMap fun k => runUp r k u
  if runs.length ≠ ks.length then none
  else match runs with
    | [] => none
    | x :: xs => some ((xs.foldl (fun a y => addPacked (r.width / 8) a.length a y) x).drop (u % 3 * 64))

/-- The sums of a run of units, when all are complete. -/
def rangeSum (r : Reduction) (ks : List Nat) (u0 n : Nat) : Option (List (List Byte)) :=
  let us := (List.range n).filterMap fun i => unitSum r ks (u0 + i)
  if us.length = n then some us else none

/-- A frame of a reduction: its first unit, its units and, in a ring, its segment. -/
structure RedFrame where
  u0 : Nat
  n : Nat
  seg : Nat
deriving DecidableEq, Repr

/-- The frames of a reduction: whole for a tree, segment by segment for a ring (07 R369, R388). -/
def redFrames (r : Reduction) : List RedFrame :=
  let cut := fun (base len seg : Nat) => (List.range (ceilDiv len frameUnits)).map fun i =>
    (⟨base + i * frameUnits, min frameUnits (len - i * frameUnits), seg⟩ : RedFrame)
  if rdRing r then
    let len := rdUnits r / max 1 (rdM r)
    (List.range (rdM r)).flatMap fun k => cut (k * len) len k
  else cut 0 (rdUnits r) 0

/-- Bytes as 32-bit little-endian words. -/
def toWords (bs : List Byte) : List Nat := (List.range (ceilDiv bs.length 4)).map fun i => leNat ((bs.drop (4 * i)).take 4)

/-- The bytes of 32-bit words. -/
def ofWords (ws : List Nat) : List Byte := ws.flatMap (leBytes 4)

/-- Send a PARTIAL frame on a port, which stamps its DUE when it starts (07 R369, R394). -/
def sendPartial (s : State) (r : Reduction) (k : Nat) (down : Bool) (f : RedFrame) (us : List (List Byte)) : State :=
  sendSeq s k (mkFrame s 0x10 (r.layer + r.slot * 2 ^ 16 + b2n down * 2 ^ 24) (f.u0 * 64) 0 (lo32 s.sched.exec.sRec.step)
    (toWords us.flatten))

/-- Enter a run of units into the result buffer. -/
def enterResult (r : Reduction) (u0 : Nat) (us : List (List Byte)) : Reduction :=
  { r with result := (us.zipIdx).foldl (fun m x => smSet (dflt []) m (u0 + x.2) x.1) r.result }

/-- What the engine does with a frame whose sums are complete (07 R387, R388): the sum goes up or on; at the root, or at
the segment's last member, it is the result, which enters the buffer and goes down or round. -/
def forwardSum (s : State) (r : Reduction) (i : Nat) (f : RedFrame) (us : List (List Byte)) : State :=
  let r1 := { r with sentUp := i :: r.sentUp }
  let last := if rdRing r then rdIx r == f.seg else rdRoot r
  if last then
    let r2 := enterResult r1 f.u0 us
    let outs := if rdRing r then [rdUp r] else rdDown r
    each outs (fun k s => sendPartial s r k true f us) (putRed s r2)
  else sendPartial (putRed s r1) r (rdUp r) false f us

/-- The sources that a frame's sum takes at this member (07 R387, R388). -/
def frameSrcs (r : Reduction) (f : RedFrame) : List Nat :=
  if rdRing r then (if rdIx r = (f.seg + 1) % max 1 (rdM r) then [8] else 8 :: rdDown r) else 8 :: rdDown r

/-- The outcome of a read of the spill buffer or of a reduction buffer, by the page of its block (09 R456, R458, R463). -/
def bufferEcc (s : State) (page : Nat) (e : Ecc) : State :=
  match e with
  | .clean => s
  | .corrected => cntErr s page 1
  | .uncorrectable _ => modLed s fun l => ledUe l 7 0 0 0 0

/-- The engine has read the partial units of a frame (09 R455 to R458). -/
def notePartials (r : Reduction) (f : RedFrame) (s : State) : State :=
  each ((frameSrcs r f).flatMap fun k => (List.range f.n).map fun i => partEcc r k (f.u0 + i)) (fun e s => bufferEcc s Reg.pageAzr e) s

/-- Send on every frame that has become complete (07 R387, R388). -/
def advanceRed (s : State) (layer slot : Nat) : State :=
  match redOf s layer slot with
  | none => s
  | some r =>
    each ((redFrames r).zipIdx) (fun x s =>
      match redOf s layer slot with
      | none => s
      | some r =>
        if r.sentUp.contains x.2 then s
        else match rangeSum r (frameSrcs r x.1) x.1.u0 x.1.n with
          | some us => forwardSum (notePartials r x.1 s) r x.2 x.1 us
          | none => s) s

/-- A unit from the mesh enters the engine (07 R384, R418, 09 R455). -/
def engineIn (s : State) (layer slot u : Nat) (bs : List Byte) (e : Ecc) : State :=
  match redOf s layer slot with
  | none => s
  | some r =>
    advanceRed (cntReg (putRed s (addUnit r 8 u bs e)) Reg.redUnitsIn 1) layer slot

/-- A result frame is passed on, and stops at the member before its origin (07 R387, R388). -/
def passDown (s : State) (r : Reduction) (f : RedFrame) (us : List (List Byte)) : State :=
  if rdRing r then
    if (rdIx r + 1) % max 1 (rdM r) = f.seg then s else sendPartial s r (rdUp r) true f us
  else each (rdDown r) (fun k s => sendPartial s r k true f us) s

/-- A PARTIAL frame arrives; `errs` is what the engine's reads of its units will find, by their place in the frame (07 R386 to R388, 09
R455). -/
def partialIn (s : State) (k : Nat) (fr : Frame) (errs : List (Nat × Ecc)) : State :=
  let layer := fld fr.w4 15 0
  let slot := fld fr.w4 23 16
  let u0 := fr.w5 / 64
  let bs := ofWords fr.payload
  let us := (List.range (bs.length / 64)).map fun i => (bs.drop (64 * i)).take 64
  match redOf s layer slot with
  | none => s
  | some r =>
    if bitN fr.w4 24 then
      let r1 := enterResult r u0 us
      let s1 := putRed s r1
      match (redFrames r).find? fun f => f.u0 == u0 with
      | some f => passDown s1 r1 f us
      | none => s1
    else
      advanceRed (putRed s ((us.zipIdx).foldl (fun r x => addUnit r k (u0 + x.2) x.1 (eccAt errs x.2)) r)) layer slot

/-- The engine's result of a unit, when it is complete (07 R389). -/
def resultUnit (s : State) (layer slot u : Nat) : Option (List Byte) :=
  match findRed s layer slot with
  | some r => let b := smGet (dflt []) r.result u; if b.isEmpty then none else some b
  | none => none

/-- A late unit is counted (07 R389, R418). -/
def redLateUnit (s : State) (layer slot cyc : Nat) : State :=
  let first := rdN s Reg.redLate == 0
  let s1 := modLed (cntReg s Reg.redLate 1) fun l => { l with linkLate := led16 l.linkLate 1 }
  let s2 := setEvt s1 Reg.pageAzr 1
  if first then wrN (wrF (wrF s2 Reg.redStatus 15 8 slot) Reg.redStatus 31 16 layer) Reg.redLateCyc cyc else s2

end Sys2Proof.Machine
end

