-- ==== Sys2Proof/Machine/Moves.lean ====
section
/-!
DEFINITION. What the stream plans move in one schedule cycle: units into and out of scratchpads, planned HBM
accesses, deliveries, collisions and spill units (04 R234 to R243, 07 R384, R389, 08 R432 to R435).
-/
namespace Sys2Proof.Machine

/-- Earlier in a pseudo-channel's order: planned cycle, logical cluster, instance (04 R243). -/
def accBefore (a b : HbmAcc) : Bool :=
  decide (a.planned < b.planned) || (a.planned == b.planned && (decide (a.cl < b.cl) || (a.cl == b.cl && decide (a.k < b.k))))

/-- Queue an access in the order of its pseudo-channel. -/
def insAcc (x : HbmAcc) : List HbmAcc → List HbmAcc
  | [] => [x]
  | y :: ys => if accBefore x y then x :: y :: ys else y :: insAcc x ys

/-- A pseudo-channel's record. -/
def chanOf (s : State) (k : Nat) : HbmChan := smGet (dflt {}) s.sched.chans k

/-- Replace a pseudo-channel's record. -/
def setChan (s : State) (k : Nat) (c : HbmChan) : State :=
  putSched s { s.sched with chans := smSet (dflt {}) s.sched.chans k c }

/-- Plan an access on the pseudo-channel of its address (04 R240, R243). -/
def planAcc (s : State) (x : HbmAcc) : State :=
  let k := chanKey (hbmStack x.addr) (hbmPc x.addr)
  setChan s k { chanOf s k with q := insAcc x (chanOf s k).q }

/-- What the read of a unit of an instance finds (09 R455). -/
def unitEcc (i : PlanInst) (u : Nat) : Ecc := eccAt i.eccs u

/-- A unit's 64 bytes of a logical cluster's scratchpad, as its stream port reads them, with the outcome of the read (09 R455 to R458). -/
def portRead (s : State) (l a : Nat) (e : Ecc) : State × List Byte :=
  match physOf s l with
  | some p => (applyEff s p (eccEff e 2 a), flipBytes (eccMask e) (memRange (clOf s p).spad a 64))
  | none => (s, List.replicate 64 0)

/-- Watchpoints over a stream-port access of a logical cluster (16 R736). -/
def portWatch (s : State) (l sort a : Nat) : State := watch s l 0 0 1 [(sort, a, 64)]

/-- A unit reaches a scratchpad or the engine (04 R234, 07 R384). -/
def landUnit (s : State) (t : Transit) : State :=
  let s1 := cntReg s Reg.nocUnits 1
  match t.red with
  | some (layer, slot) => engineIn s1 layer slot t.sadr t.data t.ecc
  | none =>
    match physOf s1 t.cl with
    | some p => portWatch (modCl s1 p fun c => { c with spad := memStore c.spad t.sadr t.data }) t.cl 0 t.sadr
    | none => s1

/-- Put a unit on its way. -/
def sendUnit (s : State) (t : Transit) : State := modExec s fun e => { e with transit := e.transit ++ [t] }

/-- Store the plan instance of an execution by its number. -/
def putInst (s : State) (n : Nat) (i : PlanInst) : State := modExec s fun e => { e with insts := listPut e.insts n i }

/-- The layer of a running kernel (07 R383). -/
def layerOf (s : State) (kernel : Nat) : Nat := (nth s.sched.exec.runs kernel ⟨0, 0, 0, [], [], 0⟩).lidx

/-- The data of a read that returned, waiting for its delivery (04 R243). -/
def readData (s : State) (a : HbmAcc) : Option (List Byte) :=
  ((chanOf s (chanKey (hbmStack a.addr) (hbmPc a.addr))).q.find? fun x =>
    x.back && x.planned == a.planned && x.cl == a.cl && x.k == a.k && x.kernel == a.kernel && x.unit == a.unit && x.wdata.isNone).bind (·.data)

/-- Forget an access that is over. -/
def dropAcc (s : State) (a : HbmAcc) : State :=
  let k := chanKey (hbmStack a.addr) (hbmPc a.addr)
  let c := chanOf s k
  setChan s k { c with q := c.q.filter fun x =>
    !(x.planned == a.planned && x.cl == a.cl && x.k == a.k && x.kernel == a.kernel && x.unit == a.unit) }

/-- The access of unit u of an HBM instance. -/
def accOf (i : PlanInst) (addr u : Nat) (planned : Nat) (wdata : Option (List Byte)) : HbmAcc :=
  { planned := planned, cl := i.cl, net := i.net, k := i.k, kernel := i.kernel, unit := u, addr := addr + 64 * u, wdata := wdata }

/-- A unit of the spill stream leaves the buffer; one that is not there is delivered as zeros and counted late (08 R432, R435). -/
def spillUnit (s : State) (off : Nat) (e : Ecc) : State × List Byte :=
  let bs := smGet (dflt []) s.sched.exec.spillBuf (off / 64)
  let go := fun (x : Exec) => { x with spillLow := max x.spillLow (off + 64), spillBuf := smSet (dflt []) x.spillBuf (off / 64) [] }
  if bs.isEmpty then
    (modExec s fun x =>
      { go x with spillLate := x.spillLate + 1, spillFirst := if x.spillLate = 0 then off else x.spillFirst,
                  led := { x.led with linkLate := led16 x.led.linkLate 1 } },
     List.replicate 64 0)
  else (bufferEcc (modExec s go) Reg.pageHif e, flipBytes (eccMask e) bs)

/-- The next unit of the spill stream is read from host memory into the buffer, which holds no unit 16 MiB or more beyond the lowest
offset not yet delivered; a unit already delivered as zeros is not kept (08 R432, R435). -/
def spillRead1 (s : State) : State :=
  let e := s.sched.exec
  if e.spillNext < s.gener.hdr.q ∧ e.spillNext < e.spillLow + 0x1000000 then
    let bs := memRange s.host (s.gener.hdr.host + s.gener.hdr.spillOff + e.spillNext) 64
    modExec s fun x =>
      { x with spillNext := x.spillNext + 64,
               spillBuf := if x.spillNext < x.spillLow then x.spillBuf else smSet (dflt []) x.spillBuf (x.spillNext / 64) bs }
  else s

/-- One count of the spill stream: the host gives a free number of units in it (08 R432; the host's pace is open, log 19). -/
def spillStream (s : State) : State :=
  if s.sched.exec.spillOn then each (List.range (Config.spillPace s.count)) (fun _ t => spillRead1 t) s else s

/-- Unit u of an instance has taken its source action. -/
def countRead (s : State) (n : Nat) : State := modExec s fun e => { e with insts := listMod (fun i => { i with nRead := i.nRead + 1 }) e.insts n }

/-- The source action of unit u of instance n, in its cycle (04 R234, 07 R384, 08 R435). -/
def startUnitMove (s0 : State) (n : Nat) (i : PlanInst) (u : Nat) : State :=
  let s := countRead s0 n
  let at_ := i.start + u
  let into := at_ + 2 * i.hops + 262
  let rd := fun (t : State) => portRead (portWatch t i.cl 1 (i.sadr + 64 * u)) i.cl (i.sadr + 64 * u) (unitEcc i u)
  match i.route with
  | .nothing => s
  | .recv _ => s
  | .redIn _ _ => s
  | .hbmIn a => planAcc s (accOf i a u at_ none)
  | .hbmOut a =>
    let r := rd s
    planAcc r.1 (accOf i a u (at_ + 2 * i.hops + 8) (some r.2))
  | .send peer sadr =>
    let r := rd s
    sendUnit r.1 ⟨at_ + 2 * i.hops + 12, peer, sadr + 64 * u, r.2, none, .clean⟩
  | .redOut slot unit0 =>
    let r := rd s
    sendUnit r.1 ⟨at_ + 2 * i.hops + 8, i.cl, unit0 + u, r.2, some (layerOf s i.kernel, slot), unitEcc i (2 ^ 14 + u)⟩
  | .spillIn off =>
    let r := spillUnit s (off + 64 * u) (unitEcc i u)
    sendUnit r.1 ⟨into, i.cl, i.sadr + 64 * u, r.2, none, .clean⟩

/-- The unit of an instance whose source action falls in a cycle. -/
def unitAt (i : PlanInst) (first cyc : Nat) : Option Nat :=
  if i.started ∧ first ≤ cyc ∧ cyc < first + i.units then some (cyc - first) else none

/-- The delivery of a unit from HBM or from the engine, in its cycle: p + 256, or the deadline c + i + 248 (04 R243,
07 R384). -/
def deliverUnit (s : State) (n : Nat) (i : PlanInst) (cyc : Nat) : State :=
  let go := fun (s : State) (u : Nat) (bs : List Byte) =>
    sendUnit (putInst s n { i with nWrite := i.nWrite + 1 }) ⟨i.start + u + 2 * i.hops + 262, i.cl, i.sadr + 64 * u, bs, none, .clean⟩
  match i.route with
  | .hbmIn a =>
    match unitAt i (i.start + 256) cyc with
    | some u =>
      let x := accOf i a u (i.start + u) none
      match readData s x with
      | some bs => if i.nWrite = u then dropAcc (go s u bs) x else s
      | none => s
    | none => s
  | .redIn slot unit0 =>
    match unitAt i (i.start + 248) cyc with
    | some u =>
      match resultUnit s (layerOf s i.kernel) slot (unit0 + u) with
      | some bs =>
        if i.nWrite = u then
          cntReg (bufferEcc (go s u (flipBytes (eccMask (unitEcc i u)) bs)) Reg.pageAzr (unitEcc i u)) Reg.redUnitsOut 1
        else s
      | none => s
    | none => s
  | _ => s

/-- The unit whose source action is due at the end of a cycle. An HBM read is planned a cycle ahead, so that its access can start at its
planned count (04 R234, R243); unit 0 is planned by the start itself. Every other source acts at the end of its cycle. -/
def sourceUnit (i : PlanInst) (cyc : Nat) : Option Nat :=
  match i.route with
  | .hbmIn _ => unitAt i i.start (cyc + 1)
  | _ => unitAt i i.start cyc

/-- One instance's part in a cycle; each unit takes its source action once, whatever cycle a resumed execution goes on from (08 R453). -/
def moveInst (cyc n : Nat) (s : State) : State :=
  match s.sched.exec.insts[n]? with
  | none => s
  | some i =>
    let s1 := match sourceUnit i cyc with
      | some u => if i.nRead = u then startUnitMove s n i u else s
      | none => s
    deliverUnit s1 n (nth s1.sched.exec.insts n i) cyc

/-- Record the first collision and stop (04 R239, R257). -/
def collide (s : State) (c : Nat × Nat × Nat) : State :=
  let s1 := if rdB s Reg.nocColl 12 then s
    else wrN (wrN s Reg.nocColl (c.1 % 256 + c.2.1 % 8 * 2 ^ 8 + c.2.2 % 2 * 2 ^ 11 + 2 ^ 12)) Reg.nocCollCyc s.sched.exec.cyc
  stopExec (setEvt s1 Reg.pageNoc 1) 2 0

/-- The stream traffic of the present schedule cycle (04 R234). -/
def moveCycle (s : State) : State :=
  let e := s.sched.exec
  match collisionAt (ncl s) (e.insts.filter (·.started)) e.cyc with
  | some c => collide s c
  | none =>
    let due := e.transit.filter fun t => decide (t.due ≤ e.cyc)
    let s1 := modExec s fun e => { e with transit := e.transit.filter fun t => !decide (t.due ≤ e.cyc) }
    let s2 := each due (fun t s => landUnit s t) s1
    each (List.range e.insts.length) (moveInst e.cyc) s2

end Sys2Proof.Machine
end

