-- ==== Sys2Proof/Machine/OpPoint.lean ====
section
/-!
DEFINITION. The operating point and its transition window (01 R69 to R72, 15 R683 to R687), the drift statistic
(05 R289), and what the end of every execution does.
-/
namespace Sys2Proof.Machine

/-- The sampler is forcing the nominal point (05 R290). -/
def forcing (s : State) : Bool := rdB s Reg.lspStatus 1 || rdB s Reg.lspCtl 2

/-- Every kernel that a step launches is lean-eligible (01 R70). -/
def stepLean (im : Image) (r : StepRec) : Bool := (stepKernels im r.exitKind).all kLeanOk

/-- Every kernel of the resident image's step schedule is lean-eligible; so without an image (15 R684). -/
def imageLean (s : State) : Bool :=
  match s.gener.image with
  | some im => im.kernels.all kLeanOk
  | none => true

/-- The delay that VMTX caused is over: it is counted and reported (15 R686, R716). -/
def lateOver (s : State) : State :=
  match s.power.lateFrom with
  | some t =>
    let d := s.count - t
    let s1 := cntReg (putPower s { s.power with lateFrom := none }) Reg.clkVmtxLate d
    raiseEv s1 Reg.pageClk 4 .block 0x02 0 0x0003 0 [s.power.vmtxEnd % 2 ^ 16, d, 0, 0]
  | none => s

/-- VMTX may lie below its nominal value: the lean point is selected, or a move from it has not ended in a good sample (15 R686). -/
def vmtxLow (s : State) : Bool := s.power.lean || s.power.toNominal || s.power.lateFrom.isSome

/-- Select a point and begin a transition window, at whose end a move to nominal looks at VMTX; a choice of the lean point ends a delay (15
R684, R686; the last DESIGN CHOICE, log 67). -/
def selectPoint (s : State) (lean : Bool) : State :=
  let low := vmtxLow s
  let s0 := if lean then lateOver s else s
  let s1 := wrB (wrB s0 Reg.clkStatus 3 lean) Reg.clkStatus 4 true
  putPower s1 { s1.power with toNominal := low && !lean, lean := lean, window := some (s1.count + rdN s Reg.clkLeanWin) }

/-- An auxiliary kernel that waits for its launch meets R70 (15 R685). -/
def waitLean (s : State) : Bool :=
  match s.sched.rkWait with
  | some rk => kLeanOk rk.desc
  | none => true

/-- Fix the point of the next execution, at the end of one or when LEAN_EN becomes effective (15 R684). A kernel that was submitted during
the execution and does not meet R70 has the nominal point selected here, its own count being inside the execution (R69, R685; DEDUCED,
log 67). -/
def fixPoint (s : State) : State :=
  let en := rdB s Reg.lspCtl 0
  let s1 := putPower s { s.power with leanEn := en }
  if en then selectPoint s1 (!forcing s && imageLean s && waitLean s)
  else if s.power.lean then selectPoint s1 false
  else s1

/-- The selected point is one that an execution may run at (01 R70). -/
def pointFits (s : State) (eligible : Bool) : Bool := !s.power.lean || (s.power.leanEn && !forcing s && eligible)

/-- A submitted execution that does not meet R70 at the fixed point moves it to nominal, unless an execution runs: the point changes at
boundaries only (01 R69, 05 R290, 15 R685). -/
def submitPoint (s : State) (eligible : Bool) : State :=
  if !s.sched.exec.running && !pointFits s eligible then selectPoint s false else s

/-- No execution launches within a transition window or while VMTX is late (15 R684, R686). -/
def pointReady (s : State) : Bool := s.power.window.isNone && s.power.lateFrom.isNone

/-- The checks of one sampled matrix instruction (05 R283, R287, R288). -/
def checkSample (s : State) (p : Nat) (x : Sample) : State :=
  let c := clOf s p
  let bad := x.deltas.countP fun d => decide (224 < d)
  let sum := sumN x.deltas
  let s1 := cntReg (modExec s fun e => { e with sumAll := e.sumAll + sum, nAll := e.nAll + 1 }) Reg.lspExecSum sum
  if bad = 0 then s1
  else
    let s2 := modLed (cntReg s1 Reg.lspConfine bad) fun l => { l with leanDrift := led16 l.leanDrift bad }
    let s3 := if rdB s2 (Reg.pageLsp + 0x14) 1 then s2
      else wrN s2 Reg.lspFail (c.logical.getD 0 % 256 + c.kernel % 2 ^ 16 * 2 ^ 16)
    setEvt (wrB (noteHw (cntErr s3 Reg.pageLsp bad) Reg.lspStatus 2) Reg.lspStatus 1 true) Reg.pageLsp 6

/-- The sample checks still pending, cluster by cluster (05 R285, R289). -/
def drainSamples (s : State) : State :=
  each (List.range 144) (fun p t =>
    each (clOf t p).samples (fun x u => checkSample u p x) (modCl t p fun c => { c with samples := [] })) s

/-- DRIFT as it stood before a software write of the present count, which the update overrules (05 R291). -/
def driftBefore (s : State) : Nat :=
  match s.power.driftWas with
  | some (n, d) => if n = s.count then d else rdN s Reg.lspDrift
  | none => rdN s Reg.lspDrift

/-- The drift update at the end of an execution with samples, after its last check (05 R289, R291). -/
def driftUpdate (s : State) : State :=
  let e := s.sched.exec
  if e.nAll = 0 then s
  else
    let m := e.sumAll * 256 / (2560 * e.nAll)
    let k := rdF s Reg.lspCtl 19 16
    let d := driftBefore s
    let d1 := (d - d / 2 ^ k + m / 2 ^ k) % 2 ^ 32
    let s1 := wrF (wrN (noteHw s Reg.lspDrift (BitVec.allOnes 32)) Reg.lspDrift d1) Reg.lspSeq 15 0 (rdF s Reg.lspSeq 15 0 + 1)
    if rdN s Reg.lspBound < d1 then
      let s2 := setEvt s1 Reg.pageLsp 1
      if rdB s Reg.lspCtl 1 then setEvt (wrB (noteHw s2 Reg.lspStatus 2) Reg.lspStatus 1 true) Reg.pageLsp 4 else s2
    else s1

/-- The digests of the logical clusters in ascending order (05 R298). -/
def clusterDigests (s : State) : List Nat :=
  (List.range (ncl s)).map fun l => match physOf s l with
    | some p => (clOf s p).digest
    | none => digInit

/-- The kernel digest (05 R298). -/
def kernelDigest (s : State) : Nat := digFoldAll digInit ((clusterDigests s).flatMap fun d => [lo32 d, hi32 d])

/-- The fields that a launch clears or sets, which belong to the execution and come back with one that resumes (05 R288, R309, 08 R453). -/
def launchFields : List (Nat × Word) :=
  [(Reg.nocUnits, BitVec.allOnes 32), (Reg.nocColl, w32 (2 ^ 12)), (Reg.redStatus, BitVec.allOnes 32), (Reg.redLate, BitVec.allOnes 32),
   (Reg.redUnitsIn, BitVec.allOnes 32), (Reg.redUnitsOut, BitVec.allOnes 32), (Reg.lspExecSum, BitVec.allOnes 32),
   (Reg.lspSamples, BitVec.allOnes 32), (Reg.lspConfine, BitVec.allOnes 32), (Reg.lspStatus, 5)]
    ++ (List.range 6).flatMap fun h => [(onPage Reg.hbcLate h, w32 (2 ^ 5)), (onPage Reg.hbcUnits h, BitVec.allOnes 32)]

/-- Registers and cluster statistics cleared at a launch (04 R257, R258, 05 R309, 07 R418, 09 R459, 16 R739, R745). -/
def launchClear (s : State) (lean : Bool) : State :=
  let s1 := wrB (wrN s Reg.nocUnits 0) Reg.nocColl 12 false
  let s2 := each (List.range 6) (fun h s => wrN (wrB s (onPage Reg.hbcLate h) 5 false) (onPage Reg.hbcUnits h) 0) s1
  let s3 := wrN (wrN (wrN (wrN s2 Reg.redStatus 0) Reg.redLate 0) Reg.redUnitsIn 0) Reg.redUnitsOut 0
  let s4 := wrN (wrN (wrN s3 Reg.lspExecSum 0) Reg.lspSamples 0) Reg.lspConfine 0
  let s5 := wrB (wrB s4 Reg.lspStatus 0 lean) Reg.lspStatus 2 (!lean)
  let s6 := wrB (wrB s5 Reg.dbgHaltStatus 4 false) Reg.dbgDivStatus 1 false
  let s7 := each s6.sched.chans (fun x s => setChan s x.1 { x.2 with q := [] }) s6
  putAzl (allCl s7 fun c => { c with leanIdx := 0, samples := [] }) { s7.azl with reds := [] }

/-- The end common to every execution: the last sample checks, clusters idle, EXEC_END, the drift statistic, the next point; stepping by
executions halts after the ledger is closed (04 R255, 05 R289, 15 R684, 16 R734). -/
def endExec (s : State) : State :=
  let s0 := drainSamples s
  let s1 := idleClusters (modExec s0 fun e => { e with running := false, ended := true, draining := false, spillOn := false })
  fixPoint (driftUpdate (setEvt s1 Reg.pageSch 1))

/-- Stepping by executions halts the die at the end of one (16 R734). -/
def stepExecEnd (s : State) : State :=
  if s.dbgp.stepMode = some 3 then
    fireHalt (putDbgp s { s.dbgp with noLaunch := true }) { h := s.count, cause := 5 }
  else s

/-- Plan traffic of an execution is still under way: units on their way, planned writes, started instances with units to move. An
execution that stopped on anything but a cluster fault moves nothing further (04 R231, R234, R239, R243, 02 R762). -/
def residual (s : State) : Bool :=
  let e := s.sched.exec
  !(e.stopped && e.led.stopCause != 4) && (!e.transit.isEmpty || s.sched.chans.any (fun x => x.2.q.any fun a => a.wdata.isSome)
    || e.insts.any fun i => i.started && i.route != .nothing && (match i.route with
        | .recv _ => false
        | .redIn _ _ => decide (i.nWrite < i.units)
        | .hbmIn _ => decide (i.nWrite < i.units)
        | _ => decide (i.nRead < i.units)))

/-- No execution launches: the die is halted or a stepped execution has ended, BAR2 is open, the point is not ready, a debug step forbids
it, or plan traffic of the last execution is under way (13 R591, 15 R684, R686, 16 R730, R734; the last DESIGN CHOICE, log 24). -/
def mayLaunch (s : State) : Bool :=
  !s.sched.exec.running && !residual s && !s.sched.halted && !s.dbgp.noLaunch && !rdB s Reg.hifStatus 11 && pointReady s

end Sys2Proof.Machine
end

