-- ==== Sys2Proof/Machine/Sluice.lean ====
section
/-!
DEFINITION. The step boundary: leaves, spares, joins and the admission test, eligibility, the deadline decision, swap
parks, the tiler's tables and the launch agreement (06 R327 to R348, 08 R441 to R449, 04 R245 to R253, 07 R392, R411).
-/
namespace Sys2Proof.Machine

/-- The tiles of a session at its limit (06 R336). -/
def limitTiles (tp lim : Nat) : Nat := ceilDiv (ceilDiv lim 64) (max 1 tp)

/-- bound(A): the largest S and F that contexts with these limits can reach (06 R336). -/
def boundSF (s : State) (tp : Nat) (lims : List Nat) : Nat × Nat :=
  let n := lims.length
  let ts := lims.map (limitTiles tp)
  let t := min (sumN ts) (rdN s Reg.kvpPages / max 1 tp + n)
  (ceilDiv t (max 1 (ncl s)), min (ceilDiv n (max 1 (ncl s)) * maxN ts) t)

/-- The largest exit period of contexts with these limits (06 R336). -/
def pxOf (s : State) (tp : Nat) (lims : List Nat) : Nat :=
  let b := boundSF s tp lims
  rdN s Reg.dlmExitD0 + b.1 * rdN s Reg.dlmExitSa + b.2 * rdN s Reg.dlmExitFc + s.gener.gap

/-- DLM.PX_MAX over the contexts in PREFILL or DECODE; 0 when there are none (06 R336). -/
def showPx (s : State) : State :=
  let a := admitted s none
  let tp := match s.gener.image with | some im => tilePages im | none => 1
  wrN s Reg.dlmPxMax (if a.isEmpty then 0 else pxOf s tp (a.map fun x => x.2.limit) % 2 ^ 32)

/-- The admission test: none admits, otherwise the cause of the first failed check; a session that leaves PARKED
starts with no accrual (06 R336, R341). -/
def admitTest (s : State) (c : Nat) (unpark : Bool) : Option Nat :=
  let x := ctxOf s c
  let a := admitted s (some c)
  let tp := match s.gener.image with | some im => tilePages im | none => 1
  let lims := x.limit :: a.map fun y => y.2.limit
  let b := boundSF s tp lims
  let px := pxOf s tp lims
  if rdB s Reg.sluAdmitCtl 0 then some 5
  else if rdN s Reg.kvpFree < testNeed s c x unpark + rdN s Reg.kvpFloor then some 0
  else if rdF s Reg.sluImage 15 0 < a.length + 2 then some 1
  else if rdF s Reg.tilLimits 15 0 < b.1 ∨ rdF s Reg.tilLimits 31 16 < b.2 then some 2
  else if (a.any fun y => decide (y.2.deadline < y.2.accrued + px)) || decide (x.deadline < (if unpark then 0 else x.accrued) + px) then some 3
  else none

/-- The deadline check alone, for a session by itself (06 R319, code 0x0B). -/
def deadlineFails (s : State) (lim dl : Nat) : Bool :=
  let tp := match s.gener.image with | some im => tilePages im | none => 1
  decide (dl < pxOf s tp [lim])

/-- The descriptor's ring may go on (13 R603, R613). -/
def ringGoesOn (s : State) (c : CmdRef) : State :=
  let g := ringOf s c.ring
  if c.remote then s else setRing s c.ring { g with busy := g.busy.filter (· != (c.era, c.idx)) }

/-- Queue a host transfer (08 R431). -/
def addXfer (s : State) (k : XferKind) : State :=
  putGener s { s.gener with xfers := s.gener.xfers ++ [⟨k, false, 0⟩] }

/-- Leaves of one context. The save of a PARK whose session is still being read back follows the read (06 R327 action 1, R317, R766, 08
R431, R441). -/
def leaveCtx (s : State) (c : Nat) : State :=
  let x := ctxOf s c
  if x.st = .closing then cntReg (idleCtx s c) Reg.sluLeaves 1
  else match x.parkPending with
    | some p =>
      let s1 := modCtx (cancelJoin (endGen s c 0) c) c fun x =>
        { x with st := .parked, park := some p, parkPending := none, blocked := false, short := false, told := !inGroup s }
      cntReg (addXfer s1 (.park c)) Reg.sluLeaves 1
    | none =>
      match x.park with
      | some p => if p.saved && x.st == .parked then freeCtxPages (modCtx s c fun x => { x with park := none }) c else s
      | none => s

/-- Earlier in the order of R331. -/
def shortBefore (a b : Nat × Context) : Bool :=
  decide (a.2.shortAt < b.2.shortAt) || (a.2.shortAt == b.2.shortAt && decide (a.1 ≤ b.1))

/-- Short contexts in the order of R331. -/
def shortCtxs (s : State) : List (Nat × Context) :=
  sortBy shortBefore ((liveCtxs s).filter fun x => x.2.st == .decode && x.2.short)

/-- One context's spare (06 R331, R354). -/
def giveSpare (s : State) (c : Nat) : State :=
  let x := ctxOf s c
  if rdN s Reg.kvpFree = 0 then
    if x.blocked then s
    else
      let s1 := cntReg (modCtx s c fun x => { x with blocked := true }) Reg.sluBlocks 1
      sessEv s1 Reg.pageSlu 4 0x20 0x0003 x [c, rdN s1 Reg.kvpFree, 0, 0]
  else
    let s1 := modCtx (takePages s c 1) c fun x => { x with short := false, blocked := false }
    if x.blocked then sessEv s1 Reg.pageSlu 0 0x20 0x0004 x [c, rdN s1 Reg.kvpFree, 0, 0] else s1

/-- The place of a join of this package: swap-parked sessions in parking order, a priority hold, the rings from RING_PTR (06 R327, R333,
R335, 08 R447). -/
def joinKey (s : State) (c : Nat) (j : Join) : Nat × Nat :=
  if j.swap then (0, j.seq)
  else if s.gener.prio = some c then (1, 0)
  else (2 + (j.ref.ring + 128 - rdF s Reg.sluAdmitCtl 22 16) % 128, j.seq)

/-- Joins in the order of their keys. -/
def byKey (s : State) (js : List (Nat × Join)) : List (Nat × Join) :=
  sortBy (fun a b =>
    let p := joinKey s a.1 a.2
    let q := joinKey s b.1 b.2
    decide (p.1 < q.1) || (p.1 == q.1 && decide (p.2 ≤ q.2))) js

/-- A forwarded join goes before the first join of this package's rings that came after it. -/
def putJoin (r : Nat × Join) : List (Nat × Join) → List (Nat × Join)
  | [] => [r]
  | j :: js => if j.2.ref.remote = false ∧ j.2.swap = false ∧ r.2.seq < j.2.seq then r :: j :: js else j :: putJoin r js

/-- The pending joins in the order of consideration: the held ones, then this package's own in ring order with those that entry sites
forward, in the order of their arrival, put among them (06 R327, R333, R335, 08 R447, 07 R414; DEDUCED, log 32). -/
def joinOrder (s : State) : List (Nat × Join) :=
  let js := (liveCtxs s).filterMap fun x => x.2.join.map fun j => (x.1, j)
  let held := js.filter fun j => j.2.swap || s.gener.prio == some j.1
  let rest := js.filter fun j => !(j.2.swap || s.gener.prio == some j.1)
  let sites := sortBy (fun a b => decide (a.2.seq ≤ b.2.seq)) (rest.filter fun j => j.2.ref.remote)
  byKey s held ++ sites.foldl (fun a r => putJoin r a) (byKey s (rest.filter fun j => !j.2.ref.remote))

/-- Admit a join (06 R317, R333, R336, 08 R443, R447, 07 R414). -/
def admitJoin (s : State) (c : Nat) (j : Join) : State :=
  let x := ctxOf s c
  let need := joinNeed x j.unpark
  let s1 := takePages s c need
  let s2 := modCtx s1 c fun x =>
    if j.unpark then { x with st := .decode, join := none, reading := true, unparkRef := (if j.swap then none else some j.ref),
                              accrued := 0, short := false, told := !inGroup s }
    else { x with st := .prefill, join := none, admitAt := s.gener.boundary, short := false, blocked := false }
  let s3 := cntReg (ringGoesOn s2 j.ref) Reg.sluJoins 1
  let s4 := if j.unpark then addXfer s3 (.unpark c) else s3
  let s5 := if j.swap then sessEv s4 Reg.pageSlu 0 0x20 0x0008 x [c, need, 0, 0]
    else if j.ref.remote then cntReg s4 Reg.dbgVarAdmit 1
    else wrF s4 Reg.sluAdmitCtl 22 16 (j.ref.ring + 1)
  let s6 := putGener s5 { s5.gener with prio := if s5.gener.prio = some c then none else s5.gener.prio }
  showPx (showPrio s6)

/-- The detail words of JOIN_DEFERRED and PRIORITY_HOLD (06 R354). -/
def joinWords (s : State) (c : Nat) (x : Context) (j : Join) (n cause : Nat) : List Nat :=
  [x.sid + c * 2 ^ 16, testNeed s c x j.unpark, rdN s Reg.kvpFree, n + cause * 2 ^ 8]

/-- Defer a join at a counted boundary (06 R335, R354). -/
def deferJoin (s : State) (c : Nat) (j : Join) (cause : Nat) : State :=
  let x := ctxOf s c
  let n := if cause = 4 then j.deferrals else satAdd 8 j.deferrals 1
  let s1 := cntReg (modCtx s c fun x => { x with join := some { j with deferrals := n, deferred := true, cause := cause } }) Reg.sluDeferrals 1
  raiseEv s1 Reg.pageSlu 1 (.ring (joinRing x j)) 0x20 0 0x0001 (joinRing x j) (joinWords s c x j n cause)

/-- A repetition of R448 has not admitted a join: it is deferred, and nothing is counted or raised (06 R356, 08 R448). -/
def keepJoin (s : State) (c : Nat) : State :=
  modCtx s c fun x => { x with join := x.join.map fun j => { j with deferred := true } }

/-- Consider one join; a hold that is not admitted defers every other unconsidered (06 R335, R448). -/
def considerJoin (counted : Bool) (a : State × Bool) (y : Nat × Join) : State × Bool :=
  let s := a.1
  let c := y.1
  let j := y.2
  let held := j.swap || s.gener.prio == some c
  if a.2 then (if counted then deferJoin s c j 4 else keepJoin s c, true)
  else match admitTest s c j.unpark with
    | none => (admitJoin s c j, false)
    | some cause => (if counted then deferJoin s c j cause else keepJoin s c, held)

/-- A join that has been deferred DEFER_LIMIT times begins a priority hold at the next boundary (06 R335, R354). Of several that reach the limit
at one boundary R335 names none: the first in the order of consideration, from the new RING_PTR, is held (DESIGN CHOICE, log 71). -/
def beginHold (s : State) : State :=
  let lim := rdF s Reg.sluAdmitCtl 15 8
  if s.gener.prio.isSome || lim == 0 then s
  else match (joinOrder s).find? fun y => !y.2.swap && decide (lim ≤ y.2.deferrals) with
    | some (c, j) =>
      let x := ctxOf s c
      raiseEv (putGener s { s.gener with prio := some c }) Reg.pageSlu 2 (.ring (joinRing x j)) 0x20 0 0x0002 (joinRing x j)
        (joinWords s c x j j.deferrals j.cause)
    | none => s

/-- Joins, action 3 of the boundary. A hold that is due at the next boundary is in force in the repetitions of R448 before it too: R335 and R448
do not say whether a repetition is the next boundary here (DESIGN CHOICE, log 71). -/
def boundaryJoins (s : State) (counted : Bool) : State :=
  let s1 := if s.gener.prio.isSome || swapWaits s then wrB s Reg.sluAdmitCtl 23 true else s
  let r := (joinOrder s1).foldl (considerJoin counted) (s1, false)
  let s2 := if counted then beginHold r.1 else r.1
  showDefer s2

/-- A DECODE context that may take part in the step (06 R337, 08 R443). One whose join still waits takes no part, although it has a BUDGET: R337
does not name it (DESIGN CHOICE, log 71). -/
def decodeEligible (x : Context) : Bool :=
  x.st == .decode && x.budget != 0 && !x.short && !x.blocked && !x.reading && x.join.isNone

/-- Rows for PREFILL contexts, in order, from those left (06 R337). -/
def prefillRows (chunk : Nat) : Nat → List (Nat × Context) → List (Nat × Nat)
  | _, [] => []
  | left, x :: xs =>
    let n := min (min chunk x.2.waiting.length) left
    (x.1, n) :: prefillRows chunk (left - n) xs

/-- The eligible contexts and their rows in ascending context number (06 R337, R338). -/
def eligibleSet (s : State) : List BatchEntry :=
  let xs := liveCtxs s
  let dec := xs.filter fun x => decodeEligible x.2
  let pre := sortBy (fun a b => decide (a.2.admitAt < b.2.admitAt) || (a.2.admitAt == b.2.admitAt && decide (a.1 ≤ b.1)))
    (xs.filter fun x => x.2.st == .prefill)
  let rows := prefillRows (rdF s Reg.sluImage 31 16) (rdF s Reg.sluImage 15 0 - dec.length) pre
  xs.filterMap fun x =>
    if decodeEligible x.2 then some { ctx := x.1, rows := 1, decode := true, tok := ((x.2.hist.getLast?).map (·.1)).getD 0 }
    else match rows.find? fun r => r.1 == x.1 with
      | some r => if r.2 = 0 then none else some { ctx := x.1, rows := r.2, decode := false }
      | none => none

/-- Note eligibility in the contexts, for accrual (06 R341). -/
def noteEligible (s : State) (b : List BatchEntry) : State :=
  each (liveCtxs s) (fun x s =>
    let e := b.find? fun e => e.ctx == x.1
    modCtx s x.1 fun y => { y with eligible := e.isSome, rows := match e with | some e => e.rows | none => 0 }) s

/-- The decision of the deadline monitor: whether an exit step, and its batch with those under threat marked (06 R342). -/
def decideKind (s : State) (b : List BatchEntry) (pf : Nat) : Bool × List BatchEntry :=
  let late := fun (e : BatchEntry) (p : Nat) => e.decode && decide ((ctxOf s e.ctx).deadline < (ctxOf s e.ctx).accrued + p)
  if b.any fun e => late e pf then
    (true, (b.filter fun e => late e pf || late e (2 * rdN s Reg.dlmPxMax)).map fun e => { e with threat := late e pf })
  else (false, b)

/-- S and F of a batch (04 R247, R248). -/
def batchSF (s : State) (im : Image) (b : List BatchEntry) : Nat × Nat := tilerCounts (ncl s) (batchTiles s im b)

/-- FALLBACK and EXIT_STEP of an exit step (06 R347, R354). -/
def exitEvents (s : State) (b : List BatchEntry) (pf px : Nat) : State :=
  let s1 := each b (fun e s =>
    let x := ctxOf s e.ctx
    sessEv s Reg.pageDlm 1 0x21 0x0001 x [lo32 x.len, x.accrued, pf, e.ctx + b2n e.threat * 2 ^ 16]) s
  raiseEv s1 Reg.pageDlm 2 .block 0x21 0 0x0002 0
    [(b.countP fun e => e.threat) % 2 ^ 10 + b.length % 2 ^ 10 * 2 ^ 16, pf, px, rdN s Reg.dlmPxMax]

/-- Write every cluster's tile table (04 R253). -/
def writeTables (s : State) (im : Image) (b : List BatchEntry) : State :=
  let ts := batchTiles s im b
  each (List.range (ncl s)) (fun c s =>
    hbmWrite s (im.tableAt + c * (im.sMax + im.fMax) * 16) ((tileTable im (ncl s) c ts).flatMap (leBytes 4))) s

/-- Where the next token record of a session's GENERATE goes (06 R351, 08 R438). -/
def genAddr (x : Context) : Nat :=
  match x.gen with
  | some g => g.addr + 16 * g.written
  | none => 0

/-- A context as the step record carries it (07 R370). -/
def ctxImage (c : Nat) (x : Context) : CtxImage :=
  { ctx := c, st := ctxCode x.st, sid := x.sid, ring := x.ring, len := x.len, waiting := x.waiting, limit := x.limit, budget := x.budget,
    deadline := x.deadline, accrued := x.accrued, pages := x.pages, eligible := x.eligible,
    params := [x.temp, x.topK, x.topP], stops := x.stops, seed := x.seed, short := x.short, blocked := x.blocked, exitLast := x.exitLast,
    hist := x.hist, taint := x.taint,
    parkAt := (if x.park.any (fun p => !p.saved) then x.park.map (·.addr) else none), readAt := if x.reading then some x.blockAt else none,
    swap := x.park.any (·.swap), tokAddr := genAddr x }

/-- The session table as LAUNCH carries it to the members (06 R330, 07 R370). -/
def tableImages (s : State) : List CtxImage := if inGroup s then (liveCtxs s).map fun x => ctxImage x.1 x.2 else []

/-- LAUNCH with a step record, to every other member (07 R392). -/
def sendLaunch (s : State) (r : StepRec) : State :=
  if inGroup s then sendDown s { mkFrame s 0x13 0 0 0 0 [] with ctl := some r } else s

/-- The members know of the parks and reads in the session table that a record carries (08 R439). -/
def noteTold (s : State) : State := each (liveCtxs s) (fun x s => modCtx s x.1 fun y => { y with told := true }) s

/-- The step agreed: its record, its launch count, LAUNCH to the members, the operating point; an alternate route that is due is in use from
here on (06 R330, R343, 07 R392, R415, 15 R685). -/
def agreeStep (s0 : State) (im : Image) (exited : Bool) (b : List BatchEntry) (dur : Nat) : State :=
  let s := applyAlts s0
  if azlState s = 5 then s
  else
    let sf := batchSF s im b
    let l := launchAfter s (cDown s)
    let r : StepRec :=
      { step := lastCommit s + 1, exitKind := exited, batch := b, s := sf.1, f := sf.2, tiles := (batchTiles s im b).length,
        launch := l, planDur := dur, changes := tableImages s }
    let s1 := writeTables s im b
    let s2 := putSched s1 { s1.sched with nextStep := some r, nextLaunch := some l, launchReady := true, replay := false }
    noteTold (sendLaunch (submitPoint s2 ((stepKernels im exited).all kLeanOk)) r)

/-- A boundary that launches no step in a group whose blocks are being parked or read: the members learn of it by a record without a batch
(08 R439, 07 R370; DESIGN CHOICE, log 32). -/
def tellParks (s : State) : State :=
  let xs := tableImages s
  if azlState s == 2 && xs.any (fun i => i.parkAt.isSome || i.readAt.isSome) then
    noteTold (sendLaunch s { step := lastCommit s + 1, changes := xs })
  else s

/-- The planned duration of a batch (06 R339, R342). -/
def planOfBatch (s : State) (exited : Bool) (sf : Nat × Nat) : Nat :=
  if exited then rdN s Reg.dlmExitD0 + sf.1 * rdN s Reg.dlmExitSa + sf.2 * rdN s Reg.dlmExitFc
  else rdN s Reg.dlmFullD0 + sf.1 * rdN s Reg.dlmFullSa + sf.2 * rdN s Reg.dlmFullFc

/-- The decision, the tiler and the agreement, actions 5 to 7 of the boundary (06 R342, R347, R357). -/
def decideStep (s : State) (im : Image) (b : List BatchEntry) : State :=
  let pf := planOfBatch s false (batchSF s im b) + s.gener.gap
  let d := decideKind s b pf
  let dur := planOfBatch s d.1 (batchSF s im d.2)
  let px := if d.1 then dur + s.gener.gap else 0
  let t := if d.1 then d.2.countP fun e => e.threat else 0
  let s1 := wrN (wrN s Reg.dlmPlanFull (pf % 2 ^ 32)) Reg.dlmPlanExit (px % 2 ^ 32)
  let s2 := wrN s1 Reg.dlmLast (t % 2 ^ 10 + (if d.1 then d.2.length % 2 ^ 10 * 2 ^ 16 + 2 ^ 31 else 0))
  let s3 := if d.1 then exitEvents s2 d.2 pf px else s2
  agreeStep s3 im d.1 d.2 dur

/-- Swap-park a victim (08 R444, R445). -/
def swapPark (s : State) (c : Nat) : State :=
  let x := ctxOf s c
  let p : ParkReq := { ref := {}, addr := x.parkAddr, swap := true, saved := false }
  let s1 := modCtx s c fun x => { x with st := .parked, park := some p, blocked := false, short := false, swapSeq := s.gener.joinSeq, told := !inGroup s }
  let s2 := addXfer (putGener s1 { s1.gener with joinSeq := s1.gener.joinSeq + 1 }) (.park c)
  sessEv s2 Reg.pageSlu 0 0x20 0x0007 x [c, rdN s2 Reg.kvpFree, (liveCtxs s).countP fun y => y.2.blocked, 0]

/-- With nothing eligible and a context blocked, a victim is parked, or the deadlock is reported once (08 R444, R449). -/
def relieve (s : State) : State :=
  let bs := (shortCtxs s).filter fun x => x.2.blocked
  if bs.isEmpty then putGener s { s.gener with deadlock := false }
  else match bs.find? fun x => x.2.parkAddr != 0 with
    | some x => swapPark (putGener s { s.gener with deadlock := false }) x.1
    | none =>
      if s.gener.deadlock then s
      else raiseEv (putGener s { s.gener with deadlock := true }) Reg.pageSlu 0 .block 0x20 0 0x0009 0
        [bs.length, rdN s Reg.kvpFree, 0, 0]

/-- Values of GAP and DL_DEFAULT take effect while no context is in PREFILL or DECODE (06 R348). -/
def takeGap (s : State) : State :=
  if (admitted s none).isEmpty then
    putGener s { s.gener with gap := rdN s Reg.dlmGap, dlDef := rdN s Reg.dlmDlDefault }
  else s

/-- A step can launch from here: ENABLE, the mapping, the release buffer and the group's state allow it (06 R356, 07 R381, R405, R408, R411, 09
R475, 13 R629). -/
def mayDecide (s : State) : Bool :=
  rdB s Reg.sluCtl 0 && s.boot.mapped && s.hif.held.isEmpty && (if inGroup s then azlState s == 2 else azlState s != 6)

/-- The boundary actions of R327; while no step can launch they end with the fourth (06 R327, R356, 08 R444, R448). -/
def boundaryActions (s : State) (im : Image) (counted : Bool) : State :=
  let s0 := putGener s { s.gener with atBoundary := false, again := false, boundary := s.gener.boundary + b2n counted }
  let s1 := showPx (takeGap (each (liveCtxs s0) (fun x s => leaveCtx s x.1) s0))
  let s2 := each (shortCtxs s1) (fun x s => giveSpare s x.1) s1
  let s3 := boundaryJoins s2 counted
  let b := eligibleSet s3
  let s4 := noteEligible s3 b
  if b.isEmpty then tellParks (relieve s4)
  else
    let s5 := putGener s4 { s4.gener with deadlock := false }
    if mayDecide s5 then decideStep s5 im b else tellParks s5

/-- The boundary after the commit that SWITCH names: no step launches, the state is switching, and every port handshakes
again once the firmware has restarted (07 R411). -/
def switchNow (s : State) : State :=
  let s1 := each (List.range 8) (fun k s => setHs s k 0) (setAzl s 6)
  wrB (putBoot (putAzl s1 { s1.azl with restarting := true, reformed := false }) { s1.boot with fwRunning := false }) Reg.mgtStatus 0 false

/-- A scheduled switch is due: its step has committed, and none runs or awaits its verdict. A stopped group launches nothing again, so no
switch forms it anew (07 R408, R411). -/
def switchDue (s : State) : Bool :=
  s.azl.epochTo.isSome && !s.azl.restarting && decide (rd64 s Reg.azlSwitchLo ≤ lastCommit s) && azlState s != 6 && azlState s != 5
    && s.sched.done.isNone && !(s.sched.exec.running && s.sched.exec.kind == .step)

/-- The Sluice performs the boundary's actions here and now, for the first time or again (06 R327, R330, 08 R448, R768). -/
def boundaryOpen (s : State) : Bool :=
  isEntry s && (s.gener.atBoundary || s.gener.again) && s.sched.nextStep.isNone && s.sched.done.isNone
    && !(s.sched.exec.running && s.sched.exec.kind == .step) && s.gener.unloading.isEmpty

/-- STEP_BOUNDARY (06 R327). -/
def execStepBoundary (s : State) : Out :=
  .next <|
    if switchDue s then switchNow s
    else match s.gener.image with
      | some im => if boundaryOpen s then boundaryActions s im s.gener.atBoundary else s
      | none => s

end Sys2Proof.Machine
end

