-- ==== Sys2Proof/Machine/Firmware.lean ====
section
/-!
DEFINITION. Firmware slots: the header, validity, staging and the restart of the management processor
(14 R648 to R655).
-/
namespace Sys2Proof.Machine

/-- The flash offset of a slot (14 R648). -/
def slotBase (slot : Nat) : Nat := slot * 0x200000

/-- Bytes of the flash, whose memory holds their complement: erased flash reads 0xFF (14 R648; PRESUMED, log 57). -/
def flashRange (m : Mem) (a n : Nat) : List Byte := (memRange m a n).map fun b => ~~~ b

/-- Write bytes of the flash. -/
def flashStore (m : Mem) (a : Nat) (bs : List Byte) : Mem := memStore m a (bs.map fun b => ~~~ b)

/-- Erase a range of the flash. -/
def flashErase (m : Mem) (a n : Nat) : Mem := memClear m a n

/-- A slot image's LENGTH field. -/
def fwLength (b : List Byte) : Nat := leNat ((b.drop 0x10).take 4)

/-- A slot image's EPOCH field. -/
def fwEpoch (b : List Byte) : Nat := leNat ((b.drop 8).take 2)

/-- A slot image's BUILD field. -/
def fwBuild (b : List Byte) : Nat := leNat ((b.drop 0xC).take 4)

/-- Bytes are all zero. -/
def allZero (b : List Byte) : Bool := b.all fun x => x == 0

/-- The header, length and epoch of a slot image (14 R648, R649). -/
def fwHeaderOk (s : State) (b : List Byte) : Bool :=
  let w := fun (o : Nat) => leNat ((b.drop o).take 4)
  w 0 == 0x57465A47 && w 4 == 1 && w 8 / 2 ^ 16 == 0 && fwLength b % 256 == 0 && decide (256 ≤ fwLength b) && decide (fwLength b ≤ 1572864)
    && allZero ((b.drop 0x14).take 12) && allZero ((b.drop 0xE0).take 0x120) && decide ((storeVal s 0x4D).toNat % 2 ^ 16 ≤ fwEpoch b)

/-- A key's hash is the one twelve store registers hold; a hash of zeros matches no key (14 R649, R650). -/
def keyOk (s : State) (reg : Nat) (key : List Byte) : Bool :=
  let h := (List.range 12).map fun i => storeVal s (reg + i)
  h != List.replicate 12 0 && sha384 key == h.flatMap fun w => leBytes 4 w.toNat

/-- The signature of a slot image (14 R649). -/
def fwSigned (s : State) (b : List Byte) : Bool :=
  let key := (b.drop 0x20).take 0x60
  keyOk s 0x20 key && ecdsaOk key ((b.drop 0x80).take 0x60) (b.take 0x80 ++ (b.drop 0x200).take (fwLength b))

/-- GLB.BOOT's status of a slot image: 1 valid, 2 header, length or epoch, 3 key or signature (14 R649, R669). -/
def fwStatus (s : State) (b : List Byte) : Nat := if !fwHeaderOk s b then 2 else if fwSigned s b then 1 else 3

/-- The bytes of a slot: header and body as its LENGTH gives them, within the slot. -/
def slotBytes (s : State) (slot : Nat) : List Byte :=
  let n := leNat (flashRange s.boot.flash (slotBase slot + 0x10) 4)
  flashRange s.boot.flash (slotBase slot) (0x200 + min n 1572864)

/-- A slot's status (14 R649). -/
def slotStatus (s : State) (slot : Nat) : Nat := fwStatus s (slotBytes s slot)

/-- The slot that FW_SLOT names (14 R652, R662). -/
def activeSlot (s : State) : Nat := (storeVal s 0x4C).toNat % 2

/-- The slot that runs (14 R669). -/
def runningSlot (s : State) : Nat := rdF s Reg.glbBoot 0 0

/-- The slot that no firmware runs from. -/
def inactiveSlot (s : State) : Nat := 1 - runningSlot s

/-- Start firmware from a slot (14 R652, R655, R669, R670, 05 R259, 07 R416). -/
def startFirmware (s : State) (slot : Nat) : State :=
  let b := slotBytes s slot
  let s1 := wrF (wrF s Reg.glbBoot 0 0 slot) Reg.glbBoot 31 16 (fwEpoch b)
  let s2 := wrF (wrB s1 Reg.mgtStatus 0 true) Reg.mgtStatus 31 16 (fwBuild b)
  putBoot (wrF s2 Reg.azlEpoch 15 0 (fwEpoch b)) { s2.boot with fwRunning := true }

/-- Record a slot's check in GLB.BOOT (14 R669). -/
def noteSlot (s : State) (slot st : Nat) : State :=
  if slot = 0 then wrF s Reg.glbBoot 3 2 st else wrF s Reg.glbBoot 5 4 st

end Sys2Proof.Machine
end

