-- ==== Sys2Proof/Machine/Sessions.lean ====
section
/-!
DEFINITION. Descriptors at their turn, the checks of the host interface, and the session commands
(06 R313 to R321, 08 R438 to R447, 13 R595, R603 to R616, 07 R382, R414).
-/
namespace Sys2Proof.Machine

/-- A command as processed: where it came from, its descriptor's words, the function of its ring. -/
structure Cmd where
  ref : CmdRef
  w : List Nat
  fn : Nat
deriving DecidableEq, Repr

/-- Common fields of a descriptor (13 R606). -/
def Cmd.sid (c : Cmd) : Nat := fld (nthN c.w 1) 15 0
def Cmd.addr (c : Cmd) : Nat := nthN c.w 2 + nthN c.w 3 * 2 ^ 32
def Cmd.len (c : Cmd) : Nat := nthN c.w 4 + fld (nthN c.w 5) 7 0 * 2 ^ 32
def Cmd.cnt (c : Cmd) : Nat := fld (nthN c.w 5) 31 8

/-- The opcode of a descriptor's words. -/
def opcodeOf (w : List Nat) : Nat := fld (nthN w 0) 31 24

/-- The opcodes of R608. -/
def opcodes : List Nat := [0x01, 0x02, 0x10, 0x11, 0x12, 0x13, 0x14, 0x15, 0x20, 0x21, 0x22, 0x30, 0x31, 0x32, 0x33]

/-- The bits of each word that an opcode may set (13 R606 to R608). -/
def descMask (op : Nat) : List Nat :=
  let full := 0xFFFFFFFF
  let row := fun (flag sess addr len cnt : Nat) (rest : List Nat) =>
    [0xFF01FFFF + flag, sess * 0xFFFF, addr * full, addr * full, len * full, len * 0xFF + cnt * 0xFFFFFF00] ++ rest
  if op = 0x01 then row 0 0 1 1 0 [full]
  else if op = 0x02 then row 0x20000 0 0 0 0 []
  else if op = 0x10 then row 0 1 1 1 0 [full, full, full, 0xFFFF]
  else if op = 0x11 then row 0 1 1 0 1 []
  else if op = 0x12 then row 0 1 1 1 1 []
  else if op = 0x13 ∨ op = 0x14 then row 0 1 1 1 0 []
  else if op = 0x15 then row 0 1 0 0 0 []
  else if op = 0x20 then row 0x40000 0 1 1 0 [full, full, full, full, full, full, full, 0xFFFFF]
  else if op = 0x21 ∨ op = 0x22 ∨ op = 0x31 ∨ op = 0x33 then row 0 0 1 1 0 []
  else if op = 0x32 then row 0 0 0 0 0 [0xFFFF]
  else row 0 0 0 0 0 []

/-- The first word of a descriptor that breaks R606 to R608. -/
def badWord (c : Cmd) : Option Nat :=
  let op := opcodeOf c.w
  (List.range 16).find? fun i =>
    (nthN c.w i &&& (0xFFFFFFFF ^^^ nthN (descMask op) i)) != 0
      || ((op == 0x10 || op == 0x33) && ((i == 4 && decide (64 < nthN c.w 4)) || (i == 5 && fld (nthN c.w 5) 7 0 != 0)))

/-- A command that a virtual function may issue (13 R614). -/
def vfMay (op : Nat) : Bool := (decide (0x10 ≤ op) && decide (op ≤ 0x15)) || op == 0x30 || op == 0x33

/-- A command reads or writes host memory as it is processed; later accesses have rows of their own (13 R608, R609, R611, R612). -/
def touchesHost (s : State) (c : Cmd) : Bool :=
  let op := opcodeOf c.w
  ([0x01, 0x10, 0x14, 0x22, 0x31, 0x33].contains op && c.len != 0) || (op == 0x11 && c.cnt != 0)
    || (op == 0x20 && c.len != 0 && decide (svcLevel s < 4))

/-- The checks of the host interface: status code and result word; `hostOk` tells that the accesses to host memory end well (13 R614). -/
def hifCheck (s : State) (c : Cmd) (hostOk : Bool) : Option (Nat × Nat) :=
  let op := opcodeOf c.w
  match badWord c with
  | some i => some (0x61, i)
  | none =>
    if c.fn != 0 && !vfMay op then some (0x62, 0)
    else if touchesHost s c && !hostOk then some (0x63, 0)
    else if op = 0x12 ∧ c.len < 16 * c.cnt then some (0x64, 0) else none

/-- A descriptor is the first that its enable of the ring has read and not processed, and no command of that enable holds it back
(06 R334, 13 R603, R605). -/
def mayRun (g : Ring) (d : Desc) : Bool :=
  !(g.busy.any fun b => b.1 == d.ref.era) && (g.fifo.find? fun e => e.ref.era == d.ref.era) == some d

/-- The rings are served in ascending number: none before this one has a descriptor that may run (13 R603). -/
def ringTurn (s : State) (r : Nat) : Bool := !(s.hif.rings.any fun g => decide (g.1 < r) && g.2.fifo.any (mayRun g.2))

/-- Take the first descriptor of a ring that may run and that the test picks, at the ring's turn (13 R603, R605); none while firmware does not
run. -/
def popDesc (s : State) (r : Nat) (pick : Nat → Bool) : Option (State × Cmd) :=
  let g := ringOf s r
  if !s.boot.fwRunning || !ringTurn s r then none
  else match g.fifo.find? fun d => mayRun g d && pick (opcodeOf d.words) with
    | none => none
    | some d => some (setRing s r { g with fifo := g.fifo.erase d, busy := g.busy ++ [(d.ref.era, d.ref.idx)] },
        ⟨d.ref, d.words, ringOwner s r⟩)

/-- Descriptors with an unknown opcode complete at their turn with BAD_OPCODE (13 R614). -/
def skipBad : Nat → State → Nat → State
  | 0, s, _ => s
  | n + 1, s, r =>
    match popDesc s r (fun op => !opcodes.contains op) with
    | none => s
    | some (s1, c) => skipBad n (complete s1 c.ref 0x60 0 0) r

/-- Process the command at the head of a ring when it is the named one: the host interface's checks, then the command;
the Sluice then repeats its boundary (13 R603, R614, 08 R448). -/
def runCmd (s : State) (r op : Nat) (f : State → Cmd → State) (hostOk : Bool := true) : Host.Outcome State Fault Refusal :=
  .next <|
    match popDesc s r (· == op) with
    | none => s
    | some (s1, c) =>
      let s2 := match hifCheck s1 c hostOk with
        | some (code, w6) => complete s1 c.ref code w6 0
        | none => f s1 c
      skipBad 64 (putGener s2 { s2.gener with again := true }) r

/-- The lowest code of the checks that fail (06 R320). -/
def lowest (xs : List (Nat × Bool)) : Option Nat :=
  xs.foldl (fun a x => if x.2 then (match a with | none => some x.1 | some n => some (min n x.1)) else a) none

/-- A command that fails a check completes with its code; otherwise it has its effect (06 R320). -/
def checked (s : State) (c : Cmd) (xs : List (Nat × Bool)) (f : State → State) : State :=
  match lowest xs with
  | some code => finish s c.ref code 0 0
  | none => f s

/-- The session a command names, if its function may name it (13 R595). -/
def findSess (s : State) (c : Cmd) : Option (Nat × Context) :=
  match ctxBySid s c.sid with
  | some x => if c.fn = 0 ∨ ctxFn s x.2 = c.fn then some x else none
  | none => none

/-- A member of a group that is not its entry refuses session commands (07 R382). -/
def notEntry (s : State) : Bool := inGroup s && !isEntry s

/-- The result word of a command that an entry site completes at once: a context, or the waiting tokens (13 R616). -/
def siteWord (c : Cmd) : Nat :=
  let v := (Config.siteWord c.w).toNat
  if c.ref.op = 0x10 then v % 2 ^ 9 else if c.ref.op = 0x11 then v else 0

/-- An entry site forwards a session command. The entry's status and result, which no frame brings back, are free values; a GENERATE, a PARK
and an UNPARK that the entry takes complete later, as the site's own session table shows (07 R414, 13 R613; DESIGN CHOICE, log 32). -/
def atSite (s : State) (c : Cmd) (f : State → Cmd → State) : State :=
  if notEntry s && isSite s && !c.ref.remote then
    let s1 := sendUp s (mkFrame s 0x1C 0 0 0 0 c.w)
    let st := (Config.siteStatus c.w).toNat
    if st = 0 ∧ ((c.ref.op = 0x12 ∧ c.cnt ≠ 0) ∨ c.ref.op = 0x13 ∨ c.ref.op = 0x14) then
      let s2 := putAzl s1 { s1.azl with siteWaits := s1.azl.siteWaits ++ [⟨c.ref, c.sid, none⟩] }
      if c.ref.op = 0x13 then ringGoesOn s2 c.ref else s2
    else complete s1 c.ref st (if st = 0 then siteWord c else 0) 0
  else f s c

/-- Replace a forwarded command that waits, or drop it. -/
def setSite (s : State) (w : SiteWait) (v : Option SiteWait) : State :=
  putAzl s { s.azl with siteWaits := s.azl.siteWaits.flatMap fun x => if x == w then v.toList else [x] }

/-- A GENERATE that an entry site forwarded, by the site's session table: its ring goes on when its join is admitted, and it completes when its
BUDGET is 0, with the tokens committed since it began, or with CANCELLED when its session is gone (13 R613, R616). -/
def siteGen (s : State) (w : SiteWait) : State :=
  match ctxBySid s w.sid, w.base with
  | some (_, x), none =>
    if x.budget = 0 then s
    else
      let s1 := setSite s w (some { w with base := some x.tokens })
      if x.st = .prefill ∨ (x.st = .decode ∧ x.waiting = []) then ringGoesOn s1 w.ref else s1
  | some (_, x), some b =>
    if x.budget ≠ 0 then (if x.st = .prefill ∨ (x.st = .decode ∧ x.waiting = []) then ringGoesOn s w.ref else s)
    else
      let last := ((x.hist.getLast?).map (·.1)).getD 0
      complete (setSite s w none) w.ref 0 (x.tokens - b) (b2n (isStop x last) + 2 * b2n (decide (x.limit ≤ x.len)))
  | none, some _ => complete (setSite s w none) w.ref 0x0C 0 0
  | none, none => s

/-- A PARK or an UNPARK that an entry site forwarded: the ring goes on when an UNPARK is admitted; they complete when the site's own save or read
has ended (13 R613, R616). -/
def siteMove (s : State) (w : SiteWait) : State :=
  match ctxBySid s w.sid with
  | some (c, x) =>
    if w.ref.op = 0x13 then
      (if x.st = .parked ∧ x.park.all (fun p => p.saved) = true then complete (setSite s w none) w.ref 0 0 0 else s)
    else if x.st = .parked then s
    else if x.reading then ringGoesOn s w.ref
    else complete (setSite s w none) w.ref 0 c 0
  | none => s

/-- The forwarded commands of an entry site, each as far as the session table now shows it (07 R414, 13 R613). -/
def siteCheck (s : State) : State :=
  each s.azl.siteWaits (fun w s => if w.ref.op = 0x12 then siteGen s w else siteMove s w) s

/-- The lowest-numbered IDLE context (06 R315). -/
def idleCtxNo (s : State) : Option Nat := (List.range 512).find? fun c => (ctxOf s c).st == .idle

/-- The first byte of a park block's pages (08 R438). -/
def parkP0 (len : Nat) : Nat := ceilDiv (0x100 + ceilDiv len 8) 4096 * 4096

/-- Bytes of one canonical page of the resident image (08 R439). -/
def canonPage (s : State) : Nat := match s.gener.image with | some im => im.parkPage | none => 0

/-- The size of a park block (08 R438). -/
def parkSize (s : State) (len : Nat) : Nat := parkP0 len + pagesFor len * canonPage s

/-- TEMP is negative other than -0, infinite or a NaN (06 R319). -/
def badTemp (t : Nat) : Bool :=
  let m := t % 2 ^ 15
  decide (0x7C00 ≤ m) || (decide (2 ^ 15 ≤ t) && m != 0)

/-- OPEN_SESSION (06 R315, R319, R321, 08 R446, 13 R609). -/
def doOpen (s : State) (c : Cmd) : State :=
  let blk := memRange s.host c.addr c.len ++ List.replicate (64 - c.len) 0
  let at_ := fun (o n : Nat) => leNat ((blk.drop o).take n)
  let lim := if nthN c.w 6 = 0 then rdN s Reg.kvpCtxMax else nthN c.w 6
  let dl := if nthN c.w 7 = 0 then s.gener.dlDef else nthN c.w 7
  let temp := fld (nthN c.w 8) 15 0
  let ctx := idleCtxNo s
  checked s c
    [(0x01, s.gener.image.isNone), (0x02, ctx.isNone), (0x03, (ctxBySid s c.sid).isSome),
     (0x08, badTemp temp || !allZero (blk.drop 0x30)), (0x09, decide (rdN s Reg.kvpCtxMax < lim)),
     (0x0A, decide (rdN s Reg.kvpPages < pagesFor lim + 1 + rdN s Reg.kvpFloor)), (0x0B, deadlineFails s lim dl),
     (0x23, notEntry s), (0x50, at_ 0x20 8 != 0 && decide (at_ 0x28 8 < parkSize s lim))]
    fun s =>
      let n := ctx.getD 0
      let x : Context :=
        { st := .opened, sid := c.sid, ring := c.ref.ring, limit := lim, deadline := dl, temp := temp,
          topK := fld (nthN c.w 8) 31 16, topP := fld (nthN c.w 9) 15 0, seed := at_ 0 16,
          stops := [at_ 0x10 4, at_ 0x14 4, at_ 0x18 4, at_ 0x1C 4], parkAddr := at_ 0x20 8, parkLen := at_ 0x28 8 }
      finish (setCtx s n x) c.ref 0 n 0

/-- A session that waits to leave takes no second PARK or UNPARK (06 R318; DEDUCED, log 40). -/
def leaving (x : Option (Nat × Context)) : Bool := match x with | some y => y.2.parkPending.isSome || y.2.closeAfter | none => false

/-- APPEND_PROMPT (06 R316 to R319). -/
def doAppend (s : State) (c : Cmd) : State :=
  let x := findSess s c
  let y := match x with | some y => y.2 | none => {}
  let toks := memWords s.host c.addr c.cnt
  checked s c
    [(0x01, s.gener.image.isNone), (0x04, x.isNone),
     (0x05, x.isSome && !(y.st == .opened || (y.st == .decode && y.budget == 0))),
     (0x06, c.cnt == 0), (0x07, toks.any fun t => decide (rdN s Reg.sluVocab ≤ t)),
     (0x09, decide (y.limit ≤ y.len + y.waiting.length + c.cnt)), (0x23, notEntry s)]
    fun s =>
      let n := (x.getD (0, {})).1
      finish (modCtx s n fun z => { z with waiting := z.waiting ++ toks }) c.ref 0 (y.waiting.length + c.cnt) 0

/-- GENERATE (06 R317 to R321, R332, 13 R613). -/
def doGenerate (s : State) (c : Cmd) : State :=
  let x := findSess s c
  let y := match x with | some y => y.2 | none => {}
  checked s c
    [(0x01, s.gener.image.isNone), (0x04, x.isNone),
     (0x05, x.isSome && (!(y.st == .opened || y.st == .decode) || y.budget != 0)),
     (0x06, y.st == .opened && y.waiting.isEmpty), (0x09, x.isSome && y.len == y.limit), (0x23, notEntry s)]
    fun s =>
      let n := (x.getD (0, {})).1
      if c.cnt = 0 then finish s c.ref 0 0 0
      else
        let g : Gen := { ref := c.ref, addr := c.addr, written := 0, stop := false, limit := false }
        if y.waiting.isEmpty then ringGoesOn (modCtx s n fun z => { z with budget := c.cnt, gen := some g }) c.ref
        else
          let j : Join := { ref := c.ref, unpark := false, seq := s.gener.joinSeq, deferrals := 0, deferred := false, swap := false }
          modCtx (putGener s { s.gener with joinSeq := s.gener.joinSeq + 1 }) n fun z =>
            { z with budget := c.cnt, gen := some g, join := some j }

/-- PARK (06 R317, R318, 08 R440). -/
def doPark (s : State) (c : Cmd) : State :=
  let x := findSess s c
  let y := match x with | some y => y.2 | none => {}
  checked s c
    [(0x01, s.gener.image.isNone), (0x04, x.isNone), (0x05, x.isSome && (leaving x || y.st != .decode)),
     (0x23, notEntry s), (0x50, c.len == 0 || decide (c.len < parkSize s y.len))]
    fun s =>
      let n := (x.getD (0, {})).1
      ringGoesOn (modCtx s n fun z => { z with parkPending := some { ref := c.ref, addr := c.addr, swap := false, saved := false } }) c.ref

/-- The digest of bytes as little-endian words, padded with zeros (08 R421). -/
def byteDigest (bs : List Byte) : Nat :=
  digFoldAll digInit (toWords (bs ++ List.replicate ((4 - bs.length % 4) % 4) 0))

/-- The digest of a park block: its header and exit map (08 R438). -/
def parkDigest (s : State) (addr len : Nat) : Nat :=
  byteDigest (memRange s.host addr 0xF8 ++ memRange s.host (addr + 0x100) (ceilDiv len 8))

/-- The context that a park block describes (08 R438). -/
def blockCtx (s : State) (a : Nat) (x : Context) : Context :=
  let m := fun (o n : Nat) => memNat s.host (a + o) n
  let swap := bitN (m 0x14 4) 0
  let budget := m 0x24 4
  { x with sid := m 0x12 2, exitLast := bitN (m 0x14 4) 1, len := m 0x18 6, limit := m 0x20 4, budget := budget, deadline := m 0x28 4,
           temp := m 0x2C 2, topK := m 0x2E 2, topP := m 0x30 2, stops := [m 0x34 4, m 0x38 4, m 0x3C 4, m 0x40 4], seed := m 0x44 16,
           accrued := 0, blockAt := a,
           gen := if swap && budget != 0 then
               some { ref := { remote := true }, addr := m 0x54 8, written := 0, stop := false, limit := false }
             else x.gen }

/-- UNPARK (06 R317 to R319, 08 R442, R443, 13 R596). -/
def doUnpark (s : State) (c : Cmd) : State :=
  let held := ctxBySid s c.sid
  let x := findSess s c
  let y := match x with | some y => y.2 | none => {}
  let a := c.addr
  let b := blockCtx s a {}
  let dl := if b.deadline = 0 then s.gener.dlDef else b.deadline
  let ctx := if held.isSome then x.map (·.1) else idleCtxNo s
  let blockOk := memNat s.host a 4 == 0x4B524150 && memNat s.host (a + 4) 4 == 1 && b.sid == c.sid
    && memNat s.host (a + 0xF8) 8 == parkDigest s a b.len
  checked s c
    [(0x01, s.gener.image.isNone), (0x02, held.isNone && ctx.isNone), (0x04, held.isSome && x.isNone),
     (0x05, x.isSome && (y.st != .parked || y.join.isSome || leaving x)),
     (0x08, badTemp b.temp), (0x09, decide (rdN s Reg.kvpCtxMax < b.limit)),
     (0x0A, decide (rdN s Reg.kvpPages < pagesFor b.limit + 1 + rdN s Reg.kvpFloor)), (0x0B, deadlineFails s b.limit dl),
     (0x23, notEntry s), (0x51, c.len == 0 || decide (c.len < parkSize s b.len) || !blockOk),
     (0x52, memNat s.host (a + 8) 8 != s.gener.hdr.ident)]
    fun s =>
      let n := ctx.getD 0
      let base : Context := if x.isSome then y else { st := .parked, ring := c.ref.ring }
      let j : Join := { ref := c.ref, unpark := true, seq := s.gener.joinSeq, deferrals := 0, deferred := false, swap := false }
      setCtx (putGener s { s.gener with joinSeq := s.gener.joinSeq + 1 }) n
        { blockCtx s a base with deadline := dl, join := some j }

/-- A GENERATE that waits as a join completes with CANCELLED when its session closes (06 R319, R335). -/
def dropGenJoin (s : State) (n : Nat) : State :=
  match (ctxOf s n).join with
  | some j => if j.unpark then cancelJoin s n else endGen (cancelJoin s n) n 0x0C
  | none => s

/-- CLOSE_SESSION (06 R317, R319, R765, 08 R449). A second one of a PARKED session whose close waits for its save finds it leaving and gets
BAD_STATE: R317 and R318 do not say (DESIGN CHOICE, log 71). -/
def doClose (s : State) (c : Cmd) : State :=
  let x := findSess s c
  let y := match x with | some y => y.2 | none => {}
  checked s c
    [(0x01, s.gener.image.isNone), (0x04, x.isNone), (0x05, x.isSome && (y.st == .closing || y.closeAfter)), (0x23, notEntry s)]
    fun s =>
      let n := (x.getD (0, {})).1
      let s1 := if y.st = .opened then idleCtx s n
        else if y.st = .parked then
          (if y.park.all fun p => p.saved then idleCtx s n else modCtx (dropGenJoin s n) n fun z => { z with closeAfter := true })
        else modCtx (dropGenJoin s n) n fun z => { z with st := .closing }
      finish s1 c.ref 0 0 0

/-- OPEN_SESSION. -/
def execOpenSession (r : Fin 128) (s : State) (hostOk : Bool := true) : Out := runCmd s r.val 0x10 (fun s c => atSite s c doOpen) hostOk

/-- APPEND_PROMPT. -/
def execAppendPrompt (r : Fin 128) (s : State) (hostOk : Bool := true) : Out := runCmd s r.val 0x11 (fun s c => atSite s c doAppend) hostOk

/-- GENERATE. -/
def execGenerate (r : Fin 128) (s : State) : Out := runCmd s r.val 0x12 fun s c => atSite s c doGenerate

/-- PARK. -/
def execPark (r : Fin 128) (s : State) : Out := runCmd s r.val 0x13 fun s c => atSite s c doPark

/-- UNPARK. -/
def execUnpark (r : Fin 128) (s : State) (hostOk : Bool := true) : Out := runCmd s r.val 0x14 (fun s c => atSite s c doUnpark) hostOk

/-- CLOSE_SESSION. -/
def execCloseSession (r : Fin 128) (s : State) : Out := runCmd s r.val 0x15 fun s c => atSite s c doClose

/-- The session command of a descriptor, for a JOIN that an entry site forwards (07 R414). -/
def sessionCmd (op : Nat) : State → Cmd → State :=
  if op = 0x10 then doOpen else if op = 0x11 then doAppend else if op = 0x12 then doGenerate
  else if op = 0x13 then doPark else if op = 0x14 then doUnpark else if op = 0x15 then doClose else fun s _ => s

/-- READ_LEDGER: the record of the last judged step, then that of the last completed RUN_KERNEL (09 R464). -/
def doReadLedger (s : State) (c : Cmd) : State :=
  let ws := (List.range 8).map (fun i => rdN s (Reg.ldgLastStep + 4 * i)) ++ (List.range 8).map fun i => rdN s (Reg.ldgLastRk + 4 * i)
  complete (hostWrite s c.fn c.addr ((ws.flatMap (leBytes 4)).take c.len)) c.ref 0 c.len 0

/-- READ_LEDGER. -/
def execReadLedger (r : Fin 128) (s : State) (hostOk : Bool := true) : Out := runCmd s r.val 0x33 doReadLedger hostOk

/-- FENCE: it completes when every earlier descriptor of its ring has (13 R613). -/
def doFence (s : State) (c : Cmd) : State :=
  let g := ringOf s c.ref.ring
  if fenceDue g c.ref then complete s c.ref 0 0 0
  else setRing s c.ref.ring { g with fences := g.fences ++ [c.ref] }

/-- FENCE. -/
def execFence (r : Fin 128) (s : State) : Out := runCmd s r.val 0x30 doFence

end Sys2Proof.Machine
end

