-- ==== Sys2Proof/Machine/Image.lean ====
section
/-!
DEFINITION. Model residency: the image header, the load checks and phases, and the unload (08 R420 to R428, R436,
R767, R768).
-/
namespace Sys2Proof.Machine

/-- A field of the image header at a host address. -/
def hdrField (s : State) (a o n : Nat) : Nat := memNat s.host (a + o) n

/-- The header of an image in host memory (08, image header). -/
def readHdr (s : State) (a : Nat) : ImgHdr :=
  let m := hdrField s a
  { host := a, len := m 8 8, ident := m 0x10 8, hbmEnd := m 0x18 8, spillOff := m 0x20 8, q := m 0x28 8, rate := m 0x30 4,
    hide := m 0x34 4, afterExit := bitN (m 0x38 4) 0 }

/-- The header is well formed (08 R767). -/
def hdrOk (s : State) (a : Nat) : Bool :=
  let m := hdrField s a
  let h := readHdr s a
  m 0 4 == 0x4D495A47 && m 4 4 == 1 && m 0x3C 4 == 0 && h.q % 64 == 0 && (h.q != 0 || h.spillOff == 0)
    && (h.q == 0 || (m 0x38 4 / 2 == 0 && h.rate != 0 && decide (h.spillOff + h.q ≤ h.len)))

/-- An auxiliary execution is running or suspended (08 R426). -/
def auxActive (s : State) : Bool := (s.sched.exec.running && s.sched.exec.kind == .runk) || s.sched.susp.isSome

/-- LOAD_IMAGE: phase 1 (08 R422, R423, R426). -/
def doLoad (s : State) (c : Cmd) : State :=
  checked s c
    [(0x30, s.gener.image.isSome || s.gener.loading.isSome), (0x31, decide (svcLevel s < 4) || auxActive s),
     (0x32, decide (c.len < 256) || c.len != hdrField s c.addr 8 8), (0x33, !hdrOk s c.addr),
     (0x34, hdrField s c.addr 0xF8 8 != byteDigest (memRange s.host c.addr 0xF8))]
    fun s => (putGener s { s.gener with
      loading := some { ref := c.ref, addr := c.addr, len := c.len, spillBw := nthN c.w 6, hdr := readHdr s c.addr } })

/-- LOAD_IMAGE. -/
def execLoadImage (r : Fin 128) (s : State) (hostOk : Bool := true) : Out := runCmd s r.val 0x01 doLoad hostOk

/-- A section's digest does not match (08 R421, R423 phase 2). -/
def sectionBad (s : State) (l : Loading) (x : Section) : Bool :=
  byteDigest (memRange s.host (l.addr + x.off) x.len) != x.digest

/-- HBM_END or a section is out of bounds, or the footprint reaches a quarantined stack (08 R426, 09 fault costs). -/
def capacityBad (s : State) (l : Loading) (im : Image) : Bool :=
  decide (0x2400000000 < l.hdr.hbmEnd) || (im.sections.any fun x => decide (l.hdr.hbmEnd < x.hbm + x.len))
    || s.boot.qStacks.any fun h => decide (h * 0x600000000 < l.hdr.hbmEnd)

/-- POSITION, a shard map or a reduction record breaks R362. -/
def groupBad (s : State) (im : Image) : Bool :=
  fld (nthN im.group 0) 31 24 != memberPos s || im.shards.any fun m => !shardOk (fld (nthN im.group 0) 8 0) m

/-- A layer or launch descriptor breaks R215 to R217. -/
def descriptorBad (im : Image) : Bool :=
  (im.layers.any fun l => !layerOk im.layers.length im.shards.length l) || im.kernels.any fun d => !launchOk im.layers false d

/-- The environment of the load checks: no tiler output (04 R231, R239). -/
def loadEnv (im : Image) (n sl f : Nat) : PlanEnv where
  n := n
  sl := sl
  f := f
  tiles := []
  pageOf := fun _ _ => none
  pageAddr := fun _ _ => 0
  partialAt := im.partialAt
  tableAt := im.tableAt
  tabRow := (im.sMax + im.fMax) * 16

/-- The addresses that an entry's source can give an instance: a page of the pool, the partial of the slot's tile or of any tile that may
fold here, the cluster's table. Only their places modulo the 2,048 bytes of the 32 pseudo-channels differ, so that 32 of a row of equal
steps stand for all (04 R240, R252; DEDUCED, log 45). -/
def loadAddrs (im : Image) (n lidx : Nat) (layer : List Nat) (cl rep : Nat) (e : List Nat) : List Nat :=
  let m := poolRec im lidx
  let h := eHaddr e
  if eAsrc e = 1 then (List.range (min 32 im.pages)).map fun p => nthN im.bases m.1 + p * im.stride + m.2 + h
  else if eAsrc e = 2 then [im.partialAt + (rep * n + cl) * lPartial layer + h]
  else if eAsrc e = 3 then (List.range (min 32 (im.sMax * n))).map fun t => im.partialAt + t * lPartial layer + h
  else if eAsrc e = 4 then [im.tableAt + cl * (im.sMax + im.fMax) * 16 + h] else [h]

/-- One instance as the load checks see it, with its alternatives: every tile and fold exists. -/
def loadInst (im : Image) (v : PlanEnv) (r : KRun) (cl : Nat) (net : Bool) (k rep : Nat) (e : List Nat) : List PlanInst :=
  (loadAddrs im v.n r.lidx r.layer cl rep e).map fun a => { mkInst v r cl net k rep e with route := entryRoute (some a) e }

/-- The instances of one plan as the load checks see them. -/
def loadPlan (im : Image) (v : PlanEnv) (r : KRun) (cl : Nat) (net : Bool) (es : List (List Nat)) : List (List PlanInst) :=
  let reps := fun (rp n : Nat) => (List.range n).flatMap fun j => (es.filter fun e => eRepeat e == rp).map fun e => (j, e)
  ((reps 0 1 ++ reps 1 v.sl ++ reps 2 v.f).zipIdx).map fun x => loadInst im v r cl net x.2 x.1.1 x.1.2

/-- Every instance of a list of kernels for given counts of slots and folds, with its alternatives. -/
def loadAlts (im : Image) (ks : List (List Nat)) (n sl f : Nat) : List (List PlanInst) :=
  (layRuns im sl f 0 16 ks).flatMap fun r => (List.range n).flatMap fun cl =>
    loadPlan im (loadEnv im n sl f) r cl false (planAt (imgDma im) r.idx cl)
      ++ loadPlan im (loadEnv im n sl f) r cl true (planAt (imgNet im) r.idx cl)

/-- Every instance, at the first of its alternatives: no cycle or link depends on which. -/
def loadInsts (im : Image) (ks : List (List Nat)) (n sl f : Nat) : List PlanInst :=
  pairSends ((loadAlts im ks n sl f).filterMap (·.head?))

/-- The counts that the load checks expand: every S and F that a step can have, which is 1 and 1 where no kernel is tiled (04 R239, R244,
R249). -/
def loadCounts (im : Image) : List (Nat × Nat) :=
  if im.kernels.any kTiled then (List.range im.sMax).flatMap fun i => (List.range im.fMax).map fun j => (i + 1, j + 1) else [(1, 1)]

/-- The spill units keep R434 at given counts: a full step reads every one, and an exit step every one or none (08 R433, R434). -/
def spillFits (im : Image) (n q sl f : Nat) : Bool :=
  let ex := loadInsts im (stepKernels im true) n sl f
  spillOk q (loadInsts im im.kernels n sl f) && (spillFree ex || spillOk q ex)

/-- A plan entry breaks R230, R232, R237, R238, R322, R383, R385 or R434. Kernels move apart linearly in S and F, so that the spill's order
holds for all when it holds at the least and at the greatest (04 R208, R209). -/
def planBad (im : Image) (n q : Nat) : Bool :=
  let dma := imgDma im
  let net := imgNet im
  let rs := layRuns im 0 0 0 16 im.kernels
  !(rs.all fun r => plansOk (some im) n q false r dma net)
    || !startsOk (loadEnv im n 0 0) rs (layRuns im 1 1 0 16 im.kernels) dma net
    || !spillFits im n q 1 1 || !spillFits im n q im.sMax im.fMax

/-- A lean-eligible kernel breaks R71, or GAP is too short for lean operation (15 R687). -/
def leanBad (s : State) (im : Image) : Bool :=
  ((im.kernels.zipIdx).any fun d => kLeanOk d.1 && leanBreaks (nth im.code d.2 []))
    || (rdB s Reg.lspCtl 0 && decide (im.gap < 125000))

/-- The FULL constants of the monitor: the sums over the step schedule, FULL_D0 with the spill cost (06 R339, 08 R436). -/
def fullConsts (im : Image) (h : ImgHdr) : Nat × Nat × Nat :=
  let c := dlmConsts im im.kernels
  (c.1 + spillCost h.q h.rate h.hide, c.2)

/-- The EXIT constants: the sums up to EXIT_KERNEL, EXIT_D0 with the spill cost unless SPILL_AFTER_EXIT (06 R339,
08 R436). -/
def exitConsts (im : Image) (h : ImgHdr) : Nat × Nat × Nat :=
  let c := dlmConsts im (stepKernels im true)
  (c.1 + (if h.afterExit then 0 else spillCost h.q h.rate h.hide), c.2)

/-- The spill deadline test (08 R436). -/
def spillTest (im : Image) (h : ImgHdr) : Bool :=
  let c := fullConsts im h
  decide (c.1 + c.2.1 + c.2.2 + im.gap ≤ im.dlDefault)

/-- The code of phases 2 to 4: the lowest of the checks that fail (08 R423, R426). -/
def loadCode (s : State) (l : Loading) (im : Image) : Option Nat :=
  let n := ncl s
  let q := l.hdr.q
  lowest
    [(0x34, im.sections.any (sectionBad s l)), (0x35, capacityBad s l im), (0x36, fld (nthN im.group 1) 7 0 != n),
     (0x37, groupBad s im), (0x38, descriptorBad im), (0x39, match mapping s n with | .ok _ => false | .error _ => true),
     (0x3A, planBad im n q), (0x3B, !(loadCounts im).all fun c => noCollision n (loadInsts im im.kernels n c.1 c.2)),
     (0x3C, !(loadCounts im).all fun c => rateOk (loadAlts im im.kernels n c.1 c.2)), (0x3D, leanBad s im),
     (0x3E, q != 0 && decide (l.spillBw < l.hdr.rate)), (0x3F, q != 0 && !spillTest im l.hdr)]

/-- Write three deadline constants (06 R339). -/
def writeConsts (s : State) (off : Nat) (c : Nat × Nat × Nat) : State := wrN (wrN (wrN s off c.1) (off + 4) c.2.1) (off + 8) c.2.2

/-- The image-derived registers of the schedule, the tiler, the Sluice and the monitor (08 R423 phase 4, 04 R255, R256,
06 R339, R356, R357). -/
def loadSchedRegs (s : State) (im : Image) (h : ImgHdr) : State :=
  let s1 := wrN s Reg.schImage (im.kernels.length % 2 ^ 16 + im.layers.length % 2 ^ 16 * 2 ^ 16)
  let s2 := wrN s1 Reg.tilLimits (im.sMax % 2 ^ 16 + im.fMax % 2 ^ 16 * 2 ^ 16)
  let s3 := wr64 (wr64 s2 Reg.tilTableLo im.tableAt) Reg.tilPartialLo im.partialAt
  let s4 := wrN (wrN s3 Reg.sluImage (im.rowsMax % 2 ^ 16 + im.pfChunk % 2 ^ 16 * 2 ^ 16)) Reg.sluVocab im.vocab
  let s5 := writeConsts s4 Reg.dlmFullD0 (fullConsts im h)
  let s6 := writeConsts s5 Reg.dlmExitD0 (exitConsts im h)
  let s6 := noteHw (noteHw s6 Reg.dlmGap (BitVec.allOnes 32)) Reg.dlmDlDefault (BitVec.allOnes 32)
  let s7 := wrN (wrN (wrN s6 Reg.dlmExitKernel im.exitKernel) Reg.dlmGap im.gap) Reg.dlmDlDefault im.dlDefault
  wr64 s7 Reg.sluStepLo 0

/-- The KVP page, with every pool page free (08 R423 phases 4 and 5, 06 R358). -/
def loadPoolRegs (s : State) (im : Image) : State :=
  let s1 := wrN (wrN s Reg.kvpPages (im.pages % 2 ^ 16)) Reg.kvpFree (im.pages % 2 ^ 16)
  let s2 := wrN (wrN s1 Reg.kvpCtxMax im.ctxMax) Reg.kvpStride im.stride
  let s3 := each (List.range 6) (fun h s => wr64 s (Reg.kvpBaseLo + 8 * h) (nthN im.bases h)) s2
  wr64 (wr64 (wr64 s3 Reg.kvpListLo im.listAt) Reg.kvpExitmapLo im.exitMapAt) Reg.kvpMapLo im.mapAt

/-- Copy the sections to HBM (08 R423 phase 2). -/
def copySections (s : State) (l : Loading) (im : Image) : State :=
  putHbm s (im.sections.foldl (fun m x => memCopy s.host (l.addr + x.off) m x.hbm x.len) s.hbm)

/-- The load succeeds: phases 2, 4 and 5, IMAGE_LOADED and OK (08 R423, R424, events). The boundary before the first step counts as a step
boundary for joins, though no step has committed: R327 and R335 do not say (DESIGN CHOICE, log 71). -/
def finishLoad (s : State) (l : Loading) (im : Image) : State :=
  let s1 := match mapping s (ncl s) with
    | .ok m => applyMapping s m
    | .error _ => s
  let s2 := loadGroupRegs (loadPoolRegs (loadSchedRegs (copySections s1 l im) im l.hdr) im) im.group
  let g := { s2.gener with image := some im, hdr := l.hdr, loading := none, atBoundary := true, gap := im.gap, dlDef := im.dlDefault,
                           deadlock := false, imgTaint := 0 }
  let d := { s2.sched with reloads := [], recovered := true, replay := false }
  let s3 := putBoot (putSched (putGener s2 g) d) { s2.boot with mapped := true }
  let s4 := if azlState s3 = 6 then s3 else beginForm (setAzl s3 0)
  let s5 := raiseEv s4 Reg.pageSch 0 (.ring l.ref.ring) 0x24 0 0x0001 l.ref.ring
    [lo32 l.hdr.ident, hi32 l.hdr.ident, l.hdr.q, spillCost l.hdr.q l.hdr.rate l.hdr.hide]
  complete s5 l.ref 0 0 0

/-- IMAGE_LOAD_DONE: the copy has ended, while no execution runs; the load completes with OK or with the lowest code
(08 R423, R424, R429, 13 R614). `img` is what the image's sections hold. -/
def execImageLoadDone (img : Image) (s : State) (hostOk : Bool := true) : Out :=
  .next <|
    match s.gener.loading with
    | some l =>
      if s.sched.exec.running then s
      else if !hostOk then complete (putGener s { s.gener with loading := none }) l.ref 0x63 0 0
      else match loadCode s l img with
        | some code => complete (putGener s { s.gener with loading := none }) l.ref code 0 0
        | none => finishLoad s l img
    | none => s

/-- A transfer is in progress (08 R431). -/
def xferBusy (s : State) : Bool := s.gener.xfers.any fun x => x.started

/-- A park or unpark is in progress (08 R426). -/
def parkBusy (s : State) : Bool :=
  s.gener.xfers.any fun x => x.started && (match x.kind with | .park _ => true | .unpark _ => true | _ => false)

/-- UNLOAD_IMAGE: its checks, after which no step launches (08 R426, R768). -/
def doUnload (s : State) (c : Cmd) : State :=
  let force := bitN (nthN c.w 0) 17
  checked s c
    [(0x01, s.gener.image.isNone), (0x31, decide (svcLevel s < 4) || auxActive s),
     (0x40, !force && !(liveCtxs s).isEmpty), (0x41, azlState s != 0 && azlState s != 5), (0x42, parkBusy s)]
    fun s => putGener s { s.gener with unloading := s.gener.unloading ++ [(c.ref, force)] }

/-- UNLOAD_IMAGE. -/
def execUnloadImage (r : Fin 128) (s : State) : Out := runCmd s r.val 0x02 doUnload

/-- The registers of an unloaded package (08 R428, 07 R416). -/
def unloadRegs (s : State) : State :=
  let s1 := wrN (wrN (wrN s Reg.schImage 0) Reg.tilLimits 0) Reg.sluImage 0
  setAzl (wrF (showFree (wrN s1 Reg.kvpPages 0)) Reg.azlMember 16 8 1) 0

/-- What an entry site has forwarded is cancelled here (07 R414, 08 R427). -/
def cancelSites (s : State) : State :=
  each s.azl.siteWaits (fun w s => complete s w.ref 0x0C 0 0) (putAzl s { s.azl with siteWaits := [] })

/-- The image goes (08 R427, R428, R768, events). -/
def unloadNow (s : State) (us : List (CmdRef × Bool)) : State :=
  let force := us.any fun u => u.2
  let live := liveCtxs s
  let s1 := cancelSites (if force then each live (fun x s => idleCtx s x.1) s else s)
  let id := s.gener.hdr.ident
  let g := { s1.gener with image := none, hdr := {}, unloading := [], atBoundary := false, again := false, prio := none }
  let d := { s1.sched with nextStep := none, nextLaunch := none, launchReady := false, replay := false, reloads := [], recovered := true }
  let s2 := unloadRegs (putSched (putGener s1 g) d)
  each us (fun u s =>
    complete (raiseEv s Reg.pageSch 0 (.ring u.1.ring) 0x24 0 0x0002 u.1.ring [lo32 id, hi32 id, if force then live.length else 0, 0])
      u.1 0 0 0) s2

/-- IMAGE_UNLOADED: the first count at which no execution runs and no transfer is in progress (08 R768). -/
def execImageUnloaded (s : State) : Out :=
  .next <|
    if s.gener.unloading.isEmpty || s.sched.exec.running || xferBusy s || s.sched.done.isSome then s
    else unloadNow s s.gener.unloading

end Sys2Proof.Machine
end

