-- ==== Sys2Proof/Machine/Schedule.lean ====
section
/-!
DEFINITION. The schedule's own events: launches, windows, plan instances, HBM accesses, ends of executions, freezes
and lean sample checks (04 R207 to R243, 05 R283 to R298, 07 R393, R400).
-/
namespace Sys2Proof.Machine

/-- The step that launches next has the lock-step number `lock.next`; its launch waits until the twin's triple of two
steps before is held, compared or not (05 R302). -/
def lockPaced (s : State) : Bool :=
  !s.lock.on || s.lock.own.all fun t => decide (s.lock.next < t.n + 2) || s.lock.twin.any fun u => u.n == t.n

/-- The package may launch a step at all (04, 06 R356, 07 R405, R408, R411, 08 R768, 09 R475, 13 R629). -/
def stepAllowed (s : State) : Bool :=
  mayLaunch s && lockPaced s && s.hif.held.isEmpty && s.gener.unloading.isEmpty && s.boot.mapped && s.sched.done.isNone
    && (if inGroup s then azlState s == 2 || azlState s == 3 else azlState s != 6 && (s.sched.replay || rdB s Reg.sluCtl 0))

/-- A launch at the present count: the execution of a step (04 R207, R208, 05 R262, R281, 09 R459). -/
def launchStep (s : State) (im : Image) (r : StepRec) : State :=
  let rs := layRuns im r.s r.f 0 16 (stepKernels im r.exitKind)
  let lean := s.power.lean
  let s1 := launchClear s lean
  let rows := sumN (r.batch.map fun b => b.rows)
  let e : Exec :=
    { kind := .step, running := true, launch := s.count, planDur := planEnd rs, runs := rs, seq := rdF s Reg.lspSeq 15 0,
      insts := expandAll (stepEnv s im r) (imgDma im) (imgNet im) rs, lean := lean, sRec := r,
      led := { step := r.step, position := if inGroup s then memberPos s else 0 },
      rewound := rdB s Reg.dbgDivStatus 1 }
  let s2 := putSched s1 { s1.sched with exec := e, nextStep := none, nextLaunch := none, launchReady := false, saveEnd := none }
  let s3 := wrN s2 Reg.sluLast (r.batch.length % 1024 + b2n r.exitKind * 2 ^ 10 + rows % 2 ^ 16 * 2 ^ 16)
  wrN (wrN s3 Reg.tilCount (r.tiles % 2 ^ 16)) Reg.tilSf (r.s % 2 ^ 16 + r.f % 2 ^ 16 * 2 ^ 16)

/-- A launch that is missed: nothing runs, LINK_LATE counts it, and the step ends at its planned end (07 R393, 09 R469). -/
def missStep (s : State) (im : Image) (r : StepRec) (launch : Nat) : State :=
  let e : Exec :=
    { kind := .step, running := true, launch := launch, cyc := s.count - launch, missed := true, sRec := r,
      planDur := planEnd (layRuns im r.s r.f 0 16 (stepKernels im r.exitKind)),
      led := { step := r.step, position := if inGroup s then memberPos s else 0, linkLate := 1 } }
  putSched s { s.sched with exec := e, nextStep := none, nextLaunch := none, launchReady := false, recordLate := false }

/-- 512 counts have passed since a pre-emption's save that ended after L - 512 (08 R452; DESIGN CHOICE, log 46). -/
def saveOver (s : State) : Bool := match s.sched.saveEnd with | some t => decide (t + 512 ≤ s.count) | none => true

/-- STEP_LAUNCH: the step launches at its agreed count, or later where something delays it; a launch whose recovery is unfinished, and
one whose record came after its count, is missed. A point that has become unfit for the step changes first (04 R208, 05 R290, 06 R340,
07 R393, 08 R452, 09 R469). -/
def execStepLaunch (s : State) : Out :=
  .next <|
    match s.sched.nextStep, s.sched.nextLaunch, s.gener.image with
    | some r, some l, some im =>
      if s.count < l || s.sched.exec.running || s.sched.done.isSome || s.dbgp.noLaunch then s
      else if !s.sched.recovered || s.sched.recordLate then missStep s im r l
      else if stepAllowed s && s.sched.launchReady && saveOver s then
        if pointFits s (stepLean im r) then launchStep s im r else submitPoint s (stepLean im r)
      else s
    | _, _, _ => s

/-- The kernel that launches next: the one after the current (04 R208). -/
def nextRun (e : Exec) : Option KRun := e.runs[match e.cur with | some k => k + 1 | none => 0]?

/-- A launch argument of a kernel (04 R217, R218). -/
def kArg (s : State) (d : List Nat) (i : Nat) : Nat :=
  if kTiled d && i == 6 then rdF s Reg.tilSf 15 0 else if kTiled d && i == 7 then rdF s Reg.tilSf 31 16 else nthN d (2 + i)

/-- The groups of a kernel at its launch (02 R76, 04 R220). -/
def startGroups (entry n : Nat) : List Group :=
  (List.range 8).map fun g => if g < n then { started := true, pc := entry, active := allLanes } else {}

/-- The uniform registers at a launch: u1 to u8 of every group hold the arguments (02 R77). -/
def launchUnis (args : List Nat) : SMap Word :=
  (List.range 8).foldl (fun m g => (args.zipIdx).foldl (fun m a => smSet (dflt 0) m (g * 64 + 1 + a.2) (w32 a.1)) m) []

/-- A cluster at a kernel launch (02 R76 to R79, R96, 03 R151, R177, 04 R220, 05 R296, R297). -/
def launchCluster (c : Cluster) (k : Nat) (r : KRun) (args : List Nat) (autoDig : Bool) : Cluster :=
  { c with st := .running, kcyc := 0, kernel := k, icMiss := 0, ocMiss := 0, conflict := 0, mtxRows := 0, ngroups := kGroups r.desc,
           gExp := lGrid r.layer, wBits := lWidth r.layer, groups := startGroups (kEntry r.desc) (kGroups r.desc),
           lanes := [], unis := launchUnis args, preds := [], ic := [], oc := [], fills := [], sbufs := [{}, {}],
           flights := [], gportFree := 0, sfuFree := 0, mmaFree := 0, peatFree := 0, digest := digInit, autoDig := autoDig,
           peatLanded := [], issuedAt := none }

/-- Launch a kernel on every mapped cluster that is not faulted (04 R220, R222). -/
def launchKernel (s : State) (r : KRun) : State :=
  let args := (List.range 8).map (kArg s r.desc)
  let s1 := each (List.range (ncl s)) (fun l s => match physOf s l with
    | some p => if (clOf s p).st = .faulted then s
                else modCl s p fun c => launchCluster c r.idx r args (rdB s Reg.dbgDigCtl 0)
    | none => s) s
  modExec s1 fun e => { e with cur := some r.idx, ended := false }

/-- KERNEL_LAUNCH: the actions of R220 for the next kernel, at its launch cycle. -/
def execKernelLaunch (s : State) : Out :=
  .next <|
    let e := s.sched.exec
    if !e.running || e.stopped || e.draining || dieFrozen s then s
    else match nextRun e with
      | some r => if r.at_ ≤ e.cyc ∧ (e.cur.isNone = true ∨ e.ended = true) then launchKernel s r else s
      | none => s

/-- The cluster that SCH.STOP names for an overrun: of several, the lowest logical number (04 R221 names none; DESIGN CHOICE, log 24). -/
def overrun (s : State) : Option Nat :=
  (List.range (ncl s)).find? fun l => match physOf s l with
    | some p => (clOf s p).st == .running && (clOf s p).groups.any fun g => g.started && !g.finished
    | none => false

/-- The capture of R742, and the halt it asks for. -/
def capture (s : State) (k : Nat) : State :=
  if rdB s Reg.dbgDivCtl 12 && rdF s Reg.dbgDivCtl 11 0 == k then
    let s1 := each ((clusterDigests s).zipIdx) (fun d s => wr64 s (Reg.dbgCapture + 8 * d.2) d.1) s
    let s2 := wrB s1 Reg.dbgDivStatus 0 true
    if rdB s Reg.dbgDivCtl 13 && rdB s Reg.dbgLock 0 then fireHalt s2 { h := s2.count, cause := 7 } else s2
  else s

/-- Stepping by kernels, or by instructions with issues still owed, halts at a window's end (16 R734). -/
def stepWindow (s : State) : State :=
  if s.dbgp.stepMode = some 2 then fireHalt s { h := s.count, cause := 5 }
  else if s.dbgp.stepMode = some 1 then fireHalt (wrN (noteHw s Reg.dbgStepN (BitVec.allOnes 32)) Reg.dbgStepN s.dbgp.stepLeft) { h := s.count, cause := 5 }
  else s

/-- The end of the current window: a step that ends with it goes before a capture, whose cause is the higher (04 R221, 05 R298, 16 R732, R734,
R742). -/
def endWindow (s : State) (k : Nat) : State :=
  let dg := kernelDigest s
  let s1 := modExec s fun e => { e with ended := true, kdig := smSet (dflt 0) e.kdig k dg }
  let s2 := match overrun s with
    | some l => idleClusters (stopExec s1 1 l)
    | none => idleClusters s1
  capture (stepWindow s2) k

/-- WINDOW_END: the current kernel's window ends (04 R221). -/
def execWindowEnd (s : State) : Out :=
  .next <|
    let e := s.sched.exec
    if !e.running || e.stopped || e.kind != .step || dieFrozen s then s
    else match e.cur with
      | some k =>
        let r := nth e.runs k ⟨0, 0, 0, [], [], 0⟩
        if e.ended = false ∧ r.at_ + r.window ≤ e.cyc then endWindow s k else s
      | none => s

/-- The HBCs and the mesh serve the execution: it runs, or its traffic outlasts its end or its stop on a cluster fault (04 R234, 02
R762). -/
def serving (s : State) : Bool :=
  let e := s.sched.exec
  !(e.stopped && e.led.stopCause != 4) && (e.running || residual s)

/-- Plan traffic goes on in this count. -/
def moving (s : State) : Bool := !dieFrozen s && serving s

/-- The instance a plan-instance event names: the one of the current kernel's plan, or an earlier start of any kernel
that is due (04 R231). -/
def instAt (s : State) (cl : Nat) (net : Bool) (k : Nat) (p : PlanInst → Bool) : Option Nat :=
  s.sched.exec.insts.findIdx? fun i => i.cl == cl && i.net == net && i.k == k && p i

/-- An instance that has started plans the read of its first unit, whose access can start in this cycle (04 R232, R243). -/
def planFirst (s : State) (n : Nat) : State :=
  match s.sched.exec.insts[n]? with
  | some i => match i.route with
    | .hbmIn _ => if 0 < i.units then startUnitMove s n i 0 else s
    | _ => s
  | none => s

/-- PLAN_INSTANCE_START: an instance starts moving units at its start cycle; `eccs` is what its units' reads find (04 R232, 09 R455). -/
def execPlanInstanceStart (cl : Fin 128) (net : Bool) (k : Nat) (s : State) (eccs : List (Nat × Ecc) := []) : Out :=
  .next <|
    let e := s.sched.exec
    if !e.running || !mayStart s || e.draining || dieFrozen s then s
    else match instAt s cl.val net k fun i => !i.started && i.start == e.cyc with
      | some n => planFirst (modExec s fun e => { e with insts := listMod (fun i => { i with started := true, eccs := eccs }) e.insts n }) n
      | none => s

/-- Groups that wait for an instance issue again from the cycle after its completion (03 R193). -/
def wakePlan (net : Bool) (k : Nat) (c : Cluster) : Cluster :=
  { c with groups := c.groups.map fun g => if g.wait = .plan net k then { g with wait := .til (c.kcyc + 1) } else g }

/-- PLAN_INSTANCE_COMPLETE: the instance completes at its cycle T and releases the groups that wait for it (04 R236, 03 R193). -/
def execPlanInstanceComplete (cl : Fin 128) (net : Bool) (k : Nat) (s : State) : Out :=
  .next <|
    let e := s.sched.exec
    if !moving s then s
    else match instAt s cl.val net k fun i => i.started && i.doneAt.isNone && decide (instEnd i ≤ e.cyc) with
      | some n =>
        let s1 := modExec s fun e => { e with insts := listMod (fun i => { i with doneAt := some e.cyc }) e.insts n }
        if (nth e.insts n default_inst).kernel = e.cur.getD 0 then
          match physOf s1 cl.val with
          | some p => modCl s1 p (wakePlan net k)
          | none => s1
        else s1
      | none => s
where
  /-- Never used: the index found lies in the list. -/
  default_inst : PlanInst :=
    { cl := 0, net := false, k := 0, kernel := 0, start := 0, kind := 0, lane := 0, order := 0, port := 0, sadr := 0, units := 0,
      hops := 0, route := .nothing }

/-- A count at which an access of a pseudo-channel can start: its four counts lie outside every refresh window (04 R242). -/
def refreshFree (count pc : Nat) : Bool :=
  (List.range 4).all fun i => (count + i) % 4096 / 128 != pc

/-- The next access of a pseudo-channel. -/
def nextAcc (c : HbmChan) : Option HbmAcc := c.q.find? fun x => x.startedAt.isNone

/-- Mark the next access started. -/
def markStarted (count : Nat) (data : Option (List Byte)) : List HbmAcc → List HbmAcc
  | [] => []
  | x :: xs => if x.startedAt.isNone then { x with startedAt := some count, data := data } :: xs else x :: markStarted count data xs

/-- HBM_ACCESS_START: the HBC starts the next planned access when R241 to R243 allow, and not while the die is frozen (R211); a write is
done, and a read's data are taken, at its start. -/
def execHbmAccessStart (h : Fin 6) (pc : Fin 32) (s : State) : Out :=
  .next <|
    let key := chanKey h.val pc.val
    let c := chanOf s key
    match nextAcc c with
    | none => s
    | some x =>
      if !moving s || decide (s.sched.exec.cyc < x.planned) || decide (s.count < c.freeAt) || !refreshFree s.count pc.val then s
      else
        let s1 := cntReg s (onPage Reg.hbcUnits h.val) 1
        match x.wdata with
        | some bs =>
          let t := cntReg (hbmWrite (dropAcc (setChan s1 key { c with freeAt := s.count + 4 }) x) x.addr bs) Reg.nocUnits 1
          if s.sched.exec.kind = .runk then foreignWrite t x.addr 64 else t
        | none => setChan s1 key { c with freeAt := s.count + 4, q := markStarted s.count (some (memRange s.hbm x.addr 64)) c.q }

/-- The ledger source of an HBM address: image region, pool page or other, with the page (09 R463, R763). -/
def hbmSrc (s : State) (a : Nat) : Nat × Nat :=
  let h := hbmStack a
  let base := rdN s (Reg.kvpBaseLo + 8 * h) + rdF s (Reg.kvpBaseHi + 8 * h) 5 0 * 2 ^ 32
  let stride := rdN s Reg.kvpStride
  if (sectionAt s a).isSome then (5, 0)
  else if base ≤ a ∧ a < base + rdN s Reg.kvpPages * stride then (6, (a - base) / max 1 stride)
  else (7, 0)

/-- Count the outcome of an HBM read (09 R456 to R458, R467). -/
def hbmEcc (s : State) (h a : Nat) (e : Ecc) : State :=
  match e with
  | .clean => s
  | .corrected =>
    modExec (cntErr s (onPage Reg.pageHbc h) 1) fun e =>
      if (e.wbLog.countP fun x => hbmStack x == h) < 16 then { e with wbLog := e.wbLog ++ [a] } else e
  | .uncorrectable _ =>
    let src := hbmSrc s a
    let s1 := modExec (modLed s fun l => ledUe l src.1 h 0 src.2 a) fun e =>
      { e with ueStacks := if e.ueStacks.contains h then e.ueStacks else h :: e.ueStacks }
    if src.1 = 5 then
      let r := a - a % 65536
      modExec s1 fun e => if e.regions.contains r then e else { e with regions := e.regions ++ [r] }
    else s1

/-- The errors of a read outside the plans that lie in one of the byte ranges it reads (09 R455). -/
def readErrs (rs : List (Nat × Nat)) (errs : List (Nat × Ecc)) : List (Nat × Ecc) :=
  errs.filter fun e => decide (e.1 < 0x2400000000) && rs.any fun r => meets r.1 r.2 e.1 64

/-- HBM as a read with these errors delivers it: an uncorrectable unit with the bits it holds (09 R455, R458). -/
def eccMem (m : Mem) (errs : List (Nat × Ecc)) : Mem :=
  errs.foldl (fun m e => memStore m e.1 (flipBytes (eccMask e.2) (memRange m e.1 64))) m

/-- Count the errors of a read outside the plans: between executions only the corrected ones are counted, as no ledger is open (09 R456,
R458, 04 R258). -/
def eccNote (errs : List (Nat × Ecc)) (s : State) : State :=
  each errs (fun e s =>
    if s.sched.exec.running then hbmEcc s (hbmStack e.1) e.1 e.2
    else match e.2 with
      | .corrected => cntErr s (onPage Reg.pageHbc (hbmStack e.1)) 1
      | _ => s) s

/-- HBM_READ_RETURN: the data of the oldest started read return 120 counts after its start, and are held (04 R243, 09 R455). -/
def execHbmReadReturn (h : Fin 6) (pc : Fin 32) (ecc : Ecc) (s : State) : Out :=
  .next <|
    let key := chanKey h.val pc.val
    let c := chanOf s key
    match c.q.findIdx? fun x => x.wdata.isNone && !x.back && (match x.startedAt with | some t => decide (t + 120 ≤ s.count) | none => false) with
    | none => s
    | some n =>
      let put := fun (x : HbmAcc) => { x with back := true, data := x.data.map (flipBytes (eccMask ecc)) }
      let a := match c.q[n]? with | some x => x.addr | none => 0
      hbmEcc (setChan s key { c with q := listMod put c.q n }) h.val a ecc

/-- HBM_LATE: a read has not returned by the count of schedule cycle p + 256: HBC.LATE, and the execution stops (04 R243, R258). -/
def execHbmLate (h : Fin 6) (pc : Fin 32) (s : State) : Out :=
  .next <|
    let e := s.sched.exec
    if !moving s || !e.running || e.stopped then s
    else match (chanOf s (chanKey h.val pc.val)).q.find? fun x =>
        x.wdata.isNone && !x.back && decide (x.planned + 256 ≤ e.cyc) with
      | none => s
      | some x =>
        let o := onPage Reg.hbcLate h.val
        let s1 := if rdB s o 5 then s else wrN (wrF (wrB s o 5 true) o 4 0 pc.val) (onPage Reg.hbcLateCyc h.val) x.planned
        stopExec (setEvt s1 (onPage Reg.pageHbc h.val) 1) 3 0

/-- HBM_REFRESH_WINDOW: the pseudo-channel's window of this 4,096-count period begins, frozen or not (04 R213, R242). -/
def execHbmRefreshWindow (h : Fin 6) (pc : Fin 32) (s : State) : Out :=
  .next <|
    if s.count % 4096 / 128 = pc.val then
      let key := chanKey h.val pc.val
      setChan s key { chanOf s key with window := some (s.count / 4096) }
    else s

/-- The execution has stopped and the cycle of its stop has passed, or every group of every mapped cluster has finished and every
instance has completed (04 R210). A cluster still faulted from before, on which R222 launches nothing, holds it open no longer: the groups
it keeps are not this kernel's (the rule does not say so; DEDUCED, log 28). -/
def runkDone (s : State) : Bool :=
  let e := s.sched.exec
  if e.stopped then !s.clusters.any fun c => c.2.st == .running
  else e.cur.isSome && e.insts.all (fun i => i.doneAt.isSome) &&
    (List.range (ncl s)).all fun l => match physOf s l with
      | some p => (clOf s p).st == .faulted || (clOf s p).groups.all fun g => !g.started || g.finished
      | none => true

/-- The end of a RUN_KERNEL: digest, ledger, quarantine counts, remap, completion (04 R210, 05 R298, 09 R457, R459,
R472, R474, R477, 13 R613, R616). -/
def finishRunk (s : State) (rk : RunK) : State :=
  let s1 := wr64 s Reg.dbgRkDigLo (kernelDigest s)
  let s2 := writeBack (endExec s1)
  let s3 := quarStacks (quarClusters s2)
  let l := { s3.sched.exec.led with runk := true }
  let s4 := showLed (modExec s3 fun e => { e with led := l }) Reg.ldgLastRk l
  let s5 := remapNow (putGener s4 { s4.gener with xfers := s4.gener.xfers.filter fun x => x.kind != .preSave })
  stepExecEnd (finish s5 rk.ref 0 (b2n (ledClean s5 l) + 2 * b2n l.stopped) 0)

/-- EXECUTION_END: a RUN_KERNEL execution ends when all has finished, or at its stop (04 R210). -/
def execExecutionEnd (s : State) : Out :=
  .next <|
    let e := s.sched.exec
    match e.rk with
    | some rk => if e.running && e.kind == .runk && (e.stopped || !dieFrozen s) && runkDone s then finishRunk s rk else s
    | none => s

/-- SPILL_LATE, once for a step with late spill units (08 R435). -/
def spillLateEv (s : State) : State :=
  let e := s.sched.exec
  if e.spillLate = 0 then s
  else raiseEv s Reg.pageSch 0 .block 0x24 0 0x0005 0 [lo32 e.sRec.step, hi32 e.sRec.step, e.spillFirst, e.spillLate]

/-- A closed ledger travels to the entry, or is judged when the entry holds them all (07 R400, R401, 09 R462). -/
def deliverLedger (s : State) (d : DoneStep) : State :=
  let p := if inGroup s then memberPos s else 0
  if isEntry s then
    let s1 := putAzl s { s.azl with ledgers := s.azl.ledgers ++ [(p, d.ledger)] }
    if !inGroup s || s1.azl.ledgers.length == groupSize s then judge s1 (sortBy (fun a b => decide (a.1 ≤ b.1)) s1.azl.ledgers) d else s1
  else sendUp s (mkFrame s 0x11 (lo32 d.record.step) (hi32 d.record.step) 0 0 (ledWords d.ledger))

/-- The end of a step: its last sample checks are made, and the ledger closes. A step that was discarded in its execution delivers none, and
what its execution damaged is mended before the step launches again (04 R208, 05 R289, 07 R400, R406, R408, 09 R466). -/
def finishStep (s : State) : State :=
  let e := s.sched.exec
  let s1 := endExec (spillLateEv s)
  let led := s1.sched.exec.led
  let d : DoneStep := { record := e.sRec, clean := ledClean s1 led, ledger := led, frozen := e.frozen,
                        exact := rdB s1 Reg.lspStatus 2 && !rdB s1 Reg.dbgHaltStatus 4 }
  let s2 := (putSched s1 { s1.sched with
    done := (if e.dropped then none else some d), lastLaunch := e.launch, lastPlan := e.sRec.planDur, lastFrozen := e.frozen,
    kdig := if e.stopped || e.missed then s1.sched.kdig else e.kdig })
  stepExecEnd (if e.dropped then recover s2 else deliverLedger s2 d)

/-- STEP_END: at L + D plus the frozen counts the ledger closes and is sent or judged (07 R400). -/
def execStepEnd (s : State) : Out :=
  .next <|
    let e := s.sched.exec
    if e.running && e.kind == .step && !dieFrozen s && decide (e.planDur ≤ e.cyc) && (e.stopped || e.missed || e.ended) then finishStep s
    else s

/-- FREEZE_START: a hold freezes the die at its start count and sets FREEZE. R255 names the bit and no more: a debug halt, which has bits of
its own in the DBG page, does not set it (DESIGN CHOICE, log 24) (04 R211, R255). -/
def execFreezeStart (s : State) : Out :=
  .next <|
    match s.sched.freezes.findIdx? fun w => !w.active && w.start == s.count with
    | some n =>
      setEvt (putSched s { s.sched with freezes := listMod (fun w => { w with active := true }) s.sched.freezes n }) Reg.pageSch 4
    | none => s

/-- FREEZE_END: a freeze whose length has passed ends (04 R214). -/
def execFreezeEnd (s : State) : Out :=
  .next (putSched s { s.sched with freezes := s.sched.freezes.filter fun w =>
    (w.active && decide (s.count < w.start + w.len)) || (!w.active && decide (s.count ≤ w.start)) })

/-- LEAN_SAMPLE_CHECK: the oldest sampled instruction of a cluster is checked, 192 cycles after its last row at most (05 R285). -/
def execLeanSampleCheck (cl : Fin 144) (s : State) : Out :=
  .next <|
    match (clOf s cl.val).samples with
    | [] => s
    | x :: xs => checkSample (modCl s cl.val fun c => { c with samples := xs }) cl.val x

end Sys2Proof.Machine
end

