-- ==== Sys2Proof/Machine/RunKernel.lean ====
section
/-!
DEFINITION. Auxiliary kernels: RUN_KERNEL and its launch, pre-emption, resumption, and the save copies (08 R450 to R454,
13 R610, R611, 14 R645, R646).
-/
namespace Sys2Proof.Machine

/-- Bytes of the full state of one logical cluster (08 R451). -/
def fullState : Nat := 1392640

/-- The live bytes of a pre-emptible execution (08 R451). -/
def liveBytes (n : Nat) (rk : RunK) : Nat := n * (rk.liveSp + 16 * rk.livePeat + 33792 * kGroups rk.desc + 8192)

/-- The switch time (08 R451). -/
def switchTime (live : Nat) : Nat := 5000 + ceilDiv live 1280

/-- The memory that a kernel block lies in: HBM, or host memory below level 4 (13 R611, 14 R645). -/
def blockMem (s : State) : Mem := if 4 ≤ svcLevel s then s.hbm else s.host

/-- Directory record l of a kernel block (04 R219, 13 R610). -/
def dirRec (m : Mem) (a : Nat) (d : List Nat) (l : Nat) : List Nat := memWords m (a + planDir d + 16 * l) 4

/-- The block holds every part it names. -/
def blockFits (m : Mem) (a len n : Nat) : Bool :=
  let d := memWords m a 16
  decide (96 ≤ len) && decide (planDir d + 16 * n ≤ len) && (List.range n).all fun l =>
    let r := dirRec m a d l
    decide (32 * nthN r 0 + 32 * nthN r 1 ≤ len) && decide (32 * nthN r 2 + 32 * nthN r 3 ≤ len)

/-- One plan of a kernel block: `i` is 0 for DMA, 2 for network. -/
def blockPlan (m : Mem) (a : Nat) (i l : Nat) : List (List Nat) :=
  let r := dirRec m a (memWords m a 16) l
  (List.range (nthN r (i + 1))).map fun j => memWords m (a + 32 * nthN r i + 32 * j) 8

/-- The plans of every logical cluster, for one kernel. -/
def blockPlans (m : Mem) (a n i : Nat) : List (List (List (List Nat))) := [(List.range n).map (blockPlan m a i)]

/-- A RUN_KERNEL as its descriptor and block give it; a block that is too short has no plans. -/
def readRunK (s : State) (m : Mem) (c : Cmd) (fits : Bool) : RunK :=
  let w := nthN c.w
  { ref := c.ref, preempt := bitN (w 0) 18, saveAddr := w 8 + w 9 * 2 ^ 32, liveSp := w 6, livePeat := w 7,
    preload := w 10 + w 11 * 2 ^ 32, preLen := w 12, preSp := fld (w 13) 19 0, hostSrc := decide (svcLevel s < 4),
    desc := memWords m c.addr 16, layer := memWords m (c.addr + 64) 8,
    dma := (if fits then nth (blockPlans m c.addr (ncl s) 0) 0 [] else []),
    net := (if fits then nth (blockPlans m c.addr (ncl s) 2) 0 [] else []),
    block := c.addr, blockLen := c.len }

/-- The one kernel of a RUN_KERNEL (04 R210). -/
def runkRuns (rk : RunK) : List KRun := [⟨0, 16, 0, rk.desc, rk.layer, 0⟩]

/-- The instances of a RUN_KERNEL. -/
def runkInsts (s : State) (rk : RunK) : List PlanInst := expandAll (runkEnv s) [rk.dma] [rk.net] (runkRuns rk)

/-- A block's descriptors or plans break a rule (13 R610). -/
def blockBad (s : State) (rk : RunK) : Bool :=
  !launchOk [rk.layer] true rk.desc || !layerOk 1 0 rk.layer || kTiled rk.desc || lAttn rk.layer
    || !((runkRuns rk).all fun r => plansOk none (ncl s) 0 true r [rk.dma] [rk.net])
    || !startsOk (runkEnv s) (runkRuns rk) (runkRuns rk) [rk.dma] [rk.net] || !noCollision (ncl s) (runkInsts s rk)

/-- The preload breaks R611. -/
def preloadBad (s : State) (c : Cmd) (rk : RunK) : Bool :=
  rk.preload % 64 != 0 || rk.preSp % 64 != 0 || rk.preLen % 64 != 0 || decide (0x100000 < rk.preSp + rk.preLen)
    || (decide (4 ≤ svcLevel s) && (decide (0x2400000000 < c.addr + c.len) || (rk.preLen != 0 && decide (0x2400000000 < rk.preload + rk.preLen))))

/-- A plan entry has an HBC edge (14 R645). -/
def hasHbc (rk : RunK) : Bool := (rk.dma ++ rk.net).any fun p => p.any fun e => decide (eKind e ≤ 1) && decide (ePeer e < 36)

/-- A RUN_KERNEL breaks a limit of level 3 (14 R645). -/
def narrowBad (c : Cmd) (rk : RunK) : Bool := rk.preempt || decide (786432 < nthN c.w 12) || hasHbc rk

/-- A save area is in place for the full state (08 R450). -/
def saveBad (s : State) (rk : RunK) : Bool :=
  rk.preempt && (decide (rk.saveAddr < s.gener.hdr.hbmEnd) || decide (0x2400000000 < rk.saveAddr + ncl s * fullState))

/-- Another RUN_KERNEL has been accepted and has not completed (08 R450). -/
def kernelBusy (s : State) : Bool := s.sched.rkWait.isSome || auxActive s

/-- RUN_KERNEL; `errs` is what the reads of its block in HBM find (08 R450, 09 R455, 13 R610, R611, R613, 14 R646, 15 R685). -/
def doRunKernel (errs : List (Nat × Ecc)) (s0 : State) (c : Cmd) : State :=
  let es := if 4 ≤ svcLevel s0 then readErrs [(c.addr, c.len)] errs else []
  let s := eccNote es s0
  let m := eccMem (blockMem s) es
  let fits := blockFits m c.addr c.len (ncl s)
  let rk := readRunK s m c fits
  checked s c
    [(0x31, decide (svcLevel s < 3) || (decide (svcLevel s = 3) && narrowBad c rk) || mappedCount s == 0),
     (0x44, kernelBusy s), (0x45, saveBad s rk), (0x48, !fits || blockBad s rk || preloadBad s c rk)]
    fun s => ringGoesOn (submitPoint (putSched s { s.sched with rkWait := some rk }) (kLeanOk rk.desc)) c.ref

/-- RUN_KERNEL. -/
def execRunKernel (r : Fin 128) (s : State) (hostOk : Bool := true) (errs : List (Nat × Ecc) := []) : Out :=
  runCmd s r.val 0x20 (doRunKernel errs) hostOk

/-- The preload, into the scratchpad of every logical cluster (09 R455, 13 R611). -/
def preloadAll (s0 : State) (rk : RunK) (errs : List (Nat × Ecc)) : State :=
  let es := if rk.hostSrc then [] else readErrs [(rk.preload, rk.preLen)] errs
  let s := eccNote es s0
  let m := if rk.hostSrc then s.host else eccMem s.hbm es
  allCl s fun c => if c.logical.isSome then { c with spad := memCopy m rk.preload c.spad rk.preSp rk.preLen } else c

/-- The auxiliary execution launches now (04 R207, R210, 05 R281, 09 R459, R463). -/
def launchRunk (s : State) (rk : RunK) (errs : List (Nat × Ecc)) : State :=
  let lean := s.power.lean
  let s1 := launchClear (preloadAll s rk errs) lean
  let e : Exec :=
    { kind := .runk, running := true, launch := s.count, planDur := 0xFFFFFFFF, runs := runkRuns rk, insts := runkInsts s rk,
      seq := rdF s Reg.lspSeq 15 0, lean := lean, rk := some rk,
      led := { runk := true, position := if inGroup s then memberPos s else 0 } }
  putSched s1 { s1.sched with exec := e, rkWait := none }

/-- A member whose group waits, replays its forming or has stopped launches nothing, auxiliary executions included (07 R405). -/
def auxAllowed (s : State) : Bool := !(inGroup s && azlState s == 4)

/-- The host read of a preload has failed: the command has no further effect (13 R611, R614). -/
def preloadFails (rk : RunK) (hostOk : Bool) : Bool := rk.hostSrc && rk.preLen != 0 && !hostOk

/-- RUN_KERNEL_LAUNCH: between executions the waiting kernel's preload is copied and it launches, at a point it may run at, after an
execution that RESTORE_STATE has left suspended (13 R611, 04 R210, 05 R290, 15 R685, 07 R405; the last DESIGN CHOICE, log 46). -/
def execRunKernelLaunch (s : State) (hostOk : Bool := true) (errs : List (Nat × Ecc) := []) : Out :=
  .next <|
    match s.sched.rkWait with
    | some rk =>
      if mayLaunch s && auxAllowed s && !dieFrozen s && s.sched.susp.isNone then
        if !pointFits s (kLeanOk rk.desc) then submitPoint s (kLeanOk rk.desc)
        else if preloadFails rk hostOk then complete (putSched s { s.sched with rkWait := none }) rk.ref 0x63 0 0
        else launchRunk s rk errs
      else s
    | none => s

/-- Bytes of one logical cluster in a save area. -/
def areaStride (rk : RunK) : Nat := rk.liveSp + 16 * rk.livePeat + 33792 * kGroups rk.desc + 8192

/-- The bytes of a cluster's Peat registers below a bound. -/
def peatBytes (c : Cluster) (n : Nat) : List Byte := (List.range n).flatMap fun q => leBytes 16 (rdPeat c q).toNat

/-- A wait as four words of a save area. -/
def waitWords (w : Wait) : List Nat :=
  match w with
  | .none => [0, 0, 0, 0]
  | .til k => [1, k, 0, 0]
  | .fill l => [2, l, 0, 0]
  | .barg t => [3, t, 0, 0]
  | .barc id t none => [4, id, t, 0]
  | .barc id t (some a) => [5, id, t, a]
  | .plan net k => [6 + b2n net, k, 0, 0]

/-- The wait that four words spell. -/
def waitOf (w : List Nat) : Wait :=
  let a := nthN w
  if a 0 = 1 then .til (a 1) else if a 0 = 2 then .fill (a 1) else if a 0 = 3 then .barg (a 1)
  else if a 0 = 4 then .barc (a 1) (a 2) none else if a 0 = 5 then .barc (a 1) (a 2) (some (a 3))
  else if a 0 = 6 then .plan false (a 1) else if a 0 = 7 then .plan true (a 1) else .none

/-- The outcome that a held word's register reads have, as two words. -/
def eccWords (e : Ecc) : List Nat :=
  match e with
  | .clean => [0, 0]
  | .corrected => [1, 0]
  | .uncorrectable m => [2, m.toNat]

/-- The outcome that two words spell. -/
def eccOf (k m : Nat) : Ecc := if k = 1 then .corrected else if k = 2 then .uncorrectable (w32 m) else .clean

/-- A group's instruction address, masks, barrier and wait state: twelve words of the 224 bytes of R451. -/
def groupWords (g : Group) : List Nat :=
  [g.pc, g.lastPc, g.active.toNat, g.exited.toNat, b2n g.started + 2 * b2n g.finished + 4 * b2n g.held.isSome, g.stack.length]
    ++ waitWords g.wait ++ [g.held.getD 0] ++ eccWords g.regEcc

/-- A divergence entry: four words of the 512 bytes of R451. -/
def divWords (d : DivEntry) : List Nat :=
  [d.reconv + d.takenPc * 2 ^ 32, d.taken.toNat + d.joined.toNat * 2 ^ 32, b2n d.onTaken + 2 * b2n d.fixed, 0]

/-- The entry that four words spell. -/
def divOf (w : List Nat) : DivEntry :=
  let a := nthN w
  ⟨a 0 % 2 ^ 32, a 0 / 2 ^ 32, w32 (a 1), w32 (a 1 / 2 ^ 32), bitN (a 2) 0, bitN (a 2) 1⟩

/-- The group that the words of its state and of its stack spell. -/
def groupOf (w st : List Nat) : Group :=
  let a := nthN w
  { started := bitN (a 4) 0, finished := bitN (a 4) 1, pc := a 0, lastPc := a 1, active := w32 (a 2), exited := w32 (a 3),
    stack := (List.range (a 5)).map fun i => divOf ((st.drop (4 * i)).take 4),
    held := if bitN (a 4) 2 then some (a 10) else none, wait := waitOf ((w.drop 6).take 4), regEcc := eccOf (a 11) (a 12) }

/-- Eight-byte words as bytes, and back. -/
def bytes64 (ws : List Nat) : List Byte := ws.flatMap (leBytes 8)
def words64 (m : Mem) (a n : Nat) : List Nat := (List.range n).map fun i => memNat m (a + 8 * i) 8

/-- Bytes padded to a length with bytes that the spec leaves open. -/
def padTo (cyc off n : Nat) (bs : List Byte) : List Byte :=
  bs ++ (List.range (n - bs.length)).map fun i => Config.saveByte cyc (off + bs.length + i)

/-- A group's 33,792 bytes: lane registers, uniform registers, predicates, divergence stack, and its state (08 R451). -/
def groupBytes (cyc off : Nat) (c : Cluster) (g : Nat) : List Byte :=
  ((List.range 8192).flatMap fun i => leBytes 4 (smGet (dflt 0) c.lanes (g * 8192 + i)).toNat)
    ++ ((List.range 64).flatMap fun i => leBytes 4 (smGet (dflt 0) c.unis (g * 64 + i)).toNat)
    ++ ((List.range 8).flatMap fun i => leBytes 4 (smGet (dflt 0) c.preds (g * 8 + i)).toNat)
    ++ padTo cyc (off + 33056) 512 (bytes64 ((grp c g).stack.flatMap divWords))
    ++ padTo cyc (off + 33568) 224 (bytes64 (groupWords (grp c g)))

/-- The number of a stationary format in a save area; 0 is an empty buffer. -/
def fmtCode (f : Option MFmt) : Nat :=
  match f with
  | none => 0
  | some .b4 => 1
  | some .b8 => 2
  | some .f8 => 3
  | some .h16 => 4

/-- The format of a number. -/
def fmtOf (n : Nat) : Option MFmt := nth [none, some .b4, some .b8, some .f8, some .h16] n none

/-- A stationary buffer: its format, its hold, its columns and the lengths of their two slices, then the slices. -/
def bufBytes (b : SBuf) : List Byte :=
  let c := b.cols.headD ([], [])
  bytes64 [fmtCode b.fmt, b.usableAt, b.cols.length, c.1.length + c.2.length * 2 ^ 32] ++ b.cols.flatMap fun x => x.1 ++ x.2

/-- A stationary buffer as its bytes give it. -/
def bufOf (m : Mem) (a : Nat) : SBuf :=
  let w := nthN (words64 m a 4)
  let p := w 3 % 2 ^ 32
  let q := w 3 / 2 ^ 32
  { fmt := fmtOf (w 0), usableAt := w 1,
    cols := (List.range (w 2)).map fun i => (memRange m (a + 32 + i * (p + q)) p, memRange m (a + 32 + i * (p + q) + p) q) }

/-- A cache's tags, one byte for each line: bit 7 valid. -/
def tagBytes (c : SMap (Option CLine)) (n : Nat) : List Byte :=
  (List.range n).map fun i => match smGet (dflt none) c i with
    | some x => BitVec.ofNat 8 (128 + x.line / n)
    | none => 0

/-- A cache as its tags give it: a line that was kept comes back, any other is read from the scratchpad again. -/
def cacheOf (m : Mem) (a n : Nat) (kept : SMap (Option CLine)) (spad : Mem) : SMap (Option CLine) :=
  (List.range n).foldl (fun c i =>
    let t := memNat m (a + i) 1
    if t < 128 then c
    else
      let line := (t - 128) * n + i
      let bytes := match smGet (dflt none) kept i with
        | some x => if x.line = line then x.bytes else memRange spad (line * 64) 64
        | none => memRange spad (line * 64) 64
      smSet (dflt none) c i (some ⟨line, bytes⟩)) []

/-- The counters of a cluster's execution beside its groups. -/
def clusterWords (held : Nat) (c : Cluster) : List Nat :=
  [held - 16, c.digest, c.leanIdx, c.icMiss, c.ocMiss, c.conflict, c.mtxRows, b2n c.autoDig]

/-- A cluster's part of a save area: R451 names its parts and their sizes, their order and layout are DESIGN CHOICE (log 46), and bytes
beyond them are free. -/
def clusterArea (rk : RunK) (cyc off : Nat) (c : Cluster) : List Byte :=
  let g0 := off + rk.liveSp + 16 * rk.livePeat
  let z := g0 + 33792 * kGroups rk.desc
  let bufs := padTo cyc z 2816 (bufBytes (nth c.sbufs 0 {})) ++ padTo cyc (z + 2816) 2816 (bufBytes (nth c.sbufs 1 {}))
  memRange c.spad 0 rk.liveSp ++ peatBytes c rk.livePeat
    ++ ((List.range (kGroups rk.desc)).flatMap fun g => groupBytes cyc (g0 + 33792 * g) c g)
    ++ padTo cyc z 8192 (bufs ++ tagBytes c.ic 512 ++ tagBytes c.oc 256 ++ bytes64 (clusterWords cyc c))

/-- The clusters of the logical numbers. -/
def logicalCls (s : State) : SMap Cluster :=
  (List.range (ncl s)).filterMap fun l => (physOf s l).map fun p => (l, clOf s p)

/-- The array that a place in a cluster's part of a save area is read from, with the address that a ledger gives it: scratchpad, Peat file,
registers, other arrays (08 R451, 09 R463). -/
def areaSrc (rk : RunK) (o : Nat) : Nat × Nat :=
  if o < rk.liveSp then (2, o) else if o < rk.liveSp + 16 * rk.livePeat then (3, 0)
  else if o < areaStride rk - 8192 then (1, 0) else (4, 0)

/-- What the reads of the clusters' arrays for a save find: each error, at the place in the save area that receives it, counts in its cluster
and in the execution's ledger (09 R455 to R458). -/
def areaNote (rk : RunK) (errs : List (Nat × Ecc)) (s : State) : State :=
  each errs (fun e s =>
    let o := e.1 - rk.saveAddr
    match physOf s (o / max 1 (areaStride rk)) with
    | some p => let a := areaSrc rk (o % max 1 (areaStride rk)); applyEff s p (eccEff e.2 a.1 a.2)
    | none => s) s

/-- Write the save area (08 R451, R452). -/
def writeArea (s : State) (rk : RunK) (cyc : Nat) : State :=
  each (logicalCls s) (fun x s =>
    let off := x.1 * areaStride rk
    hbmWrite s (rk.saveAddr + off) (clusterArea rk cyc off x.2)) s

/-- Read words of a save area into a register map. -/
def readArea (m : Mem) (a k0 n : Nat) (rs : SMap Word) : SMap Word :=
  (List.range n).foldl (fun rs i => smSet (dflt 0) rs (k0 + i) (w32 (memNat m (a + 4 * i) 4))) rs

/-- A cluster as restored: what the area holds comes back, the groups run when the kernel had launched, and what belongs to the physical
cluster stays. A faulted cluster leaves its state by the recovery actions only (08 R453, 05 R278, 02 R133). -/
def restoreCluster (m : Mem) (rk : RunK) (ran : Bool) (l : Nat) (kept : SMap (Option CLine) × SMap (Option CLine)) (now : Cluster) :
    Cluster :=
  if now.st = .faulted then now
  else
    let a := rk.saveAddr + l * areaStride rk
    let g0 := a + rk.liveSp + 16 * rk.livePeat
    let n := kGroups rk.desc
    let ga := fun (g : Nat) => g0 + 33792 * g
    let z := ga n
    let gs := List.range n
    let w := nthN (words64 m (z + 6400) 8)
    let spad := memCopy m a now.spad 0 rk.liveSp
    let peat := (List.range rk.livePeat).foldl (fun p q => smSet (dflt 0) p q (BitVec.ofNat 128 (memNat m (a + rk.liveSp + 16 * q) 16))) now.peat
    if ran then
      { launchCluster now 0 ⟨0, 16, 0, rk.desc, rk.layer, 0⟩ [] (w 7 != 0) with
        kcyc := w 0, digest := w 1, leanIdx := w 2, icMiss := w 3, ocMiss := w 4, conflict := w 5, mtxRows := w 6, spad := spad, peat := peat,
        groups := (List.range 8).map fun g =>
          if g < n then groupOf (words64 m (ga g + 33568) 13) (words64 m (ga g + 33056) 64) else {},
        lanes := gs.foldl (fun rs g => readArea m (ga g) (g * 8192) 8192 rs) [],
        unis := gs.foldl (fun rs g => readArea m (ga g + 32768) (g * 64) 64 rs) [],
        preds := gs.foldl (fun rs g => readArea m (ga g + 33024) (g * 8) 8 rs) [],
        sbufs := [bufOf m z, bufOf m (z + 2816)],
        ic := cacheOf m (z + 5632) 512 kept.1 spad, oc := cacheOf m (z + 6144) 256 kept.2 spad }
    else { now with spad := spad, peat := peat }

/-- The count at which a running execution is pre-empted for a launch (08 R452). -/
def preemptAt (s : State) (l : Nat) : Nat :=
  match s.sched.exec.rk with
  | some rk => l - (switchTime (liveBytes (ncl s) rk) + 62500)
  | none => l

/-- PREEMPT: a pre-emptible execution stops issuing and starting instances at its count (08 R452). -/
def execPreempt (s : State) : Out :=
  .next <|
    let e := s.sched.exec
    match s.sched.nextLaunch, e.rk with
    | some l, some rk =>
      if e.running && e.kind == .runk && rk.preempt && !e.draining && !e.stopped && !dieFrozen s && decide (preemptAt s l ≤ s.count) then
        addXfer (modExec s fun e => { e with draining := true, heldCyc := e.cyc }) .preSave
      else s
    | _, _ => s

/-- Everything already started has completed (08 R452). -/
def drainOver (s : State) : Bool :=
  let e := s.sched.exec
  e.draining && !residual s && e.insts.all (fun i => !i.started || i.doneAt.isSome)
    && s.clusters.all fun c => c.2.flights.isEmpty && c.2.fills.isEmpty

/-- Drop the first started transfer of a kind. -/
def dropXfer (s : State) (p : XferKind → Bool) : State :=
  let go := fun (x : Xfer) => x.started && p x.kind
  match s.gener.xfers.findIdx? go with
  | some n => putGener s { s.gener with xfers := s.gener.xfers.eraseIdx n, again := true }
  | none => s

/-- A started transfer of a kind. -/
def xferOn (s : State) (p : XferKind → Bool) : Option Xfer := s.gener.xfers.find? fun x => x.started && p x.kind

/-- The registers and fields that come back with a suspended execution (05 R288, R309, 08 R453). -/
def snapLaunch (s : State) : List (Nat × Word) := launchFields.map fun f => (f.1, rdReg s f.1 &&& f.2)

/-- They come back. -/
def backLaunch (s : State) (rs : List (Nat × Word)) : State :=
  each (launchFields.zip rs) (fun x s => wrReg s x.1.1 ((rdReg s x.1.1 &&& ~~~ x.1.2) ||| x.2.2)) s

/-- The lines of the caches, by logical cluster. -/
def cacheLines (s : State) : SMap (SMap (Option CLine) × SMap (Option CLine)) := (logicalCls s).map fun x => (x.1, (x.2.ic, x.2.oc))

/-- The package suspends the execution, its pending sample checks made; a save that ends within 512 counts of the launch it was made for
delays it; with no execution running, a remap that is due is made (05 R285, 08 R451, R452, 09 R474, events). -/
def suspend (s0 : State) (rk : RunK) (errs : List (Nat × Ecc)) : State :=
  let es := readErrs [(rk.saveAddr, ncl s0 * areaStride rk)] errs
  let s := areaNote rk es (drainSamples s0)
  let e := s.sched.exec
  let live := liveBytes (ncl s) rk
  let t := writeArea s rk e.heldCyc
  let s1 := dropXfer (putHbm t (eccMem t.hbm es)) (· == .preSave)
  let late := match s.sched.nextLaunch with | some l => decide (l < s.count + 512) | none => false
  let u : Suspended := { rk := rk, cyc := e.heldCyc, exec := { e with running := false, draining := false, cyc := e.heldCyc }, live := live,
                         regs := snapLaunch s, lines := cacheLines s, resuming := none }
  let s2 := idleClusters (putSched s1 { s1.sched with
    susp := some u, exec := { s1.sched.exec with running := false, draining := false, rk := none },
    saveEnd := if late then some s.count else s1.sched.saveEnd })
  remapNow (raiseEv s2 Reg.pageSch 0 (.ring rk.ref.ring) 0x24 0 0x0003 rk.ref.ring [live, switchTime live, u.cyc, 0])

/-- PREEMPT_SAVE_DONE: drain and save have ended, and the execution is suspended (08 R452, 09 R455). -/
def execPreemptSaveDone (s : State) (errs : List (Nat × Ecc) := []) : Out :=
  .next <|
    match s.sched.exec.rk with
    | some rk =>
      match xferOn s (· == .preSave) with
      | some x => if drainOver s && decide (x.doneAt ≤ s.count) then suspend s rk errs else s
      | none => s
    | none => s

/-- The earliest next launch count (06 R340, 07 R392, 08 R453). -/
def earliestLaunch (s : State) : Nat := s.sched.nextLaunch.getD (launchAfter s (cDown s))

/-- No step can launch soon: nothing is agreed and nothing is eligible to be. -/
def farLaunch (s : State) (need : Nat) : Bool :=
  decide (s.count + need ≤ earliestLaunch s) || (s.sched.nextLaunch.isNone && (eligibleSet s).isEmpty)

/-- The counts that must lie ahead of the next launch for a resumption (08 R453). -/
def resumeNeed (u : Suspended) : Nat := 2 * switchTime u.live + 62500 + 12500

/-- The point that a suspended execution goes on at: its own, but not the lean point while LEAN_EN is 0 or the sampler forces the nominal one
(01 R69, 05 R290, 15 R684; DEDUCED, log 67). -/
def backPoint (s : State) (u : Suspended) : Bool := u.exec.lean && s.power.leanEn && !forcing s

/-- That point is selected before the restore. -/
def pointBack (s : State) (u : Suspended) : State := selectPoint s (backPoint s u)

/-- EXECUTION_RESUME: the restore of a suspended execution is asked for when there is time enough; it takes its turn among the transfers
(08 R431, R453, 07 R405). -/
def execExecutionResume (s : State) : Out :=
  .next <|
    match s.sched.susp with
    | some u =>
      if u.resuming.isNone && mayLaunch s && auxAllowed s && s.sched.done.isNone && farLaunch s (resumeNeed u) then
        if s.power.lean = backPoint s u then
          addXfer (putSched s { s.sched with susp := some { u with resuming := some s.count } }) .restore
        else pointBack s u
      else s
    | none => s

/-- The execution goes on from its held schedule cycle, with its registers, its plan instances and its point (08 R453, events). -/
def resumeNow (s : State) (u : Suspended) (errs : List (Nat × Ecc)) : State :=
  let es := readErrs [(u.rk.saveAddr, ncl s * areaStride u.rk)] errs
  let m := eccMem s.hbm es
  let s1 := each (List.range (ncl s)) (fun l s => match physOf s l with
    | some p => modCl s p fun c => restoreCluster m u.rk u.exec.cur.isSome l (smGet (dflt ([], [])) u.lines l) c
    | none => s) (dropXfer s (· == .restore))
  let e := { u.exec with kind := .runk, running := true, cyc := u.cyc, rk := some u.rk, lean := s.power.lean }
  let s2 := wrB (backLaunch (putSched s1 { s1.sched with exec := e, susp := none }) u.regs) Reg.lspStatus 0 s.power.lean
  raiseEv (eccNote es s2) Reg.pageSch 0 (.ring u.rk.ref.ring) 0x24 0 0x0004 u.rk.ref.ring [u.cyc, 0, 0, 0]

/-- RESTORE_DONE: t_sw after it began, the restore ends; its reads of HBM are reads of the execution (08 R451, R453, 09 R455, R458). -/
def execRestoreDone (s : State) (errs : List (Nat × Ecc) := []) : Out :=
  .next <|
    match s.sched.susp, xferOn s (· == .restore) with
    | some u, some x =>
      if decide (x.doneAt ≤ s.count) && mayLaunch s && auxAllowed s then
        if s.power.lean = backPoint s u then resumeNow s u errs else pointBack s u
      else s
    | _, _ => s

/-- SAVE_STATE (08 R454, 14 R646). -/
def doSaveState (s : State) (c : Cmd) : State :=
  checked s c [(0x31, decide (svcLevel s < 4)), (0x46, c.len != 0 && s.sched.susp.isNone)]
    fun s => if c.len = 0 then complete s c.ref 0 0 0 else addXfer s (.saveState c.ref c.addr c.len)

/-- SAVE_STATE. -/
def execSaveState (r : Fin 128) (s : State) : Out := runCmd s r.val 0x21 doSaveState

/-- RESTORE_STATE (08 R454, 14 R641). -/
def doRestoreState (s : State) (c : Cmd) : State :=
  checked s c [(0x31, decide (svcLevel s < 4)), (0x47, c.len != 0 && memNat s.host c.addr 4 != ncl s)]
    fun s => if c.len = 0 then complete s c.ref 0 0 0 else addXfer s (.restoreState c.ref c.addr c.len)

/-- RESTORE_STATE. -/
def execRestoreState (r : Fin 128) (s : State) (hostOk : Bool := true) : Out := runCmd s r.val 0x22 doRestoreState hostOk

/-- The 256-byte header of a save copy: logical count, epoch and live-byte parameters; then the copy's number, the held schedule cycle, the
save area, whether the kernel had launched and its point, its kernel block, the sums of the drift statistic, LSP.SEQ, the launch-cleared
registers with the class, the ledger and the frozen counts (08 R454; the layout is DESIGN CHOICE, log 46). -/
def copyHeader (s : State) (no : Nat) (u : Suspended) : List Byte :=
  let e := u.exec
  let bs := ([ncl s, runEpoch s, u.rk.liveSp, u.rk.livePeat, kGroups u.rk.desc].flatMap (leBytes 4))
    ++ bytes64 [no, u.cyc, u.rk.saveAddr, b2n e.cur.isSome + 2 * b2n e.lean, u.rk.block, u.rk.blockLen, e.sumAll, e.nAll, e.seq]
    ++ (u.regs.flatMap fun x => leBytes 4 x.2.toNat) ++ ((ledWords e.led).flatMap (leBytes 4)) ++ leBytes 8 e.frozen
  bs ++ List.replicate (256 - bs.length) 0

/-- Write a save copy, within the space given (08 R454, 09 R455). -/
def copyOut (s0 : State) (u : Suspended) (addr len : Nat) (errs : List (Nat × Ecc)) : State :=
  let n := min u.live (len - 256)
  let es := readErrs [(u.rk.saveAddr, n)] errs
  let s := eccNote es s0
  let no := s.sched.copyNo + 1
  let s1 := hostWrite s 0 addr ((copyHeader s no u).take len)
  putSched (hostCopy s1 0 (eccMem s1.hbm es) u.rk.saveAddr (addr + 256) n) { s1.sched with copyNo := no, copies := smSet (dflt none) s1.sched.copies no (some u) }

/-- A suspended execution under another command's reference. -/
def Suspended.withRef (u : Suspended) (r : CmdRef) : Suspended := { u with rk := { u.rk with ref := r } }

/-- The RUN_KERNEL that a copy's header names, with its kernel block as it lies in HBM (08 R451, R454, 13 R610). -/
def copyRunK (s : State) (a : Nat) : RunK :=
  let m := memNat s.host
  let b := m (a + 0x34) 8
  let n := m (a + 0x3C) 8
  let fits := blockFits s.hbm b n (ncl s)
  { ref := { remote := true }, preempt := true, saveAddr := m (a + 0x24) 8, liveSp := m (a + 8) 4, livePeat := m (a + 12) 4,
    preload := 0, preLen := 0, preSp := 0, hostSrc := false, desc := memWords s.hbm b 16, layer := memWords s.hbm (b + 64) 8,
    dma := (if fits then nth (blockPlans s.hbm b (ncl s) 0) 0 [] else []), net := (if fits then nth (blockPlans s.hbm b (ncl s) 2) 0 [] else []),
    block := b, blockLen := n }

/-- The ledger that eight words carry (07 R370, 09 R463). -/
def ledgerOf (ws : List Nat) : Ledger :=
  let w := nthN ws
  { step := w 0 + w 1 * 2 ^ 32, uncorr := fld (w 2) 15 0, spill := fld (w 2) 31 16, nonfinite := fld (w 3) 15 0,
    linkLate := fld (w 3) 31 16, leanDrift := fld (w 4) 15 0, position := fld (w 4) 23 16, runk := bitN (w 4) 24,
    stopped := bitN (w 4) 25, stopCause := fld (w 4) 29 26, ueSrc := fld (w 5) 2 0, ueStack := fld (w 5) 5 3,
    ueCluster := fld (w 5) 13 6, uePage := fld (w 5) 31 14, ueAddr := w 6 + fld (w 7) 5 0 * 2 ^ 32 }

/-- A plan instance as a drained execution holds it at a schedule cycle: one that had started has completed (08 R452). -/
def drainedInst (cyc : Nat) (i : PlanInst) : PlanInst :=
  if i.start < cyc then { i with started := true, nRead := i.units, nWrite := i.units, doneAt := some i.start } else i

/-- A copy of another package, or one made before a reset, as its header gives it (DESIGN CHOICE, log 46). -/
def copyForeign (s : State) (a : Nat) : Suspended :=
  let rk := copyRunK s a
  let m := memNat s.host
  let f := m (a + 0x2C) 8
  let cyc := m (a + 0x1C) 8
  { rk := rk, cyc := cyc, live := liveBytes (ncl s) rk, resuming := none,
    regs := launchFields.zipIdx.map fun x => (x.1.1, w32 (m (a + 0x5C + 4 * x.2) 4) &&& x.1.2),
    exec := { kind := .runk, launch := s.count, planDur := 0xFFFFFFFF, runs := runkRuns rk, cur := if bitN f 0 then some 0 else none,
              insts := (runkInsts s rk).map (drainedInst cyc), cyc := cyc, lean := bitN f 1, rk := some rk, sumAll := m (a + 0x44) 8,
              nAll := m (a + 0x4C) 8, seq := m (a + 0x54) 8, led := ledgerOf (memWords s.host (a + 0xB4) 8), frozen := m (a + 0xD4) 8 } }

/-- The execution that a save copy at a host address holds, wherever the host has moved it (05 R277, 08 R454). -/
def copyAt (s : State) (a : Nat) : Suspended :=
  let no := memNat s.host (a + 0x14) 8
  match (smGet (dflt none) s.sched.copies no : Option Suspended) with
  | some k => if memRange s.host a 256 = copyHeader s no k then k else copyForeign s a
  | none => copyForeign s a

/-- Take back a save copy: its execution is suspended, in the place of one that is. A RUN_KERNEL that waits for its launch launches after it (08
R454; the last DESIGN CHOICE, log 46). -/
def copyIn (s : State) (addr len : Nat) : State :=
  let u := (copyAt s addr).withRef (match s.sched.susp with | some u => u.rk.ref | none => { remote := true })
  let m := memCopy s.host (addr + 256) s.hbm u.rk.saveAddr (min u.live (len - 256))
  putSched (putHbm s m) { s.sched with susp := some { u with resuming := s.sched.susp.bind (·.resuming) } }

/-- A copy of the suspended state between HBM and host memory. -/
def isCopy (k : XferKind) : Bool := match k with | .saveState .. => true | .restoreState .. => true | _ => false

/-- STATE_COPY_DONE: the copy ends and its command completes; `errs` is what the reads of HBM find (08 R454, 09 R455, 13 R614, R616). -/
def execStateCopyDone (hostOk : Bool) (s : State) (errs : List (Nat × Ecc) := []) : Out :=
  .next <|
    match xferOn s isCopy with
    | some x =>
      if s.sched.exec.running then s
      else
        let s1 := dropXfer s isCopy
        match x.kind with
        | .saveState ref addr len =>
          if !hostOk then complete s1 ref 0x63 0 0
          else match s.sched.susp with
            | some u => complete (copyOut s1 u addr len errs) ref 0 (min len (256 + u.live)) 0
            | none => complete s1 ref 0x46 0 0
        | .restoreState ref addr len => if hostOk then complete (copyIn s1 addr len) ref 0 0 0 else complete s1 ref 0x63 0 0
        | _ => s1
    | none => s

end Sys2Proof.Machine
end

