-- ==== Sys2Proof/Machine/Transfers.lean ====
section
/-!
DEFINITION. Host transfers, park blocks, the spill stream, and staging and switching firmware epochs (08 R429 to R447,
07 R409 to R411, 14 R654, R655).
-/
namespace Sys2Proof.Machine

/-- The place of a transfer in the order of R431. -/
def xferRank (k : XferKind) : Nat :=
  match k with
  | .preSave => 0
  | .restore => 1
  | .park _ => 2
  | .unpark _ => 3
  | .saveState .. => 4
  | .restoreState .. => 4

/-- A transfer that is not served yet: the save of a session that is still being read back waits for the read, a park or a read for the
group's knowledge of it, and a restore for time enough before the next launch (08 R439, R441, R443, R453; DEDUCED, logs 32 and 40). -/
def xferHeld (s : State) (k : XferKind) : Bool :=
  match k with
  | .park c => (ctxOf s c).reading || !(ctxOf s c).told
  | .unpark c => !(ctxOf s c).told
  | .restore => match s.sched.susp with | some u => !farLaunch s (resumeNeed u) | none => false
  | _ => false

/-- The next pending transfer: the first of the lowest rank (08 R431). -/
def nextXfer (s : State) : Option Nat :=
  let xs := s.gener.xfers.zipIdx
  ((sortBy (fun a b => decide (xferRank a.1.kind ≤ xferRank b.1.kind)) xs).find? fun x => !x.1.started && !xferHeld s x.1.kind).map (·.2)

/-- A transfer may start now: after the write-backs of an ended execution, while no launch is near (08 R429, R430, R452, 09 R457). -/
def xferMay (s : State) (k : XferKind) : Bool :=
  if k = .preSave then drainOver s
  else !s.sched.exec.running && s.sched.exec.wbLog.isEmpty
    && (match s.sched.nextLaunch with | some l => decide (s.count + 512 ≤ l) | none => true)

/-- How long a transfer takes at least: the pre-emption's save and restore have a time (08 R451). -/
def xferTime (s : State) (k : XferKind) : Nat :=
  match k, s.sched.exec.rk, s.sched.susp with
  | .preSave, some rk, _ => switchTime (liveBytes (ncl s) rk)
  | .restore, _, some u => switchTime u.live
  | _, _, _ => 0

/-- HOST_TRANSFER_START: one transfer at a time starts, in the order of R431. -/
def execHostTransferStart (s : State) : Out :=
  .next <|
    if xferBusy s then s
    else match nextXfer s with
      | some n =>
        match s.gener.xfers[n]? with
        | some x =>
          if xferMay s x.kind then
            putGener s { s.gener with xfers := listPut s.gener.xfers n ⟨x.kind, true, s.count + xferTime s x.kind⟩ }
          else s
        | none => s
      | none => s

/-- The byte ranges of one layer: local offset, canonical offset, length (08 R439). -/
def layerRanges (off : Nat) : Nat → List (Nat × Nat) → List (Nat × Nat × Nat)
  | _, [] => []
  | local_, r :: rs => (local_, off + r.1, r.2) :: layerRanges off (local_ + r.2) rs

/-- The ranges of a page that this position holds: layer, local offset, canonical offset, length (08 R439). -/
def pageRanges (s : State) : List (Nat × Nat × Nat × Nat) :=
  match s.gener.image with
  | some im => (im.parkMap.zipIdx).flatMap fun l => (layerRanges l.1.off 0 l.1.ranges).map fun r => (l.2, r.1, r.2.1, r.2.2)
  | none => []

/-- The host address of page k of a park block. -/
def blockPage (s : State) (a len k : Nat) : Nat := a + parkP0 len + k * canonPage s

/-- The first 248 bytes of a park block (08 R438). -/
def blockHeader (s : State) (x : Context) (swap : Bool) : List Byte :=
  let tok := if swap then genAddr x else 0
  leBytes 4 0x4B524150 ++ leBytes 4 1 ++ leBytes 8 s.gener.hdr.ident ++ leBytes 2 (runEpoch s) ++ leBytes 2 x.sid
    ++ leBytes 4 (b2n swap + 2 * b2n x.exitLast) ++ leBytes 8 (x.len % 2 ^ 48) ++ leBytes 4 x.limit ++ leBytes 4 x.budget
    ++ leBytes 4 x.deadline ++ leBytes 2 x.temp ++ leBytes 2 x.topK ++ leBytes 4 (x.topP % 2 ^ 16)
    ++ ((List.range 4).flatMap fun i => leBytes 4 (nthN x.stops i)) ++ leBytes 16 x.seed ++ leBytes 8 tok ++ leBytes 4 x.ring
    ++ leBytes 4 (pagesFor x.len) ++ leBytes 4 (canonPage s) ++ List.replicate 0x90 0

/-- The HBM address of a context's exit map (06 R344). -/
def exitMapOf (s : State) (c : Nat) : Nat := kvpAddr s Reg.kvpExitmapLo + c * rdN s Reg.kvpCtxMax / 8

/-- The ranges of HBM that the save of a context reads: its exit map, and its own ranges of each page (08 R438, R439). -/
def parkReads (s : State) (c : Nat) (x : Context) : List (Nat × Nat) :=
  (exitMapOf s c, ceilDiv x.len 8) :: (x.pages.take (pagesFor x.len)).flatMap fun p =>
    (pageRanges s).map fun r => (pageAddrOf s r.1 p + r.2.1, r.2.2.2)

/-- Write a context's park block from HBM as its reads deliver it, for the function of its session (08 R438, R439, 09 R455, 13 R597). -/
def writeBlock (s : State) (hbm : Mem) (c : Nat) (x : Context) (a : Nat) (swap : Bool) : State :=
  let n := ceilDiv x.len 8
  let fn := ctxFn s x
  let s1 := hostWrite s fn a (blockHeader s x swap)
  let s2 := hostCopy s1 fn hbm (exitMapOf s c) (a + 0x100) n
  let s3 := hostWrite s2 fn (a + 0xF8) (leBytes 8 (parkDigest s2 a x.len))
  let put := fun (p : Nat × Nat) (t : State) => each (pageRanges s) (fun r t =>
    hostCopy t fn hbm (pageAddrOf s r.1 p.1 + r.2.1) (blockPage s a x.len p.2 + r.2.2.1) r.2.2.2) t
  each ((x.pages.take (pagesFor x.len)).zipIdx) put s3

/-- Read a park block's exit map and pages into a context's (08 R443). -/
def readBlock (s : State) (c : Nat) (x : Context) : State :=
  let a := x.blockAt
  let m0 := memCopy s.host (a + 0x100) s.hbm (exitMapOf s c) (ceilDiv x.len 8)
  let put := fun (p : Nat × Nat) (m : Mem) => (pageRanges s).foldl (fun m r =>
    memCopy s.host (blockPage s a x.len p.2 + r.2.2.1) m (pageAddrOf s r.1 p.1 + r.2.1) r.2.2.2) m
  putHbm s (each ((x.pages.take (pagesFor x.len)).zipIdx) put m0)

/-- The places of a block's pages that this position holds, from the first page on, each with its length (08 R439). -/
def blockParts (s : State) (len : Nat) : List (Nat × Nat) :=
  (List.range (pagesFor len)).flatMap fun k => (pageRanges s).map fun r => (k * canonPage s + r.2.2.1, r.2.2.2)

/-- What the rows of a block stand for is kept beside what this position has written of it, errors of the reads included (05 R277). -/
def noteBlock (s : State) (x : Context) (a taint : Nat) : State :=
  let n : BlockNote :=
    { sid := x.sid, seed := x.seed, len := x.len, exits := memRange s.host (a + 0x100) (ceilDiv x.len 8),
      parts := (blockParts s x.len).map fun p => (p.1, memRange s.host (a + parkP0 x.len + p.1) p.2), hist := x.hist, taint := taint }
  putGener s { s.gener with blocks := n :: s.gener.blocks.filter fun e => e != n }

/-- Some bytes of a block's pages are still those noted, as far as they lie in a range that this position reads (05 R277, 08 R439). -/
def partKept (s : State) (a : Nat) (own : List (Nat × Nat)) (p : Nat × List Byte) : Bool :=
  own.all fun r =>
    let lo := max p.1 r.1
    let hi := min (p.1 + p.2.length) (r.1 + r.2)
    decide (hi ≤ lo) || memRange s.host (a + lo) (hi - lo) == (p.2.drop (lo - p.1)).take (hi - lo)

/-- A block is the one that a note tells of: the same session and exit map, and the same rows as far as both the note and this position hold
them. Its address, ring, deadline and the arrangement of its members play no part (05 R263, R276, R277). -/
def noteOf (s : State) (x : Context) (n : BlockNote) : Bool :=
  n.sid == x.sid && n.seed == x.seed && n.len == x.len && memRange s.host (x.blockAt + 0x100) (ceilDiv x.len 8) == n.exits
    && n.parts.all (partKept s (x.blockAt + parkP0 x.len) (blockParts s x.len))

/-- What the rows read from a block stand for: what it was written with, wherever it lies now and whichever members wrote it. For a block that
this package never wrote the sender says by which tokens its rows were made; without one for every row they stand for nothing known (05
R277, 08 R443; DEDUCED, log 68). -/
def takeBlock (s : State) (x : Context) (rows : List (Nat × Bool × Nat)) : List (Nat × Bool × Nat) × Nat :=
  match s.gener.blocks.find? (noteOf s x) with
  | some e => (e.hist, e.taint)
  | none => if rows.length = x.len then (rows, 0) else (rows, s.draw + 1)

/-- The context of a started park or unpark. -/
def parkCtx (k : XferKind) : Option Nat := match k with | .park c => some c | _ => none
def unparkCtx (k : XferKind) : Option Nat := match k with | .unpark c => some c | _ => none

/-- What follows a completed save: the close that waited, a held join, or the PARK's completion (08 R441, R447, 13 R613). -/
def afterSave (s : State) (c : Nat) (p : ParkReq) : State :=
  let x := ctxOf s c
  let s1 := sessEv s Reg.pageSlu 0 0x20 0x0006 x [c + b2n p.swap * 2 ^ 16, parkSize s x.len, 0, 0]
  let j : Join := { ref := { remote := true }, unpark := true, seq := x.swapSeq, deferrals := 0, deferred := false, swap := true }
  let s2 := modCtx s1 c fun x => { x with park := some { p with saved := true }, blockAt := p.addr, join := if p.swap then some j else x.join }
  let s3 := if p.swap then s2 else finish s2 p.ref 0 0 0
  if x.closeAfter then idleCtx s3 c else s3

/-- Some read of a save was uncorrectable, so that the block's rows are not those of its tokens (09 R458). -/
def saveSpoilt (errs : List (Nat × Ecc)) : Bool := errs.any fun e => eccMask e.2 != 0

/-- The save of a park ends: its block is written and noted (08 R438, R441, 09 R455). -/
def saveBlock (s0 : State) (c : Nat) (p : ParkReq) (errs : List (Nat × Ecc)) : State :=
  let x := ctxOf s0 c
  let es := readErrs (parkReads s0 c x) errs
  let s := eccNote es s0
  let taint := if saveSpoilt es then s.draw + 1 else x.taint
  let s1 := putDraw (noteBlock (writeBlock s (eccMem s.hbm es) c x p.addr p.swap) x p.addr taint) (s.draw + b2n (saveSpoilt es))
  siteCheck (afterSave s1 c p)

/-- A write of a park's block has failed: the command completes with HOST_ACCESS and nothing further happens; a close that waited for the save
takes place (13 R614). -/
def saveFails (s : State) (c : Nat) (p : ParkReq) : State :=
  let s1 := modCtx (finish s p.ref 0x63 0 0) c fun x => { x with park := none }
  if (ctxOf s1 c).closeAfter then idleCtx s1 c else s1

/-- PARK_SAVE_DONE: the block of the park in progress has been written; a swap park, which no command waits for, is written again when a write
fails. `errs` is what its reads of HBM find (08 R441, R445, 09 R455, 13 R614). -/
def execParkSaveDone (s : State) (hostOk : Bool := true) (errs : List (Nat × Ecc) := []) : Out :=
  .next <|
    match (xferOn s fun k => (parkCtx k).isSome).bind fun x => parkCtx x.kind with
    | some c =>
      if s.sched.exec.running then s
      else match (ctxOf s c).park with
        | some p =>
          let t := dropXfer s fun k => (parkCtx k).isSome
          if hostOk then saveBlock t c p errs else if p.swap then s else saveFails t c p
        | none => dropXfer s fun k => (parkCtx k).isSome
    | none => s

/-- The read of an unpark ends: its rows are those of its block (08 R443, 13 R613, R616). -/
def readEnds (s : State) (c : Nat) (rows : List (Nat × Bool × Nat)) : State :=
  let x := ctxOf s c
  let h := takeBlock s x rows
  let s1 := putDraw (readBlock s c x) (s.draw + b2n (h.2 == s.draw + 1))
  let s2 := match x.unparkRef with
    | some r => finish s1 r 0 c 0
    | none => s1
  siteCheck (modCtx s2 c fun x => { x with reading := false, unparkRef := none, accrued := 0, hist := h.1, taint := h.2 })

/-- A read of an unpark's block has failed: the command completes with HOST_ACCESS, and the session is parked again (13 R614). -/
def readFails (s : State) (c : Nat) (r : CmdRef) : State :=
  freeCtxPages (modCtx (finish s r 0x63 0 0) c fun x => { x with st := .parked, reading := false, unparkRef := none }) c

/-- UNPARK_READ_DONE: the pages of the unpark in progress have been read; a swap unpark, which no command waits for, is read again when a read
fails. `rows` tells by which tokens the rows of a block were made that this package never wrote (05 R277, 08 R443, 13 R613, R614). -/
def execUnparkReadDone (s : State) (hostOk : Bool := true) (rows : List (Nat × Bool × Nat) := []) : Out :=
  .next <|
    match (xferOn s fun k => (unparkCtx k).isSome).bind fun x => unparkCtx x.kind with
    | some c =>
      if s.sched.exec.running then s
      else
        let t := dropXfer s fun k => (unparkCtx k).isSome
        if hostOk then readEnds t c rows
        else match (ctxOf s c).unparkRef with
          | some r => readFails t c r
          | none => s
    | none => s

/-- The kernels of the execution read spill units (08 R433). -/
def readsSpill (e : Exec) : Bool := e.insts.any fun i => match i.route with | .spillIn _ => true | _ => false

/-- SPILL_STREAM_START: at launch + 2,500 the stream begins (08 R432, R433). -/
def execSpillStreamStart (s : State) : Out :=
  .next <|
    let e := s.sched.exec
    if e.running && !e.stopped && e.kind == .step && s.gener.hdr.q != 0 && readsSpill e && decide (e.launch + 2500 ≤ s.count) then
      modExec s fun e => { e with spillOn := true }
    else s

/-- The bytes of a staged image in host memory. -/
def stagedBytes (s : State) (a len : Nat) : List Byte := memRange s.host a len

/-- STAGE_EPOCH: the checks of the host copy; at LENGTH 0 what the inactive slot holds is verified again. One that comes while another is under
way follows it (07 R409, 13 R612, 14 R646, R654; the last DESIGN CHOICE, log 57). -/
def doStageEpoch (s : State) (c : Cmd) : State :=
  let b := stagedBytes s c.addr c.len
  checked s c
    [(0x31, decide (svcLevel s < 4)), (0x22, s.azl.epochTo.isSome),
     (0x24, c.len != 0 && (decide (c.len < 512) || c.len != 512 + fwLength b || fwStatus s b != 1))]
    fun s => putBoot s { s.boot with staging := s.boot.staging ++ [(c.ref, b)] }

/-- STAGE_EPOCH. -/
def execStageEpoch (r : Fin 128) (s : State) (hostOk : Bool := true) : Out := runCmd s r.val 0x31 doStageEpoch hostOk

/-- This member has staged an epoch; the entry learns of it (07 R409). -/
def noteStaged (s : State) (pos epoch : Nat) : State :=
  putAzl s { s.azl with staged := (pos, epoch) :: s.azl.staged.filter fun x => x.1 != pos }

/-- The inactive slot is programmed and valid (07 R409, R416, 14 R654). -/
def stagedOk (s : State) (epoch : Nat) : State :=
  let s1 := noteStaged (wrF s Reg.azlEpoch 31 16 epoch) (memberPos s) epoch
  if inGroup s1 && !isEntry s1 then sendUp s1 (mkFrame s1 0x19 epoch 0 0 0 []) else s1

/-- The staged image verifies in the inactive slot, or it does not and the command completes with a code (14 R654). -/
def stageEnds (s : State) (ref : CmdRef) (ok : Bool) (code : Nat) : State :=
  let slot := inactiveSlot s
  let st := slotStatus s slot
  if ok && st == 1 then complete (stagedOk (noteSlot s slot 1) (fwEpoch (slotBytes s slot))) ref 0 0 0
  else complete (wrF (noteSlot s slot (if st = 1 then 2 else st)) Reg.azlEpoch 31 16 0) ref code 0 0

/-- STAGE_DONE: the first image under way has been programmed into the erased slot and read back, or what was there has been verified. A
failure of the flash, or a read-back that does not verify, leaves the slot erased; without an image the flash is untouched and the code is
FIRMWARE_INVALID (13 R612, R615, 14 R654). -/
def execStageDone (flashOk : Bool) (s : State) : Out :=
  .next <|
    match s.boot.staging with
    | [] => s
    | (ref, []) :: q => stageEnds (putBoot s { s.boot with staging := q }) ref true 0x24
    | (ref, b :: bs) :: q =>
      let base := slotBase (inactiveSlot s)
      let bare := flashErase s.boot.flash base 0x200000
      let s1 := putBoot s { s.boot with staging := q, flash := flashStore bare base (b :: bs) }
      let ok := flashOk && slotStatus s1 (inactiveSlot s1) == 1
      stageEnds (if ok then s1 else putBoot s1 { s1.boot with flash := bare }) ref ok 0x25

/-- Every position has staged an epoch; the entry alone holds what the others have staged, so any other package knows only itself (07 R409,
R410). -/
def allStaged (s : State) (epoch : Nat) : Bool :=
  rdF s Reg.azlEpoch 31 16 == epoch && epoch != 0 &&
    (!inGroup s || !isEntry s || (List.range (groupSize s)).all fun p => p == memberPos s || s.azl.staged.contains (p, epoch))

/-- The step whose commit the switch follows: the next commit's, or the last one's when nothing is under way (07 R411; DEDUCED, log 47). -/
def switchStep (s : State) : Nat :=
  if s.sched.nextStep.isSome || s.sched.done.isSome || (s.sched.exec.running && s.sched.exec.kind == .step) then lastCommit s + 1
  else lastCommit s

/-- SWITCH_EPOCH (07 R410, R411). -/
def doSwitchEpoch (s : State) (c : Cmd) : State :=
  let e := fld (nthN c.w 6) 15 0
  checked s c
    [(0x20, !allStaged s e), (0x21, e == runEpoch s), (0x22, s.azl.epochTo.isSome), (0x23, notEntry s)]
    fun s =>
      let n := switchStep s
      let s1 := wr64 (putAzl s { s.azl with epochTo := some e }) Reg.azlSwitchLo n
      let s2 := if inGroup s1 then sendDown s1 (mkFrame s1 0x1A e (lo32 n) (hi32 n) 0 []) else s1
      complete s2 c.ref 0 0 0

/-- SWITCH_EPOCH. -/
def execSwitchEpoch (r : Fin 128) (s : State) : Out := runCmd s r.val 0x32 doSwitchEpoch

end Sys2Proof.Machine
end

