-- ==== Sys2Proof/Machine/Receive.lean ====
section
/-!
DEFINITION. What a port does with a received frame before its kind counts, resending, the handshake and the forming of a
group (07 R367 to R382, R394 to R396, R407, R411, R415).
-/
namespace Sys2Proof.Machine

/-- Replace a kept frame. -/
def putKept (s : State) (k : Nat) (t : TxFrame) : State :=
  modPort s k fun p => { p with replay := p.replay.map fun x => if x.frame.seq = t.frame.seq then t else x }

/-- Send a kept frame once more, as it stands. -/
def resend (s : State) (k : Nat) (t : TxFrame) : State :=
  putOut (putKept s k { t with sentAt := txStart s k, sends := t.sends + 1 }) k t.frame

/-- The estimated arrival of a frame sent again now (07 R395). -/
def arrivalOf (s : State) (k : Nat) : Nat :=
  s.count + tFrame (portMode s k) + tFix (portMode s k) + rdN s (onPage Reg.portDelay k)

/-- Send a kept frame again, as it stands by now: a PARTIAL that would arrive after its DUE floods a hold, and a frame sent eight times
declares loss (07 R372, R373, R395, R396). -/
def retryFrame (s : State) (k seq : Nat) : State :=
  match (portOf s k).replay.find? fun t => t.frame.seq == seq with
  | none => s
  | some t =>
    if 8 ≤ t.sends then declareLoss s k
    else
      let s1 := resend s k t
      let a := arrivalOf s k
      match t.due with
      | some d =>
        if a ≤ d then cntReg s1 (onPage Reg.portRetries k) 1
        else
          let s2 := floodHold s1 (s.count + rdN s Reg.azlHoldLead) (a - d + rdN s Reg.azlHoldPad) .group
          setEvt (cntReg s2 (onPage Reg.portRetryHolds k) 1) (portPage k) 0x10
      | none => cntReg s1 (onPage Reg.portRetries k) 1

/-- Send some kept frames again, in order. -/
def retryAll (s : State) (k : Nat) (ts : List TxFrame) : State := each ts (fun t s => retryFrame s k t.frame.seq) s

/-- A sequence number lies after another, modulo 2^16. -/
def seqAfter (a b : Nat) : Bool := let d := (a + 2 ^ 16 - b % 2 ^ 16) % 2 ^ 16; d != 0 && decide (d < 2 ^ 15)

/-- Frames that waited for room are sent as room appears (07 R373, R394). -/
def sendWaiting (s : State) (k : Nat) : State :=
  each (((portOf s k).replay.take 1024).filter fun t => t.sends == 0)
    (fun t s => let u := stampDue s k t; putOut (putKept s k u) k u.frame) s

/-- The acknowledgement fields of a received frame (07 R368, R372, R373). -/
def takeAck (s : State) (k : Nat) (f : Frame) : State :=
  if !f.ackValid then s
  else
    let s1 := modPort s k fun p => { p with replay := p.replay.filter fun t => seqAfter t.frame.seq f.ack }
    let s2 := if f.nak then retryAll s1 k ((portOf s1 k).replay.filter fun t => t.sends != 0) else s1
    sendWaiting s2 k

/-- A NAK at once (07 R372). -/
def sendNak (s : State) (k : Nat) : State := putOut s k { mkFrame s 0x03 0 0 0 0 [] with nak := true }

/-- A valid frame arrived: it is counted with its corrected codewords, and silence starts again (07 R375, R417). -/
def noteRx (s : State) (k : Nat) (f : Frame) : State :=
  modPort (cntReg (cntReg s (onPage Reg.portFecCorr k) f.corr) (onPage Reg.portRxFrames k) 1) k fun p => { p with lastRx := s.count }

/-- A frame of another EtherType or destination is discarded and counted (07 R367). -/
def discard (s : State) (k : Nat) : State := cntReg s (onPage Reg.portDiscard k) 1

/-- The frame has the package's EtherType (07 R367, R417). -/
def typeOk (s : State) (f : Frame) : Bool := f.et == rdF s Reg.azlEthertype 15 0

/-- A frame is for this port: HELLO for the group address, any other for the port's own (07 R367). -/
def dstOk (s : State) (k : Nat) (f : Frame) : Bool := f.dst == (if f.kind = 1 then 0x0180C200000E else stationAddr s k)

/-- A frame that the port takes: its EtherType and its destination are right (07 R367). -/
def frameFor (s : State) (k : Nat) (f : Frame) : Bool := typeOk s f && dstOk s k f

/-- A frame without a sequence number: HELLO, KEEPALIVE and ACK (07 R367, R368). -/
def rxPlain (s : State) (k kind : Nat) (f : Frame) (act : State → State) : Out :=
  .next <|
    if !(portUp s k && f.kind == kind) then s
    else if !frameFor s k f then discard s k
    else if f.version == 1 || kind == 1 then act (takeAck (noteRx s k f) k f) else s

/-- What the twin port carries beside keepalives and acknowledgements (07 R380). -/
def kindAllowed (s : State) (k kind : Nat) : Bool := rdB s (onPage Reg.portStatus k) 20 == (kind == 0x1D)

/-- A frame with a sequence number: the next in order is accepted and acted on; a gap is NAKed at once; a repeat is only
acknowledged (07 R368, R372). -/
def rxSeqFrame (s : State) (k kind : Nat) (f : Frame) (act : State → State) : Out :=
  .next <|
    if !(portUp s k && f.kind == kind) then s
    else if !frameFor s k f then discard s k
    else if !(hsOf s k == 2 && f.version == 1) then s
    else
      let s1 := takeAck (noteRx s k f) k f
      let want := ((portOf s1 k).rxSeq + 1) % 2 ^ 16
      if f.seq = want then
        let s2 := modPort s1 k fun p => { p with rxSeq := want, ackAt := some (p.ackAt.getD (s.count + 1250)) }
        if kindAllowed s k kind then act s2 else s2
      else if seqAfter f.seq want then sendNak s1 k
      else modPort s1 k fun p => { p with ackAt := some (p.ackAt.getD (s.count + 1250)) }

/-- The HELLO of this package on a port (07 R368, R378). -/
def helloFrame (s : State) (k cause : Nat) : Frame :=
  mkFrame s 0x01 (lo32 s.gener.hdr.ident) (hi32 s.gener.hdr.ident) (ncl s + k * 2 ^ 8 + b2n (cause != 0) * 2 ^ 16) cause []

/-- Send HELLO and note when (07 R378, R379). -/
def sendHello (s : State) (k cause : Nat) : State :=
  modPort (putOut s k (helloFrame s k cause)) k fun p => { p with helloAt := some s.count }

/-- The magnitude of a port's offset (07 R377). -/
def offsetMag (s : State) (k : Nat) : Nat := (sext 32 (rdN s (onPage Reg.portOffset k))).natAbs

/-- The first cause of R378 for which a peer is refused; the twin port skips 3, 5 and 6 (07 R378, R380). -/
def refusal (s : State) (k : Nat) (f : Frame) : Nat :=
  let twin := twinPort s k
  let ident := f.w4 + f.w5 * 2 ^ 32
  let noImage := s.gener.image.isNone || ident == 0
  if f.version ≠ 1 then 1
  else if f.epoch ≠ runEpoch s then 2
  else if twin = false ∧ f.group ≠ rdN s Reg.azlGroupId then 3
  else if noImage = true ∨ ident ≠ s.gener.hdr.ident then 4
  else if twin = false ∧ f.src ≠ peerPos s k then 5
  else if twin = false ∧ fld f.w6 7 0 ≠ Config.sliceNcl ident f.src then 6
  else if rdN s (onPage Reg.portHopMax k) < rdN s (onPage Reg.portDelay k) then 7
  else if rdF s Reg.azlSyncTol 15 0 < offsetMag s k then 8 else 0

/-- A member that waits asks to rejoin when its ports have handshaken again (07 R407). -/
def askRejoin (s : State) (k : Nat) : State :=
  if inGroup s && !isEntry s && azlState s == 4 && (groupPorts s).contains k && portsReady s then
    sendUp s (mkFrame s 0x1B (lo32 (lastCommit s)) (hi32 (lastCommit s)) (b2n s.sched.done.isSome) 0 [])
  else s

/-- What was said of a link before is over: both its members' notices of its loss (07 R375, R415). -/
def forgetLink (s : State) (k : Nat) : State :=
  putAzl s { s.azl with floods := s.azl.floods.filter fun x => x != (0x1E, memberPos s, k) && x != farNotice s k }

/-- A peer is accepted: its station address is learnt, and the link begins anew, with its sequence and its time beyond SYNC_TOL (07 R367, R372,
R375, R378, R417). -/
def acceptPeer (s : State) (k : Nat) (f : Frame) : State :=
  let o := onPage Reg.portStatus k
  let s1 := wrF (wrF (wrF (setHs s k 2) o 7 4 0) o 15 8 f.src) o 18 16 (fld f.w6 10 8)
  let s2 := wrB (wrB s1 o 19 false) o 20 (twinPort s k)
  let s3 := modPort (forgetLink s2 k) k fun p =>
    { p with peerSa := f.sa, txSeq := 0, rxSeq := 0, replay := [], ackAt := none, beyondAt := none, lastRx := s.count, lastKeep := s.count }
  if twinPort s k then s3 else askRejoin (answerForm (startForm s3)) k

/-- A peer is refused, or refuses us (07 R378, R379, R419). -/
def refusePeer (s : State) (k cause pos : Nat) : State :=
  let o := onPage Reg.portStatus k
  let s1 := wrF (wrF (setHs s k 3) o 7 4 cause) o 15 8 pos
  azlEv (setEvt s1 (portPage k) 8) 0 0x0002 pos [k + cause % 16 * 2 ^ 8 + pos % 256 * 2 ^ 16, 0, 0, 0]

/-- The port answers a HELLO with one of its own: not one that it has under way and accepts by, not a refusal, and not within 1,250,000
counts of its last when its handshake has ended (07 R378, R379; DEDUCED, log 31). -/
def answersHello (s : State) (k cause : Nat) (f : Frame) : Bool :=
  let quiet := decide (2 ≤ hsOf s k) && (match (portOf s k).helloAt with | some t => decide (s.count < t + 1250000) | none => false)
  !(hsOf s k == 1 && cause == 0) && !bitN f.w6 16 && !quiet

/-- A HELLO has arrived; one that comes before the port's delay is measured is kept until it is (07 R378, R379; DEDUCED, log 31). -/
def helloIn (s : State) (k : Nat) (f : Frame) : State :=
  if !rdB s (onPage Reg.portStatus k) 1 then modPort s k fun p => { p with early := some f }
  else
    let c := refusal s k f
    let s1 := if answersHello s k c f then sendHello s k c else s
    if c ≠ 0 then refusePeer s1 k c f.src
    else if bitN f.w6 16 then refusePeer s1 k (fld f.w7 3 0) f.src
    else acceptPeer s1 k f

/-- The group is formed here: grouped, level 5, the step base (07 R381, R416, R419, 14 R641). -/
def becomeGrouped (s : State) (base : Nat) : State :=
  let s1 := wr64 (setAzl s 2) Reg.azlCommitLo base
  let a := { s1.azl with formed := [], waitSince := none, losses := [], restarting := false, reformed := true, stepBase := base,
                         epochTo := (if s1.azl.restarting then none else s1.azl.epochTo),
                         floods := s1.azl.floods.filter fun x => x.1 == 0x15 }
  let s2 := putGener (putAzl s1 a) { s1.gener with again := true }
  let s3 := azlEv s2 1 0x0001 (memberPos s) [groupSize s, 0, 0, 0]
  if svcLevel s3 = 4 then setLevel s3 5 else s3

/-- A session of the step record, as a member holds it (06 R330, 07 R370, 08 R439). -/
def takeImage (s : State) (i : CtxImage) : State :=
  let was := ctxOf s i.ctx
  let old : Context := if was.st = .idle ∨ was.sid ≠ i.sid then {} else was
  let gen : Gen := { ref := { remote := true }, addr := i.tokAddr, written := 0, stop := false, limit := false }
  let x : Context :=
    { old with st := ctxSt i.st, sid := i.sid, ring := i.ring, len := i.len, waiting := i.waiting, limit := i.limit, budget := i.budget,
               deadline := i.deadline, accrued := i.accrued, pages := i.pages, eligible := i.eligible, temp := nthN i.params 0,
               topK := nthN i.params 1, topP := nthN i.params 2, stops := i.stops, seed := i.seed, short := i.short,
               blocked := i.blocked, exitLast := i.exitLast, hist := i.hist, taint := (if old.taint ≠ 0 then old.taint else i.taint), gen := if i.swap then some gen else none }
  let s1 := writeList (setCtx s i.ctx x) i.ctx
  match i.parkAt, i.readAt with
  | some a, _ =>
    if old.park.isSome then s1
    else addXfer (modCtx s1 i.ctx fun x => { x with park := some { ref := { remote := true }, addr := a, swap := i.swap, saved := false } }) (.park i.ctx)
  | none, some a =>
    if old.reading then s1 else addXfer (modCtx s1 i.ctx fun x => { x with reading := true, blockAt := a, park := none }) (.unpark i.ctx)
  | none, none => modCtx s1 i.ctx fun x => { x with park := if x.park.all (fun p => p.saved) then none else x.park }

/-- A member applies the session-table changes of a step record (06 R330). -/
def takeImages (s : State) (xs : List CtxImage) : State :=
  let gone := (liveCtxs s).filter fun x => !(xs.any fun i => i.ctx == x.1)
  showFree (each xs (fun i s => takeImage s i) (each gone (fun x s => setCtx s x.1 {}) s))

/-- A member holds the step record of the next step; one that comes after its count launches nothing. A record without a batch carries the
boundary's changes alone (06 R330, 07 R370, R392, R393, R415, 04 R253; the last DESIGN CHOICE, log 32). -/
def takeLaunch (s0 : State) (r : StepRec) : State :=
  let s := applyAlts s0
  match s.gener.image with
  | none => s
  | some im =>
    let s1 := siteCheck (takeImages s r.changes)
    if r.batch.isEmpty then s1
    else
      let s2 := writeTables s1 im r.batch
      let s3 := putSched s2 { s2.sched with nextStep := some r, nextLaunch := some r.launch, launchReady := true, replay := false,
                                            done := none, recordLate := decide (r.launch < s.count) }
      submitPoint s3 (stepLean im r)

/-- A 64-bit number in words 4 and 5 of a frame. -/
def f45 (f : Frame) : Nat := f.w4 + f.w5 * 2 ^ 32

/-- The step that is launched, or done and not judged. -/
def currentStep (s : State) : Nat :=
  match s.sched.done with
  | some d => d.record.step
  | none => s.sched.exec.sRec.step

/-- A ledger at the entry: judged when every position's is held; elsewhere it goes up unchanged (07 R400, R401). -/
def ledgerIn (s : State) (f : Frame) : State :=
  if !isEntry s then sendUp s f
  else if azlState s = 4 ∨ azlState s = 5 ∨ f45 f ≠ currentStep s ∨ s.azl.ledgers.any (fun l => l.1 == f.src) then s
  else
    let s1 := putAzl s { s.azl with ledgers := s.azl.ledgers ++ [(f.src, ledgerOf f.payload)] }
    match s1.sched.done with
    | some d =>
      if s1.azl.ledgers.length = groupSize s then judge s1 (sortBy (fun a b => decide (a.1 ≤ b.1)) s1.azl.ledgers) d else s1
    | none => s1

/-- A member's COMMITTED (07 R402). -/
def sendCommitted (s : State) (step : Nat) : State := sendUp s (mkFrame s 0x14 (lo32 step) (hi32 step) 0 0 [])

/-- A verdict at a member: commit, abandon or roll back; in WAIT only a commit counts (07 R402, R404, R406, 09 R466, R470). Word 7 of one with
ABANDON names the lost context, as `judge` sends it (DESIGN CHOICE, log 71). -/
def verdictIn (s : State) (f : Frame) : State :=
  if isEntry s then s
  else
    let s1 := sendDown s f
    match s1.sched.done with
    | none => s1
    | some d =>
      if d.record.step ≠ f45 f then s1
      else if bitN f.w6 0 then siteCheck (sendCommitted (commitStep (showLed s1 Reg.ldgLastStep d.ledger) d) (f45 f))
      else if azlState s1 = 4 ∨ azlState s1 = 5 then s1
      else
        let s2 := showLed s1 Reg.ldgLastStep d.ledger
        if bitN f.w6 1 then abandonStep s2 f.w7
        else rollBack s2 d (nthN f.payload 0 + nthN f.payload 1 * 2 ^ 32) (Config.uncleanMask (f45 f)).toNat

/-- The tokens of a step are released when every position has committed it (07 R403). -/
def committedIn (s : State) (f : Frame) : State :=
  if !isEntry s then sendUp s f
  else releaseAll (noteCommitted s f.src (f45 f))

/-- A flooded frame is new: note it and pass it on (07 R371). -/
def floodOn (s : State) (k : Nat) (f : Frame) (key : Nat × Nat × Nat) : Option State :=
  if s.azl.floods.contains key then none
  else some (flood (putAzl s { s.azl with floods := key :: s.azl.floods }) (some k) f)

/-- A hold arrives: before its start it is scheduled, after it it counts LINK_LATE (07 R396, R398, R419). -/
def holdIn (s : State) (k : Nat) (f : Frame) : State :=
  match floodOn s k f (0x15, fld f.w7 7 0, fld f.w7 31 8) with
  | none => s
  | some s1 =>
    if s.count < f45 f then
      let s2 := stretchDue (addFreeze s1 (f45 f) f.w6 .group) (f45 f) f.w6
      azlEvBeside (cntReg s2 Reg.azlHolds 1) 8 0x0005 (fld f.w7 7 0) [f.w4, f.w5, f.w6, fld f.w7 7 0]
    else if s.sched.exec.running ∧ s.sched.exec.kind = .step then modLed s1 fun l => { l with linkLate := led16 l.linkLate 1 }
    else s1

/-- A loss arrives: any execution stops and the member waits (07 R405, R416). -/
def lossIn (s : State) (k : Nat) (f : Frame) : State :=
  match floodOn s k f (0x16, fld f.w4 15 8, fld f.w4 18 16) with
  | none => s
  | some s1 =>
    if azlState s1 = 0 ∨ azlState s1 = 5 then s1
    else
      let s2 := if bitN f.w4 19 then noteLoss s1 (fld f.w4 15 8) (fld f.w4 7 0) else s1
      if azlState s2 = 4 then s2 else enterWait s2 (fld f.w4 7 0) (fld f.w5 2 0) (fld f.w4 18 16) false (bitN f.w4 19)

/-- The group record gives this package a member's part, whether it is enabled yet or not (07 R360, R381). -/
def memberPart (s : State) : Bool := decide (1 < groupSize s) && memberPos s != entryPos s

/-- FORM at a member: the first is answered when its ports are accepted, the second forms the group; in WAIT it ends the
wait, and the member says again what it has committed, since the loss may have cost its COMMITTED. A member that is not enabled notes the
first, passes it on and answers once it is (07 R381, R406, R407; DEDUCED, log 41). -/
def formIn (s : State) (f : Frame) : State :=
  if !memberPart s then s
  else
    let s1 := sendDown s f
    if azlState s1 = 5 then s1
    else if azlState s1 = 4 then becomeGrouped (if lastCommit s1 = 0 then s1 else sendCommitted s1 (lastCommit s1)) (f45 f)
    else if s1.azl.formed = [memberPos s] then becomeGrouped s1 (f45 f)
    else answerForm (putAzl s1 { s1.azl with formed := [entryPos s] })

/-- FORMED: at the entry, the last one brings the second FORM (07 R381). -/
def formedIn (s : State) (f : Frame) : State :=
  if memberPart s then sendSeq s (parentPort s) f
  else
    let c := if s.azl.formed.contains f.src then s.azl.formed else f.src :: s.azl.formed
    let s1 := putAzl s { s.azl with formed := c }
    if c.length < groupSize s ∨ s.azl.formed.isEmpty then s1
    else becomeGrouped (sendDown s1 (formFrame s1 0x17)) (lastCommit s1)

/-- The step that a loss discarded, if any: launched, completed or agreed, and not committed (07 loss table, R407). -/
def discarded (s : State) : Option StepRec :=
  let n := lastCommit s + 1
  let c := [s.sched.nextStep, s.sched.done.map (·.record), if s.sched.exec.kind = .step then some s.sched.exec.sRec else none]
  (c.filterMap id).find? fun r => r.step == n

/-- The group goes on, and the discarded step is replayed with its record (07 R392, R407). -/
def acceptRejoin (s : State) : State :=
  let s1 := sendDown s (formFrame s 0x17)
  let sa := setAzl s1 2
  let s2 := putAzl sa { sa.azl with waitSince := none, losses := [], ledgers := [], floods := s1.azl.floods.filter fun x => x.1 == 0x15 }
  match discarded s2 with
  | some r =>
    let l := launchAfter s2 (cDown s2)
    let r1 := { r with launch := l }
    let s3 := putSched (setAzl s2 3) { s2.sched with nextStep := some r1, nextLaunch := some l, launchReady := true, done := none, replay := true }
    sendDown s3 { mkFrame s3 0x13 0 0 0 0 [] with ctl := some r1 }
  | none => putGener s2 { s2.gener with again := true }

/-- A member is back, which raises REJOINED: what it has committed is known, and the losses that name it are answered. When none is left but the
entry's own, its ports accepted again, the group goes on, and what every position has committed is released (07 R403, R406, R407, R419). -/
def rejoined (s : State) (pos step : Nat) : State :=
  let s1 := azlEv (noteCommitted s pos step) 0x20 0x0007 pos [lo32 step, hi32 step, 0, 0]
  let left := s1.azl.losses.filter fun l => l.2 != pos
  let s2 := putAzl s1 { s1.azl with losses := left }
  if (left.all fun l => l.2 == memberPos s) && portsReady s2 then releaseAll (acceptRejoin s2) else s2

/-- REJOIN at the entry (07 R407). -/
def rejoinIn (s : State) (f : Frame) : State :=
  if !isEntry s then sendUp s f
  else if azlState s ≠ 4 then s
  else if f45 f = lastCommit s then rejoined s f.src (f45 f)
  else if f45 f + 1 = lastCommit s ∧ bitN f.w6 0 then
    rejoined (sendDown s (mkFrame s 0x12 (lo32 (lastCommit s)) (hi32 (lastCommit s)) 1 0 [])) f.src (f45 f)
  else stopAll s

/-- JOIN: a session command that an entry site forwards (07 R414). -/
def joinIn (s : State) (f : Frame) : State :=
  if !isEntry s then sendUp s f
  else
    let c : Cmd := ⟨{ remote := true, tag := fld (nthN f.payload 0) 15 0, op := opcodeOf f.payload }, f.payload, 0⟩
    let s1 := sessionCmd c.ref.op s c
    putGener s1 { s1.gener with again := true }

/-- LINK_LOST: the far member's notice of a link that this member lost too (07 R415). -/
def linkLostIn (s : State) (k : Nat) (f : Frame) : State :=
  let pos := fld f.w4 7 0
  let port := fld f.w4 10 8
  match floodOn s k f (0x1E, pos, port) with
  | none => s
  | some s1 =>
    match s1.azl.linkWaits.find? fun w => w.pos == pos && rdF s1 (onPage Reg.portStatus w.port) 18 16 == port && decide (s.count ≤ w.since + 37500) with
    | some w => reroute s1 w
    | none => s1

/-- A twin's triple (05 R301 to R307). -/
def twinIn (s : State) (f : Frame) : State :=
  let t : Triple := ⟨f45 f, f.w6 + f.w7 * 2 ^ 32, nthN f.payload 0 + nthN f.payload 1 * 2 ^ 32⟩
  lockCompare (lockAlign (putLock s { s.lock with twin := s.lock.twin ++ [t] }))

end Sys2Proof.Machine
end

