-- ==== Sys2Proof/Machine/Azlink.lean ====
section
/-!
DEFINITION. The rows of frames, link timers, loss, reductions and region reloads (07 R367 to R415, 05 R300 to R308,
09 R467 to R469).
-/
namespace Sys2Proof.Machine

/-- HELLO. -/
def execHello (k : Fin 8) (f : Frame) (s : State) : Out := rxPlain s k.val 0x01 f fun s => helloIn s k.val f

/-- KEEPALIVE. -/
def execKeepalive (k : Fin 8) (f : Frame) (s : State) : Out := rxPlain s k.val 0x02 f fun s => s

/-- ACK. -/
def execAck (k : Fin 8) (f : Frame) (s : State) : Out := rxPlain s k.val 0x03 f fun s => s

/-- PARTIAL. -/
def execPartialSum (k : Fin 8) (f : Frame) (s : State) (errs : List (Nat × Ecc) := []) : Out :=
  rxSeqFrame s k.val 0x10 f fun s => partialIn s k.val f errs

/-- LEDGER. -/
def execLedger (k : Fin 8) (f : Frame) (s : State) : Out := rxSeqFrame s k.val 0x11 f fun s => ledgerIn s f

/-- VERDICT. -/
def execVerdict (k : Fin 8) (f : Frame) (s : State) : Out := rxSeqFrame s k.val 0x12 f fun s => verdictIn s f

/-- LAUNCH: only a grouped member takes the step record; one in WAIT launches nothing (06 R330, 07 R405, R408). -/
def execLaunch (k : Fin 8) (f : Frame) (s : State) : Out :=
  rxSeqFrame s k.val 0x13 f fun s =>
    if isEntry s then s
    else
      let s1 := sendDown s f
      match f.ctl with
      | some r => if azlState s1 = 2 ∨ azlState s1 = 3 then takeLaunch s1 r else s1
      | none => s1

/-- COMMITTED. -/
def execCommitted (k : Fin 8) (f : Frame) (s : State) : Out := rxSeqFrame s k.val 0x14 f fun s => committedIn s f

/-- HOLD. -/
def execHold (k : Fin 8) (f : Frame) (s : State) : Out := rxSeqFrame s k.val 0x15 f fun s => holdIn s k.val f

/-- LOSS. -/
def execLoss (k : Fin 8) (f : Frame) (s : State) : Out := rxSeqFrame s k.val 0x16 f fun s => lossIn s k.val f

/-- FORM. -/
def execForm (k : Fin 8) (f : Frame) (s : State) : Out := rxSeqFrame s k.val 0x17 f fun s => formIn s f

/-- FORMED. -/
def execFormed (k : Fin 8) (f : Frame) (s : State) : Out := rxSeqFrame s k.val 0x18 f fun s => formedIn s f

/-- STAGED (07 R409). -/
def execStaged (k : Fin 8) (f : Frame) (s : State) : Out :=
  rxSeqFrame s k.val 0x19 f fun s => if isEntry s then noteStaged s f.src (fld f.w4 15 0) else sendUp s f

/-- SWITCH: a member learns the switch step; when that step has committed and none runs, the switch begins (07 R411). -/
def execSwitch (k : Fin 8) (f : Frame) (s : State) : Out :=
  rxSeqFrame s k.val 0x1A f fun s =>
    if isEntry s then s
    else
      let s1 := sendDown s f
      let s2 := wr64 (putAzl s1 { s1.azl with epochTo := some (fld f.w4 15 0) }) Reg.azlSwitchLo (f.w5 + f.w6 * 2 ^ 32)
      if switchDue s2 then switchNow s2 else s2

/-- REJOIN. -/
def execRejoin (k : Fin 8) (f : Frame) (s : State) : Out := rxSeqFrame s k.val 0x1B f fun s => rejoinIn s f

/-- JOIN. -/
def execJoin (k : Fin 8) (f : Frame) (s : State) : Out := rxSeqFrame s k.val 0x1C f fun s => joinIn s f

/-- TWIN. -/
def execTwin (k : Fin 8) (f : Frame) (s : State) : Out := rxSeqFrame s k.val 0x1D f fun s => twinIn s f

/-- LOCKSTEP_HALT: the halt count of a mismatch has come (05 R305). -/
def execLockstepHalt (s : State) : Out :=
  .next <|
    match s.lock.haltAt with
    | some h => if h ≤ s.count then lockHalt (putLock s { s.lock with haltAt := none }) h else s
    | none => s

/-- LINK_LOST. -/
def execLinkLost (k : Fin 8) (f : Frame) (s : State) : Out := rxSeqFrame s k.val 0x1E f fun s => linkLostIn s k.val f

/-- LINK_LOST_TIMEOUT: no notice from the far member within 37,500 counts (07 R415). -/
def execLinkLostTimeout (k : Fin 8) (s : State) : Out :=
  .next <|
    match s.azl.linkWaits.find? fun w => w.port == k.val && decide (w.since + 37500 ≤ s.count) with
    | some w => partnerLoss (putAzl s { s.azl with linkWaits := s.azl.linkWaits.filter fun x => x != w }) k.val
    | none => s

/-- ACK_TIMER: what has been accepted is acknowledged, within 1,250 counts (07 R372). -/
def execAckTimer (k : Fin 8) (s : State) : Out :=
  .next (if (portOf s k.val).ackAt.isSome then sendPlain s k.val (mkFrame s 0x03 0 0 0 0 []) else s)

/-- A kept frame's time has passed (07 R373). -/
def timedOut (s : State) (k : Nat) (t : TxFrame) : Bool :=
  t.sends != 0 && decide (t.sentAt + 2 * rdN s (onPage Reg.portHopMax k) + 2500 ≤ s.count)

/-- RETRY_TIMEOUT: frames whose time has passed are sent again; one sent eight times declares loss (07 R373, R395). -/
def execRetryTimeout (k : Fin 8) (s : State) : Out :=
  .next <|
    let ts := (portOf s k.val).replay.filter (timedOut s k.val)
    if !portUp s k.val then s
    else if ts.any fun t => decide (8 ≤ t.sends) then declareLoss s k.val
    else retryAll s k.val ts

/-- KEEPALIVE_TIMER: an accepted port sends one every 12,500 counts (07 R374). -/
def execKeepaliveTimer (k : Fin 8) (s : State) : Out :=
  .next <|
    if portUp s k.val && hsOf s k.val == 2 && decide ((portOf s k.val).lastKeep + 12500 ≤ s.count) then
      modPort (sendPlain s k.val (mkFrame s 0x02 0 0 0 0 [])) k.val fun p => { p with lastKeep := s.count }
    else s

/-- SILENCE_TIMEOUT: no valid frame for 37,500 counts (07 R375). -/
def execSilenceTimeout (k : Fin 8) (s : State) : Out :=
  .next <|
    if portUp s k.val && hsOf s k.val == 2 && decide ((portOf s k.val).lastRx + 37500 ≤ s.count) then declareLoss s k.val else s

/-- PCS_DOWN: block lock is lost (07 R375, R417). -/
def execPcsDown (k : Fin 8) (s : State) : Out :=
  .next <|
    let o := onPage Reg.portStatus k.val
    if !rdB s o 0 then s
    else
      let was := hsOf s k.val
      let s1 := if was = 2 then declareLoss s k.val else setHs s k.val 0
      setEvt (wrB (wrB s1 o 0 false) o 1 false) (portPage k.val) 2

/-- PCS_UP: the PCS has lock and the delay measurement begins at once; the handshake waits for it (07 R376 to R378, R417, 15 R699). -/
def execPcsUp (k : Fin 8) (corr : Nat) (s : State) : Out :=
  .next <|
    let o := onPage Reg.portStatus k.val
    if !rdB s (onPage Reg.portCtl k.val) 0 || rdB s o 0 || s.boot.qPorts.contains k.val then s
    else
      let s1 := cntReg (wrB (wrB s o 0 true) o 1 false) (onPage Reg.portFecCorr k.val) corr
      modPort (setEvt s1 (portPage k.val) 1) k.val fun p => { p with ptp := {}, ptpAt := s.count, txFree := s.count, early := none }

/-- The port's offset lies beyond SYNC_TOL as it stands (07 R375). -/
def beyondTol (s : State) (k : Nat) : Bool := decide (rdF s Reg.azlSyncTol 15 0 < offsetMag s k)

/-- A new SYNC_TOL: an offset is beyond it from now on, or no longer (07 R375). -/
def newTol (s : State) : State :=
  each (List.range 8) (fun k s => modPort s k fun p =>
    { p with beyondAt := if beyondTol s k && hsOf s k == 2 then some (p.beyondAt.getD s.count) else none }) s

/-- SYNC_OFFSET_TIMEOUT: the offset has stayed beyond SYNC_TOL for 1,250,000 counts (07 R375). -/
def execSyncOffsetTimeout (k : Fin 8) (s : State) : Out :=
  .next <|
    match (portOf s k.val).beyondAt with
    | some t => if portUp s k.val && hsOf s k.val == 2 && beyondTol s k.val && decide (t + 1250000 ≤ s.count) then declareLoss s k.val else s
    | none => s

/-- HANDSHAKE_RETRY: every 1,250,000 counts (07 R379). -/
def execHandshakeRetry (k : Fin 8) (s : State) : Out :=
  .next <|
    let due := match (portOf s k.val).helloAt with
      | some t => decide (t + 1250000 ≤ s.count)
      | none => true
    if portUp s k.val && rdB s (onPage Reg.portStatus k.val) 1 && hsOf s k.val != 2 && due && s.boot.fwRunning then
      sendHello (setHs s k.val 1) k.val 0
    else s

/-- REJOIN_TIMEOUT: no rejoin, or no new forming after a switch, within REJOIN_WAIT (07 R408, R412). -/
def execRejoinTimeout (s : State) : Out :=
  .next <|
    match s.azl.waitSince with
    | some t =>
      if (azlState s == 4 || azlState s == 6) && decide (t + rdN s Reg.azlRejoinWait ≤ s.count) then
        (if isEntry s then stopAll s else stopGroup s) else s
    | none => s

/-- The started instance that takes a unit of a slot from the engine, its number and the unit's index, when the unit's
deadline has come and nothing has been delivered for it (07 R389). -/
def lateRed (s : State) (slot unit : Nat) : Option (Nat × PlanInst × Nat) :=
  let e := s.sched.exec
  (e.insts.zipIdx).findSome? fun x =>
    match x.1.route with
    | .redIn sl u0 =>
      let u := unit - u0
      if x.1.started && sl == slot && decide (u0 ≤ unit) && decide (u < x.1.units) && x.1.nWrite == u && decide (x.1.start + u + 248 ≤ e.cyc)
      then some (x.2, x.1, u) else none
    | _ => none

/-- REDUCTION_DEADLINE: a unit that is not complete is delivered as zeros and counted (07 R389, R418). -/
def execReductionDeadline (slot unit : Nat) (s : State) : Out :=
  .next <|
    if !moving s then s
    else match lateRed s slot unit with
      | none => s
      | some (n, i, u) =>
        let layer := layerOf s i.kernel
        match resultUnit s layer slot unit with
        | some _ => s
        | none =>
          let s1 := sendUnit (putInst s n { i with nWrite := u + 1 })
            ⟨i.start + u + 2 * i.hops + 262, i.cl, i.sadr + 64 * u, List.replicate 64 0, none, .clean⟩
          redLateUnit (cntReg s1 Reg.redUnitsOut 1) layer slot s.sched.exec.cyc

/-- AZL_STOP: at the entry of a group of two or more, the group stops; the others learn of it by LOSS (07 R408, R416). -/
def execAzlStop (s : State) : Out :=
  .next <|
    if inGroup s && isEntry s then
      stopAll s
    else s

/-- FCS_ERR: a frame fails its FCS check, or holds an uncorrectable codeword (`fec`); it is counted, and a NAK goes at once (07 R372,
R417). -/
def execFcsErr (k : Fin 8) (s : State) (fec : Bool := false) : Out :=
  .next <|
    if !portUp s k.val then s
    else
      let s1 := cntErr (cntReg s (onPage (if fec then Reg.portFecUncorr else Reg.portFcsErr) k.val) 1) (portPage k.val) 1
      if hsOf s k.val = 2 then sendNak s1 k.val else s1

/-- DISCARDED_FRAME: another EtherType (07 R367). -/
def execDiscardedFrame (k : Fin 8) (s : State) : Out :=
  .next (if portUp s k.val then discard s k.val else s)

/-- The section and the bytes of a region: HBM address, host address, length, digest (09 R467, R469). A section without
region digests is the region-digest section, reloaded whole. -/
def reloadOf (s : State) (a : Nat) : Option (Nat × Nat × Nat × Nat) :=
  match s.gener.image with
  | none => none
  | some im =>
    (im.sections.find? fun x => decide (x.hbm < a + 65536) && decide (a < x.hbm + x.len)).map fun x =>
      let host := s.gener.hdr.host + x.off
      if x.regions.isEmpty then (x.hbm, host, x.len, x.digest)
      else
        let lo := max a x.hbm
        let hi := min (a + 65536) (x.hbm + x.len)
        (lo, host + (lo - x.hbm), hi - lo, nthN x.regions ((lo - x.hbm) / 65536))

/-- A reload has ended, well or not: the write-backs may follow, and the recovery may be over (09 R466, R469). -/
def reloadEnded (s : State) : State :=
  let s1 := afterReloads s
  putSched s1 { s1.sched with recovered := s1.sched.recovered || recoveryOver s1 }

/-- REGION_RELOAD_DONE: the host read of the first region that waits has ended. One that failed waits for the next recovery (09 R467,
R469, R478). -/
def execRegionReloadDone (hostOk : Bool) (s : State) : Out :=
  .next <|
    match s.sched.reloads.find? fun r => !r.failed with
    | none => s
    | some r =>
      let rest := s.sched.reloads.filter fun x => x.addr != r.addr
      let step := s.sched.exec.sRec.step
      let d := [lo32 r.addr, hi32 r.addr % 64, lo32 step, hi32 step]
      match reloadOf s r.addr with
      | none => reloadEnded (putSched s { s.sched with reloads := rest })
      | some (hb, ho, n, dg) =>
        if hostOk && byteDigest (memRange s.host ho n) == dg then
          let s1 := putSched (putHbm s (memCopy s.host ho s.hbm hb n)) { s.sched with reloads := rest }
          reloadEnded (raiseEv (cntReg s1 Reg.ldgReloads 1) Reg.pageLdg 2 .block 0x08 0 0x0002 0 d)
        else
          let s1 := putSched s { s.sched with reloads := s.sched.reloads.map fun x => if x.addr = r.addr then { x with failed := true } else x }
          reloadEnded (raiseEv s1 Reg.pageLdg 4 .block 0x08 0 0x0003 0 d)

end Sys2Proof.Machine
end

