-- ==== Sys2Proof/Machine/HostIf.lean ====
section
/-!
DEFINITION. The host interface: rings, event queues, suspension, the PCIe link and BAR2: the rows DOORBELL to BAR2_CLOSE
(13, 17 R748).
-/
namespace Sys2Proof.Machine

/-- A size is a power of two from 16 to 65,536 (13 R598, R624). -/
def sizeOk (n : Nat) : Bool := (List.range 13).any fun k => n == 2 ^ (k + 4)

/-- A ring is enabled and not stopped (13 R638). -/
def ringRuns (s : State) (r : Nat) : Bool := rdB s (onPage Reg.cmqStatus r) 0

/-- A ring's fetch in flight is given up and its reserved slot freed. -/
def dropFetch (s : State) (r : Nat) : State :=
  let g := ringOf s r
  match g.fetching with
  | none => s
  | some _ => freeSlot (setRing s r { g with fetching := none }) (ringQueue s r)

/-- A ring stops with a cause (13 R604, R640). -/
def stopRing (s : State) (r cause : Nat) : State :=
  let o := onPage Reg.cmqStatus r
  let s1 := setEvt (wrF (wrF (dropFetch s r) o 1 0 2) o 3 2 cause) (onPage Reg.pageCmq r) 1
  raiseEv s1 Reg.pageHif 8 .block 0x10 0 0x0001 r [cause, rdN s1 (onPage Reg.cmqHead r), rdN s1 (onPage Reg.cmqDoorbell r)]

/-- Descriptors that a doorbell value makes pending. -/
def pendingAt (s : State) (r v : Nat) : Nat := (v + 2 ^ 32 - rdN s (onPage Reg.cmqHead r)) % 2 ^ 32

/-- DOORBELL: a write of CMQ.DOORBELL (13 R599, R600). -/
def execDoorbell (r : Fin 128) (v : Word) (s : State) : Out :=
  let s1 := wrReg s (onPage Reg.cmqDoorbell r.val) v
  .next (if ringRuns s r.val && decide (rdN s (onPage Reg.cmqSize r.val) < pendingAt s r.val v.toNat) then stopRing s1 r.val 2 else s1)

/-- DESCRIPTOR_FETCH: with a completion slot reserved, the ring reads its next pending descriptor (13 R601, R602, R623, R628,
14 R653). -/
def execDescriptorFetch (r : Fin 128) (s : State) : Out :=
  let g := ringOf s r.val
  let q := ringQueue s r.val
  let e := evqOf s q
  let head := rdN s (onPage Reg.cmqHead r.val)
  if ringRuns s r.val && s.boot.fwRunning && g.fetching.isNone && permitted s (ringOwner s r.val) && decide (e.reserved < 1024)
      && pendingAt s r.val (rdN s (onPage Reg.cmqDoorbell r.val)) != 0 then
    .next (showEvq (setEvq (setRing s r.val { g with fetching := some head }) q { e with reserved := e.reserved + 1 }) q)
  else .next s

/-- DESCRIPTOR_READ_DONE: HEAD passes the descriptor, which waits its turn; a failed read stops the ring (13 R601, R603,
R604, R614). -/
def execDescriptorReadDone (r : Fin 128) (hostOk : Bool) (s : State) : Out :=
  let g := ringOf s r.val
  match g.fetching with
  | none => .next s
  | some i =>
    if !hostOk then .next (stopRing s r.val 3)
    else
      let a := rd64 s (onPage Reg.cmqBaseLo r.val) + 64 * (i % max 1 (rdN s (onPage Reg.cmqSize r.val)))
      let ws := memWords s.host a 16
      let ref : CmdRef := {
        ring := r.val, idx := i, tag := fld (nthN ws 0) 15 0, quiet := bitN (nthN ws 0) 16, op := fld (nthN ws 0) 31 24,
        q := ringQueue s r.val, era := g.era }
      let g1 := { g with fetching := none, fifo := g.fifo ++ [⟨ref, ws⟩], out := g.out ++ [ref] }
      let s1 := wrN (setRing s r.val g1) (onPage Reg.cmqHead r.val) ((i + 1) % 2 ^ 32)
      .next (skipBad 64 (wrN s1 (onPage Reg.cmqOutstanding r.val) (outstanding g1)) r.val)

/-- The value that a write of a bit leaves it: hardware's change of it in the same count stands (17 R756). -/
def swBit (s : State) (off n : Nat) (v : Bool) : Bool := if rbit (smGet (dflt 0) s.hw off) n then rdB s off n else v

/-- Clear ENABLE of a ring (13 R605). -/
def disableRing (r : Nat) (s : State) : State :=
  wrB (wrB (dropFetch s r) (onPage Reg.cmqCtl r) 0 false) (onPage Reg.cmqStatus r) 0 false

/-- A write of CMQ.CTL.ENABLE; below level 2 no ring runs (13 R604, R605, R612, 14 R641, 17 R756). -/
def enableRing (s : State) (r : Nat) (v : Bool) : State :=
  let was := rdB s (onPage Reg.cmqCtl r) 0
  let on := swBit s (onPage Reg.cmqCtl r) 0 v
  let q := ringQueue s r
  if svcLevel s < 2 then s
  else if on && !was then
    if sizeOk (rdN s (onPage Reg.cmqSize r)) && rdB s (onPage Reg.evqCtl q) 0 && evqOwner s q == ringOwner s r then
      let g := ringOf s r
      let s1 := wrN (wrN (setRing s r { g with era := g.era + 1 }) (onPage Reg.cmqHead r) 0) (onPage Reg.cmqDoorbell r) 0
      wrF (wrB s1 (onPage Reg.cmqCtl r) 0 true) (onPage Reg.cmqStatus r) 3 0 1
    else stopRing s r 1
  else if !on && was then disableRing r s
  else s

/-- CMQ_ENABLE. -/
def execCmqEnable (r : Fin 128) (on : Bool) (s : State) : Out := .next (enableRing s r.val on)

/-- Clear ENABLE of a queue (13 R624). -/
def disableEvq (q : Nat) (s : State) : State := wrB s (onPage Reg.evqCtl q) 0 false

/-- A write of EVQ.CTL.ENABLE; below level 2 no queue runs (13 R624, 14 R641, 17 R756). -/
def enableEvq (s : State) (q : Nat) (v : Bool) : State :=
  let was := rdB s (onPage Reg.evqCtl q) 0
  let on := swBit s (onPage Reg.evqCtl q) 0 v
  if svcLevel s < 2 then s
  else if on && !was then
    if sizeOk (rdN s (onPage Reg.evqSize q)) then
      let s1 := wrN (wrN s (onPage Reg.evqTail q) 0) (onPage Reg.evqHead q) 0
      wrB (wrB (setEvq s1 q { evqOf s1 q with unreported := 0, firstAt := none }) (onPage Reg.evqStatus q) 0 false) (onPage Reg.evqCtl q) 0 true
    else s
  else if on then s
  else disableEvq q s

/-- EVQ_ENABLE. -/
def execEvqEnable (q : Fin 8) (on : Bool) (s : State) : Out := .next (enableEvq s q.val on)

/-- EVQ_HEAD_WRITE: the host returns the head of a queue (13 R620). -/
def execEvqHeadWrite (q : Fin 8) (v : Word) (s : State) : Out :=
  let d := (rdN s (onPage Reg.evqTail q.val) + 2 ^ 32 - v.toNat) % 2 ^ 32
  if rdN s (onPage Reg.evqSize q.val) < d then
    .next (setEvt (wrB s (onPage Reg.evqStatus q.val) 0 true) (onPage Reg.pageEvq q.val) 1)
  else .next (wrReg s (onPage Reg.evqHead q.val) v)

/-- The table entry and the pending-bit register of a function's MSI-X vector (13 R625, R626). -/
def msixEntry (fn v : Nat) : Nat × Nat :=
  if fn = 0 then (16 * v, Reg.hifMsixPba) else (Reg.vfcMsixAddrLo - Reg.hifMsixAddrLo + (fn - 1) * 0x1000 + 16 * (v % 2),
    Reg.vfcMsixPba + (fn - 1) * 0x1000)

/-- A function may send messages: its writes are permitted and its MSI-X is enabled (13 R626, R627). -/
def msixOn (s : State) (fn : Nat) : Bool := permitted s fn && (smGet (dflt ({} : PcieFn)) s.hif.pcie fn).msixEn

/-- A vector is masked, by its own bit or with its function (13 R626). -/
def msixMasked (s : State) (fn v : Nat) : Bool :=
  rdB s (Reg.hifMsixCtrl + (msixEntry fn v).1) 0 || (smGet (dflt ({} : PcieFn)) s.hif.pcie fn).msixMask

/-- The pending bit of a vector in its function's array. -/
def msixPbaBit (fn v : Nat) : Nat := if fn = 0 then v else v % 2

/-- The message of a vector is written (13 R625). -/
def msixWrite (s : State) (fn v : Nat) : State :=
  let m := msixEntry fn v
  hostWords s fn (rd64 s (Reg.hifMsixAddrLo + m.1)) [rdN s (Reg.hifMsixData + m.1)]

/-- A pending message of an unmasked vector goes as soon as the function may send it (13 R626, R627). -/
def msixPending (fn v : Nat) (s : State) : State :=
  let m := msixEntry fn v
  if msixOn s fn && !msixMasked s fn v && rdB s m.2 (msixPbaBit fn v) then msixWrite (wrB s m.2 (msixPbaBit fn v) false) fn v else s

/-- The vectors of a function (13 R626). -/
def msixVectors (fn : Nat) : List Nat := List.range (if fn = 0 then 16 else 2)

/-- The MSI-X message of a queue: a write to host memory, or its pending bit while the vector is masked; it stays due while the function may
send none (13 R625 to R627, PCIe; the last DESIGN CHOICE, log 70). -/
def sendMsix (s : State) (q : Nat) : State :=
  let fn := evqOwner s q
  let v := rdF s (onPage Reg.evqIrq q) 3 0
  let s1 := setEvq s q { evqOf s q with unreported := 0, firstAt := none }
  if !msixOn s fn then s
  else if msixMasked s fn v then wrB s1 (msixEntry fn v).2 (msixPbaBit fn v) true
  else msixWrite s1 fn v

/-- A message is due after a record: COAL_N records, or no delay (13 R612, R625). -/
def msixDue (s : State) (q : Nat) : Bool :=
  let irq := rdReg s (onPage Reg.evqIrq q)
  rbit irq 4 && (decide (rfld irq 15 8 ≤ (evqOf s q).unreported) || rfld irq 31 16 == 0)

/-- Report the records lost once the backlog has room (13 R623, R640). -/
def reportLost (s : State) (q : Nat) : State :=
  let e := evqOf s q
  if e.lostSince ≠ 0 ∧ backlog e < 256 then
    raiseEv (setEvq s q { e with lostSince := 0 }) Reg.pageHif 16 .block 0x10 0 0x0002 0 [e.lostSince, q]
  else s

/-- EVENT_RECORD_WRITE: the oldest waiting record goes to its slot, and an MSI-X message when due (13 R618, R619, R622, R623,
R625). -/
def execEventRecordWrite (q : Fin 8) (s : State) : Out :=
  let e := evqOf s q.val
  match e.waiting with
  | [] => .next s
  | x :: xs =>
    if !evqOpen s q.val then .next s
    else
      let tail := rdN s (onPage Reg.evqTail q.val)
      let size := max 1 (rdN s (onPage Reg.evqSize q.val))
      let words := (nthN x.2 0 % 2 ^ 31 + (1 - tail / size % 2) * 2 ^ 31) :: x.2.drop 1
      let s1 := hostWords s (evqOwner s q.val) (rd64 s (onPage Reg.evqBaseLo q.val) + 32 * (tail % size)) words
      let s2 := wrN s1 (onPage Reg.evqTail q.val) ((tail + 1) % 2 ^ 32)
      let s3 := showEvq (setEvq s2 q.val
        { e with waiting := xs, unreported := e.unreported + 1, firstAt := some (e.firstAt.getD s.count) }) q.val
      let s4 := reportLost (if x.1 then freeSlot s3 q.val else s3) q.val
      .next (if msixDue s4 q.val then sendMsix s4 q.val else s4)

/-- COALESCE_TIMER: COAL_T microseconds after the first record since the last message; a message that had to wait goes too (13 R625, R627). -/
def execCoalesceTimer (q : Fin 8) (s0 : State) : Out :=
  let irq := rdReg s0 (onPage Reg.evqIrq q.val)
  let s := msixPending (evqOwner s0 q.val) (rfld irq 3 0) s0
  match (evqOf s q.val).firstAt with
  | none => .next s
  | some t => .next (if rbit irq 4 && decide (t + 1250 * rfld irq 31 16 ≤ s.count) then sendMsix s q.val else s)

/-- Set or clear a function's SUSPENDED (13 R631 to R634). -/
def suspendFn (s : State) (fn : Nat) (on : Bool) : State :=
  if fn = 0 then
    let s1 := wrB s Reg.hifStatus 10 on
    if on then setEvt s1 Reg.pageHif 4 else s1
  else
    let s1 := putHif s { s.hif with vfSusp := listPut s.hif.vfSusp (fn - 1) on }
    if on then setEvt s1 (onPage Reg.pageVfc (fn - 1)) 4 else s1

/-- Set or clear a function's Bus Master Enable (13 R627). -/
def setBme (s : State) (fn : Nat) (on : Bool) : State :=
  if fn = 0 then wrB s Reg.hifStatus 9 on else putHif s { s.hif with vfBme := listPut s.hif.vfBme (fn - 1) on }

/-- Change a function's configuration (13 R587). -/
def modPcie (s : State) (fn : Nat) (f : PcieFn → PcieFn) : State :=
  putHif s { s.hif with pcie := smSet (dflt {}) s.hif.pcie fn (f (smGet (dflt ({} : PcieFn)) s.hif.pcie fn)) }

/-- A reset function is in D0 with the family's configuration; the status of its AER stays (13 R587; PRESUMED, log 70). -/
def pcieDefaults (s : State) (fn : Nat) : State := modPcie s fn fun c => { unsupported := c.unsupported }

/-- HIF_RESUME (13 R633, R634). -/
def execHifResume (fn : Fin 9) (s : State) : Out := .next (suspendFn s fn.val false)

/-- The waiting records of a queue are discarded, and the reserve slots of its completions freed (13 R633). -/
def dropRecords (q : Nat) (s : State) : State :=
  let e := evqOf s q
  reportLost (showEvq (setEvq s q { e with waiting := [], reserved := e.reserved - e.waiting.countP (·.1) }) q) q

/-- A function's DISCARD covers a function: the PF's covers all (13 R633, R634). -/
def covers (fn k : Nat) : Bool := fn == 0 || fn == k

/-- An active GENERATE completes with CANCELLED; of its records those discarded are not written (13 R616, R633). -/
def cancelGen (gone : List TokRec) (e : Nat × Context) (s : State) : State :=
  let s1 := match (ctxOf s e.1).join with
    | some j => if j.unpark then s else cancelJoin s e.1
    | none => s
  match e.2.gen with
  | some g => endGen s1 e.1 0x0C (waitsOf g.ref 0 (gone.filter (waitsFor e.1 e.2.sid)))
  | none => s1

/-- A last record among those discarded: its GENERATE completes with CANCELLED and the records written; a completion that only waited behind
records is given (13 R616, R633, R635). -/
def cancelTok (gone : List TokRec) (t : TokRec) (s : State) : State :=
  match t.fin with
  | some (c, st, w6, w7) => if t.bare then finish s c st w6 w7 else finish s c 0x0C (writtenOf s gone c) 0
  | none => s

/-- HIF_DISCARD (13 R633 to R635). -/
def execHifDiscard (fn : Fin 9) (s : State) : Out :=
  let gone := s.hif.held.filter fun t => covers fn.val t.fn
  let s1 := putHif s { s.hif with held := s.hif.held.filter fun t => !covers fn.val t.fn }
  let s2 := each ((List.range 8).filter fun q => covers fn.val (evqOwner s q)) dropRecords s1
  let s3 := each gone (cancelTok gone) (suspendFn s2 fn.val false)
  .next (each ((s3.gener.ctxs).filter fun e => covers fn.val (ctxFn s3 e.2)) (cancelGen gone) s3)

/-- HELD_RECORDS_FLUSH: held token records are written in their order as writes are permitted again, and a launch that they delayed is due again
(13 R629, R630). -/
def execHeldRecordsFlush (s : State) : Out :=
  .next (each s.hif.held (fun t u => releaseTok u t) (putGener (putHif s { s.hif with held := [] }) { s.gener with again := true }))

/-- Rings and queues of the covered functions lose ENABLE, whatever is written in the same count (13 R631, R632, 17 R756). -/
def disableAll (s : State) (fn : Nat) : State :=
  let s1 := each ((List.range 128).filter fun r => covers fn (ringOwner s r)) (fun r t => noteHw (disableRing r t) (onPage Reg.cmqCtl r) 1) s
  each ((List.range 8).filter fun q => covers fn (evqOwner s q)) (fun q t => noteHw (disableEvq q t) (onPage Reg.evqCtl q) 1) s1

/-- HIF.STATUS's link fields change, with LINK_CHANGED (13 R585, R637, R640). -/
def showLink (s : State) (up : Bool) (speed width : Nat) : State :=
  let s1 := setEvt (wrF (wrF (wrB s Reg.hifStatus 0 up) Reg.hifStatus 3 1 speed) Reg.hifStatus 8 4 width) Reg.pageHif (if up then 1 else 2)
  raiseEv s1 Reg.pageHif 0 .block 0x10 0 0x0003 0 [speed + width * 2 ^ 4 + b2n up * 2 ^ 9]

/-- The effects of R631 on the PF; its functions lose Bus Master Enable. -/
def resetPf (s : State) : State :=
  let s1 := suspendFn (disableAll s 0) 0 true
  each (List.range 9) (fun k t => pcieDefaults (setBme t k false) k) s1

/-- The link goes down (13 R631). -/
def linkDown (s : State) : State :=
  let s1 := resetPf s
  if rdB s Reg.hifStatus 0 then showLink s1 false 0 0 else s1

/-- FUNCTION_LEVEL_RESET: an FLR, a hot reset or a link-down of a function (13 R631, R632). -/
def execFunctionLevelReset (fn : Fin 9) (how : FnReset) (s : State) : Out :=
  .next (if fn.val = 0 then (if how = .linkDown then linkDown s else resetPf s)
    else pcieDefaults (setBme (suspendFn (disableAll s fn.val) fn.val true) fn.val false) fn.val)

/-- PERST_N: only the PCIe endpoint is reset (15 R682). -/
def execPerstN (s : State) : Out := .next (linkDown s)

/-- The directed speed change, once the presets are loaded (13 R585). -/
def speedChange (s : State) : State :=
  if rdB s Reg.hifStatus 0 && decide (rdF s Reg.hifStatus 3 1 < s.hif.speed) then showLink s true s.hif.speed s.hif.width else s

/-- LINK_UP: the link reaches L0; `speed` and `width` are the highest that both ends support, and the first training stops at
8.0 GT/s (13 R584, R585). -/
def execLinkUp (speed width : Nat) (s : State) : Out :=
  if !s.hif.trained || rdB s Reg.hifStatus 0 || !(decide (1 ≤ speed) && decide (speed ≤ 5)) || !([1, 2, 4, 8, 16].contains width) then .next s
  else
    let s1 := showLink (putHif s { s.hif with speed := speed, width := width }) true (min 3 speed) width
    .next (if 2 ≤ svcLevel s then speedChange s1 else s1)

/-- BAR2_BASE's bits below the window size read 0 (13 R590, R637). -/
def trimBase (s : State) : State :=
  let b := rd64 s Reg.hifBar2BaseLo / 2 ^ s.hif.bar2Log2 * 2 ^ s.hif.bar2Log2
  wr64 s Reg.hifBar2BaseLo b

/-- The code of a limit of 128 bytes times a power of two in the Device Control register. -/
def limitCode (n : Nat) : Nat := bitlen (n / 256)

/-- A doubleword of a function's configuration space that one of the supported capabilities shows, as PCIe lays it out (13 R587, R590, R626;
PRESUMED, log 70). -/
def cfgWord (s : State) (fn : Nat) (r : CfgReg) : Nat :=
  let c : PcieFn := smGet (dflt ({} : PcieFn)) s.hif.pcie fn
  match r with
  | .command => b2n (fnBme s fn) * 2 ^ 2
  | .pmcsr => if c.d3hot then 3 else 0
  | .devCtl => limitCode c.payload * 2 ^ 5 + limitCode c.readReq * 2 ^ 12
  | .devCtl2 => b2n c.tag10 * 2 ^ 12
  | .aerStatus => b2n c.unsupported * 2 ^ 20
  | .aerCtl => 2 ^ 5 + b2n c.ecrcGen * 2 ^ 6 + 2 ^ 7 + b2n c.ecrcCheck * 2 ^ 8
  | .msix => 0x11 + ((msixVectors fn).length - 1) * 2 ^ 16 + b2n c.msixMask * 2 ^ 30 + b2n c.msixEn * 2 ^ 31
  | .barCtl => 2 + (s.hif.bar2Log2 - 20) * 2 ^ 8

/-- CONFIG_REQUEST: served from level 2 on, retried before (13 R587, R590, R626, R627, 14 R644). -/
def execConfigRequest (q : CfgReq) (s : State) : Out :=
  if svcLevel s < 2 then .next (putHif s { s.hif with retryStatus := true })
  else
    let s1 := putHif s { s.hif with retryStatus := false }
    match q with
    | .read fn r => .next (putHif s1 { s1.hif with lastRead := leBytes 4 (cfgWord s1 fn.val r) })
    | .bme fn on => .next (setBme s1 fn.val on)
    | .bar2Size n =>
      .next (if 28 ≤ n ∧ n ≤ 37 then trimBase (putHif s1 { s1.hif with bar2Log2 := n }) else s1)
    | .power fn d3 => .next (modPcie s1 fn.val fun c => { c with d3hot := d3 })
    | .payload fn b => .next (if b ≤ 512 then modPcie s1 fn.val fun c => { c with payload := b } else s1)
    | .readReq fn b => .next (if b ≤ 4096 then modPcie s1 fn.val fun c => { c with readReq := b } else s1)
    | .tag10 fn on => .next (modPcie s1 fn.val fun c => { c with tag10 := on })
    | .ecrc fn gen check => .next (modPcie s1 fn.val fun c => { c with ecrcGen := gen, ecrcCheck := check })
    | .aerClear fn => .next (modPcie s1 fn.val fun c => { c with unsupported := false })
    | .msix fn en mask =>
      .next (each (msixVectors fn.val) (msixPending fn.val) (modPcie s1 fn.val fun c => { c with msixEn := en, msixMask := mask }))

/-- A request of a function completes as an Unsupported Request: nothing counts it, and the function's AER keeps its status (13 R587, R589, 17
R748; log 70). -/
def refuseReq (s : State) (fn : Nat) : State :=
  let s1 := modPcie s fn fun c => { c with unsupported := true }
  putHif s1 { s1.hif with unsupported := true, lastRead := [] }

/-- UNSUPPORTED_REQUEST: an access of the PF's BAR0 of the wrong size or alignment (13 R589). -/
def execUnsupportedRequest (off size : Nat) (s : State) : Out :=
  if (size = 4 ∨ size = 8) ∧ off % size = 0 then .next s else .next (refuseReq s 0)

/-- Count an access outside every page (17 R748, R759). -/
def countUnmapped (s : State) (off : Nat) (write : Bool) : State :=
  setEvt (wrN (cntReg s Reg.glbUnmapped 1) Reg.glbUnmappedAddr (off % 2 ^ 25 + 2 ^ 31 * b2n write)) Reg.pageGlb 2

/-- An offset of the PF's BAR0 lies in a page of R747. -/
def mappedOff (off : Nat) : Bool :=
  (off < 0x2000000 && (pageOf off).isSome) || (decide (0x300000 ≤ off) && decide (off < 0x380000))

/-- UNMAPPED_ACCESS: an aligned access of 4 bytes reads zero, is discarded as a write, and counts; any other is an Unsupported Request (13 R589,
17 R748). -/
def execUnmappedAccess (off : Nat) (write : Bool) (s : State) : Out :=
  if mappedOff off then .next s
  else if off % 4 ≠ 0 ∨ fnAsleep s 0 = true then .next (refuseReq s 0)
  else
    let s1 := countUnmapped s off write
    .next (putHif s1 { s1.hif with unsupported := false, lastRead := if write then s1.hif.lastRead else leBytes 4 0 })

/-- A BAR2 access is denied: closed, or at or above 0x24_0000_0000 (13 R592). -/
def bar2Denied (s : State) (off len : Nat) : Bool :=
  !rdB s Reg.hifStatus 11 || decide (0x2400000000 < rd64 s Reg.hifBar2BaseLo + off + len)

/-- Count a denied BAR2 access (13 R592). -/
def countDenied (s : State) : State := setEvt (cntReg s Reg.hifBar2Denied 1) Reg.pageHif 32

/-- BAR2_READ: `errs` are the errors that its reads of HBM units find (09 R455, R456, 13 R587, R590, R592). -/
def execBar2Read (off len : Nat) (s : State) (errs : List (Nat × Ecc) := []) : Out :=
  if fnAsleep s 0 then .next (refuseReq s 0)
  else if bar2Denied s off len then
    let s1 := countDenied s
    .next (putHif s1 { s1.hif with lastRead := List.replicate len 255 })
  else
    let a := rd64 s Reg.hifBar2BaseLo + off
    let es := readErrs [(a, len)] errs
    let s1 := eccNote es s
    .next (putHif s1 { s1.hif with lastRead := memRange (eccMem s.hbm es) a len })

/-- BAR2_WRITE (13 R587, R590, R592). -/
def execBar2Write (off : Nat) (data : List Byte) (s : State) : Out :=
  if fnAsleep s 0 then .next (refuseReq s 0)
  else if bar2Denied s off data.length then .next (countDenied s)
  else
    let a := rd64 s Reg.hifBar2BaseLo + off
    .next (foreignWrite (hbmWrite s a data) a data.length)

/-- BAR2_OPEN: with OPEN_REQ, at a count with no execution and no host transfer (13 R591). -/
def execBar2Open (s : State) : Out :=
  .next (if rdB s Reg.hifBar2Ctl 0 && !s.sched.exec.running && !xferBusy s then wrB s Reg.hifStatus 11 true else s)

/-- BAR2_CLOSE: OPEN_REQ is cleared and received accesses have completed (13 R591). -/
def execBar2Close (s : State) : Out := .next (if rdB s Reg.hifBar2Ctl 0 then s else wrB s Reg.hifStatus 11 false)

end Sys2Proof.Machine
end

