-- ==== Sys2Proof/Machine/Falbo.lean ====
section
/-!
DEFINITION. The operations of the Falbo die that several commands share: levels, raw outputs, trip outputs, trips and pins
of the Weirs and pulse generators (10 R479, 12 R548 to R578).
-/
namespace Sys2Proof.Machine

/-- The frame length F of a LEN_CODE (10 R479). -/
def frameLen (code : Nat) : Nat := 78125 * 2 ^ code

/-- BAR0 answers, and its Falbo pages with it: from level 2 on, once the die-to-die interface is trained (14 R641, 17 R749). -/
def falboUp (s : State) : Bool := decide (2 ≤ svcLevel s) && rdB s Reg.snsStatus 2

/-- Sensing runs from service level 1 (10 R496, 12 R575). -/
def sensing (s : State) : Bool := decide (1 ≤ svcLevel s)

/-- Replace the Falbo die's hidden state. -/
def setFalbo (s : State) (f : Falbo) : State := putFalbo s f

/-- A Weir. -/
def weirOf (s : State) (w : Nat) : Weir := smGet (dflt {}) s.falbo.weirs w

/-- Replace a Weir. -/
def setWeir (s : State) (w : Nat) (x : Weir) : State := setFalbo s { s.falbo with weirs := smSet (dflt {}) s.falbo.weirs w x }

/-- A pulse generator. -/
def pulseOf (s : State) (j : Nat) : Pulse := smGet (dflt {}) s.falbo.pulses j

/-- Replace a pulse generator. -/
def setPulse (s : State) (j : Nat) (x : Pulse) : State := setFalbo s { s.falbo with pulses := smSet (dflt {}) s.falbo.pulses j x }

/-- A register of Weir w (12 R547, R581). -/
def weirReg (off w : Nat) : Nat := off + (w / 8) * 0x1000 + (w % 8) * 0x20

/-- A register of pulse generator j (12 R547, R582). -/
def pgReg (off j : Nat) : Nat := off + (j / 8) * 0x1000 + (j % 8) * 0x80

/-- AVDD is within range (10 R513). -/
def avddOk (s : State) : Bool := rdB s Reg.snsStatus 0

/-- CFG fields of a Weir's configuration (12 R581). -/
def Weir.enabled (x : Weir) : Bool := bitN x.cfg 0
def Weir.port (x : Weir) : Nat := fld x.cfg 5 2
def Weir.mode (x : Weir) : Nat := fld x.cfg 12 11
def Weir.resCode (x : Weir) : Nat := fld x.cfg 14 13
def Weir.filtN (x : Weir) : Nat := fld x.cfg 21 18
def Weir.filtK (x : Weir) : Nat := fld x.cfg 25 22
def Weir.test (x : Weir) : Nat := fld x.cfg 27 26

/-- A threshold in units of 2^-16 of full scale: the upper RES bits of its 12-bit code (12 R549). -/
def thrLevel (res code : Nat) : Nat :=
  let drop := 2 ^ (6 - 2 * res)
  code / drop * drop * 16

/-- The level that a Weir compares: its source, zero on a section of a powered-down port, or the internal reference
(12 R548, R579, 10 R484). -/
def weirLevel (s : State) (x : Weir) : Nat :=
  if x.test = 2 then fld x.cfg 30 28 * 0x2000
  else if bitN x.cfg 1 && !bitN (smGet (dflt 9) s.falbo.frames.now.ctl x.port) 0 then 0
  else x.u

/-- One comparator: whether u is above a threshold; free within the offset and while AVDD is out of range (12 R551, R578). -/
def above? (s : State) (side off u t : Nat) : Bool :=
  if !avddOk s || (decide (u ≤ t + off) && decide (t ≤ u + off)) then Config.comparator s.draw side else decide (t < u)

/-- The comparators of a Weir: above HI, below LO (12 R550, R551, R581). -/
def comparators (s : State) (w : Nat) (x : Weir) : Bool × Bool :=
  let u := weirLevel s x
  let off := if x.mode = 3 then 64 else 32
  (above? s (2 * w) off u (thrLevel x.resCode (fld x.thr 11 0)), !above? s (2 * w + 1) off u (thrLevel x.resCode (fld x.thr 27 16)))

/-- The raw decision of an enabled Weir (12 R550, R579). -/
def rawDecision (x : Weir) (c : Bool × Bool) : Bool :=
  let ab := bitN x.cfg 15
  let be := bitN x.cfg 16
  if x.test = 1 then (ab && !c.1) || (be && !c.2) else (ab && c.1) || (be && c.2)

/-- The comparators follow the source, and the raw output unless the Weir blanks (12 R550, R555, R581). -/
def evalWeir (s : State) (w : Nat) : State :=
  let x := weirOf s w
  if !x.enabled then setWeir s w { x with raw := false, above := false, below := false }
  else
    let c := comparators s w x
    let raw := if x.blankUntil.isSome then x.raw else rawDecision x c
    putDraw (setWeir s w { x with raw := raw, above := c.1, below := c.2 }) (s.draw + 1)

/-- The raw and qualified outputs of a Weir (12 R550, R556). -/
def rawOut (x : Weir) : Bool := x.enabled && x.raw
def qualOut (x : Weir) : Bool := x.enabled && x.qual

/-- A Weir's trip output (12 R558, R580). -/
def tripOut (x : Weir) : Bool :=
  if x.test ≠ 0 ∧ bitN x.cfg 31 = false then false else if bitN x.cfg 17 then qualOut x else rawOut x

/-- The trip outputs of the Weirs of a mask, as a mask (12 R558, R560). -/
def tripWord (s : State) (mask : Nat) : Nat :=
  sumN ((List.range 32).map fun w => if bitN mask w && tripOut (weirOf s w) then 2 ^ w else 0)

/-- The CTL register of a pulse generator. -/
def pgCtlOf (s : State) (j : Nat) : Nat := rdN s (pgReg Reg.pgCtl j)

/-- The trip mask of a pulse generator. -/
def pgMask (s : State) (j : Nat) : Nat := rdN s (pgReg Reg.pgTripMask j)

/-- The supply term of a trip input (12 R558). -/
def supplyTerm (s : State) (ctl : Nat) : Bool := bitN ctl 5 && !avddOk s

/-- The trip input of pulse generator j (12 R558). -/
def tripInput (s : State) (j : Nat) : Bool := tripWord s (pgMask s j) != 0 || supplyTerm s (pgCtlOf s j)

/-- The greatest edge at or before r, or none (12 R568). -/
def edgeAt (r : Nat) : List (Nat × Bool) → Option Bool
  | [] => none
  | (o, v) :: es => if o ≤ r then some ((edgeAt r es).getD v) else none

/-- The level of a program at count t (12 R568). -/
def progLevel (p : PgProg) (idle : Bool) (t : Nat) : Bool :=
  match p.edges.getLast? with
  | none => idle
  | some e =>
    let q := (t - p.start) / max 1 p.period
    if t < p.start ∨ (p.rep ≠ 0 ∧ p.rep ≤ q) then idle
    else match edgeAt ((t - p.start) % max 1 p.period) p.edges with
      | some v => v
      | none => if q = 0 then idle else e.2

/-- The level that pulse generator j's program gives now (12 R568, R570). -/
def levelNow (s : State) (j : Nat) : Bool := progLevel (pulseOf s j).prog (bitN (pgCtlOf s j) 1) s.count

/-- The pin that a pulse generator's state calls for (12 R562, R569, R573, R574). -/
def pinOf (s : State) (j : Nat) : Pin :=
  let p := pulseOf s j
  let c := pgCtlOf s j
  if !sensing s || !bitN c 0 then .off
  else if p.tripped then (match fld c 3 2 with | 0 => .low | 1 => .high | _ => .off)
  else if levelNow s j then .high else .low

/-- Drive the pin. -/
def drivePin (s : State) (j : Nat) : State := setPulse s j { pulseOf s j with pin := pinOf s j }

/-- A pulse generator trips with the given causes: the records of R560 but TRIP_IN, the safe level, the re-arm limit
(12 R559, R560, R563, R567). The pin changes in this count, and TRIP_AT lies 0 to 4 counts after it (log 18). -/
def tripPulse (s : State) (j cause : Nat) : State :=
  let p := pulseOf s j
  let at_ := s.count + Config.tripLag s.draw % 5
  let lim := fld (pgCtlOf s j) 23 20
  let stop := decide (lim ≠ 0) && decide (lim ≤ p.autoCount)
  let s1 := setPulse (putDraw s (s.draw + 1)) j
    { p with armed := false, tripped := true, bsince := 0, report := true, trippedAt := s.falbo.ticks, autoStopped := p.autoStopped || stop }
  let s2 := wrN (wrN (wrN s1 (pgReg Reg.pgTripAtLo j) (lo32 at_)) (pgReg Reg.pgTripAtHi j) (hi32 at_)) (pgReg Reg.pgTripCause j) cause
  let s3 := drivePin (cntReg s2 (pgReg Reg.pgTrips j) 1) j
  if stop then
    raiseEv s3 (onPage Reg.pagePg (j / 8)) (2 ^ 17) .block 0x45 j 0x0003 0 [lo32 at_, hi32 at_, p.autoCount]
  else s3

/-- Trip every armed, enabled pulse generator whose trip input is 1 (12 R558, R559, R578). -/
def checkTrip (j : Nat) (s : State) : State :=
  let w := tripWord s (pgMask s j) != 0
  let sup := supplyTerm s (pgCtlOf s j)
  if (pulseOf s j).armed && bitN (pgCtlOf s j) 0 && (w || sup) then
    tripPulse s j (b2n w + 4 * b2n sup)
  else s

/-- Test the trip inputs of all pulse generators. -/
def checkTrips (s : State) : State := each (List.range 16) checkTrip s

/-- The Weir's raw output and what follows from it (12 R550, R559). -/
def weirChange (s : State) (w : Nat) : State := checkTrips (evalWeir s w)

/-- The TRIPPED event, at the first D16 edge after the trip, with TRIP_IN (12 R560, R583). -/
def reportTrip (j : Nat) (s : State) : State :=
  if (pulseOf s j).report then
    let tin := tripWord s (pgMask s j)
    let s1 := wrN (setPulse s j { pulseOf s j with report := false }) (pgReg Reg.pgTripIn j) tin
    raiseEv s1 (onPage Reg.pagePg (j / 8)) (2 ^ (j % 8)) .block 0x45 j 0x0001 0
      [rdN s1 (pgReg Reg.pgTripAtLo j), rdN s1 (pgReg Reg.pgTripAtHi j), tin, rdN s1 (pgReg Reg.pgTripCause j)]
  else s

/-- A pulse generator starts tripped (12 R573). -/
def startPulse (s : State) (j : Nat) : State :=
  let p := pulseOf s j
  tripPulse (setPulse s j { p with clear := bitN (pgCtlOf s j) 4 }) j 8

/-- The blanking time of a Weir's mode and resolution, in counts (12 R554). -/
def blankTime (mode res : Nat) : Nat :=
  max (nthN [63, 250, 1000, 4000] res) (nthN [40, 300, 5000, 100000] mode)

/-- A Weir begins to blank, holding its raw output (12 R554, R555). -/
def blankWeir (s : State) (w : Nat) : State :=
  let x := weirOf s w
  setWeir s w { x with blankUntil := some (s.falbo.ticks + blankTime x.mode x.resCode) }

end Sys2Proof.Machine
end

