-- ==== Sys2Proof/Machine/Weirs.lean ====
section
/-!
DEFINITION. The Weirs: WEIR_CROSSING, QUAL_CHANGE, BLANKING_END, the D15 tick of the majority filter, staged sets and the
power-on defaults (12 R547 to R557, R575).
-/
namespace Sys2Proof.Machine

/-- WEIR_CROSSING: the source level becomes u (2^-16 of full scale) and the raw output follows without a clock
(12 R548 to R551, R559). -/
def execWeirCrossing (w : Fin 32) (u : Nat) (s : State) : Out :=
  if !sensing s then .next s
  else .next (weirChange (setWeir s w.val { weirOf s w.val with u := u }) w.val)

/-- BLANKING_END: the blanking time is over and the raw output follows the source again (12 R554, R555). -/
def execBlankingEnd (w : Fin 32) (s : State) : Out :=
  match (weirOf s w.val).blankUntil with
  | none => .next s
  | some t =>
    if s.falbo.ticks < t then .next s
    else .next (weirChange (setWeir s w.val { weirOf s w.val with blankUntil := none }) w.val)

/-- What the majority filter makes of the qualified state (12 R556). -/
def filtered (x : Weir) : Bool :=
  let ones := popN x.filtN x.hist
  if x.filtK ≤ ones then true else if x.filtK ≤ x.filtN - ones then false else x.qual

/-- A D15 tick: the raw output is sampled, and an enabled Weir's filter takes the sample of two ticks earlier (12 R556, R581). -/
def tickWeir (w : Nat) (s : State) : State :=
  let x := weirOf s w
  setWeir s w { x with hist := (if x.enabled then (x.hist * 2 + b2n x.raw2) % 2 ^ x.filtN else x.hist),
                       raw2 := x.raw1, raw1 := rawOut x }

/-- A qualified change to 1 (12 R557, R583). -/
def qualOutChange (s : State) (w : Nat) : State :=
  let x := weirOf s w
  let s1 := setWeir s w { x with qual := true, outSeen := true }
  let s2 := wrN (wrN (cntReg s1 (weirReg Reg.wirTrans w) 1) (weirReg Reg.wirLastLo w) (lo32 s.count)) (weirReg Reg.wirLastHi w) (hi32 s.count)
  let page := onPage Reg.pageWir (w / 8)
  let bit := 2 ^ (w % 8)
  if x.outSeen then setEvt s2 page bit
  else raiseEv s2 page bit .block 0x44 w 0x0001 0 [lo32 s.count, hi32 s.count, b2n x.above + 2 * b2n x.below]

/-- A qualified change to 0 (12 R557, R583). -/
def qualInChange (s : State) (w : Nat) : State :=
  let x := weirOf s w
  let s1 := setWeir s w { x with qual := false, inSeen := true }
  let s2 := wrN (wrN s1 (weirReg Reg.wirLastInLo w) (lo32 s.count)) (weirReg Reg.wirLastInHi w) (hi32 s.count)
  let page := onPage Reg.pageWir (w / 8)
  let bit := 2 ^ (16 + w % 8)
  if x.inSeen then setEvt s2 page bit
  else raiseEv s2 page bit .block 0x44 w 0x0002 0 [lo32 s.count, hi32 s.count]

/-- QUAL_CHANGE: the filter moves the qualified state of an enabled Weir (12 R556, R557). -/
def execQualChange (w : Fin 32) (s : State) : Out :=
  let x := weirOf s w.val
  if !sensing s || !x.enabled || filtered x == x.qual then .next s
  else .next (checkTrips (if x.qual then qualInChange s w.val else qualOutChange s w.val))

/-- A staged set is valid (12 R553). -/
def weirSetOk (cfg : Nat) : Bool :=
  let n := fld cfg 21 18
  let k := fld cfg 25 22
  decide (1 ≤ n) && decide (ceilDiv (n + 1) 2 ≤ k) && decide (k ≤ n) && fld cfg 27 26 != 3

/-- A set changes what R554 lists. -/
def blanks (x : Weir) (cfg thr : Nat) : Bool :=
  fld x.cfg 14 0 != fld cfg 14 0 || x.test != fld cfg 27 26 || x.thr != thr

/-- Apply a staged set at a frame boundary (12 R553 to R556). -/
def applyWeirSet (w : Nat) (s : State) : State :=
  let x := weirOf s w
  if x.staged = 0 then s
  else
    let cfg := if bitN x.staged 0 then rdN s (weirReg Reg.wirCfg w) else x.cfg
    let thr := if bitN x.staged 1 then rdN s (weirReg Reg.wirThr w) else x.thr
    let page := onPage Reg.pageWir (w / 8)
    if weirSetOk cfg then
      let n := fld cfg 21 18
      let y := { x with staged := 0, err := false, cfg := cfg, thr := thr, raw := x.raw && bitN cfg 0,
                        hist := if n = x.filtN then x.hist else 2 ^ n - 1 }
      let s1 := setWeir s w y
      evalWeir (if blanks x cfg thr then blankWeir s1 w else s1) w
    else
      raiseEv (cntErr (setWeir s w { x with staged := 0, err := true }) page 1) page 0x100 .block 0x44 w 0x0003 0
        [cfg, thr, lo32 s.count, hi32 s.count]

/-- A new frame begins for a Weir's events (12 R557). -/
def newFrameWeir (w : Nat) (s : State) : State := setWeir s w { weirOf s w with outSeen := false, inSeen := false }

/-- What a port's change of ENABLE or GAIN does to a Weir that watches it (12 R554, 10 R484). -/
def portChanged (port : Nat) (gain enable : Bool) (w : Nat) (s : State) : State :=
  let x := weirOf s w
  if x.enabled && x.port == port then
    let s1 := if gain then blankWeir s w else s
    if gain || enable then evalWeir s1 w else s1
  else s

/-- A Weir at service level 1: its power-on defaults, history and qualified state all ones, blanking at 1 (12 R555, R556,
R575). -/
def guardWeir (cfg thr : Nat) (w : Nat) (s : State) : State :=
  let on := bitN cfg 0
  let s1 := wrN (wrN s (weirReg Reg.wirCfg w) cfg) (weirReg Reg.wirThr w) (thr % 2 ^ 28 / 2 ^ 16 * 2 ^ 16 + thr % 2 ^ 12)
  let s2 := setWeir s1 w { cfg := cfg, thr := rdN s1 (weirReg Reg.wirThr w), raw := on, raw1 := on, raw2 := on }
  if on then evalWeir (blankWeir s2 w) w else s2

/-- WIR.STATE (12 R581). -/
def weirState (s : State) (w : Nat) : Nat :=
  let x := weirOf s w
  if !sensing s then 0x12
  else b2n (rawOut x) + 2 * b2n (qualOut x) + 4 * b2n x.above + 8 * b2n x.below + 16 * b2n x.blankUntil.isSome + 32 * b2n (x.staged != 0)
    + 64 * b2n x.err

/-- WIR.SUMMARY of page g: the raw outputs as D15 sampled them (12 R581). -/
def weirSummary (s : State) (g : Nat) : Nat :=
  if !sensing s then 0xFF00
  else sumN ((List.range 8).map fun i =>
    let x := weirOf s (8 * g + i)
    b2n x.raw1 * 2 ^ i + b2n (qualOut x) * 2 ^ (8 + i))

/-- A write of WIR.CFG or WIR.THR is staged (12 R553). -/
def stageWeir (s : State) (w r : Nat) : State := setWeir s w { weirOf s w with staged := (weirOf s w).staged ||| 2 ^ r }

end Sys2Proof.Machine
end

