-- ==== Sys2Proof/Machine/Pulses.lean ====
section
/-!
DEFINITION. The pulse generators: PG_ENABLE, PG_CLEAR, PG_SW_TRIP, PG_COMMIT, PROGRAM_APPLY, PROGRAM_EDGE, AVDD_FAIL,
AVDD_OK, re-arming and the power-on defaults (12 R558 to R578).
-/
namespace Sys2Proof.Machine

/-- Keep what a boundary at this count still sees of the registers that a write changes (12 R565). -/
def noteWrite (s : State) (j : Nat) : State :=
  let p := pulseOf s j
  if p.wrote = some s.count then s
  else setPulse s j { p with wrote := some s.count, ctlOld := pgCtlOf s j, maskOld := pgMask s j, clearOld := p.clear }

/-- A write of PG.CTL: SAFE 3 leaves SAFE, enabling starts tripped, disabling turns the driver off (12 R562, R565, R573). -/
def writePgCtl (s : State) (j v : Nat) : State :=
  let old := pgCtlOf s j
  let v1 := if fld v 3 2 = 3 then v - fld v 3 2 * 4 + fld old 3 2 * 4 else v
  let s1 := wrN (noteWrite s j) (pgReg Reg.pgCtl j) (v1 % 2 ^ 24 / 2 ^ 12 * 2 ^ 12 + v1 % 2 ^ 8)
  let s2 :=
    if bitN v 0 && !bitN old 0 then startPulse s1 j
    else if !bitN v 0 && bitN old 0 then
      setPulse s1 j { pulseOf s1 j with armed := false, tripped := false, clear := false }
    else s1
  checkTrip j (drivePin s2 j)

/-- A write of PG.TRIP_MASK (12 R558, R565). -/
def writePgMask (s : State) (j v : Nat) : State := checkTrip j (wrN (noteWrite s j) (pgReg Reg.pgTripMask j) v)

/-- PG_ENABLE: ENABLE goes from 0 to 1 (12 R573, 17 R749). -/
def execPgEnable (j : Fin 16) (s : State) : Out :=
  let c := pgCtlOf s j.val
  .next (if bitN c 0 || !falboUp s then s else writePgCtl s j.val (c + 1))

/-- CLEAR sets CLEAR_PENDING of a tripped pulse generator (12 R564, R565). -/
def clearPulse (s : State) (j : Nat) : State :=
  let s1 := noteWrite s j
  if (pulseOf s1 j).tripped then setPulse s1 j { pulseOf s1 j with clear := true } else s1

/-- PG_CLEAR (12 R564, 17 R749). -/
def execPgClear (j : Fin 16) (s : State) : Out := .next (if falboUp s then clearPulse s j.val else s)

/-- SW_TRIP trips an armed pulse generator (12 R559, R561). -/
def swTrip (s : State) (j : Nat) : State :=
  if (pulseOf s j).armed && bitN (pgCtlOf s j) 0 then tripPulse (noteWrite s j) j 2 else s

/-- PG_SW_TRIP (12 R559, 17 R749). -/
def execPgSwTrip (j : Fin 16) (s : State) : Out := .next (if falboUp s then swTrip s j.val else s)

/-- A shadow edge register (12 R582). -/
def shadowEdge (s : State) (j e : Nat) : Nat := rdN s (pgReg Reg.pgEdge0 j + 4 * e)

/-- Consecutive offsets satisfy a test (12 R571). -/
def chain (ok : Nat → Nat → Bool) : List Nat → Bool
  | a :: b :: xs => ok a b && chain ok (b :: xs)
  | _ => true

/-- The cause for which a commit is rejected, 0 when it is accepted; the lowest of several (12 R571). -/
def commitCause (s : State) (j : Nat) : Nat :=
  let period := rdN s (pgReg Reg.pgPeriod j)
  let n := rdN s (pgReg Reg.pgShape j)
  let offs := (List.range (min n 8)).map fun e => fld (shadowEdge s j e) 30 0
  if period < 4 ∨ 2 ^ 31 < period then 1
  else if 8 < n ∨ chain (fun a b => decide (a < b)) offs = false ∨ offs.any (fun o => decide (period ≤ o)) then 2
  else if chain (fun a b => decide (a + 4 ≤ b)) offs = false
      ∨ (2 ≤ n ∧ period + offs.headD 0 < offs.getLastD 0 + 4) then 3
  else if rd64 s (pgReg Reg.pgApplyLo j) < s.count + 1250 then 4
  else if (pulseOf s j).pend.isSome then 5
  else 0

/-- The shadow program (12 R568, R582). -/
def shadowProg (s : State) (j : Nat) : PgProg :=
  { period := rdN s (pgReg Reg.pgPeriod j), start := rd64 s (pgReg Reg.pgStartLo j), rep := rdN s (pgReg Reg.pgRepeat j),
    edges := (List.range (rdN s (pgReg Reg.pgShape j))).map fun e => (fld (shadowEdge s j e) 30 0, bitN (shadowEdge s j e) 31) }

/-- COMMIT submits the shadow program (12 R571). -/
def commitPulse (s : State) (j : Nat) : State :=
  let c := commitCause s j
  let page := onPage Reg.pagePg (j / 8)
  if c = 0 then setPulse s j { pulseOf s j with pend := some (shadowProg s j, rd64 s (pgReg Reg.pgApplyLo j)) }
  else raiseEv (cntErr s page 1) page (2 ^ 16) .block 0x45 j 0x0005 0 [lo32 s.count, hi32 s.count, c]

/-- PG_COMMIT (12 R571, 17 R749). -/
def execPgCommit (j : Fin 16) (s : State) : Out := .next (if falboUp s then commitPulse s j.val else s)

/-- A write of PG.CMD: each bit that is 1 acts (12 R559, R564, R571). -/
def writePgCmd (s : State) (j v : Nat) : State :=
  let s1 := if bitN v 0 then clearPulse s j else s
  let s2 := if bitN v 1 then swTrip s1 j else s1
  if bitN v 2 then commitPulse s2 j else s2

/-- PROGRAM_APPLY: at its apply count the committed program replaces the old one (12 R571, R583). -/
def execProgramApply (j : Fin 16) (s : State) : Out :=
  let p := pulseOf s j.val
  match p.pend with
  | none => .next s
  | some (prog, at_) =>
    if s.count < at_ then .next s
    else
      let q := (p.seq + 1) % 2 ^ 16
      let s1 := drivePin (setPulse s j.val { p with prog := prog, pend := none, seq := q }) j.val
      .next (raiseEv s1 (onPage Reg.pagePg (j.val / 8)) 0 .block 0x45 j.val 0x0004 0 [lo32 at_, hi32 at_, q])

/-- PROGRAM_EDGE: an armed, enabled pulse generator drives the level of this count (12 R569, R570). -/
def execProgramEdge (j : Fin 16) (s : State) : Out :=
  .next (if (pulseOf s j.val).armed then drivePin s j.val else s)

/-- The re-arm test of one pulse generator at a boundary; `adv` advances BSINCE (12 R563 to R566). -/
def rearm (adv : Bool) (j : Nat) (s : State) : State :=
  let p := pulseOf s j
  let old := p.wrote == some s.count
  let ctl := if old then p.ctlOld else pgCtlOf s j
  let mask := if old then p.maskOld else pgMask s j
  let clear := if old then p.clearOld else p.clear
  if !bitN ctl 0 || !p.tripped || p.trippedAt == s.falbo.ticks then s
  else
    let n := if adv then min (p.bsince + 1) 255 else p.bsince
    let af := fld ctl 19 12
    let eligible := clear || (decide (af ≠ 0) && !p.autoStopped && decide (af ≤ n))
    let p1 := { p with bsince := n }
    if eligible && tripWord s mask == 0 && !supplyTerm s ctl then
      let cnt := if clear then 0 else min (p.autoCount + 1) 255
      let s1 := drivePin (setPulse s j
        { p1 with armed := true, tripped := false, clear := false, autoCount := cnt, autoStopped := p.autoStopped && !clear }) j
      checkTrip j (raiseEv s1 (onPage Reg.pagePg (j / 8)) (2 ^ (8 + j % 8)) .block 0x45 j 0x0002 0
        [lo32 s.count, hi32 s.count, b2n (!clear) + 256 * cnt])
    else setPulse s j p1

/-- Re-evaluate every enabled Weir. -/
def evalWeirs (s : State) : State := each (List.range 32) (fun w t => evalWeir t w) s

/-- The monitor of the Falbo die finds DVDD within its range, or not (10 R513). -/
def showDvdd (s : State) (ok : Bool) : State := wrB s Reg.snsStatus 1 ok

/-- AVDD_FAIL: AVDD leaves its range; the Weirs' decisions are unspecified and SUPPLY_TRIP trips; `dvdd` is what the monitor finds of
DVDD then (10 R513, 12 R558, R578). -/
def execAvddFail (s : State) (dvdd : Bool := true) : Out :=
  if !avddOk s then .next (showDvdd s dvdd)
  else
    let s1 := wrB (showDvdd s dvdd) Reg.snsStatus 0 false
    .next (if sensing s then checkTrips (evalWeirs s1) else s1)

/-- AVDD_OK: AVDD is back and the supply term leaves the trip inputs; at a boundary's count the re-arm test of that boundary
sees it (12 R558, R563). -/
def execAvddOk (s : State) (dvdd : Bool := true) : Out :=
  if avddOk s then .next (showDvdd s dvdd)
  else
    let s1 := wrB (showDvdd s dvdd) Reg.snsStatus 0 true
    if sensing s then
      let s2 := checkTrips (evalWeirs s1)
      .next (if s.falbo.frames.last = some s.falbo.ticks then each (List.range 16) (rearm false) s2 else s2)
    else .next s1

/-- A pulse generator at service level 1 (12 R573, R575). -/
def guardPulse (ctl mask : Nat) (j : Nat) (s : State) : State :=
  let c := ctl % 2 ^ 24 / 2 ^ 12 * 2 ^ 12 + ctl % 2 ^ 8
  let s1 := wrN (wrN s (pgReg Reg.pgCtl j) c) (pgReg Reg.pgTripMask j) mask
  if bitN c 0 then startPulse s1 j else drivePin s1 j

/-- PG.STATUS (12 R582). -/
def pgStatus (s : State) (j : Nat) : Nat :=
  let p := pulseOf s j
  if !sensing s then 0x10
  else b2n p.armed + 2 * b2n p.tripped + 4 * b2n p.clear + 8 * b2n (levelNow s j) + 16 * b2n (p.pin == .off) + 32 * b2n p.autoStopped
    + 64 * b2n p.pend.isSome + 128 * b2n (tripInput s j) + 256 * p.autoCount + 2 ^ 16 * p.seq

/-- A load of the global counter: armed pulse generators drive the level of the new count, the frame in progress may be irregular
and every channel restarts (10 R482, 11 R521, 12 R572). -/
def falboLoaded (s : State) : State :=
  let f := s.falbo
  let s1 := setFalbo s { f with
    frames := { f.frames with now := { f.frames.now with irregular := true } },
    dec := each (List.range 4) (fun c m => smSet (dflt {}) m c { smGet (dflt {}) m c with loaded := true }) f.dec }
  each (List.range 16) (fun j t => if (pulseOf t j).armed then drivePin t j else t) s1

end Sys2Proof.Machine
end

