-- ==== Sys2Proof/Machine/Power.lean ====
section
/-!
DEFINITION. Time: IEEE 1588, PPS and the global counter's discipline; the reference; temperature and hold windows; the
transition window; quarantine by window and by register (15 R683 to R705, R711 to R716, 09 R472 to R475).
-/
namespace Sys2Proof.Machine

/-- The role of a port (15 R699, R714). -/
def ptpRole (s : State) (k : Nat) : Nat := rdF s Reg.gctPtpRole (2 * k + 1) (2 * k)

/-- The slave port, 0 without one. -/
def slavePort (s : State) : Nat := ((List.range 8).find? fun k => ptpRole s k == 2).getD 0

/-- A port exchanges IEEE 1588 frames (15 R699, 07 R417). -/
def ptpOn (s : State) (k : Nat) : Bool := portUp s k && rdB s (onPage Reg.portCtl k) 3 && ptpRole s k != 3

/-- A GCT event of the source and the last offset (15 R716). -/
def lockEv (s : State) (bits code : Nat) (e : Int) : State :=
  raiseEv s Reg.pageGct bits .block 0x03 0 code 0 [rdF s Reg.gctCtl 1 0 + slavePort s * 4, wrapN 32 e, 0, 0]

/-- Lock is lost: the runs start again and PPS_OUT is low (15 R696, R700). -/
def unlock (s : State) : State := putPower (wrB s Reg.gctStatus 0 false) { s.power with ppsOut := false }

/-- The lock state after a measurement (15 R696). -/
def lockStep (s : State) (e : Int) : State :=
  let p := s.power
  if e.natAbs ≤ rdF s Reg.gctLockThr 15 0 then
    let s1 := putPower s { p with lockRun := min 16 (p.lockRun + 1), missRun := 0 }
    if 15 ≤ p.lockRun ∧ rdB s Reg.gctStatus 0 = false then lockEv (wrB s1 Reg.gctStatus 0 true) 1 0x0001 e else s1
  else
    let s1 := putPower s { p with lockRun := 0, missRun := min 4 (p.missRun + 1) }
    if 3 ≤ p.missRun ∧ rdB s Reg.gctStatus 0 = true then
      lockEv (unlock s1) 2 0x0002 e
    else s1

/-- A number within bounds. -/
def clampZ (lo hi z : Int) : Int := max lo (min hi z)

/-- The steering as CLK.STEER reports it (15 R695, R713). -/
def steerNow (s : State) : Int := sext 32 (rdN s Reg.clkSteer)

/-- The steering stays where it is (15 R691, R696). -/
def keepSteer (s : State) : State := putPower s { s.power with steerTo := steerNow s }

/-- The steering after a measurement makes for the loop's own value, within ±20 ppm; in holdover the PLL holds its last value (15 R691, R695;
the loop's value is free, log 14). -/
def steer (s : State) (e : Int) : State :=
  if rdB s Reg.clkStatus 2 then s
  else
    let z := clampZ (-20000000) 20000000 (Config.steer (steerNow s).toNat e (s.count - s.power.lastMeas))
    putPower s { s.power with steerTo := z }

/-- CLK.STEER moves towards the loop's value by 2 ppm per second: a unit of 10^-12 every 625 counts (15 R691, R695; the even pace is log 33). -/
def tickSteer (s : State) : State :=
  let z := steerNow s
  if s.count % 625 ≠ 0 ∨ rdB s Reg.clkStatus 2 = true ∨ s.power.steerTo = z then s
  else wrN s Reg.clkSteer (wrapN 32 (if z < s.power.steerTo then z + 1 else z - 1))

/-- CLK.SENSE takes a sample of VCORE and VMTX every 12,500 counts, 10 µs (15 R713; what the supplies' sensors read is free, log 33). -/
def tickSense (s : State) : State :=
  if s.count % 12500 ≠ 0 then s
  else putDraw (wrN s Reg.clkSense ((Config.sense s.draw false).toNat + (Config.sense s.draw true).toNat * 2 ^ 16)) (s.draw + 1)

/-- Why a load must wait: 1 group, 2 execution or chosen launch, 3 lock-step (15 R697, R714). -/
def loadBar (s : State) : Nat :=
  if azlState s ≠ 0 then 1
  else if s.sched.exec.running = true ∨ s.sched.nextLaunch.isSome = true then 2
  else if rdB s Reg.dbgLsCtl 0 then 3 else 0

/-- The count after a load of e, modulo 2^64: the next count is c + 1 + e (00 R10). -/
def loadedCount (s : State) (e : Int) : Nat := wrapN 64 ((s.count : Int) + e)

/-- An instant that a running interval is measured from, as the loaded counter numbers it: as far from the loaded count as it was from the
old, none before count 0 (log 33); `e` is the loaded count less the old. -/
def shiftAt (e : Int) (t : Nat) : Nat := ((t : Int) + e).toNat

/-- The instants of a port follow the loaded counter. -/
def shiftPort (e : Int) (p : Port) : Port :=
  { p with lastRx := shiftAt e p.lastRx, ackAt := p.ackAt.map (shiftAt e), lastKeep := shiftAt e p.lastKeep,
           helloAt := p.helloAt.map (shiftAt e), beyondAt := p.beyondAt.map (shiftAt e), ptpAt := shiftAt e p.ptpAt,
           announceAt := shiftAt e p.announceAt, txFree := shiftAt e p.txFree,
           ptp := { p.ptp with heard := none, t12 := none, asked := none }, replay := p.replay.map fun x => { x with sentAt := shiftAt e x.sentAt } }

/-- Intervals that run across a load keep their length: the instants they are measured from follow the counter (log 33). -/
def shiftTimes (s : State) (e : Int) : State :=
  let p := s.power
  let s1 := putPower s { p with
    window := p.window.map (shiftAt e), lateFrom := p.lateFrom.map (shiftAt e), holdoverAt := p.holdoverAt.map (shiftAt e),
    lastPps := p.lastPps.map (shiftAt e), overtempAt := p.overtempAt.map (shiftAt e),
    invalidAt := p.invalidAt.map fun x => (x.1, shiftAt e x.2) }
  let s2 := putAzl s1 { s1.azl with
    ports := s1.azl.ports.map (shiftPort e), waitSince := s1.azl.waitSince.map (shiftAt e),
    linkWaits := s1.azl.linkWaits.map fun w => { w with since := shiftAt e w.since } }
  let s3 := putGener s2 { s2.gener with xfers := s2.gener.xfers.map fun x => { x with doneAt := shiftAt e x.doneAt } }
  each (List.range 8) (fun q u => setEvq u q { evqOf u q with firstAt := (evqOf u q).firstAt.map (shiftAt e) }) s3

/-- Load the global counter (15 R697, R698). -/
def loadCounter (s : State) (e : Int) : State :=
  let c := loadedCount s e
  let a := shiftTimes s ((c : Int) - (s.count : Int))
  let p := a.power
  let q := { p with deferring := false, lastMeas := c, quarAt := c / max 1 (rdN s Reg.ldgQuarWindow * 2 ^ 32), nextPeriod := (c / max 1 p.periodEff + 1) * max 1 p.periodEff }
  let s1 := putPower (putSched (putCount a c) { s.sched with freezes := s.sched.freezes.filter fun w => w.active }) q
  let s2 := wrN (wrN (cntReg s1 Reg.gctLoads 1) Reg.gctLastLoadLo (wrapN 32 e)) Reg.gctLastLoadHi (wrapN 64 e / 2 ^ 32)
  raiseEv (wrF (falboLoaded s2) Reg.gctStatus 3 1 0) Reg.pageGct 4 .block 0x03 0 0x0003 0
    [wrapN 32 e, wrapN 64 e / 2 ^ 32, lo32 (c + 1), hi32 (c + 1)]

/-- A load that must wait: the package goes on slewing, and says so once in a run (15 R697). -/
def deferLoad (s : State) (e : Int) (why : Nat) : State :=
  let s1 := wrF (wrB s Reg.gctStatus 1 true) Reg.gctStatus 3 2 why
  let s2 := if s.power.deferring then s1
    else raiseEv s1 Reg.pageGct 8 .block 0x03 0 0x0004 0 [wrapN 32 e, wrapN 64 e / 2 ^ 32, why, 0]
  putPower s2 { s2.power with deferring := true, lastMeas := s.count }

/-- One measurement of the offset from the time source; one that loses lock leaves the steering at its last value (15 R694 to R697). -/
def measure (s : State) (e : Int) : State :=
  let sat := clampZ (-(2 ^ 31)) (2 ^ 31 - 1) e
  let s1 := lockStep (wrN s Reg.gctOffset (wrapN 32 sat)) e
  let slewed := if rdB s Reg.gctStatus 0 && !rdB s1 Reg.gctStatus 0 then keepSteer s1 else steer s1 e
  if rdN s Reg.gctLoadThr < e.natAbs ∧ rdB s Reg.gctCtl 2 = true then
    (if loadBar s = 0 then loadCounter s1 e else deferLoad slewed e (loadBar s))
  else
    let s2 := wrF slewed Reg.gctStatus 3 1 0
    putPower s2 { s2.power with deferring := false, lastMeas := s.count }

/-- A port's side of the IEEE 1588 exchange. -/
def ptpOf (s : State) (k : Nat) : PtpSide := (portOf s k).ptp

/-- Change it. -/
def setPtp (s : State) (k : Nat) (x : PtpSide) : State := modPort s k fun p => { p with ptp := x }

/-- IEEE 1588 messages leave a port (07 R376, R417; that TX_FRAMES and RX_FRAMES count them DESIGN CHOICE, log 33). -/
def ptpSend (s : State) (k : Nat) (ms : List PtpMsg) (x : PtpSide) : State :=
  setPtp (cntReg s (onPage Reg.portTxFrames k) ms.length) k { x with out := ms }

/-- A message of the package's domain, under its clock identity (14 R665). -/
def ptpMsg (s : State) (kind : PtpKind) (seq time : Nat) : PtpMsg := ⟨rdF s Reg.gctPtpDomain 7 0, kind, seq % 2 ^ 16, time, clockId s⟩

/-- The peer's counter less this one's: what a Sync's two timestamps and the measured delay give, rounded to a whole count, a half upward
(07 R377, 15 R694; the rounding of a half DESIGN CHOICE, log 33). -/
def ptpOffset (d2 : Int) (t12 : Nat × Nat) : Int := (2 * ((t12.1 : Int) - (t12.2 : Int)) + d2 + 1) / 2

/-- OFFSET shows a measured offset, and how long it has been beyond SYNC_TOL is kept (07 R375, R377). -/
def noteOffset (s : State) (k : Nat) (offset : Int) : State :=
  let far := decide (rdF s Reg.azlSyncTol 15 0 < offset.natAbs)
  modPort (wrN s (onPage Reg.portOffset k) (wrapN 32 offset)) k fun p =>
    { p with beyondAt := if far then some (p.beyondAt.getD s.count) else none }

/-- A Sync's Follow_Up has come: with the delay measured it gives an offset, and on the slave port a measurement (07 R376, 15 R694, R699). -/
def followUp (s : State) (k : Nat) (t1 : Nat) : State :=
  let x := ptpOf s k
  match x.heard with
  | none => s
  | some (_, t2) =>
    let s1 := setPtp s k { x with heard := none, t12 := some (t1, t2) }
    match x.d2 with
    | none => s1
    | some d2 =>
      let e := ptpOffset d2 (t1, t2)
      let s2 := noteOffset s1 k e
      if ptpRole s k == 2 && rdF s Reg.gctCtl 1 0 == 2 then measure s2 e else s2

/-- The delay is measured for the first time: the port sends its HELLO and takes the peer's that came before (07 R378; log 31). -/
def firstHello (s : State) (k : Nat) : State :=
  let s1 := sendHello (setHs (wrB s (onPage Reg.portStatus k) 1 true) k 1) k 0
  match (portOf s k).early with
  | some f => helloIn (modPort s1 k fun p => { p with early := none }) k f
  | none => s1

/-- A Delay_Resp to the Delay_Req under way measures the delay, of a symmetric link, rounded up; the first starts the handshake (07 R376 to
R378). -/
def delayResp (s : State) (k t4 : Nat) : State :=
  let x := ptpOf s k
  match x.t12, x.asked with
  | some (t1, t2), some (_, t3) =>
    let d2 : Int := max 0 ((t2 : Int) - (t1 : Int) + ((t4 : Int) - (t3 : Int)))
    let s1 := wrN (setPtp s k { x with asked := none, d2 := some d2 }) (onPage Reg.portDelay k) (ceilDiv d2.toNat 2)
    let s2 := noteOffset s1 k (ptpOffset d2 (t1, t2))
    if rdB s2 (onPage Reg.portStatus k) 1 then s2 else firstHello s2 k
  | _, _ => s

/-- What a message of each kind does (07 R376, 15 R699). -/
def ptpIn (s : State) (k : Nat) (m : PtpMsg) : State :=
  let x := ptpOf s k
  match m.kind with
  | .sync => setPtp s k { x with heard := some (m.seq, s.count) }
  | .followUp => if x.heard.any fun h => h.1 == m.seq then followUp s k m.time else s
  | .delayReq => ptpSend s k [ptpMsg s .delayResp m.seq s.count] x
  | .delayResp => if x.asked.any fun a => a.1 == m.seq then delayResp s k m.time else s
  | .announce => s

/-- PTP_MESSAGE: a message of the package's domain is timestamped and answered; those of others are discarded (15 R694, R699, 07 R376 to
R378). -/
def execPtpMessage (k : Fin 8) (m : PtpMsg) (s : State) : Out :=
  .next <|
    if !ptpOn s k.val || m.domain != rdF s Reg.gctPtpDomain 7 0 then s
    else ptpIn (cntReg s (onPage Reg.portRxFrames k.val) 1) k.val m

/-- Sync with its Follow_Up, and Delay_Req once a Sync of the peer has been timed (07 R376, 15 R699). -/
def ptpRound (s : State) (k : Nat) : State :=
  let x := ptpOf s k
  let own := [ptpMsg s .sync x.syncSeq 0, ptpMsg s .followUp x.syncSeq s.count]
  let ms := if x.t12.isSome then own ++ [ptpMsg s .delayReq x.reqSeq 0] else own
  ptpSend s k ms { x with syncSeq := x.syncSeq + 1, reqSeq := (if x.t12.isSome then x.reqSeq + 1 else x.reqSeq),
                          asked := if x.t12.isSome then some (x.reqSeq % 2 ^ 16, s.count) else none }

/-- PTP_SEND_TIMER: Sync and Delay_Req 8 times a second, Announce once from a master (15 R699). -/
def execPtpSendTimer (k : Fin 8) (announce : Bool) (s : State) : Out :=
  .next <|
    let p := portOf s k.val
    if !ptpOn s k.val then s
    else if announce then
      (if ptpRole s k.val == 1 && decide (p.announceAt ≤ s.count) then
        ptpSend (modPort s k.val fun p => { p with announceAt := s.count + 1250000000 }) k.val [ptpMsg s .announce 0 0] p.ptp else s)
    else if p.ptpAt ≤ s.count then ptpRound (modPort s k.val fun p => { p with ptpAt := s.count + 156250000 }) k.val
    else s

/-- The edge lies within 1 s ± 100 ppm of its predecessor, or is the first (15 R711). -/
def ppsValid (s : State) : Bool :=
  match s.power.lastPps with
  | some t => decide (1249875000 ≤ s.count - t) && decide (s.count - t ≤ 1250125000)
  | none => true

/-- Hardware advances PPS_SEC (17 R756). -/
def notePps (s : State) : State := noteHw (noteHw s Reg.gctPpsSecLo (BitVec.allOnes 32)) Reg.gctPpsSecHi (BitVec.allOnes 32)

/-- PPS_IN_EDGE: a measurement when PPS_IN is the source, or a rejected edge (15 R694, R711). -/
def execPpsInEdge (s : State) : Out :=
  .next <|
    let s1 := putPower s { s.power with lastPps := some s.count }
    if !ppsValid s then cntReg s1 Reg.gctPpsReject 1
    else if rdF s Reg.gctCtl 1 0 = 1 then
      let sec := rd64 s Reg.gctPpsSecLo
      wr64 (notePps (measure s1 ((sec * 1250000000 : Nat) - (s.count : Int)))) Reg.gctPpsSecLo (sec + 1)
    else s1

/-- MEASUREMENT_TIMEOUT: none for 3 s, with whatever source or none; the steering keeps its last value (15 R696). -/
def execMeasurementTimeout (s : State) : Out :=
  .next <|
    if rdB s Reg.gctStatus 0 && decide (s.power.lastMeas + 3750000000 ≤ s.count) then
      let s1 := unlock (keepSteer s)
      raiseEv (putPower s1 { s1.power with lockRun := 0, missRun := 0 }) Reg.pageGct 0x10 .block 0x03 0 0x0005 0 [rdF s Reg.gctCtl 1 0, 0, 0, 0]
    else s

/-- PPS_OUT may be high (15 R700). -/
def ppsMay (s : State) : Bool := rdB s Reg.gctCtl 3 && rdB s Reg.gctStatus 0 && s.power.resetN

/-- PPS_OUT_RISE: at each whole second (15 R700). -/
def execPpsOutRise (s : State) : Out :=
  .next (if ppsMay s && s.count % 1250000000 == 0 then putPower s { s.power with ppsOut := true } else s)

/-- PPS_OUT_FALL: 100 ms later (15 R700). -/
def execPpsOutFall (s : State) : Out :=
  .next (if !ppsMay s || decide (125000000 ≤ s.count % 1250000000) then putPower s { s.power with ppsOut := false } else s)

/-- REF_LOST: no edge for 500 ns; the PLL holds (15 R691). -/
def execRefLost (s : State) : Out :=
  .next <|
    if rdB s Reg.clkStatus 2 || !s.power.pll then s
    else
      let s1 := cntReg (wrB (wrB s Reg.clkStatus 2 true) Reg.clkStatus 1 false) Reg.clkRefLosses 1
      raiseEv (keepSteer (putPower s1 { s1.power with holdoverAt := some s.count })) Reg.pageClk 1 .block 0x02 0 0x0001 0
        [rdN s Reg.clkSteer, 0, 0, 0]

/-- REF_RESTORED: valid again for 10 ms (15 R691). -/
def execRefRestored (s : State) : Out :=
  .next <|
    match s.power.holdoverAt with
    | some t =>
      let s1 := wrB (wrB s Reg.clkStatus 2 false) Reg.clkStatus 1 true
      raiseEv (putPower s1 { s1.power with holdoverAt := none }) Reg.pageClk 2 .block 0x02 0 0x0002 0
        [lo32 (s.count - t), hi32 (s.count - t), 0, 0]
    | none => s

/-- A reading of a sensor, in 1/16 degree. -/
def tempOf (s : State) (n : Nat) : Int := sext 16 (rdF s (Reg.thmTemp + 4 * n) 15 0)

/-- The highest reading of some sensors and its sensor; a sensor that has failed is left out (15 R701, R715). -/
def hottest (s : State) (ns : List Nat) : Option (Int × Nat) :=
  (ns.filter fun n => !s.power.failed.contains n).foldl (fun a n => match a with
    | none => some (tempOf s n, n)
    | some b => if b.1 < tempOf s n then some (tempOf s n, n) else a) none

/-- The die sensors and the Falbo sensor, the HBM sensors, and all (15 R701, R715). -/
def dieSensors : List Nat := List.range 16 ++ [22]
def hbmSensors : List Nat := (List.range 6).map (16 + ·)

/-- A reading is at least a threshold; none is not. -/
def atLeast (a : Option (Int × Nat)) (z : Int) : Bool := match a with | some b => decide (z ≤ b.1) | none => false

/-- The hold length after a period (15 R701, R715). -/
def holdLen (s : State) (step maxLen : Nat) : Nat :=
  let len := rdN s Reg.thmLen
  let t := hottest s dieSensors
  let th := hottest s hbmSensors
  let ht := sext 16 (rdF s Reg.thmHoldT 15 0)
  let hh := sext 16 (rdF s Reg.thmHbmHoldT 15 0)
  let hy : Int := rdF s Reg.thmHoldT 31 16
  if rdB s Reg.thmCtl 0 = false then 0
  else if (List.range 16).all (fun n => s.power.failed.contains n) then maxLen
  else if atLeast t ht || atLeast th hh then min (len + step) maxLen
  else if !atLeast t (ht - hy) && !atLeast th (hh - hy) then len - step
  else len

/-- The lead of a hold window (15 R702). -/
def holdLead (s : State) : Nat := if azlState s = 2 ∨ azlState s = 3 then rdN s Reg.azlHoldLead else 2500

/-- A thermal hold window is scheduled: flooded in a group (15 R701 to R703). -/
def thermalHold (s : State) (h len : Nat) : State :=
  let s1 := cntReg s Reg.thmHolds 1
  if azlState s = 2 ∨ azlState s = 3 then floodHold s1 h len .thermal else addFreeze s1 h len .thermal

/-- Events of a hold length that leaves or reaches zero (15 R703, R715, R716). -/
def holdEvents (s : State) (old len h base : Nat) : State :=
  let t := (hottest s dieSensors).getD (0, 0)
  if old = 0 ∧ len ≠ 0 then
    raiseBeside s Reg.pageThm 1 .block 0x07 0 0x0001 0 [lo32 h, hi32 h, len, wrapN 16 t.1 + t.2 % 32 * 2 ^ 16]
  else if old ≠ 0 ∧ len = 0 then raiseEv s Reg.pageThm 0 .block 0x07 0 0x0002 0 [lo32 base, hi32 base, 0, 0]
  else s

/-- THERMAL_PERIOD: at a multiple of the period in force the hold length changes, and written settings take effect
(15 R701, R715). -/
def execThermalPeriod (s : State) : Out :=
  .next <|
    if s.count < s.power.nextPeriod then s
    else
      let p := max 1 s.power.periodEff
      let base := s.count / p * p
      let np := max 1 (rdN s Reg.thmPeriod)
      let step := rdN s Reg.thmStep
      let maxLen := rdN s Reg.thmMaxLen
      let len := holdLen s step maxLen
      let h := base + holdLead s
      let s1 := putPower s { s.power with periodEff := np, nextPeriod := (base / np + 1) * np }
      let s2 := holdEvents (wrN s1 Reg.thmLen len) (rdN s Reg.thmLen) len h base
      if len = 0 then s2 else thermalHold s2 h len

/-- One sensor's refresh: a reading, or none (15 R715). -/
def refreshOne (x : Option Int × Nat) (s : State) : State :=
  let o := Reg.thmTemp + 4 * x.2
  match x.1 with
  | some v =>
    let s1 := wrN s o (wrapN 16 v + 2 ^ 16)
    putPower s1 { s1.power with invalidAt := smDel s1.power.invalidAt x.2, failed := s1.power.failed.filter fun n => n != x.2 }
  | none =>
    let s1 := wrB s o 16 false
    if s1.power.invalidAt.any fun e => e.1 == x.2 then s1
    else putPower s1 { s1.power with invalidAt := smIns s1.power.invalidAt x.2 s.count }

/-- OVERTEMP, at most once per second (15 R704). -/
def overtemp (s : State) : State :=
  let quiet := match s.power.overtempAt with
    | some t => decide (s.count < t + 1250000000)
    | none => false
  match hottest s dieSensors with
  | some t =>
    if 1680 ≤ t.1 ∧ quiet = false then
      raiseEv (putPower s { s.power with overtempAt := some s.count }) Reg.pageThm 2 .block 0x07 0 0x0003 0
        [wrapN 16 t.1 + t.2 % 32 * 2 ^ 16, 0, 0, 0]
    else s
  | none => s

/-- SENSOR_REFRESH: the readings of all 23 sensors, every 100 µs (15 R704, R715). -/
def execSensorRefresh (temps : List (Option Int)) (s : State) : Out :=
  .next <|
    let s1 := each ((temps.take 23).zipIdx) refreshOne s
    let h := (hottest s1 (List.range 23)).getD (0, 0)
    overtemp (wrN s1 Reg.thmHottest (wrapN 16 h.1 + h.2 % 32 * 2 ^ 16))

/-- SENSOR_FAIL: a reading has been invalid for 1 ms (15 R715, R716). -/
def execSensorFail (n : Fin 23) (s : State) : Out :=
  .next <|
    match s.power.invalidAt.find? fun e => e.1 == n.val with
    | some e =>
      if decide (e.2 + 1250000 ≤ s.count) && !s.power.failed.contains n.val then
        raiseEv (putPower s { s.power with failed := n.val :: s.power.failed }) Reg.pageThm 4 .block 0x07 0 0x0004 0 [n.val, 0, 0, 0]
      else s
    | none => s

/-- THERMTRIP: a die sensor reaches 115 °C; the pin stays low until a cold reset (15 R705). -/
def execThermtrip (_ : Fin 16) (s : State) : Out := .next (putPower s { s.power with thermtrip := true })

/-- LEAN_WINDOW_END: the transition window ends; a move to nominal looks at VMTX (15 R684, R686). -/
def execLeanWindowEnd (vmtxMv : Nat) (s : State) : Out :=
  .next <|
    match s.power.window with
    | some t =>
      if s.count < t then s
      else
        let s1 := wrB s Reg.clkStatus 4 false
        let s2 := putPower s1 { s1.power with window := none, toNominal := false, vmtxEnd := if s.power.toNominal then vmtxMv else s.power.vmtxEnd }
        if s.power.toNominal && decide (vmtxMv < 735) then
          putPower s2 { s2.power with lateFrom := some (s.power.lateFrom.getD s.count) }
        else lateOver s2
    | none => s

/-- VMTX_REACHED: VMTX reaches 0.735 V; the delay is counted and reported (15 R686, R716). -/
def execVmtxReached (s : State) : Out :=
  .next (lateOver s)

/-- LEAN_EN_WRITE: discarded below the least GAP; effective now, or at the end of the running execution (15 R684, R687). -/
def execLeanEnWrite (on : Bool) (s : State) : Out :=
  .next <|
    if on && decide (rdN s Reg.dlmGap < 125000) then s
    else
      let s1 := wrB s Reg.lspCtl 0 on
      if s.sched.exec.running || s.power.leanEn == on then s1 else fixPoint s1

/-- The multiple of LDG.QUAR_WINDOW that the count has passed (09 R472). -/
def quarMultiple (s : State) : Nat := s.count / max 1 (rdN s Reg.ldgQuarWindow * 2 ^ 32)

/-- QUARANTINE_WINDOW: the counts start again at every multiple of the window, the window as it stands (09 R472). -/
def execQuarantineWindow (s : State) : Out :=
  .next <|
    if rdN s Reg.ldgQuarWindow = 0 ∨ quarMultiple s ≤ s.power.quarAt then s
    else
      let s1 := allCl s fun c => { c with ueExecs := 0, ceCount := 0 }
      putBoot (putPower s1 { s1.power with quarAt := quarMultiple s }) { s1.boot with quar := {} }

/-- LDG_QUARANTINE: a write with GO quarantines the unit; a mapped cluster is remapped when no execution runs
(09 R472 to R475, R477). -/
def execLdgQuarantine (w : Word) (s : State) : Out :=
  .next (if rbit w 31 then remapNow (quarantine s (rfld w 9 8) (rfld w 7 0)) else s)

end Sys2Proof.Machine
end

