-- ==== Sys2Proof/Machine/Wideband.lean ====
section
/-!
DEFINITION. The wideband channels: CONVERTER_SAMPLE, SAMPLE_RECORD, FADE_DONE, FIR_SWAP, RS_SWAP, RS_CDATA_ACCESS, and what a
frame boundary does to a run (11 R516 to R546).
-/
namespace Sys2Proof.Machine

/-- A wideband channel. -/
def decChan (s : State) (c : Nat) : DecChan := smGet (dflt {}) s.falbo.dec c

/-- Replace a channel. -/
def setDecChan (s : State) (c : Nat) (x : DecChan) : State := setFalbo s { s.falbo with dec := smSet (dflt {}) s.falbo.dec c x }

/-- A register of a channel (11 R545). -/
def decReg (off c : Nat) : Nat := onPage off c

/-- The rounding stage: nearest, ties up, saturated to w bits (11 R525). -/
def rsat (a : Int) (sh w : Nat) : Int × Bool :=
  let v := if sh = 0 then a else (a + (2 ^ (sh - 1) : Nat)) / (2 ^ sh : Nat)
  let y := min (max v (-(2 ^ (w - 1) : Nat))) ((2 ^ (w - 1) : Nat) - 1)
  (y, y != v)

/-- A converter code and whether the input, in nanovolts, lay beyond full scale (11 R516, R518). -/
def adcCode (nv : Int) : Int × Bool :=
  let r := (nv * 16384 + 500000000) / 1000000000
  (min (max r (-8192)) 8191, decide (nv < -500000000) || decide (500000000 < nv))

/-- The integrators take one code (11 R524). -/
def integrate (x : Nat) : List Nat → List Nat
  | [] => []
  | i :: is => (i + x) % 2 ^ 44 :: integrate ((i + x) % 2 ^ 44) is

/-- The combs: what they keep, and their output (11 R524). -/
def comb (v : Nat) : List Nat → List Nat × Nat
  | [] => ([], v)
  | c :: cs =>
    let r := comb ((v + 2 ^ 44 - c) % 2 ^ 44) cs
    (v :: r.1, r.2)

/-- Coefficient c[i] of a FIR bank: 18-bit two's complement, symmetric about c[31] (11 R527). -/
def firCoef (s : State) (c : Nat) (bankB : Bool) (i : Nat) : Int :=
  sext 18 (rdN s (decReg (if bankB then Reg.decFirB else Reg.decFirA) c + 4 * min i (62 - i)))

/-- The FIR over its newest-first inputs (11 R527). -/
def firOut (s : State) (c : Nat) (bankB : Bool) (z : List ChainVal) : Int × Bool :=
  let acc := (List.range 63).foldl (fun (a : Int) i => a + firCoef s c bankB i * (nth z i {}).v) 0
  rsat acc (rdF s (decReg Reg.decActCfg c) 25 21) 18

/-- Element i of the resampler's prototype filter (11 R529). -/
def protoH (x : DecChan) (bankB : Bool) (i : Nat) : Int :=
  if i = 0 then 0 else sext 18 (smGet (dflt 0) x.coefs ((if bankB then 1024 else 0) + (min i (2048 - i) - 1)))

/-- One resampler output; `back` is how far e[n] lies behind the newest FIR output (11 R530). -/
def rsOut (s : State) (c : Nat) (bankB : Bool) (x : DecChan) (p back : Nat) : Int × Bool :=
  let acc := (List.range 16).foldl (fun (a : Int) t => a + protoH x bankB (128 * t + p) * (nth x.f (back + t) {}).v) 0
  rsat acc (rdF s (decReg Reg.decActCfg c) 30 26) 18

/-- A stage's output from its active bank, or across a fade: the value, the saturations counted, and the fade after it
(11 R525, R538). -/
def fadeOut (out : Bool → Int × Bool) (bank : Bool) : Option Fade → ChainVal × Nat × Option Fade
  | none => let y := out bank; (⟨y.1, y.2, false⟩, b2n y.2, none)
  | some d =>
    let d1 := { d with j := d.j + 1 }
    let yn := out (!bank)
    if d.j < d.len then
      let yo := out bank
      let w := d.j * 2 ^ 16 / d.len
      (⟨(yo.1 * (2 ^ 16 - w : Nat) + yn.1 * (w : Nat) + 2 ^ 15) / 2 ^ 16, yo.2 || yn.2, true⟩, b2n yo.2 + b2n yn.2, some d1)
    else (⟨yn.1, yn.2, false⟩, b2n yn.2, some d1)

/-- The record packer takes one output sample; 28 samples fill a record (11 R535, R540, R541). -/
def packSample (ringOn : Bool) (run leave : Nat) (v : ChainVal) (settle : Bool) (x : DecChan) : DecChan :=
  if !ringOn then { x with k := x.k + 1 }
  else
    let b := if x.buf.samples.isEmpty then ({ run := run, k := x.k } : DecRec) else x.buf
    let b1 := { b with samples := b.samples ++ [v.v], sat := b.sat || v.sat, settle := b.settle || settle, fade := b.fade || v.fade,
                       at_ := leave }
    if b1.samples.length = 28 then { x with k := x.k + 1, buf := {}, recs := x.recs ++ [b1] }
    else { x with k := x.k + 1, buf := b1 }

/-- An output that reads e[n] carries SETTLE (11 R536). -/
def settling (s : State) (c : Nat) (n : Int) : Bool :=
  let cfg := rdReg s (decReg Reg.decActCfg c)
  let r := rfld cfg 10 4
  let mc := ceilDiv ((rfld cfg 2 0 - 1) * (r - 1)) r
  decide (n - 15 * (rfld cfg 11 11 : Nat) < (rdF s (decReg Reg.decActDelay c) 7 0 + 62 + mc : Nat))

/-- The tick from which an output that reads e[n] has left the chain: 200 counts after converter sample (n - DINT) R + R - 1,
which is taken 2.5 counts after the one before it (11 R520, R535). -/
def leaveAt (s : State) (c : Nat) (t0 : Nat) (n : Int) : Nat :=
  let r := rdF s (decReg Reg.decActCfg c) 10 4
  let i : Int := (n - rdF s (decReg Reg.decActDelay c) 7 0) * r + r - 1
  ((t0 : Int) + 200 + (5 * i + 1) / 2).toNat

/-- How far e[n] lies behind the newest FIR output: e[n] = f[n - DINT], so an output is formed as soon as that FIR output is
(11 R528, R535); none while it is not. -/
def behind (s : State) (c : Nat) (x : DecChan) (n : Int) : Option Nat :=
  let d := (x.m : Int) - 1 + rdF s (decReg Reg.decActDelay c) 7 0 - n
  if d < 0 then none else some d.toNat

/-- The packer takes an output that reads e[n] of the channel's run. -/
def packOut (s : State) (c : Nat) (v : ChainVal) (n : Int) (x : DecChan) : DecChan :=
  packSample (rdB s (decReg Reg.decCtl c) 1) (rdF s (decReg Reg.decRun c) 15 0) (leaveAt s c x.t0 n) v (settling s c n) x

/-- The outputs that the newest FIR output allows without the resampler (11 R532). -/
def deliver (s : State) (c : Nat) : (fuel : Nat) → DecChan → DecChan
  | 0, x => x
  | fuel + 1, x => match behind s c x x.k with
    | none => x
    | some back => deliver s c fuel (packOut s c (nth x.f back {}) x.k x)

/-- The outputs that the newest FIR output allows the resampler: the channel and the saturations (11 R530, R533). -/
def resample (s : State) (c : Nat) : (fuel : Nat) → DecChan → Nat → DecChan × Nat
  | 0, x, sats => (x, sats)
  | fuel + 1, x, sats => match behind s c x x.pos with
    | none => (x, sats)
    | some back =>
      let ratio := rdReg s (decReg Reg.decActRatio c)
      let l := max 1 (rfld ratio 9 0)
      let r := fadeOut (fun b => rsOut s c b x (x.res / l) back) (rdB s (decReg Reg.decStatus c) 4) x.rsFade
      let ins := (List.range (x.pos - x.seen).toNat).map fun i => nth x.f (back + i) {}
      let v := { r.1 with sat := r.1.sat || ins.any (·.sat), fade := r.1.fade || ins.any (·.fade) }
      let adv := x.res + 128 * rfld ratio 25 16
      let y := packOut s c v x.pos { x with rsFade := r.2.2, seen := x.pos }
      resample s c fuel { y with pos := x.pos + (adv / (128 * l) : Nat), res := adv % (128 * l) } (sats + r.2.1)

/-- A CIC output passes the FIR, the delay and the resampler (11 R524 to R532). -/
def chainOut (s : State) (c : Nat) (v : Nat) (x : DecChan) : DecChan × Nat :=
  let cfg := rdReg s (decReg Reg.decActCfg c)
  let z := rsat (sext 44 v) (rfld cfg 20 16) 18
  let zs := (⟨z.1, z.2, false⟩ :: x.z).take 63
  let r := fadeOut (fun b => firOut s c b zs) (rdB s (decReg Reg.decStatus c) 3) x.firFade
  let f := { r.1 with sat := r.1.sat || z.2 }
  let y := { x with m := x.m + 1, z := zs, f := (f :: x.f).take 288, firFade := r.2.2 }
  let sats := b2n z.2 + r.2.1
  let fuel := 2 * rdF s (decReg Reg.decActDelay c) 7 0 + 4
  if rbit cfg 11 then resample s c fuel y sats else (deliver s c fuel y, sats)

/-- The channel takes one converter code (11 R524). -/
def takeCode (s : State) (c : Nat) (code : Int) (x : DecChan) : DecChan × Nat :=
  let cfg := rdReg s (decReg Reg.decActCfg c)
  let r := max 1 (rfld cfg 10 4)
  let i := integrate (wrapN 44 code) x.i
  let y := { x with n := x.n + 1, i := i }
  if x.n % r = r - 1 then
    let k := comb (i.getLastD 0) x.cprev
    chainOut s c k.2 { y with cprev := k.1 }
  else (y, 0)

/-- The XFADE swap bit, the STATUS fade bit and the STATUS bank bit of a stage (11 R545). -/
def swapBit (rs : Bool) : Nat := if rs then 17 else 16
def fadeBit (rs : Bool) : Nat := if rs then 6 else 5
def bankBit (rs : Bool) : Nat := if rs then 4 else 3

/-- A stage's fade. -/
def fadeOf (x : DecChan) (rs : Bool) : Option Fade := if rs then x.rsFade else x.firFade

/-- Replace a stage's fade. -/
def setFade (x : DecChan) (rs : Bool) (d : Option Fade) : DecChan := if rs then { x with rsFade := d } else { x with firFade := d }

/-- A swap that has given an output is pending no more (11 R537, R545). -/
def swapBegun (c : Nat) (rs : Bool) (s : State) : State :=
  match fadeOf (decChan s c) rs with
  | some d => if 0 < d.j then wrB s (decReg Reg.decXfade c) (swapBit rs) false else s
  | none => s

/-- CONVERTER_SAMPLE: converter sample n of the run, taken at T0 + 2.5 n (11 R516 to R532). -/
def execConverterSample (c : Fin 4) (nv : Int) (s : State) : Out :=
  let x := decChan s c.val
  if !x.running || decide (s.falbo.ticks < x.t0 + (5 * x.n + 1) / 2) then .next s
  else
    let a := adcCode nv
    let r := takeCode s c.val a.1 { x with ovr := x.ovr || a.2 }
    let s1 := cntReg (setDecChan s c.val r.1) (decReg Reg.decSatCnt c.val) r.2
    let s2 := each [false, true] (swapBegun c.val) (wr64 s1 (decReg Reg.decSamples c.val) r.1.k)
    .next (if a.2 then setEvt (cntReg s2 (decReg Reg.decOvr c.val) 1) (onPage Reg.pageDec c.val) 0x20 else s2)

/-- The words of a sample record (11 R541). -/
def recWords (c : Nat) (r : DecRec) (phase : Nat) (ovr gap : Bool) : List Nat :=
  let ss := r.samples.map fun v => wrapN 32 v
  [phase * 2 ^ 31 + 0x43 * 2 ^ 24 + c * 2 ^ 22 + r.run,
   r.samples.length + 2 ^ 8 * b2n r.sat + 2 ^ 9 * b2n r.settle + 2 ^ 10 * b2n r.fade + 2 ^ 11 * b2n ovr + 2 ^ 12 * b2n r.last + 2 ^ 13 * b2n gap,
   lo32 r.k, hi32 r.k] ++ ss ++ List.replicate (28 - ss.length) 0

/-- SAMPLE_RECORD: the oldest filled record is written to the ring, or discarded (11 R535, R540 to R542, R546). -/
def execSampleRecord (c : Fin 4) (s : State) : Out :=
  let x := decChan s c.val
  match x.recs with
  | [] => .next s
  | r :: rs =>
    if s.falbo.ticks < r.at_ then .next s
    else
      let tail := rdF s (decReg Reg.decRingTail c.val) 15 0
      let log2 := rdF s (decReg Reg.decRingSize c.val) 4 0
      let page := onPage Reg.pageDec c.val
      if (tail + 2 ^ 16 - rdF s (decReg Reg.decRingHead c.val) 15 0) % 2 ^ 16 = 2 ^ log2 ∨ permitted s 0 = false then
        let s1 := cntReg (setDecChan s c.val { x with recs := rs, gap := some r.run, dropping := true }) (decReg Reg.decDropped c.val) 1
        .next (if x.dropping then setEvt s1 page 0x10
          else raiseEv s1 page 0x10 .block 0x43 c.val 0x0004 0 [lo32 r.k, hi32 r.k])
      else
        let s1 := setDecChan s c.val { x with recs := rs, gap := none, dropping := false, ovr := false }
        let s2 := hostWords s1 0 (rd64 s (decReg Reg.decRingLo c.val) + 128 * (tail % 2 ^ log2))
          (recWords c.val r (1 - tail / 2 ^ log2 % 2) x.ovr (x.gap == some r.run))
        .next (wrN s2 (decReg Reg.decRingTail c.val) ((tail + 1) % 2 ^ 16))

/-- A swap request of a stage (11 R537, R539). -/
def swapReq (rs : Bool) (c : Nat) (s : State) : State :=
  if rdB s (decReg Reg.decStatus c) (fadeBit rs) then setEvt s (onPage Reg.pageDec c) 8
  else wrB (wrB s (decReg Reg.decXfade c) (swapBit rs) true) (decReg Reg.decStatus c) (fadeBit rs) true

/-- FIR_SWAP (11 R537, R539, 17 R749). -/
def execFirSwap (c : Fin 4) (s : State) : Out := .next (if falboUp s then swapReq false c.val s else s)

/-- RS_SWAP (11 R537, R539, 17 R749). -/
def execRsSwap (c : Fin 4) (s : State) : Out := .next (if falboUp s then swapReq true c.val s else s)

/-- The new bank becomes active and the stage no longer fades. -/
def flipBank (rs : Bool) (c : Nat) (s : State) : State :=
  let st := decReg Reg.decStatus c
  let s1 := wrB (wrB s st (bankBit rs) (!rdB s st (bankBit rs))) st (fadeBit rs) false
  setDecChan (wrB s1 (decReg Reg.decXfade c) (swapBit rs) false) c (setFade (decChan s c) rs none)

/-- FADE_DONE: the fade has begun and given its N_x outputs, and the new bank becomes active (11 R537 to R539, R546). -/
def execFadeDone (c : Fin 4) (rs : Bool) (s : State) : Out :=
  match fadeOf (decChan s c.val) rs with
  | none => .next s
  | some d =>
    if d.j < max 1 d.len then .next s
    else
      let s1 := flipBank rs c.val s
      let i := d.start + d.len
      .next (raiseEv s1 (onPage Reg.pageDec c.val) 4 .block 0x43 c.val 0x0003 0
        [b2n rs + 2 * rdF s1 (decReg Reg.decStatus c.val) (bankBit rs) (bankBit rs), lo32 i, hi32 i])

/-- A coefficient of a stage's bank may be written (11 R539). -/
def coefFree (s : State) (c : Nat) (rs bankB : Bool) : Bool :=
  !rdB s (decReg Reg.decStatus c) (fadeBit rs) && rdB s (decReg Reg.decStatus c) (bankBit rs) != bankB

/-- A write of a FIR coefficient register (11 R539, R545). -/
def writeFirCoef (s : State) (c : Nat) (bankB : Bool) (i v : Nat) : State :=
  if coefFree s c false bankB then wrN s (decReg (if bankB then Reg.decFirB else Reg.decFirA) c + 4 * i) (v % 2 ^ 18)
  else cntErr s (onPage Reg.pageDec c) 1

/-- RS_CDATA_ACCESS: a read or write of the coefficient at RS_CADDR, which advances INDEX; before the page answers, a read gives zero (11 R539,
R545, 17 R749). -/
def execRsCdataAccess (c : Fin 4) (w : Option Word) (s : State) : Out :=
  if !falboUp s then .next (if w.isNone && decide (2 ≤ svcLevel s) then putHif s { s.hif with lastRead := leBytes 4 0 } else s)
  else
  let a := rdReg s (decReg Reg.decCaddr c.val)
  let bankB := rbit a 10
  let key := rfld a 10 0
  let x := decChan s c.val
  let s1 := match w with
    | none => putHif s { s.hif with lastRead := leBytes 4 (smGet (dflt 0) x.coefs key) }
    | some v =>
      if coefFree s c.val true bankB then setDecChan s c.val { x with coefs := smSet (dflt 0) x.coefs key (v.toNat % 2 ^ 18) }
      else cntErr s (onPage Reg.pageDec c.val) 1
  .next (wrF s1 (decReg Reg.decCaddr c.val) 9 0 (rfld a 9 0 + 1))

/-- The values of a channel's staged set: the registers written since the last check, the others as in force (11 R522, R544). -/
def stagedVal (s : State) (c bit reg act : Nat) : Word :=
  rdReg s (decReg (if bitN (decChan s c).staged bit then reg else act) c)

/-- The staged set of a channel is valid (11 R522). -/
def decSetOk (cfg ratio : Word) : Bool :=
  let r := rfld cfg 10 4
  let l := rfld ratio 9 0
  let m := rfld ratio 25 16
  decide (3 ≤ rfld cfg 2 0) && decide (rfld cfg 2 0 ≤ 5) && decide (2 ≤ r) && decide (r ≤ 64)
    && (!rbit cfg 11 || (decide (1 ≤ l) && decide (1 ≤ m) && decide (l ≤ 2 * m) && decide (2 * l ≤ r * m)))

/-- Close the run's record: the remaining samples, or the last filled record still within the chain, carry LAST
(11 R540). -/
def closeRun (now : Nat) (x : DecChan) : DecChan :=
  if x.buf.samples.isEmpty then
    match x.recs.reverse with
    | r :: rs => if now < r.at_ then { x with recs := (({ r with last := true } : DecRec) :: rs).reverse } else x
    | [] => x
  else { x with recs := x.recs ++ [{ x.buf with last := true }], buf := {} }

/-- The run ends (11 R523). -/
def endRun (c : Nat) (s : State) : State :=
  let x := closeRun s.falbo.ticks (decChan s c)
  wrB (setDecChan s c { x with running := false, ending := false }) (decReg Reg.decStatus c) 0 false

/-- A pending swap or a fade ends at a restart with the new bank active and no fade (11 R539). -/
def swapAtRestart (rs : Bool) (c : Nat) (s : State) : State :=
  if rdB s (decReg Reg.decStatus c) (fadeBit rs) then flipBank rs c s else s

/-- A restart at this boundary with its cause (11 R520, R521, R539, R546). -/
def restartChan (c cause : Nat) (s : State) : State :=
  let s1 := swapAtRestart true c (swapAtRestart false c (setDecChan s c (closeRun s.falbo.ticks (decChan s c))))
  let x := decChan s1 c
  let order := rdF s1 (decReg Reg.decActCfg c) 2 0
  let l := rdF s1 (decReg Reg.decActRatio c) 9 0
  let dfrac := rdF s1 (decReg Reg.decActDelay c) 14 8
  let num := (rdF s1 (decReg Reg.decRun c) 15 0 + 1) % 2 ^ 16
  let y : DecChan := {
    running := true, t0 := s.falbo.ticks, i := List.replicate order 0, cprev := List.replicate order 0,
    pos := (if dfrac = 0 then 0 else -1), res := (128 * l - dfrac * l) % (128 * max 1 l), seen := (if dfrac = 0 then -1 else -2),
    coefs := x.coefs, recs := x.recs, ovr := x.ovr, gap := x.gap, dropping := x.dropping }
  let s2 := wr64 (wr64 (wrN (setDecChan s1 c y) (decReg Reg.decRun c) num) (decReg Reg.decT0 c) s.count) (decReg Reg.decSamples c) 0
  raiseBeside (wrB s2 (decReg Reg.decStatus c) 0 true) (onPage Reg.pageDec c) 1 .block 0x43 c 0x0001 0
    [num + 2 ^ 16 * cause, lo32 s.count, hi32 s.count]

/-- The check of a staged set at a boundary; it answers whether a valid set took effect (11 R522). -/
def applyDecSet (c : Nat) (s : State) : State × Bool :=
  let x := decChan s c
  let st := decReg Reg.decStatus c
  if x.staged = 0 then (s, false)
  else
    let cfg := stagedVal s c 0 Reg.decCfg Reg.decActCfg
    let ratio := stagedVal s c 1 Reg.decRatio Reg.decActRatio
    let delay := stagedVal s c 2 Reg.decDelay Reg.decActDelay
    let s1 := wrB (setDecChan s c { x with staged := 0 }) st 1 false
    if decSetOk cfg ratio then
      (wrB (wrReg (wrReg (wrReg s1 (decReg Reg.decActCfg c) cfg) (decReg Reg.decActRatio c) ratio) (decReg Reg.decActDelay c) delay)
        st 2 false, true)
    else
      (raiseEv (wrB s1 st 2 true) (onPage Reg.pageDec c) 2 .block 0x43 c 0x0002 0
        [lo32 s.count, hi32 s.count, cfg.toNat, ratio.toNat], false)

/-- A frame boundary arms the pending swap of a running channel with LEN as it stands: the swap begins with the stage's next output (11
R537). -/
def beginFade (rs : Bool) (c : Nat) (s : State) : State :=
  let x := decChan s c
  if rdB s (decReg Reg.decXfade c) (swapBit rs) && x.running && (fadeOf x rs).isNone then
    let d : Fade := { len := rdF s (decReg Reg.decXfade c) 15 0, start := (if rs then x.k else x.m) }
    setDecChan s c (setFade x rs (some d))
  else s

/-- What a frame boundary does to a channel: staged set, end of a run, restart, swaps (11 R521 to R523, R537). -/
def boundaryChan (c : Nat) (s : State) : State :=
  let a := applyDecSet c s
  let s1 := if (decChan a.1 c).ending then endRun c a.1 else a.1
  let x := decChan s1 c
  let s2 := setDecChan s1 c { x with loaded := false }
  if x.running then
    if a.2 then restartChan c 1 s2
    else if x.loaded then restartChan c 2 s2
    else beginFade true c (beginFade false c s2)
  else match x.enAt with
    | some t => if t + 25000 ≤ s.falbo.ticks then restartChan c 0 s2 else s2
    | none => s2

/-- A write of DEC.CTL.ENABLE (11 R521, R523). -/
def writeDecEnable (s : State) (c : Nat) (on : Bool) : State :=
  let x := decChan s c
  let s1 := wrB s (decReg Reg.decCtl c) 0 on
  if on && !rdB s (decReg Reg.decCtl c) 0 then setDecChan s1 c { x with enAt := some s.falbo.ticks }
  else if !on && rdB s (decReg Reg.decCtl c) 0 then setDecChan s1 c { x with enAt := none, ending := x.running }
  else s1

/-- A write of DEC.CTL.RING_EN (11 R543). -/
def writeDecRing (s : State) (c : Nat) (on : Bool) : State :=
  let x := decChan s c
  let log2 := rdF s (decReg Reg.decRingSize c) 4 0
  let was := rdB s (decReg Reg.decCtl c) 1
  if on && !was then
    if 4 ≤ log2 ∧ log2 ≤ 16 then
      wrN (wrN (wrB (setDecChan s c { x with dropping := false }) (decReg Reg.decCtl c) 1 true) (decReg Reg.decRingTail c) 0) (decReg Reg.decRingHead c) 0
    else s
  else if !on && was then wrB (setDecChan s c { x with buf := {}, recs := [] }) (decReg Reg.decCtl c) 1 false
  else s

/-- A write of DEC.CFG, DEC.RS_RATIO or DEC.DELAY, r = 0, 1 or 2, is staged (11 R544). -/
def stageDec (s : State) (c r : Nat) : State :=
  wrB (setDecChan s c { decChan s c with staged := (decChan s c).staged ||| 2 ^ r }) (decReg Reg.decStatus c) 1 true

end Sys2Proof.Machine
end

