-- ==== Sys2Proof/Machine/Sensing.lean ====
section
/-!
DEFINITION. Frames, features and the classifier: FRAME_BOUNDARY, FEATURE_WRITE, CLASSIFIER_PUBLISH, FCL_WDATA_WRITE,
FCL_WDATA_READ, RING_EN, DIE_TO_DIE_TRAINED (10).
-/
namespace Sys2Proof.Machine

/-- Replace the frames' state. -/
def setFrames (s : State) (f : Frames) : State := setFalbo s { s.falbo with frames := f }

/-- Replace the classifier's state. -/
def setFcl (s : State) (f : Classifier) : State := setFalbo s { s.falbo with fcl := f }

/-- The feature code of a frame's energy, in units of 2^-32 V² times a count, scaled to the frame length F whatever the frame's actual length,
at a port's GAIN and an integrator gain shift: P_fs is 2^-(1 + 2 GAIN) V² (10 R482, R483, R491). -/
def featureCode (gain ishift len energy : Nat) : Nat :=
  min ((2 * 4095 * 2 ^ ishift * (2 ^ (1 + 2 * gain) * energy) + len * 2 ^ 32) / (len * 2 ^ 33)) 4095

/-- FEATURE_WRITE: section s of port p, the next in order, is converted and its integrator reset; `energy` is the integral of the square of
its filtered signal over the frame, however long that was, in units of 2^-32 V² times a count, `overload` an overload of its integrator or
rectifier (10 R482, R484, R489, R491 to R494, R514; log 53). -/
def execFeatureWrite (p : Fin 16) (sec : Fin 32) (energy : Nat) (overload : Bool) (s : State) : Out :=
  let f := s.falbo.frames
  match f.last with
  | none => .next s
  | some t =>
    if s.falbo.ticks < t + 130 * (sec.val + 1) ∨ smGet (dflt 0) f.conv p.val ≠ sec.val then .next s
    else
      let d := f.done
      let ctl := smGet (dflt 9) d.ctl p.val
      let on := bitN ctl 0
      let code := featureCode (fld ctl 2 1) (fld (smGet secCold d.secs (32 * p.val + sec.val)) 13 11) (frameLen d.len) energy
      let sat := on && (overload || code == 4095)
      let settle := on && bitN (smGet (dflt 0) d.settle p.val) sec.val
      let v := (if sat then 4095 else if on then code else 0) + 2 ^ 12 * b2n sat + 2 ^ 13 * b2n settle
        + 2 ^ 14 * b2n (on && d.irregular) + d.number % 2 ^ 16 * 2 ^ 16
      let s1 := wrN s (onPage Reg.rbkFeat p.val + 4 * sec.val) v
      let m := smGet (dflt 0) f.sat p.val ||| (if sat then 2 ^ sec.val else 0)
      let s2 := setFrames s1 { f with sat := smSet (dflt 0) f.sat p.val m, conv := smSet (dflt 0) f.conv p.val (sec.val + 1) }
      if sec.val = 31 then
        let s3 := wrN (wrN s2 (onPage Reg.rbkSat p.val) m) (onPage Reg.rbkSettle p.val) (if on then smGet (dflt 0) d.settle p.val else 0)
        .next (if m = 0 then s3 else setEvt s3 (onPage Reg.pageRbk p.val) 1)
      else .next s2

/-- The averaged feature of one code (10 R498). -/
def emaStep (first : Bool) (shift e x : Nat) : Nat :=
  if first then x * 16 else wrapN 16 ((e : Int) + ((x * 16 : Nat) - (e : Int)) / (2 ^ shift : Nat))

/-- The activation of a layer (10 R500). -/
def fclAct (a : Int) (sh : Nat) : Nat :=
  min (((max a 0).toNat + (if sh = 0 then 0 else 2 ^ (sh - 1))) / 2 ^ sh) 255

/-- A bias of the weight memory (10 R499). -/
def bias (m : Mem) (base k : Nat) : Int := sext 32 (memNat m (base + 4 * k) 4)

/-- Add d times an input's column of W1 to the first-layer accumulators (10 R499 to R502). -/
def addColumn (m : Mem) (i : Nat) (d : Int) (a : List Nat) : List Nat :=
  (a.zip (memRange m (i * 256) 256)).map fun e => wrapN 32 ((e.1 : Int) + e.2.toInt * d)

/-- The first layer over the inputs from i on: accumulators, references and inputs updated (10 R501, R502). -/
def layer1 (m : Mem) (full : Bool) (t : Nat) : (ins : List Nat) → (i : Nat) → List Nat → SMap Nat → Nat → List Nat × SMap Nat × Nat
  | [], _, a, refs, n => (a, refs, n)
  | x :: xs, i, a, refs, n =>
    let d : Int := (x : Int) - (if full then 0 else ((smGet (dflt 0) refs i : Nat) : Int))
    if full ∨ t ≤ d.natAbs then
      layer1 m full t xs (i + 1) (if d = 0 then a else addColumn m i d a) (smSet (dflt 0) refs i x) (n + 1)
    else layer1 m full t xs (i + 1) a refs n

/-- One dense layer: bias plus the weighted sum for `n` outputs, weight of (input, output) at base + input * n + output
(10 R499, R500). -/
def dense (m : Mem) (base biasBase n : Nat) (h : List Nat) : List Int :=
  (List.range n).map fun k =>
    (h.zipIdx).foldl (fun (a : Int) e => a + (memByte m (base + e.2 * n + k)).toInt * (e.1 : Int)) (bias m biasBase k)

/-- The least index of the largest element. -/
def argMax (xs : List Int) : Nat :=
  (xs.zipIdx.foldl (fun (b : Int × Nat) e => if b.1 < e.1 then e else b) (xs.headD 0, 0)).2

/-- The scores from the first-layer accumulators (10 R500). -/
def fclScores (m : Mem) (shift : Nat) (a1 : List Nat) : List Int :=
  let h1 := a1.map fun a => fclAct (sext 32 a) (fld shift 4 0)
  let h2 := (dense m 0x40000 0x44C00 64 h1).map fun a => fclAct a (fld shift 12 8)
  (dense m 0x44000 0x44D00 32 h2).map fun a => min (max (a / (2 ^ fld shift 20 16 : Nat)) (-32768)) 32767

/-- A frame's result. -/
structure FclResult where
  cls : Nat
  scores : List Int
  full : Bool
  updates : Nat
  sat : Bool
  settle : Bool
  irregular : Bool
deriving DecidableEq, Repr

/-- The 512 feature registers. -/
def features (s : State) : List Word :=
  (List.range 512).map fun f => rdReg s (onPage Reg.rbkFeat (f / 32) + 4 * (f % 32))

/-- Classify the completed frame: the classifier after it, and the result (10 R498 to R503). -/
def classify (s : State) : Classifier × FclResult :=
  let f := s.falbo.fcl
  let d := s.falbo.frames.done
  let fs := features s
  let xs := fs.map fun w => rfld w 11 0
  let es := xs.zipIdx.map fun e => emaStep f.first f.cfgDone.ema (smGet (dflt 0) f.avg e.2) e.1
  let full := f.first || (f.cfgDone.nr != 0 && d.number % f.cfgDone.nr == 0) || d.firstOfLen
  let a0 := (List.range 256).map fun j => if full then wrapN 32 (bias f.weights 0x44800 j) else smGet (dflt 0) f.a1 j
  let r := layer1 f.weights full f.cfgDone.t (xs ++ es.map (· / 16)) 0 a0 f.refs 0
  let scores := fclScores f.weights f.cfgDone.shift r.1
  ({ f with avg := each es.zipIdx (fun e m => smSet (dflt 0) m e.2 e.1) f.avg, refs := r.2.1, first := false, waiting := false,
            a1 := each r.1.zipIdx (fun e m => smSet (dflt 0) m e.2 e.1) f.a1, running := f.running && !f.stopping, stopping := false },
   { cls := argMax scores, scores := scores, full := full, updates := r.2.2, sat := fs.any fun w => rbit w 12,
     settle := fs.any fun w => rbit w 13, irregular := d.irregular })

/-- The score words: two s16 a word (10 R509, R515). -/
def scoreWords (scores : List Int) : List Nat :=
  (List.range 16).map fun m => wrapN 16 (nth scores (2 * m) 0) + wrapN 16 (nth scores (2 * m + 1) 0) * 2 ^ 16

/-- The result record's words (10 R509). -/
def resultWords (r : FclResult) (len number phase : Nat) : List Nat :=
  [phase * 2 ^ 31 + 0x42 * 2 ^ 24 + r.cls,
   r.updates + 2 ^ 16 * b2n r.full + 2 ^ 17 * b2n r.sat + 2 ^ 18 * b2n r.settle + 2 ^ 19 * b2n r.irregular + 2 ^ 20 * len,
   lo32 number, hi32 number, 0, 0, 0, 0] ++ scoreWords r.scores ++ List.replicate 8 0

/-- The result record to the ring, or its discard (10 R508, R510, R512). -/
def resultRecord (s : State) (r : FclResult) : State :=
  let n := s.falbo.frames.done.number
  let tail := rdF s Reg.fclRingTail 15 0
  let log2 := rdF s Reg.fclRingSize 3 0
  if !rdB s Reg.fclCtl 5 then s
  else if (tail + 2 ^ 16 - rdF s Reg.fclRingHead 15 0) % 2 ^ 16 = 2 ^ log2 ∨ permitted s 0 = false then
    let s1 := cntReg s Reg.fclDropped 1
    if s.falbo.fcl.dropping then setEvt s1 Reg.pageFcl 8
    else raiseEv (setFcl s1 { s1.falbo.fcl with dropping := true }) Reg.pageFcl 8 .block 0x42 0 0x0003 0 [lo32 n, hi32 n]
  else
    let s1 := hostWords s 0 (rd64 s Reg.fclRingLo + 128 * (tail % 2 ^ log2))
      (resultWords r s.falbo.frames.done.len n (1 - tail / 2 ^ log2 % 2))
    wrN (setFcl s1 { s1.falbo.fcl with dropping := false }) Reg.fclRingTail ((tail + 1) % 2 ^ 16)

/-- The wake events of a result; `old` is the state before it (10 R512). -/
def wakeEvents (old : State) (r : FclResult) (s : State) : State :=
  let n := old.falbo.frames.done.number
  let first := old.falbo.fcl.first
  let prev := rdF old Reg.fclResult 4 0
  let wc := rdF old Reg.fclWakeScore 4 0
  let thr := sext 16 (rdF old Reg.fclWakeScore 31 16)
  let before := sext 16 (fld (rdN old (Reg.fclScore + 4 * (wc / 2))) (16 * (wc % 2) + 15) (16 * (wc % 2)))
  let sc := nth r.scores wc 0
  if !rdB old Reg.fclCtl 6 then s
  else
    let s1 := if rdB old Reg.fclWakeMask r.cls && (first || r.cls != prev) then
        raiseEv s Reg.pageFcl 2 .block 0x42 0 0x0001 0 [lo32 n, hi32 n, r.cls + wrapN 16 (nth r.scores r.cls 0) * 2 ^ 16, prev]
      else s
    if decide (thr ≤ sc) && (first || decide (before < thr)) then
      raiseEv s1 Reg.pageFcl 4 .block 0x42 0 0x0002 0 [lo32 n, hi32 n, wc + wrapN 16 sc * 2 ^ 16]
    else s1

/-- The registers of a published result (10 R515). -/
def showResult (s : State) (r : FclResult) : State :=
  let v := r.cls + 2 ^ 5 * b2n r.full + 2 ^ 6 * b2n r.sat + 2 ^ 7 * b2n r.settle + 2 ^ 8 * b2n r.irregular + r.updates * 2 ^ 16
  let s1 := wr64 (wrN s Reg.fclResult v) Reg.fclRframe s.falbo.frames.done.number
  let s2 := each (scoreWords r.scores).zipIdx (fun e t => wrN t (Reg.fclScore + 4 * e.2) e.1) s1
  setEvt (cntReg (wrB s2 Reg.fclStatus 0 s.falbo.fcl.running) Reg.fclResults 1) Reg.pageFcl 1

/-- CLASSIFIER_PUBLISH: the result of the completed frame, 12,500 counts after its end (10 R504 to R512). -/
def execClassifierPublish (s : State) : Out :=
  match s.falbo.frames.last with
  | none => .next s
  | some t =>
    if !s.falbo.fcl.waiting || decide (s.falbo.ticks < t + 12500) then .next s
    else
      let c := classify s
      .next (wakeEvents s c.2 (resultRecord (showResult (setFcl s c.1) c.2) c.2))

/-- WADDR after an access: 4 further, from 0x5_FFFC to 0 (10 R506). -/
def nextWaddr (a : Nat) : Nat := if a = 0x5FFFC then 0 else (a + 4) % 2 ^ 19

/-- FCL_WDATA_WRITE (10 R499, R506, 17 R749). -/
def execFclWdataWrite (w : Word) (s : State) : Out :=
  let a := rdF s Reg.fclWaddr 18 0
  if !falboUp s then .next s
  else if rdB s Reg.fclStatus 0 then .next (cntErr s Reg.pageFcl 1)
  else
    let s1 := if a < 0x44D80 then
        setFcl s { s.falbo.fcl with weights := memPutNat s.falbo.fcl.weights a 4 w.toNat }
      else s
    .next (wrN s1 Reg.fclWaddr (nextWaddr a))

/-- FCL_WDATA_READ; before the page answers it gives zero (10 R506, 17 R749). -/
def execFclWdataRead (s : State) : Out :=
  let a := rdF s Reg.fclWaddr 18 0
  if !falboUp s then .next (if 2 ≤ svcLevel s then putHif s { s.hif with lastRead := leBytes 4 0 } else s)
  else
  let s1 := putHif s { s.hif with lastRead := memRange s.falbo.fcl.weights a 4 }
  .next (wrN s1 Reg.fclWaddr (nextWaddr a))

/-- A write of FCL.CTL.RING_EN (10 R511). -/
def writeFclRing (s : State) (on : Bool) : State :=
  let log2 := rdF s Reg.fclRingSize 3 0
  if on && !rdB s Reg.fclCtl 5 then
    if 4 ≤ log2 ∧ log2 ≤ 12 then
      wrN (wrN (wrB (setFcl s { s.falbo.fcl with dropping := false }) Reg.fclCtl 5 true) Reg.fclRingTail 0) Reg.fclRingHead 0
    else s
  else if on then s
  else wrB s Reg.fclCtl 5 false

/-- RING_EN: of the classifier's ring, or of a channel's (10 R511, 11 R543, 17 R749). -/
def execRingEn (dec : Option (Fin 4)) (on : Bool) (s : State) : Out :=
  if !falboUp s then .next s
  else match dec with
  | none => .next (writeFclRing s on)
  | some c => .next (writeDecRing s c.val on)

/-- The other bits of a write of FCL.CTL: EMA_SHIFT outside 1 to 8 stays (10 R505, R515). -/
def writeFclCtl (s : State) (v : Nat) : State :=
  let ema := fld v 4 1
  let s1 := wrB (wrB s Reg.fclCtl 0 (bitN v 0)) Reg.fclCtl 6 (bitN v 6)
  let s2 := if 1 ≤ ema ∧ ema ≤ 8 then wrF s1 Reg.fclCtl 4 1 ema else s1
  writeFclRing s2 (bitN v 5)

/-- The staged frame length takes effect when the boundary is one under both lengths (10 R481). -/
def boundaryLen (s : State) : State :=
  let f := s.falbo.frames
  let code := rdF s Reg.snsFrame 2 0
  if rdB s Reg.snsStatus 3 && decide (f.lenAt < s.falbo.ticks) && s.count % frameLen code == 0 then
    setEvt (wrF (wrB (setFrames s { f with now := { f.now with len := code, firstOfLen := true } }) Reg.snsStatus 3 false)
      Reg.snsStatus 6 4 code) Reg.pageSns 1
  else s

/-- The staged sections of a port take effect (10 R489). -/
def boundarySecs (e : Nat × Nat) (s : State) : State :=
  let f := s.falbo.frames
  let secs := each (List.range 32) (fun i m =>
    if bitN e.2 i then smSet secCold m (32 * e.1 + i) (rdN s (onPage Reg.rbkSec e.1 + 4 * i)) else m) f.now.secs
  setFrames s { f with now := { f.now with secs := secs } }

/-- A port's staged ENABLE and GAIN take effect, and the Weirs that watch it (10 R484, R514, 12 R554). -/
def boundaryPort (p : Nat) (s : State) : State :=
  let f := s.falbo.frames
  if bitN f.ctlWritten p then
    let old := smGet (dflt 9) f.now.ctl p
    let new := rdN s (onPage Reg.rbkCtl p)
    let s1 := setFrames s { f with now := { f.now with ctl := smSet (dflt 9) f.now.ctl p new } }
    each (List.range 32) (portChanged p (fld old 2 1 != fld new 2 1) (bitN old 0 != bitN new 0)) s1
  else s

/-- The classifier at a boundary (10 R505, R507). -/
def boundaryFcl (s : State) : State :=
  let f := s.falbo.fcl
  let run := rdB s Reg.fclCtl 0
  let cfg : FclCfg := { ema := rdF s Reg.fclCtl 4 1, t := rdF s Reg.fclDeltaT 11 0, nr := rdF s Reg.fclRefresh 7 0, shift := rdN s Reg.fclShift }
  let g := { f with cfgDone := f.cfgNow, cfgNow := cfg }
  if f.running then setFcl s { g with waiting := true, stopping := !run }
  else if run then wrB (setFcl s { g with running := true, first := true, waiting := true }) Reg.fclStatus 0 true
  else setFcl s g

/-- The actual length of the frame that ends now is F; of one that began before sensing it is not known (10 R482, log 53). -/
def fullLength (s : State) : Bool :=
  match s.falbo.frames.last with
  | some t => s.falbo.ticks == t + frameLen s.falbo.frames.now.len
  | none => false

/-- The frame that ends becomes the one under conversion, and the next begins; with a load in it, it is irregular unless its length is F
after all (10 R480, R482, R490). -/
def turnFrame (s : State) : State :=
  let f := s.falbo.frames
  let d := { f.now with number := s.count / frameLen f.now.len - 1, irregular := f.now.irregular && !fullLength s }
  let s1 := setFrames s { f with last := some s.falbo.ticks, done := d, sat := [], conv := [], written := [],
                                 now := { f.now with irregular := false, firstOfLen := false, settle := f.written } }
  if d.irregular then setEvt s1 Reg.pageSns 2 else s1

/-- FRAME_BOUNDARY: a count that is a multiple of F (10 R479 to R490, R505, R507, 11 R521 to R523, R537, 12 R553, R554,
R557, R563). -/
def execFrameBoundary (s : State) : Out :=
  let f := s.falbo.frames
  if !sensing s || s.count % frameLen f.now.len != 0 || f.last == some s.falbo.ticks then .next s
  else
    let s1 := boundaryLen (each f.written boundarySecs (turnFrame s))
    let s2 := each (List.range 16) boundaryPort s1
    let s3 := boundaryFcl (setFrames s2 { s2.falbo.frames with ctlWritten := 0 })
    let s4 := each (List.range 32) (fun w t => applyWeirSet w (newFrameWeir w t)) s3
    let s5 := each (List.range 16) (rearm true) (checkTrips s4)
    .next (each (List.range 4) boundaryChan s5)

/-- DIE_TO_DIE_TRAINED: the die-to-die interface is trained, or trained again, and the Falbo pages answer; `errors` are the errors it
has found since the last training (17 R749, 10 R513). -/
def execDieToDieTrained (s : State) (errors : Nat := 0) : Out :=
  .next (cntErr (wrB (putBoot s { s.boot with d2d := true }) Reg.snsStatus 2 true) Reg.pageSns errors)

/-- A write of SNS.FRAME (10 R481). -/
def writeFrameLen (s : State) (v : Nat) : State :=
  let code := v % 8
  let s1 := setFrames (wrN s Reg.snsFrame code) { s.falbo.frames with lenAt := s.falbo.ticks }
  wrB s1 Reg.snsStatus 3 (code != s.falbo.frames.now.len)

/-- A write of RBK.CTL (10 R484, R514). -/
def writeRbkCtl (s : State) (p v : Nat) : State :=
  let f := s.falbo.frames
  setFrames (wrN s (onPage Reg.rbkCtl p) (v % 16)) { f with ctlWritten := f.ctlWritten ||| 2 ^ p }

/-- A write of RBK.SEC is staged (10 R489). -/
def writeRbkSec (s : State) (p i v : Nat) : State :=
  let f := s.falbo.frames
  setFrames (wrN s (onPage Reg.rbkSec p + 4 * i) (v % 2 ^ 14))
    { f with written := smSet (dflt 0) f.written p (smGet (dflt 0) f.written p ||| 2 ^ i) }

end Sys2Proof.Machine
end

