-- ==== Sys2Proof/Machine/Bringup.lean ====
section
/-!
DEFINITION. Bring-up, resets, the firmware restart, the mailbox and host writes of the persistent store: the rows POWER_GOOD and
COLD_RESET to PST_WRITE_DONE (14, 15 R679 to R681).
-/
namespace Sys2Proof.Machine

/-- Program a store register, whose older copy becomes the newer, or stays invalid: the copies, the wear counter, PST.WRITES, WEAR_RATED, and
PST.STATUS.LOCKED with the LOCK register (14 R656, R660, R661, R671, R672). -/
def programStore (s : State) (n : Nat) (copy : Option Word) (times : Nat) : State :=
  let w0 := smGet (dflt 0) s.boot.wear n
  let w := satAdd 32 w0 times
  let older := match copy with | some _ => some (storeVal s n) | none => none
  let s0 := putBoot s { s.boot with
    store := smSet storeCold s.boot.store n (copy.getD (storeVal s n)), older := smSet (fun n => some (storeCold n)) s.boot.older n older,
    wear := smSet (dflt 0) s.boot.wear n w }
  let s1 := cntReg s0 Reg.pstWrites times
  let s2 := if n = 1 then wrB s1 Reg.pstStatus 6 (rbit (storeVal s1 1) 0) else s1
  if w0 ≤ 1000000 ∧ 1000000 < w then raiseEv s2 Reg.pagePst 4 .block 0x04 0 0x0002 0 [n, w] else s2

/-- PST_WRITE_DONE: the oldest queued write is programmed and verified, after up to two failed attempts, or fails when all three have (14 R658
to R660, R671, R672). -/
def execPstWriteDone (ok : Bool) (s : State) (fails : Fin 3 := 0) : Out :=
  match s.boot.queue with
  | [] => .next s
  | w :: ws =>
    let s0 := showQueue (putBoot s { s.boot with queue := ws })
    if storeVal s w.reg = w.val then .next s0
    else if ok then .next (programStore s0 w.reg (some w.val) (1 + fails.val))
    else
      let s1 := programStore (putDraw s0 (s.draw + 1)) w.reg (Config.readBack w.reg (storeVal s w.reg) w.val s.draw) 3
      let s2 := wrN (wrB (noteHw s1 Reg.pstStatus 0x20) Reg.pstStatus 5 true) Reg.pstLastFail w.reg
      .next (raiseEv s2 Reg.pagePst 1 .block 0x04 0 0x0001 0
        [w.reg, w.val.toNat, (storeVal s2 w.reg).toNat, smGet (dflt 0) s2.boot.wear w.reg])

/-- A host write that R663 or R664 discards: of a locked register, of one shown as zero, of the disabled-unit map or of FW_MIN_EPOCH. -/
def storeDenied (s : State) (n : Nat) (v : Word) : Bool :=
  let old := storeRead s n
  (decide (n < 0x40) && rbit (storeRead s 1) 0)
    || (decide (0x40 ≤ n) && decide (n ≤ 0x4A) && (old &&& ~~~ v) != 0 && !rdB s Reg.dbgLock 0)
    || storeMask n == 0 || (n == 0x4D && decide (v.toNat < old.toNat))

/-- PST_WRITE: a host write of a store register, from level 2 on (14 R641, R658, R662 to R664, R671). -/
def execPstWrite (n : Fin 256) (v : Word) (s : State) : Out :=
  let w := v &&& storeMask n.val
  if svcLevel s < 2 then .next s
  else if storeDenied s n.val w then .next (cntErr s Reg.pagePst 1)
  else if 8 ≤ s.boot.queue.length then .next (setEvt (cntReg s Reg.pstDiscarded 1) Reg.pagePst 2)
  else .next (storePush s n.val w true)

/-- A cold reset: every register and every hidden part at its cold value; the persistent store, the flash and host memory
remain. A write of the store that is under way may have landed or not (14 R656, R657, R666, R669). -/
def coldReset (s : State) (cause : Nat) (resetN : Bool) : State :=
  let b := s.boot
  let lands := match b.queue with
    | w :: _ => if Config.torn s.draw then some w else none
    | [] => none
  let t := match lands with | some w => programStore s w.reg (some w.val) 1 | none => s
  let r := putHost (putDraw (putPending State.reset s.pending) (s.draw + 1)) s.host
  let r0 := putGener r { r.gener with blocks := s.gener.blocks }
  let r1 := putBoot (putPower r0 { r.power with resetN := resetN }) { r.boot with flash := b.flash, store := t.boot.store, older := t.boot.older, wear := t.boot.wear }
  wrN r1 Reg.glbResetCause cause

/-- COLD_RESET: power-on or assertion of RESET_N (14 R666, 13 R636, 12 R574). -/
def execColdReset (cause : ColdCause) (s : State) : Out :=
  .next (coldReset s (match cause with | .powerOn => 0 | .resetN => 1) false)

/-- SUPPLY_DROP: with RESET_N high, the supervisor resets the package as a cold reset (15 R681). -/
def execSupplyDrop (s : State) : Out := .next (if s.power.resetN then coldReset s 0 true else s)

/-- POWER_GOOD: the board releases RESET_N (15 R679). -/
def execPowerGood (s : State) : Out := .next (putPower s { s.power with resetN := true })

/-- PLL_LOCK: the dividers are released and the global counter starts at 0 (15 R689, R692, R713). -/
def execPllLock (s : State) : Out :=
  if !s.power.resetN || s.power.pll then .next s
  else .next (wrF (putPower (putCount s 0) { s.power with pll := true }) Reg.clkStatus 1 0 3)

/-- The disabled-unit map of the store takes effect (14 R664, 09 R473). -/
def loadMap (s : State) : State :=
  let bit := fun (kind n : Nat) => rbit (storeVal s (mapBit kind n).1) (mapBit kind n).2
  let s1 := each ((List.range 144).filter (bit 0)) (fun p t => markQuar t 0 p) s
  (putBoot s1 { s1.boot with qRouters := (List.range 144).filter (bit 1), qStacks := (List.range 6).filter (bit 2),
                                   qPorts := (List.range 8).filter (bit 3) })

/-- The logical count of the grade (14 R662, R669). -/
def gradeCount (s : State) : Nat := rfld (storeVal s 0) 15 8

/-- PST_LOAD_DONE: the store has read its registers and the trims are applied (14 R643, R662, R664, R669, R671). -/
def execPstLoadDone (s : State) : Out :=
  if !s.power.pll || s.boot.pstLoaded then .next s
  else
    let s1 := loadMap (putBoot s { s.boot with pstLoaded := true })
    let s2 := wrF (wrF s1 Reg.glbIdent 0 0 (rfld (storeVal s 0) 0 0)) Reg.glbIdent 15 8 (gradeCount s)
    .next (wrB s2 Reg.pstStatus 6 (rbit (storeVal s 1) 0))

/-- LEVEL_GUARD: level 1; the Weir and pulse-generator defaults load from the store and sensing runs (12 R555, R573, R575, R576,
14 R641). -/
def execLevelGuard (s : State) : Out :=
  if !s.boot.pstLoaded || svcLevel s ≠ 0 then .next s
  else
    let v := fun (n : Nat) => (storeVal s n).toNat
    let s1 := setLevel s 1
    let s2 := each (List.range 32) (fun w => guardWeir (v (0x50 + 2 * w)) (v (0x51 + 2 * w)) w) s1
    .next (each (List.range 16) (fun j => guardPulse (v (0x90 + 2 * j)) (v (0x91 + 2 * j)) j) s2)

/-- PCIE_TRAINING_START: the LTSSM starts training (13 R585, 14 R643). -/
def execPcieTrainingStart (s : State) : Out :=
  .next (if s.power.pll then putHif s { s.hif with trained := true } else s)

/-- FIRMWARE_BOOT: the ROM starts the active slot, the other one, or recovery, and the level becomes 2 (14 R641, R649, R652, R653,
R669, 13 R585). -/
def execFirmwareBoot (s : State) : Out :=
  if svcLevel s ≠ 1 then .next s
  else
    let a := activeSlot s
    let st := slotStatus s a
    let s1 := noteSlot s a st
    let s2 :=
      if st = 1 then startFirmware s1 a
      else
        let st2 := slotStatus s (1 - a)
        let t := noteSlot s1 (1 - a) st2
        if st2 = 1 then wrB (startFirmware t (1 - a)) Reg.glbBoot 1 true
        else putBoot t { t.boot with recovery := true }
    .next (speedChange (setLevel s2 2))

/-- The logical count and the mapping at level 3: 112 clusters when the grade's own count cannot be mapped (04 R225, 09 R476). -/
def mapAtBoot (s : State) : State :=
  let n := gradeCount s
  match mapping s n with
  | .ok m =>
    let t := applyMapping s m
    putBoot t { t.boot with mapped := true }
  | .error _ =>
    match (if rfld (storeVal s 0) 0 0 = 0 then mapping s 112 else .error 0) with
    | .ok m =>
      let t := applyMapping (wrB (wrF s Reg.glbIdent 15 8 112) Reg.glbIdent 16 true) m
      putBoot t { t.boot with mapped := true }
    | .error _ => s

/-- LEVEL_NARROW: self-test has ended; failing clusters and routers are quarantined, the logical clusters are mapped and the level
becomes 3 (14 R641, R647, R653, R669, 04 R225, 09 R472, R476). -/
def execLevelNarrow (clusters routers : List Nat) (s : State) : Out :=
  if svcLevel s ≠ 2 ∨ s.boot.recovery = true ∨ s.boot.fwRunning = false then .next s
  else
    let cs := (List.range 144).filter fun p => clusters.contains p && !isQuar s 0 p
    let rs := (List.range 144).filter fun p => routers.contains p && !isQuar s 1 p
    let s1 := each rs (fun p t => quarantine t 1 p) (each cs (fun p t => quarantine t 0 p) s)
    let s2 := wrF (wrF s1 Reg.glbPost 7 0 cs.length) Reg.glbPost 15 8 rs.length
    let s3 := mapAtBoot (putBoot s2 { s2.boot with selfTested := true })
    .next (setLevel s3 3)

/-- LEVEL_FULL: the admitted HBM stacks are trained, failing stacks and ports are quarantined and the level becomes 4 (14 R641,
R647, R669, 09 R472). -/
def execLevelFull (stackOk portOk : Nat) (s : State) : Out :=
  if svcLevel s ≠ 3 then .next s
  else
    let hs := (List.range 6).filter fun h => !bitN stackOk h && !isQuar s 2 h
    let ps := (List.range 8).filter fun k => !bitN portOk k && !isQuar s 3 k
    let s1 := each ps (fun k t => quarantine t 3 k) (each hs (fun h t => quarantine t 2 h) s)
    let mask := fun (xs : List Nat) => sumN (xs.map (2 ^ ·))
    .next (setLevel (wrF (wrF s1 Reg.glbPost 21 16 (mask hs)) Reg.glbPost 31 24 (mask ps)) 4)

/-- The switch ends at this package: alone it goes on at once, in a group it handshakes again (07 R411, R412). -/
def switchEnd (s : State) : State :=
  if inGroup s then putAzl s { s.azl with waitSince := some s.count }
  else
    let s1 := setAzl (putAzl s { s.azl with restarting := false, reformed := true, epochTo := none }) 0
    putGener s1 { s1.gener with atBoundary := true }

/-- FIRMWARE_RESTARTED: the management processor restarts on the staged slot, or on the old one with SWITCH_FAILED (14 R655,
R672, 07 R411, R412, R419). -/
def execFirmwareRestarted (s : State) : Out :=
  if !s.azl.restarting || s.boot.fwRunning then .next s
  else
    let old := runEpoch s
    let slot := inactiveSlot s
    let st := slotStatus s slot
    if st = 1 then
      let s1 := startFirmware (noteSlot s slot 1) slot
      let s2 := storePush (wrF s1 Reg.azlEpoch 31 16 0) 0x4C (w32 slot) false
      .next (azlEvBeside (switchEnd s2) 0x40 0x0008 (memberPos s)
        [old + runEpoch s2 * 2 ^ 16, lo32 (rd64 s Reg.azlSwitchLo), hi32 (rd64 s Reg.azlSwitchLo)])
    else
      let s1 := startFirmware (noteSlot s slot st) (runningSlot s)
      .next (raiseEv (switchEnd s1) Reg.pageMgt 0 .block 0x05 0 0x0002 0 [rdF s Reg.azlEpoch 31 16 + old * 2 ^ 16, st])

/-- A warm reset's value of a stored register: what the columns keep, the rest at its reset value (17 R750, R758). -/
def warmReg (off : Nat) (v : Word) : Word :=
  match pageOf off with
  | none => v
  | some p =>
    if off % 0x1000 < 0x020 then v
    else match p.regs.find? fun r => rowHas r (off % 0x1000) with
      | some r => (v &&& w32 r.keep) ||| (coldReg off &&& ~~~ (w32 r.keep))
      | none => v

/-- Every listed register at its warm-reset value. -/
def warmRegs (s : State) : State :=
  wrN (each s.regs (fun e t => wrReg t e.1 (warmReg e.1 e.2)) s) Reg.glbResetCause 3

/-- A cluster after a warm reset keeps its place in the map and its error counts (02 R135). -/
def warmCluster (c : Cluster) : Cluster :=
  { logical := c.logical, quarantined := c.quarantined, st := if c.quarantined then .quarantined else .idle,
    ueExecs := c.ueExecs, ceCount := c.ceCount }

/-- The queued writes of the store complete (14 R667). -/
def drainStore (s : State) : State :=
  let s1 := each s.boot.queue (fun w t => if storeVal t w.reg = w.val then t else programStore t w.reg (some w.val) 1) s
  showQueue (putBoot s1 { s1.boot with queue := [] })

/-- The commands read and not completed, in ascending ring and index (14 R667). -/
def openCmds (s : State) : List CmdRef :=
  s.hif.rings.flatMap fun e => sortBy (fun a b => decide (a.idx ≤ b.idx)) e.2.out

/-- The rings forget what they read; released records that wait to be written are kept, since HELD is, and owe no completion any more (14 R667,
13 R630, R637; log 71). -/
def clearRings (s : State) : State :=
  each s.hif.rings (fun e t => setRing t e.1 { e.2 with fifo := [], busy := [], fences := [] })
    (putHif s { s.hif with held := (s.hif.held.filter fun t => !t.bare).map fun t => { t with fin := none } })

/-- A management restart goes on through a warm reset, which keeps the management processor (14 R666, 07 R411). -/
def keepRestart (a : AzlState) : AzlState := if a.restarting then { restarting := true, epochTo := a.epochTo } else {}

/-- LEAN_EN is 0 after a warm reset: with the lean point selected the nominal one is, at once, since no execution runs (15 R684). -/
def leanOff (s : State) : State :=
  let s1 := putPower s { s.power with leanEn := false }
  if s1.power.lean then selectPoint s1 false else s1

/-- A warm reset of the compute die. A GENERATE that it cancels has written its records but for those that no release had come to. KVP.FREE and
LOW_WATER, which the columns leave unchanged, follow PAGES to 0 (DESIGN CHOICE, log 71) (14 R642, R666, R667, R669, 08 R428, 13 R616). -/
def warmReset (s : State) : State :=
  let cmds := openCmds s
  let level := svcLevel s
  let s1 := clearRings (allCl (warmRegs (drainStore s)) warmCluster)
  let d := { s1.dbgp with halt := none, stepMode := none, stepHaltAt := none, resumeAt := none, noLaunch := false }
  let seen := (rdN s1 Reg.dbgVarAdmit, rdN s1 Reg.dbgVarRoute)
  let keep := putSched s1 { copies := s1.sched.copies, copyNo := s1.sched.copyNo }
  let sa := putLock (putAzl (putGener keep { varSeen := seen, blocks := s1.gener.blocks }) (keepRestart s.azl)) {}
  let s2 := unloadRegs (putDbgp (putBoot sa { s1.boot with staging := [] }) d)
  let s3 := each (List.range 8) (fun k t => wrB t (onPage Reg.portCtl k) 0 false) (wrB s2 Reg.azlCtl 0 false)
  let s4 := wrF s3 Reg.azlEpoch 15 0 (rdF s Reg.glbBoot 31 16)
  let s5 := leanOff (if level = 5 then setLevel s4 4 else s4)
  each cmds (fun c t => complete t c 0x0C (writtenOf s (s.azl.releaseQ.flatMap (·.2)) c) 0) s5

/-- GLB_WARM_RESET: it acts only with the key (14 R667, R669). -/
def execGlbWarmReset (key : BitVec 16) (s : State) : Out := .next (if key.toNat = 0xD7A5 then warmReset s else s)

/-- GLB_COLD_RESET: it acts only with the key (14 R668, R669). -/
def execGlbColdReset (key : BitVec 16) (s : State) : Out := .next (if key.toNat = 0xD7A5 then coldReset s 2 true else s)

/-- A write of MGT.MBOX_CMD starts a command unless one runs; the mailbox runs from level 2 on (14 R641, R670). -/
def startMbox (s : State) (op seq : Nat) : State :=
  if s.boot.mbox.isSome ∨ svcLevel s < 2 then s
  else
    let s1 := wrN (putBoot s { s.boot with mbox := some (op, seq) }) Reg.mgtMboxCmd (op + seq * 2 ^ 8)
    wrB s1 Reg.mgtMboxStatus 0 true

/-- INFO. -/
def execInfo (seq : Byte) (s : State) : Out := .next (startMbox s 1 seq.toNat)

/-- FLASH_READ. -/
def execFlashRead (seq : Byte) (s : State) : Out := .next (startMbox s 2 seq.toNat)

/-- FLASH_PROGRAM. -/
def execFlashProgram (seq : Byte) (s : State) : Out := .next (startMbox s 3 seq.toNat)

/-- SELECT_SLOT. -/
def execSelectSlot (seq : Byte) (s : State) : Out := .next (startMbox s 4 seq.toNat)

/-- The bytes of the data window (14 R670). -/
def windowBytes (s : State) (n : Nat) : List Byte :=
  ((List.range 512).flatMap fun i => leBytes 4 (rdN s (Reg.mgtData + 4 * i))).take n

/-- Bytes into the data window from its start, whatever is written there in the same count; bytes beyond them stay (14 R670, 17 R756). -/
def setWindow (s : State) (bs : List Byte) : State :=
  each (List.range (ceilDiv bs.length 4)) (fun i t =>
    let old := leBytes 4 (rdN t (Reg.mgtData + 4 * i))
    let new := (bs.drop (4 * i)).take 4
    wrN (noteHw t (Reg.mgtData + 4 * i) (BitVec.allOnes 32)) (Reg.mgtData + 4 * i) (leNat (new ++ old.drop new.length))) s

/-- A flash range lies within a slot (14 R648, R670). -/
def inSlot (off len slot : Nat) : Bool := decide (slotBase slot ≤ off) && decide (off + len ≤ slotBase slot + 0x200000)

/-- Program flash bytes; an offset at a sector's start first erases it (14 R670). -/
def flashProgram (s : State) (off : Nat) (bs : List Byte) : State :=
  let f := if off % 4096 = 0 then flashErase s.boot.flash off 4096 else s.boot.flash
  putBoot s { s.boot with flash := flashStore f off bs }

/-- A mailbox command's effect and code (14 R670). -/
def mboxRun (s : State) (op : Nat) (flashOk : Bool) : State × Nat :=
  let off := rdN s Reg.mgtArg0
  let len := rdN s Reg.mgtArg1
  let range := decide (len = 0) || decide (2048 < len) || decide (0x400000 < off + len)
  if op = 1 then
    if flashOk then (setWindow s (flashRange s.boot.flash 0 32 ++ flashRange s.boot.flash 0x200000 32), 0) else (s, 4)
  else if op = 2 then
    if range then (s, 2) else if flashOk then (setWindow s (flashRange s.boot.flash off len), 0) else (s, 4)
  else if op = 3 then
    let may := if s.boot.recovery then inSlot off len 0 || inSlot off len 1 else inSlot off len (inactiveSlot s)
    if range then (s, 2) else if !may || !s.boot.staging.isEmpty then (s, 3)
    else if flashOk then (flashProgram s off (windowBytes s len), 0) else (s, 4)
  else if op = 4 then
    let slot := off % 2
    if slotStatus s slot = 1 then (storePush s 0x4C (w32 slot) false, 0) else (s, 5)
  else (s, 1)

/-- MBOX_DONE: the command completes, BUSY clears (14 R670, R672). -/
def execMboxDone (flashOk : Bool) (s : State) : Out :=
  match (if svcLevel s < 2 then none else s.boot.mbox) with
  | none => .next s
  | some (op, seq) =>
    let r := mboxRun (putBoot s { s.boot with mbox := none }) op flashOk
    let s1 := wrN r.1 Reg.mgtMboxStatus (r.2 * 2 ^ 4 + seq * 2 ^ 8)
    .next (raiseEv s1 Reg.pageMgt 1 .block 0x05 0 0x0001 0 [op + r.2 * 2 ^ 8 + seq * 2 ^ 16])

end Sys2Proof.Machine
end

