-- ==== Sys2Proof/Machine/Debug.lean ====
section
/-!
DEFINITION. The debug port: unlock, halts, resume, steps, debug accesses, REWIND, ABANDON and the test access port: the rows
UNLOCK_START to TRST_N, but for ACC_GO's space 6 and DBG_REG_UPDATE (16).
-/
namespace Sys2Proof.Machine

/-- The package is unlocked, and no unlock is accepted until a cold reset (16 R726, R728). -/
def unlocked (s : State) : Bool := rdB s Reg.dbgLock 0
def barred (s : State) : Bool := rdB s Reg.dbgLock 5

/-- START asks for a nonce (16 R727, R728). -/
def unlockStart (s : State) : State := if barred s then s else putDbgp s { s.dbgp with nonceReq := true }

/-- UNLOCK_START. -/
def execUnlockStart (s : State) : Out := .next (unlockStart s)

/-- NONCE_READY: a fresh nonce is in DBG.NONCE (16 R727). -/
def execNonceReady (s : State) : Out :=
  if !s.dbgp.nonceReq then .next s
  else
    let s1 := each (List.range 12) (fun i t => wrReg t (Reg.dbgNonce + 4 * i) (Config.nonce s.draw i)) s
    .next (wrB (putDbgp (putDraw s1 (s.draw + 1)) { s1.dbgp with nonceReq := false }) Reg.dbgLock 6 true)

/-- A SUBMIT fails; the eighth failure bars the port (16 R728, R746). -/
def unlockFail (s : State) : State :=
  let n := min 8 (rdF s Reg.dbgLock 4 1 + 1)
  let s1 := wrF s Reg.dbgLock 4 1 n
  if n = 8 ∧ barred s = false then raiseEv (wrB s1 Reg.dbgLock 5 true) Reg.pageDbg 0x20 .block 0x06 0 0x0012 0 [n + 16] else s1

/-- Consecutive registers. -/
def regRun (s : State) (off n : Nat) : List Word := (List.range n).map fun i => rdReg s (off + 4 * i)

/-- SUBMIT: the nonce, key and signature go to the check (16 R727, R728). -/
def unlockSubmit (s : State) : State :=
  if barred s then s
  else if rdB s Reg.dbgLock 6 then
    let x := regRun s Reg.dbgNonce 12 ++ regRun s Reg.dbgResponse 48
    wrB (wrB (putDbgp s { s.dbgp with submit := some x }) Reg.dbgLock 6 false) Reg.dbgLock 7 true
  else unlockFail s

/-- UNLOCK_SUBMIT. -/
def execUnlockSubmit (s : State) : Out := .next (unlockSubmit s)

/-- The bytes of words, least significant first. -/
def wordBytes (ws : List Word) : List Byte := ws.flatMap fun w => leBytes 4 w.toNat

/-- The check of R727: the key's hash, and the signature over the nonce and the serial number. -/
def unlockOk (s : State) (x : List Word) : Bool :=
  let key := wordBytes ((x.drop 12).take 24)
  let sig := wordBytes ((x.drop 36).take 24)
  keyOk s 0x2C key && ecdsaOk key sig (wordBytes (x.take 12) ++ wordBytes [storeVal s 2, storeVal s 3])

/-- UNLOCK_CHECK_DONE: the check of a SUBMIT ends (16 R727, R728). -/
def execUnlockCheckDone (s : State) : Out :=
  match s.dbgp.submit with
  | none => .next s
  | some x =>
    let s1 := wrB (putDbgp s { s.dbgp with submit := none }) Reg.dbgLock 7 false
    .next (if unlockOk s x then wrB s1 Reg.dbgLock 0 true else unlockFail s1)

/-- DBG_LOCK: the package locks at once; a halted die stays halted (16 R729). -/
def execDbgLock (s : State) : Out := .next (wrB s Reg.dbgLock 0 false)

/-- A write of HALT_NOW: H is the first count after it (16 R726, R731). -/
def haltNow (s : State) : State := if unlocked s then fireHalt s { h := s.count + 1, cause := 1 } else s

/-- HALT_NOW. -/
def execHaltNow (s : State) : Out := .next (haltNow s)

/-- HALT_AT_COUNT: with AT_EN the die halts at HALT_AT, or, when that has passed, at the next count (16 R726, R731). -/
def execHaltAtCount (s : State) : Out :=
  let h := rd64 s Reg.dbgHaltAtLo
  .next (if unlocked s && rdB s Reg.dbgHaltCtl 2 && decide (h ≤ s.count) then
      fireHalt s { h := if h = s.count then h else s.count + 1, cause := 2 }
    else s)

/-- The die resumes at the present count; RESUME_AT_EN clears with a resume of its own, not with that of a step (16 R733, R745, R746; 07
R396, 17 R756). -/
def resumeDie (s : State) : State :=
  match s.dbgp.halt with
  | none => putDbgp s { s.dbgp with resumeAt := none }
  | some r =>
    let own := s.dbgp.stepMode.isNone
    let n := s.count - r.h
    let s1 := stretchDue (wrB (wrB s Reg.dbgHaltStatus 0 false) Reg.dbgLsStatus 3 false) r.h n
    let s2 := putDbgp (putSched s1 { s1.sched with halted := false }) { s1.dbgp with halt := none, resumeAt := none, noLaunch := false }
    let s3 := if own then wrB (noteHw s2 Reg.dbgHaltCtl 8) Reg.dbgHaltCtl 3 false else s2
    raiseEv s3 Reg.pageDbg 0 .block 0x06 0 0x0011 0 [lo32 s.count, hi32 s.count, lo32 n, hi32 n]

/-- The halt may end: it is one, and no mismatch stands (16 R733). -/
def mayResume (s : State) : Bool := s.sched.halted && !rdB s Reg.dbgLsStatus 1

/-- The die resumes at the next count. -/
def resumeNext (s : State) : State := putDbgp s { s.dbgp with resumeAt := some (s.count + 1) }

/-- No step runs any more. -/
def noStep (s : State) : State := putDbgp s { s.dbgp with stepMode := none, stepHaltAt := none }

/-- A write of RESUME: the first count after it, or with RESUME_AT_EN at RESUME_AT when that is still to come (16 R733). -/
def resumeCmd (s : State) : State :=
  if !mayResume s then s
  else if rdB s Reg.dbgHaltCtl 3 && decide (s.count < rd64 s Reg.dbgResumeAtLo) then s
  else resumeNext (noStep s)

/-- DBG_RESUME. -/
def execDbgResume (s : State) : Out := .next (resumeCmd s)

/-- The step that REWIND names launches again when its member resumes, with the tables of its own batch: the entry agrees its launch (16
R743, 07 R404, 04 R253, 06 R329). -/
def relaunch (s : State) : State :=
  match s.lock.rewindStep, s.sched.nextStep with
  | some _, some r =>
    let s0 := putLock s { s.lock with rewindStep := none }
    let s1 := match s.gener.image with | some im => writeTables s0 im r.batch | none => s0
    if isEntry s then
      let l := launchAfter s (cDown s)
      let r1 := { r with launch := l, changes := tableImages s }
      sendLaunch (putSched s1 { s1.sched with nextStep := some r1, nextLaunch := some l, launchReady := true, replay := true }) r1
    else putSched s1 { s1.sched with nextStep := none, nextLaunch := none }
  | _, _ => putLock s { s.lock with rewindStep := none }

/-- A step of no cycles or instructions halts in the count it resumes in (16 R734). -/
def stepNone (s : State) : State :=
  if s.dbgp.stepHaltAt = some s.count then fireHalt s { h := s.count, cause := 5 } else s

/-- A pending resume takes effect at its count. -/
def resumeDue (s : State) : State :=
  match s.dbgp.resumeAt with
  | some t => if t ≤ s.count then stepNone (relaunch (resumeDie s)) else s
  | none => s

/-- RESUME_AT_COUNT: with RESUME_AT_EN the die resumes at RESUME_AT, or at once when that has passed (16 R733). -/
def execResumeAtCount (s : State) : Out :=
  .next (if mayResume s && rdB s Reg.dbgHaltCtl 3 && decide (rd64 s Reg.dbgResumeAtLo ≤ s.count) then relaunch (resumeDie (noStep s)) else s)

/-- A write of STEP.GO: the die runs as MODE selects; no step without unlock (16 R726, R734). -/
def stepGo (s : State) : State :=
  let mode := rdF s Reg.dbgStep 1 0
  let n := rdN s Reg.dbgStepN
  if !unlocked s || !s.sched.halted then s
  else
    let s1 := resumeNext s
    (putDbgp s1 { s1.dbgp with stepMode := some mode, stepLeft := if mode = 1 then n else 0,
                                       stepHaltAt := if mode = 0 ∨ (mode = 1 ∧ n = 0) then some (s.count + 1 + n) else none })

/-- STEP_GO. -/
def execStepGo (s : State) : Out := .next (stepGo s)

/-- STEP_DONE: a step of cycles has run its counts; the other modes halt at the event that ends them (16 R734). -/
def execStepDone (s : State) : Out :=
  match s.dbgp.stepHaltAt with
  | some h => .next (if h ≤ s.count then fireHalt s { h := h, cause := 5 } else s)
  | none => .next s

/-- The bytes of a debug access's SIZE (16 R745). -/
def accBytes (size : Nat) : Nat := nthN [4, 8, 16, 0] size

/-- The cluster that ACC_SEL names. -/
def accCluster (s : State) : Option Nat :=
  let l := rdF s Reg.dbgAccSel 7 0
  if l < ncl s then physOf s l else none

/-- A debug access is in range and of a size of its space (16 R737). -/
def accFits (s : State) (space size addr : Nat) : Bool :=
  let n := accBytes size
  let cl := (accCluster s).isSome
  match space with
  | 0 => cl && size == 0 && decide (addr < 256)
  | 1 => cl && size == 0 && decide (addr < 64)
  | 2 => cl && size == 0 && decide (addr ≤ 4)
  | 3 => cl && size != 3 && addr % max 1 n == 0 && decide (addr + n ≤ 0x100000)
  | 4 => cl && size == 2 && decide (addr < 4096)
  | 5 => size != 3 && addr % max 1 n == 0 && decide (addr + n ≤ 0x2400000000)
  | _ => space == 6 && size == 0

/-- The space is reachable now: spaces 0 to 4 while the die is halted, 5 also while nothing uses the HBM (16 R737). -/
def accReach (s : State) (space : Nat) : Bool :=
  s.sched.halted || (space == 5 && !s.sched.exec.running && !xferBusy s)

/-- A step execution is halted or running (16 R739). -/
def stepRuns (s : State) : Bool := s.sched.exec.running && s.sched.exec.kind == .step

/-- The code of a debug access: 1 locked, 4 a write while a step execution is halted or running, 2 not halted, 3 range or size; the first
that applies (16 R737, R739, R745; that 4 goes before 2 and 3 is R739's word, the rest of the order DEDUCED, log 62). -/
def accCode (s : State) (space size addr : Nat) (write : Bool) : Nat :=
  if space ≤ 5 ∧ unlocked s = false then 1
  else if write = true ∧ space ≤ 5 ∧ stepRuns s = true then 4
  else if space ≤ 5 ∧ accReach s space = false then 2
  else if accFits s space size addr = false then 3
  else 0

/-- Group state as space 2 numbers it (16 R737). -/
def groupState (c : Cluster) (g lane addr : Nat) : Nat :=
  match addr with
  | 0 => (grp c g).pc
  | 1 => (grp c g).active.toNat
  | 2 => (grp c g).exited.toNat
  | 3 => (grp c g).stack.length
  | _ => sumN ((List.range 8).map fun p => b2n ((rdPred c g p).getLsbD lane) * 2 ^ p)

/-- A divergence stack of another depth, 16 at most: the newest entries go, or entries come of which the spec tells nothing, each a free value
(16 R737, 02 R81; DESIGN CHOICE, log 62). -/
def toDepth (draw v : Nat) (st : List DivEntry) : List DivEntry :=
  let n := min 16 v
  ((List.range (n - st.length)).map fun i => divOf ((List.range 4).map fun j => (Config.divWord draw (4 * i + j)).toNat)) ++ st.drop (st.length - n)

/-- Write group state: program counter, masks, divergence depth, a lane's predicates (16 R737). -/
def putGroupState (draw : Nat) (c : Cluster) (g lane addr v : Nat) : Cluster :=
  match addr with
  | 0 => modGrp c g fun x => { x with pc := v % 2 ^ 20, held := none }
  | 1 => modGrp c g fun x => { x with active := BitVec.ofNat 32 v }
  | 2 => modGrp c g fun x => { x with exited := BitVec.ofNat 32 v }
  | 3 => modGrp c g fun x => { x with stack := toDepth draw v x.stack }
  | _ => each (List.range 8) (fun p c => wrPred c g p lane (bitN v p)) c

/-- What a debug read of spaces 0 to 5 finds stored (16 R737). -/
def accRead (s : State) (space size addr : Nat) : Nat :=
  let c := clOf s ((accCluster s).getD 0)
  let g := rdF s Reg.dbgAccSel 10 8
  let lane := rdF s Reg.dbgAccSel 15 11
  match space with
  | 0 => (rdLane c g addr lane).toNat
  | 1 => (rdUni c g addr).toNat
  | 2 => groupState c g lane addr
  | 3 => memNat c.spad addr (accBytes size)
  | 4 => (rdPeat c addr).toNat
  | _ => memNat s.hbm addr (accBytes size)

/-- A debug write of spaces 0 to 5 (16 R737). -/
def accWrite (s : State) (space size addr v : Nat) : State :=
  let p := (accCluster s).getD 0
  let g := rdF s Reg.dbgAccSel 10 8
  let lane := rdF s Reg.dbgAccSel 15 11
  match space with
  | 0 => modCl s p fun c => wrLane c g addr lane (w32 v)
  | 1 => modCl s p fun c => wrUni c g addr (w32 v)
  | 2 => putDraw (modCl s p fun c => putGroupState s.draw c g lane addr v) (s.draw + if addr = 3 then 1 else 0)
  | 3 => modCl s p fun c => { c with spad := memPutNat c.spad addr (accBytes size) v }
  | 4 => modCl s p fun c => wrPeat c addr (BitVec.ofNat _ v)
  | _ => foreignWrite (putHbm s (memPutNat s.hbm addr (accBytes size) v)) addr (accBytes size)

/-- A debug read of spaces 0 to 5 passes through a code: all but group state other than predicates (09, table of codes, 16 R738). -/
def accCoded (space addr : Nat) : Bool := space != 2 || decide (4 ≤ addr)

/-- A corrected error of a debug read counts in the block that owns the array (09 R456, 16 R738). -/
def accCorrected (s : State) (space addr : Nat) : State :=
  if space = 5 then cntErr s (onPage Reg.pageHbc (hbmStack addr)) 1 else effCe ((accCluster s).getD 0) { ce := 1 } s

/-- A debug read of spaces 0 to 5: its value, and the state with what correction counts and the access's code. An uncorrectable one gives
the stored bits with code 5 and is in no ledger (16 R738). -/
def accEcc (s : State) (space size addr : Nat) (ecc : Ecc) : State × Nat :=
  let v := accRead s space size addr
  if !accCoded space addr then (s, v)
  else match ecc with
    | .clean => (s, v)
    | .corrected => (accCorrected s space addr, v)
    | .uncorrectable m => (wrN s Reg.dbgAccStatus (5 * 2), v ^^^ m.toNat)

/-- DBG.ACC_DATA as a number (16 R745). -/
def accData (s : State) : Nat := (List.range 4).foldr (fun i a => rdN s (Reg.dbgAccData + 4 * i) + a * 2 ^ 32) 0

/-- Write the words of DBG.ACC_DATA that an access of n bytes fills. -/
def putAccData (s : State) (n v : Nat) : State :=
  each (List.range (n / 4)) (fun i t => wrN t (Reg.dbgAccData + 4 * i) (v / 2 ^ (32 * i) % 2 ^ 32)) s

/-- A write to a halted RUN_KERNEL taints it (16 R739). -/
def taint (s : State) : State :=
  if s.sched.halted && s.sched.exec.running && s.sched.exec.kind == .runk then
    wrB s Reg.dbgHaltStatus 4 true
  else s

/-- One debug access, whose read finds what `ecc` says; `bar0` performs space 6, whose read result it answers (16 R737 to R741). -/
def accGo (bar0 : Nat → Option Nat → State → State × Nat) (ecc : Ecc) (s : State) : State :=
  let cmd := rdReg s Reg.dbgAccCmd
  let space := rfld cmd 4 2
  let size := rfld cmd 6 5
  let write := rbit cmd 1
  let addr := rdN s Reg.dbgAddrLo + rdF s Reg.dbgAddrHi 5 0 * 2 ^ 32
  let code := accCode s space size addr write
  let s1 := wrN s Reg.dbgAccStatus (code * 2)
  if code ≠ 0 then s1
  else if space = 6 then
    let r := bar0 (addr / 4 * 4) (if write then some (accData s % 2 ^ 32) else none) s1
    if write then r.1 else putAccData r.1 4 r.2
  else if write then taint (accWrite s1 space size addr (accData s))
  else
    let r := accEcc s1 space size addr ecc
    putAccData r.1 (accBytes size) r.2

/-- Undo a commit for one session: what R743 lists, the tokens and prompt tokens the step processed, and its GENERATE (16 R743, 05 R279). -/
def undoCtx (r : StepRec) (v : CtxSave) (s : State) : State :=
  let cur := ctxOf s v.ctx
  if cur.st = .idle ∨ cur.sid ≠ v.old.sid then s
  else
    let k := sumN ((r.batch.filter fun e => e.ctx == v.ctx && !e.decode).map (·.rows))
    let fin := s.azl.releaseQ.any fun q => q.2.any fun t => waitsFor v.ctx v.old.sid t && t.fin.isSome
    let s1 := if fin && cur.gen.isSome then endGen s v.ctx 0x0C else s
    let x := ctxOf s1 v.ctx
    let waiting := v.old.waiting ++ x.waiting.drop (v.old.waiting.length - min k v.old.waiting.length)
    let y := { x with st := if x.st = .decode then v.old.st else x.st, len := v.old.len, budget := v.old.budget, accrued := v.old.accrued,
                      pages := v.old.pages, waiting := waiting, short := v.old.short, exitLast := v.old.exitLast, hist := v.old.hist,
                      gen := if x.gen.isSome || fin then v.old.gen else none }
    hbmWrite (writeList (setCtx s1 v.ctx y) v.ctx) v.exitAddr v.exitBytes

/-- Undo the commits from the newest down to step n's. -/
def undoSteps (n : Nat) : List StepSave → State → State
  | [], s => s
  | v :: vs, s =>
    let s1 := each v.ctxs (undoCtx v.record) s
    if v.n = n then putGener s1 { s1.gener with saves := vs } else undoSteps n vs s1

/-- The step that REWIND names: the mismatched step, which LS_SEQ names while MISMATCH stands and follows LS_SEQ afterwards (16
R743; DEDUCED). -/
def rewindTarget (s : State) : Option StepSave :=
  let n := rdN s Reg.dbgLsSeq + (if rdB s Reg.dbgLsStatus 1 then 0 else 1)
  s.gener.saves.find? fun v => v.n == n

/-- REWIND is accepted (16 R743). -/
def mayRewind (s : State) : Bool :=
  s.sched.halted && (rdB s Reg.dbgLsStatus 1 || (s.sched.exec.rewound && (s.sched.exec.running || s.sched.done.isSome)))

/-- The step under way is discarded. -/
def dropStep (s : State) : State :=
  let s1 := idleClusters (modExec s fun e => if e.kind = .step then { e with running := false, ended := true } else e)
  let s2 := putSched s1 { s1.sched with done := none, nextStep := none, nextLaunch := none }
  putGener (putAzl s2 { s2.azl with ledgers := [] }) { s2.gener with atBoundary := false }

/-- The record of a session that is no more: its GENERATE's completion is owed still. -/
def owedTok (t : TokRec) (s : State) : State :=
  match t.fin with
  | some (c, _) => if (ctxOf s t.ctx).st = .idle ∨ (ctxOf s t.ctx).sid ≠ t.sid then finish s c 0x0C 0 0 else s
  | none => s

/-- The tokens of undone steps, from number `step` on, are discarded, and no position has committed them (16 R743, 07 R403). -/
def dropTokens (s : State) (step : Nat) : State :=
  let gone := s.azl.releaseQ.filter fun q => decide (step ≤ q.1)
  let s1 := putAzl s { s.azl with
    releaseQ := s.azl.releaseQ.filter fun q => decide (q.1 < step), committed := s.azl.committed.map fun c => (c.1, min c.2 (step - 1)) }
  each (gone.flatMap (·.2)) owedTok s1

/-- Lock-step as it was before step n's commit. -/
def rewindLock (s : State) (n : Nat) : State :=
  let k := s.lock
  let s1 := (putLock s { k with next := n, own := k.own.filter fun t => decide (t.n < n), twin := k.twin.filter fun t => decide (t.n < n),
                                      held := k.held.filter fun h => decide (h.1 < n), haltAt := none, rewindStep := some n })
  let s2 := wrN (wrB (wrB (wrB s1 Reg.dbgLsStatus 1 false) Reg.dbgLsStatus 3 false) Reg.dbgLsStatus 4 false) Reg.dbgLsSeq
    ((n + 2 ^ 32 - 1) % 2 ^ 32)
  wrB s2 Reg.dbgDivStatus 1 true

/-- A write of REWIND (16 R743). -/
def rewindCmd (s : State) : State :=
  if !mayRewind s then s
  else match rewindTarget s with
    | none =>
      if s.sched.exec.rewound && !rdB s Reg.dbgLsStatus 1 then
        let s1 := dropStep s
        rewindLock (putSched s1 { s1.sched with nextStep := some s.sched.exec.sRec }) (rdN s Reg.dbgLsSeq + 1)
      else s
    | some v =>
      let s1 := dropTokens (showFree (undoSteps v.n s.gener.saves (dropStep s))) v.record.step
      rewindLock (putSched s1 { s1.sched with nextStep := some v.record }) v.n

/-- REWIND. -/
def execRewind (s : State) : Out := .next (rewindCmd s)

/-- A session that holds a token of the mismatched step is lost (16 R744, 09 R470). -/
def loseCtx (t : TokRec) (s : State) : State :=
  let x := ctxOf s t.ctx
  if x.st = .idle ∨ x.sid ≠ t.sid then s
  else sessEv (idleCtx s t.ctx) Reg.pageLdg 0x20 0x08 0x0006 x [t.ctx, lo32 x.len, hi32 x.len, 0]

/-- A write of ABANDON while MISMATCH is 1 (16 R744). -/
def abandonCmd (s : State) : State :=
  if !rdB s Reg.dbgLsStatus 1 then s
  else
    let n := rdN s Reg.dbgLsSeq
    let steps := (s.lock.held.filter fun h => h.1 == n).map (·.2)
    let gone := (s.azl.releaseQ.filter fun q => steps.contains q.1).flatMap (·.2)
    let lost := fun (t : TokRec) => gone.any fun g => g.ctx == t.ctx && g.sid == t.sid
    let all := s.azl.releaseQ.flatMap (·.2)
    let fins := all.filter fun t => lost t && t.fin.isSome
    let q := (s.azl.releaseQ.filter fun q => !steps.contains q.1).map fun q => (q.1, q.2.filter fun t => !lost t)
    let s1 := wrB (wrB (wrB (wrB s Reg.dbgLsStatus 1 false) Reg.dbgLsStatus 3 false) Reg.dbgLsStatus 0 false) Reg.dbgLsCtl 0 false
    let s2 := putLock (putAzl s1 { s1.azl with releaseQ := q }) { s1.lock with on := false, own := [], twin := [], held := [], haltAt := none }
    releaseAll (each fins (cancelTok (all.filter lost)) (each gone loseCtx (twinAgain s2)))

/-- ABANDON. -/
def execAbandon (s : State) : Out := .next (abandonCmd s)

/-- The instruction that an 8-bit code of the instruction register names; every other code acts as BYPASS (16 R717). -/
def irOf (c : Byte) : TapIr :=
  match c.toNat with
  | 0x00 => .extest
  | 0x01 => .idcode
  | 0x02 => .samplePreload
  | 0x03 => .clamp
  | 0x04 => .highz
  | 0x10 => .dbgReg
  | _ => .bypass

/-- The current instruction: one that needs unlock acts as BYPASS while the package is locked (16 R717). -/
def tapIr (s : State) : TapIr :=
  match irOf s.dbgp.ir with
  | .extest => if unlocked s then .extest else .bypass
  | .clamp => if unlocked s then .clamp else .bypass
  | .highz => if unlocked s then .highz else .bypass
  | i => i

/-- What a pin with a data cell i and an enable cell i + 1 shows at the package: the boundary register while EXTEST or CLAMP is current,
nothing under HIGHZ, what its own block drives otherwise (16 R719, R720). -/
def padOf (s : State) (i : Nat) (own : Pin) : Pin :=
  let drv := if s.dbgp.boundary.getLsbD (i + 1) then (if s.dbgp.boundary.getLsbD i then .high else .low) else .off
  match tapIr s with
  | .extest => drv
  | .clamp => drv
  | .highz => .off
  | _ => own

/-- A pulse-generator pin (16 R719, R720). -/
def padPin (s : State) (j : Nat) : Pin := padOf s (2 * j) (pulseOf s j).pin

/-- A pin that is high or low. -/
def levelPin (b : Bool) : Pin := if b then .high else .low

/-- QSPI pin i, in the order of R719; what the flash controller drives is not modelled (log 62). -/
def padQspi (s : State) (i : Nat) : Pin :=
  let own := Config.pins s.draw
  padOf s (32 + 2 * i) (if own.getLsbD (33 + 2 * i) then levelPin (own.getLsbD (32 + 2 * i)) else .off)

/-- VMTX_LEAN (15 R684, 16 R719). -/
def padLean (s : State) : Pin := padOf s 44 (levelPin s.power.lean)

/-- PPS_OUT, high-impedance while RESET_N is low (15 R700, 16 R719). -/
def padPps (s : State) : Pin := padOf s 46 (if s.power.resetN then levelPin s.power.ppsOut else .off)

/-- THERMTRIP_N is driven low: by the thermal circuit always, by its cell under EXTEST and CLAMP (16 R719 to R721). -/
def tripLow (s : State) : Bool :=
  s.power.thermtrip || ((tapIr s == .extest || tapIr s == .clamp) && s.dbgp.boundary.getLsbD 48)

/-- The data and enable cells that a pin's state loads, at the data cell's place. -/
def pinCells (i : Nat) (p : Pin) : Nat :=
  match p with
  | .low => 2 * 2 ^ i
  | .high => 3 * 2 ^ i
  | .off => 0

/-- The pins as the boundary register samples them; bit 0 nearest TDO (16 R719). -/
def samplePins (s : State) : BitVec 52 :=
  let pads := ((List.range 16).map fun j => pinCells (2 * j) (padPin s j)) ++ ((List.range 6).map fun i => pinCells (32 + 2 * i) (padQspi s i))
  let own := sumN pads + pinCells 44 (padLean s) + pinCells 46 (padPps s) + b2n (tripLow s) * 2 ^ 48 + b2n s.power.resetN * 2 ^ 50
  BitVec.ofNat 52 own ||| (Config.pins s.draw &&& 0xA000000000000#52)

/-- What the instruction register shifts out: Capture-IR loads 0b00000001 (16 R717). -/
def captureIr : Byte := 0x01

/-- What Capture-DR loads into the data register of the current instruction: IDCODE's 32 bits, the 52 of the boundary, DBG_REG's 59, or the
single bit of bypass, which reads 0 (16 R717, R718, R724; the 0 is PRESUMED from IEEE 1149.1, log 62). -/
def captureDr (s : State) : BitVec 59 :=
  match tapIr s with
  | .extest => (samplePins s).zeroExtend 59
  | .idcode => 0x04800A6F
  | .samplePreload => (samplePins s).zeroExtend 59
  | .clamp => 0
  | .highz => 0
  | .dbgReg => BitVec.ofNat 59 (s.dbgp.tapData.toNat + b2n s.dbgp.tapDone * 2 ^ 58)
  | .bypass => 0

/-- A scan of the instruction register makes a code current, and its data register captures; not while TRST_N holds the TAP in
Test-Logic-Reset (16 R717, R723). -/
def setIr (s : State) (c : Byte) : State :=
  if s.dbgp.held then s
  else
    let s1 := putDbgp s { s.dbgp with ir := c, irOut := captureIr }
    putDbgp s1 { s1.dbgp with drOut := captureDr s1 }

/-- EXTEST; a value scanned in reaches the boundary register at Update-DR (16 R717, R720). -/
def execExtest (s : State) (scan : Option (BitVec 52) := none) : Out :=
  let s1 := setIr s 0x00
  match scan with
  | none => .next s1
  | some v => .next (if s1.dbgp.held || tapIr s1 != .extest then s1 else putDbgp s1 { s1.dbgp with boundary := v })

/-- IDCODE. -/
def execIdcode (s : State) : Out := .next (setIr s 0x01)

/-- SAMPLE_PRELOAD: without a value the boundary register samples the pins, with one it is preloaded. -/
def execSamplePreload (preload : Option (BitVec 52)) (s : State) : Out :=
  if s.dbgp.held then .next s
  else
    let v := match preload with | some v => v | none => samplePins s
    let s1 := setIr s 0x02
    .next (putDbgp (putDraw s1 (s.draw + 1)) { s1.dbgp with boundary := v })

/-- CLAMP. -/
def execClamp (s : State) : Out := .next (setIr s 0x03)

/-- HIGHZ. -/
def execHighz (s : State) : Out := .next (setIr s 0x04)

/-- BYPASS, or another code that names no instruction (16 R717). -/
def execBypass (s : State) (code : Byte := 0xFF) : Out := .next (setIr s code)

/-- TRST_N: low holds the TAP in Test-Logic-Reset, with IDCODE current (16 R723). -/
def execTrstN (low : Bool) (s : State) : Out :=
  .next (putDbgp s { s.dbgp with held := low, ir := if low then 0x01 else s.dbgp.ir })

end Sys2Proof.Machine
end

