-- ==== Sys2Proof/Machine/Views.lean ====
section
/-!
DEFINITION. What a register read of BAR0 returns: the common header, the registers that show state kept elsewhere, the frozen
view, and where an offset of a function's BAR0 leads (17 R747 to R758, 02 R134, R135, 13 R593).
-/
namespace Sys2Proof.Machine

/-- Where an offset of BAR0 leads: a register, a page that reads zero and discards writes, or no page (17 R748, R749). -/
inductive Target where
  | reg (off : Nat)
  | zero
  | unmapped
deriving DecidableEq, Repr

/-- The PF's BAR0 (17 R747 to R749, 02 R134). -/
def targetPf (s : State) (off : Nat) : Target :=
  if 0x2000000 ≤ off then .unmapped
  else if 0x300000 ≤ off ∧ off < 0x380000 then
    match physOf s ((off - 0x300000) / 0x1000) with
    | some p => .reg (onPage Reg.pageClu p + off % 0x1000)
    | none => .zero
  else if (pageOf off).isNone then .unmapped
  else if 0x400000 ≤ off ∧ off < 0x41C000 ∧ rdB s Reg.snsStatus 2 = false then .zero
  else .reg off

/-- The rings and queues that a function owns, ascending (13 R593). -/
def ownedRings (s : State) (fn : Nat) : List Nat := (List.range 128).filter fun r => ringOwner s r == fn
def ownedQueues (s : State) (fn : Nat) : List Nat := (List.range 8).filter fun q => evqOwner s q == fn

/-- A VF's BAR0: its control page, its rings, its lowest queue (13 R593). -/
def targetVf (s : State) (fn off : Nat) : Target :=
  let k := off / 0x1000
  let o := off % 0x1000
  if k = 0 then .reg (onPage Reg.pageVfc (fn - 1) + o)
  else if k ≤ 16 then (match (ownedRings s fn)[k - 1]? with | some r => .reg (onPage Reg.pageCmq r + o) | none => .zero)
  else if k = 17 then (match (ownedQueues s fn)[0]? with | some q => .reg (onPage Reg.pageEvq q + o) | none => .zero)
  else .zero

/-- Where an offset of a function's BAR0 leads. -/
def target (s : State) (fn off : Nat) : Target := if fn = 0 then targetPf s off else targetVf s fn off

/-- The instance that a page's BLKID shows (17 R747). -/
def pageInst (p : PageRow) (base : Nat) : Nat := if p.base = Reg.pageVfc then 0 else p.inst0 + (base - p.base) / 0x1000

/-- The block of a page is powered: every page but that of a quarantined cluster (17 R750). -/
def pagePowered (s : State) (p : PageRow) (base : Nat) : Bool :=
  p.type != 0x30 || !(clOf s ((base - p.base) / 0x1000)).quarantined

/-- The common header (17 R750). -/
def viewHeader (s : State) (p : PageRow) (base o : Nat) : Nat :=
  let ctl := rdN s (base + 8)
  match o with
  | 0x000 => 1 + pageInst p base * 2 ^ 16 + p.type * 2 ^ 24
  | 0x004 => p.insts + bitlen p.evt * 2 ^ 16
  | 0x008 => b2n (pagePowered s p base) + b2n (bitN ctl 2) * 4
  | 0x00C =>
    b2n (s.power.pll && pagePowered s p base) + b2n (bitN ctl 2) * 2 + b2n (rdReg s (base + 0x14) &&& rdReg s (base + 0x10) != 0) * 4
  | 0x010 => rdN s (base + 0x10)
  | 0x014 => rdN s (base + 0x14)
  | 0x01C => rdN s (base + 0x1C)
  | _ => 0

/-- CLU.STATE.STATE: 4 once quarantined, 3 while the debug port halts the die (02 R135, 09 R473, 16 R730). -/
def clStateCode (s : State) (c : Cluster) : Nat :=
  if c.quarantined then 4
  else match c.st with
  | .faulted => 2
  | .quarantined => 4
  | .halted => 3
  | .idle => if s.sched.halted then 3 else 0
  | .running => if s.sched.halted then 3 else 1

/-- One bit per group that satisfies a test. -/
def groupMask (f : Group → Bool) (c : Cluster) : Nat := sumN ((c.groups.zipIdx).map fun x => if f x.1 then 2 ^ x.2 else 0)

/-- The registers of a CLU page (02 R135). -/
def viewClu (s : State) (p o : Nat) : Nat :=
  let c := clOf s p
  match o with
  | 0x040 => p + c.logical.getD 0xFF * 2 ^ 8 + b2n c.logical.isNone * 2 ^ 16 + b2n c.quarantined * 2 ^ 17
  | 0x044 => clStateCode s c + groupMask (·.started) c * 2 ^ 8 + groupMask (fun g => g.started && g.finished) c * 2 ^ 16
  | 0x048 => c.flt.code % 256 + c.flt.group % 8 * 2 ^ 8 + c.flt.lane % 32 * 2 ^ 11
  | 0x04C => c.flt.pc % 2 ^ 20
  | 0x050 => c.flt.addr % 2 ^ 32
  | 0x054 => c.flt.kcyc % 2 ^ 32
  | 0x058 => c.kcyc % 2 ^ 32
  | 0x05C => c.kernel % 2 ^ 16
  | 0x060 => min c.icMiss (2 ^ 32 - 1)
  | 0x064 => min c.ocMiss (2 ^ 32 - 1)
  | 0x068 => min c.conflict (2 ^ 32 - 1)
  | 0x06C => min c.mtxRows (2 ^ 32 - 1)
  | _ => 0

/-- A context's record of the session table (06 R355); an idle context's reads zero. -/
def viewSession (x : Context) (o : Nat) : Nat :=
  let spare := decide (pagesFor x.len < x.pages.length)
  if x.st = .idle then 0
  else match o with
    | 0x00 => ctxCode x.st + b2n x.blocked * 8 + b2n x.short * 16 + b2n x.exitLast * 32 + x.ring * 2 ^ 7 + x.sid % 2 ^ 16 * 2 ^ 16
    | 0x04 => lo32 x.len
    | 0x08 => x.len / 2 ^ 32 % 2 ^ 16
    | 0x0C => x.waiting.length % 2 ^ 32
    | 0x10 => x.limit % 2 ^ 32
    | 0x14 => x.budget % 2 ^ 32
    | 0x18 => x.deadline % 2 ^ 32
    | 0x1C => x.accrued % 2 ^ 32
    | 0x20 => x.pages.length % 2 ^ 16
    | 0x24 => if spare then x.pages.getLastD 0 % 2 ^ 16 + 2 ^ 16 else 0
    | 0x28 => x.temp % 2 ^ 16 + x.topK % 2 ^ 16 * 2 ^ 16
    | 0x2C => x.topP % 2 ^ 16
    | 0x30 => nthN x.stops 0 % 2 ^ 32
    | 0x34 => nthN x.stops 1 % 2 ^ 32
    | 0x38 => nthN x.stops 2 % 2 ^ 32
    | 0x3C => nthN x.stops 3 % 2 ^ 32
    | 0x40 => x.tokens % 2 ^ 32
    | 0x44 => x.exits % 2 ^ 32
    | 0x48 => x.commitLo % 2 ^ 32
    | _ => 0

/-- A page of the session table: 35 records of 112 bytes (06 R355). -/
def viewTable (s : State) (i o : Nat) : Nat :=
  let r := (o - 0x40) / 0x70
  if o < 0x40 ∨ 35 ≤ r then 0 else viewSession (ctxOf s (35 * i + r)) ((o - 0x40) % 0x70)

/-- The SCH page (04 R255). -/
def viewSch (s : State) (o : Nat) : Nat :=
  let e := s.sched.exec
  let k := e.cur.getD 0
  let tiled := match e.runs[k]? with | some r => kTiled r.desc | none => false
  match o with
  | 0x040 =>
    (if e.stopped then 3 else if !e.running then 0 else if dieFrozen s then 2 else 1) + b2n (e.running && e.cur.isSome && tiled) * 4
      + b2n (e.running && e.kind == .runk) * 8 + k % 2 ^ 16 * 2 ^ 16
  | 0x044 => (if e.stopped && !e.running then rdN s Reg.schStopCyc else e.cyc) % 2 ^ 32
  | 0x048 => e.planDur % 2 ^ 32
  | 0x04C => lo32 e.launch
  | 0x050 => hi32 e.launch
  | 0x054 => min e.frozen (2 ^ 32 - 1)
  | _ => rdN s (Reg.pageSch + o)

/-- Contexts in a state. -/
def countSt (s : State) (st : CtxSt) : Nat := s.gener.ctxs.countP fun x => x.2.st == st

/-- Half h of a digest. -/
def half (d h : Nat) : Nat := if h % 2 = 0 then lo32 d else hi32 d

/-- The DBG page's digest windows (05 R310, R311). -/
def viewDbg (s : State) (o : Nat) : Nat :=
  let kd := fun (k : Nat) => smGet (dflt 0) s.sched.kdig k
  if 0x800 ≤ o then half (kd (256 * rdF s Reg.dbgKdigSel 11 8 + (o - 0x800) / 8)) ((o - 0x800) / 4)
  else match o with
    | 0x074 => half (kd (rdF s Reg.dbgKdigSel 11 0)) 0
    | 0x078 => half (kd (rdF s Reg.dbgKdigSel 11 0)) 1
    | 0x07C => half (cd s) 0
    | 0x080 => half (cd s) 1
    | _ => rdN s (Reg.pageDbg + o)
where
  /-- The cluster digest that CDIG_SEL selects. -/
  cd (s : State) : Nat := match physOf s (rdF s Reg.dbgCdigSel 7 0) with | some p => (clOf s p).digest | none => 0

/-- Held token records of a function; the PF's register counts all (13 R629, R637). -/
def heldCount (s : State) (fn : Nat) : Nat := s.hif.held.countP fun t => !t.bare && (fn == 0 || t.fn == fn)

/-- A VF control page (13 R637). -/
def viewVfc (s : State) (fn base o : Nat) : Nat :=
  match o with
  | 0x044 => rdF s Reg.hifStatus 8 0 + b2n (fnBme s fn) * 2 ^ 9 + b2n (fnSuspended s fn) * 2 ^ 10
  | 0x058 => heldCount s fn
  | _ => rdN s (base + o)

/-- The frame in progress (10 R480, R513). -/
def frameNow (s : State) : Nat := s.count / frameLen s.falbo.frames.now.len

/-- CMQ.STATUS with WAITING (13 R638). -/
def viewCmqStatus (s : State) (r : Nat) : Nat :=
  let g := ringOf s r
  rdF s (onPage Reg.cmqStatus r) 3 0 + b2n (g.busy.any fun b => g.fifo.any fun d => d.ref.era == b.1) * 16

/-- A block-specific register as it stands now. -/
def viewBlock (s : State) (p : PageRow) (base o : Nat) : Nat :=
  let k := (base - p.base) / 0x1000
  let off := base + o
  let known := (p.regs.find? fun r => rowHas r o).isSome
  if p.type = 0x30 then viewClu s k o
  else if p.base = Reg.pageSlt then viewTable s k o
  else if p.type = 0x06 ∧ 0x800 ≤ o then viewDbg s o
  else if !known then 0
  else if p.type = 0x04 ∧ 0x800 ≤ o then smGet (dflt 0) s.boot.wear ((o - 0x800) / 4) % 2 ^ 32
  else if p.type = 0x04 ∧ 0x400 ≤ o then (storeRead s ((o - 0x400) / 4) &&& storeMask ((o - 0x400) / 4)).toNat
  else if p.type = 0x06 then viewDbg s o
  else if p.type = 0x08 ∧ o < 0x060 then nthN (ledWords s.sched.exec.led) ((o - 0x040) / 4) % 2 ^ 32
  else if p.base = Reg.pageHif ∧ o = 0x058 then heldCount s 0
  else if p.base = Reg.pageVfc then viewVfc s (k + 1) base o
  else if p.type = 0x11 ∧ o = 0x058 then viewCmqStatus s k
  else if p.base = Reg.pageSlu ∧ o = 0x048 then countSt s .decode + countSt s .prefill * 2 ^ 16
  else if p.base = Reg.pageSlu ∧ o = 0x04C then countSt s .opened + countSt s .parked * 2 ^ 16
  else if p.type = 0x24 then viewSch s o
  else if p.base = Reg.pageAzp ∧ o = 0x078 then lo32 (stationAddr s k)
  else if p.base = Reg.pageAzp ∧ o = 0x07C then hi32 (stationAddr s k)
  else if p.type = 0x40 ∧ o = 0x044 then lo32 (frameNow s)
  else if p.type = 0x40 ∧ o = 0x048 then hi32 (frameNow s)
  else if p.type = 0x42 ∧ o = 0x058 then memNat s.falbo.fcl.weights (rdF s Reg.fclWaddr 18 0) 4
  else if p.type = 0x43 ∧ o = 0x074 then smGet (dflt 0) (decChan s k).coefs (rdF s (decReg Reg.decCaddr k) 10 0)
  else if p.type = 0x44 ∧ o = 0x040 then weirSummary s k
  else if p.type = 0x44 ∧ o % 0x20 = 8 ∧ 0x080 ≤ o then weirState s (8 * k + (o - 0x080) / 0x20)
  else if p.type = 0x45 ∧ (o - 0x040) % 0x80 = 8 then pgStatus s (8 * k + (o - 0x040) / 0x80)
  else if p.type = 0x03 ∧ o = 0x040 then lo32 s.count
  else if p.base = Reg.pageMgt ∧ o = 0x040 then rdN s off % 2 ^ 16
  else rdN s off

/-- The bits of a register that FREEZE holds: ERRCNT, and the fields that their chapters mark as saturating (17 R752, 02 R135, 06 R355, R356, 14
R671, 16 R745; that a field is held and not its register's others DEDUCED, log 72). -/
def frozenBits (p : PageRow) (o : Nat) : Word :=
  let rec_ := (o - 0x40) % 0x70
  if o = 0x1C ∨ (p.type = 0x30 ∧ 0x060 ≤ o ∧ o ≤ 0x06C) then BitVec.allOnes 32
  else if p.base = Reg.pageSlt then (if 0x40 ≤ o ∧ (rec_ = 0x40 ∨ rec_ = 0x44) then BitVec.allOnes 32 else 0)
  else if p.base = Reg.pageSlu ∧ o = 0x05C then 0xFF00
  else if p.base = Reg.pageDbg ∧ o = 0x100 then 0x1E
  else if p.base = Reg.pagePst ∧ 0x800 ≤ o then BitVec.allOnes 32
  else if p.regs.any fun r => r.sat && rowHas r o then BitVec.allOnes 32 else 0

/-- FREEZE holds some of a register (17 R752). -/
def freezes (p : PageRow) (o : Nat) : Bool := frozenBits p o != 0

/-- A register as it stands now. -/
def viewNow (s : State) (p : PageRow) (base o : Nat) : Nat := if o < 0x40 then viewHeader s p base o else viewBlock s p base o

/-- A read of a register, without its effect (17 R752 to R755). -/
def regView (s : State) (off : Nat) : Nat :=
  let base := pageBase off
  let o := off % 0x1000
  match pageOf off with
  | none => 0
  | some p =>
    if freezes p o && rdB s (base + 8) 2 then
      ((smGet (dflt 0) s.snap off &&& frozenBits p o) ||| (w32 (viewNow s p base o) &&& ~~~ (frozenBits p o))).toNat
    else viewNow s p base o

/-- The three reads that have an effect (17 R757). -/
def readEffect (s : State) (off : Nat) : State :=
  if off = Reg.gctCountLo then wrN s Reg.gctCountHi (hi32 s.count)
  else if off = Reg.fclWdata then wrN s Reg.fclWaddr (nextWaddr (rdF s Reg.fclWaddr 18 0))
  else if Reg.decCtl ≤ off ∧ off < onPage Reg.decCtl 4 ∧ off % 0x1000 = 0x074 then
    let c := (off - Reg.pageDec) / 0x1000
    wrF s (decReg Reg.decCaddr c) 9 0 (rdF s (decReg Reg.decCaddr c) 9 0 + 1)
  else s

/-- A 4-byte read of a function's BAR0: its value, and the state after its effect (13 R593, 17 R748, R749, R757). -/
def busRead (s : State) (fn off : Nat) : State × Nat :=
  match target s fn off with
  | .reg o => (readEffect s o, regView s o)
  | .zero => (s, 0)
  | .unmapped => (countUnmapped s off false, 0)

/-- A host read of 4 or 8 bytes of a function's BAR0: 8 bytes read two registers, the lower address first (13 R587, R589, R593, 14 R644, 17
R748, R749, R757). -/
def hostRead (s : State) (fn off : Nat) (wide : Bool) : State :=
  if svcLevel s < 2 then s
  else if off % (if wide then 8 else 4) ≠ 0 ∨ fnAsleep s fn = true then refuseReq s fn
  else
    let r1 := busRead s fn off
    let r2 := if !wide then (r1.1, 0) else if target s fn off = .unmapped then (r1.1, 0) else busRead r1.1 fn (off + 4)
    putHif r2.1 { r2.1.hif with unsupported := false, lastRead := leBytes 4 r1.2 ++ if wide then leBytes 4 r2.2 else [] }

/-- GCT_COUNT_READ: a read of GCT.COUNT_LO samples the counter into COUNT_HI. The table has no other row for a host's read of a register: the
operands name the function and the offset of any (log 69) (13 R589, R593, 15 R714, 17 R757). -/
def execGctCountRead (wide : Bool) (s : State) (fn : Fin 9 := 0) (off : Nat := 0x002040) : Out := .next (hostRead s fn.val off wide)

end Sys2Proof.Machine
end

