-- ==== Sys2Proof/Machine/Bus.lean ====
section
/-!
DEFINITION. Writes of BAR0: the common header, the access types, the registers whose write has an effect of its own, and the
rows SOFT_RESET, FREEZE, EVTSET, REGISTER_WRITE, ACC_GO and DBG_REG_UPDATE (17 R750 to R757, and each chapter's registers).
-/
namespace Sys2Proof.Machine

/-- The state that a command's meaning answers. -/
def after (o : Out) (s : State) : State :=
  match o with
  | .next t => t
  | _ => s

/-- The bits of a write that count: hardware's change of a field at this count wins over it; fields of a register that hardware
changes whole are lost whole (17 R756). -/
def swBits (s : State) (off : Nat) (bits : Word) : Word := bits &&& ~~~ (smGet (dflt 0) s.hw off)

/-- A write by the access types alone: RW bits set, W1C bits cleared, all others discarded (17 R754, R755). -/
def plainWrite (s : State) (off : Nat) (v : Word) : State :=
  match regRow off with
  | none => s
  | some r =>
    let m := swBits s off (w32 r.rw)
    let old := rdReg s off
    wrReg s off (((old &&& ~~~ m) ||| (v &&& m)) &&& ~~~ (swBits s off (v &&& w32 r.w1c)))

/-- Offsets of a page that FREEZE holds. -/
def frozenOffs (p : PageRow) : List Nat := (List.range 1024).map (4 * ·) |>.filter (freezes p)

/-- FREEZE set or cleared: what the counters hold now is kept, or given up (17 R752). -/
def setFreeze (s : State) (p : PageRow) (base : Nat) (on : Bool) : State :=
  if rdB s (base + 8) 2 = on then s
  else
    let vals := (frozenOffs p).map fun o => (base + o, if on then w32 (viewNow s p base o) else 0)
    wrB (putSnap s (each vals (fun x m => smSet (dflt 0) m x.1 x.2) s.snap)) (base + 8) 2 on

/-- SOFT_RESET clears EVTSTA, ERRCNT and the frozen view of ERRCNT (17 R750, R752). -/
def softReset (s : State) (base : Nat) : State :=
  let s1 := wrReg s (base + 0x14) (rdReg s (base + 0x14) &&& smGet (dflt 0) s.hw (base + 0x14))
  putSnap (wrN s1 (base + 0x1C) 0) (smSet (dflt 0) s1.snap (base + 0x1C) 0)

/-- The event of an EVTSTA bit: its code and instance; none for a bit that has no event of its name (17 R751, R753). -/
def evtEvent (p : PageRow) (k bit : Nat) : Option (Nat × Nat) :=
  let at_ := fun (cs : List Nat) (inst : Nat) => match nthN cs bit with | 0 => none | c => some (c, inst)
  if p.type = 0x01 then at_ [1] 0
  else if p.type = 0x02 then at_ [1, 2, 3] 0
  else if p.type = 0x03 then at_ [1, 2, 3, 4, 5] 0
  else if p.type = 0x04 then at_ [1, 0, 2] 0
  else if p.type = 0x05 then at_ [1] 0
  else if p.type = 0x06 then at_ [1, 2, 3, 4, 0x10, 0x12] 0
  else if p.type = 0x07 then at_ [0, 3, 4] 0
  else if p.type = 0x08 then at_ [1, 2, 3, 4, 5, 6] 0
  else if p.base = Reg.pageHif then at_ [0, 0, 0, 1, 2] 0
  else if p.base = Reg.pageSlu then at_ [1, 2, 3, 5] 0
  else if p.type = 0x21 then at_ [1, 2] 0
  else if p.base = Reg.pageAzl then at_ [1, 3, 4, 0, 0, 7, 0, 9] 8
  else if p.type = 0x42 then at_ [0, 1, 2, 3] 0
  else if p.type = 0x43 then at_ [0, 2, 3, 0, 4] k
  else if p.type = 0x44 then
    (if bit < 8 then some (1, 8 * k + bit) else if bit = 8 then some (3, 8 * k) else some (2, 8 * k + (bit - 16)))
  else if p.type = 0x45 then
    (if bit < 8 then some (1, 8 * k + bit) else if bit < 16 then some (2, 8 * k + (bit - 8)) else if bit = 16 then some (5, 8 * k)
     else some (3, 8 * k))
  else none

/-- One bit of a write of EVTSET: the status bit, and the event's record when EVTEN allows it (17 R753). -/
def evtsetBit (p : PageRow) (base bit : Nat) (s : State) : State :=
  match evtEvent p ((base - p.base) / 0x1000) bit with
  | some e => raiseEv s base (2 ^ bit) .block p.type e.2 e.1 0 []
  | none => setEvt s base (2 ^ bit)

/-- A write of EVTSET (17 R753). -/
def writeEvtset (s : State) (p : PageRow) (base v : Nat) : State :=
  each ((List.range 32).filter fun b => bitN v b && bitN p.evt b) (evtsetBit p base) s

/-- A write of the common header (17 R750 to R753). -/
def writeHeader (s : State) (p : PageRow) (base o : Nat) (v : Word) : State :=
  match o with
  | 0x008 => setFreeze (if rbit v 1 then softReset s base else s) p base (rbit v 2)
  | 0x010 => wrReg s (base + 0x10) v
  | 0x014 => wrReg s (base + 0x14) (rdReg s (base + 0x14) &&& ~~~ (swBits s (base + 0x14) v))
  | 0x018 => writeEvtset s p base v.toNat
  | _ => s

/-- GLB.RESET: the key, and exactly one of WARM and COLD (14 R669). -/
def writeReset (s : State) (v : Word) : State :=
  if rfld v 31 16 ≠ 0xD7A5 ∨ rbit v 0 = rbit v 1 then s else if rbit v 0 then warmReset s else coldReset s 2 true

/-- GCT registers: SOURCE 3 is discarded, PPS_OUT stops with its enable, two slaves are discarded (15 R694, R699, R700, R714). -/
def writeGct (s : State) (o : Nat) (v : Word) : State :=
  let off := Reg.pageGct + o
  match o with
  | 0x048 =>
    let s1 := plainWrite s off (if rfld v 1 0 = 3 then putFld v 1 0 (rdF s off 1 0) else v)
    if rbit v 3 then s1 else putPower s1 { s1.power with ppsOut := false }
  | 0x050 => if 2 ≤ ((List.range 8).countP fun k => rfld v (2 * k + 1) (2 * k) == 2) then s else plainWrite s off v
  | _ => plainWrite s off v

/-- PST registers (14 R658 to R664, R671). -/
def writePst (s : State) (o : Nat) (v : Word) : State :=
  if 0x400 ≤ o ∧ o < 0x800 then after (execPstWrite ⟨(o - 0x400) / 4 % 256, Nat.mod_lt _ (by decide)⟩ v s) s
  else plainWrite s (Reg.pagePst + o) v

/-- MGT registers (14 R670). -/
def writeMgt (s : State) (o : Nat) (v : Word) : State :=
  if o = 0x040 then startMbox s (rfld v 7 0) (rfld v 15 8) else plainWrite s (Reg.pageMgt + o) v

/-- A write of DBG.HALT_CTL (16 R731, R733). -/
def writeHaltCtl (s : State) (v : Word) : State :=
  let s1 := plainWrite s Reg.dbgHaltCtl v
  let s2 := if rbit v 0 then haltNow s1 else s1
  let s3 := if rbit v 2 && rdB s1 Reg.dbgHaltCtl 2 && unlocked s && decide (rd64 s Reg.dbgHaltAtLo ≤ s.count) then fireHalt s2 { h := s.count + 1, cause := 2 } else s2
  if rbit v 1 then resumeCmd s3
  else if rbit v 3 && rdB s1 Reg.dbgHaltCtl 3 && mayResume s3 && decide (rd64 s Reg.dbgResumeAtLo ≤ s.count) then resumeNext (noStep s3) else s3

/-- A write of DBG.DIV_CTL (16 R742 to R744). -/
def writeDivCtl (s : State) (v : Word) : State :=
  let s1 := plainWrite s Reg.dbgDivCtl v
  let s2 := if rbit v 12 then wrB s1 Reg.dbgDivStatus 0 false else s1
  let s3 := if rbit v 16 then rewindCmd s2 else s2
  if rbit v 17 then abandonCmd s3 else s3

/-- A write of DBG.UNLOCK_CMD (16 R727 to R729). -/
def writeUnlock (s : State) (v : Word) : State :=
  let s1 := if rbit v 0 then unlockStart s else s
  let s2 := if rbit v 1 then unlockSubmit s1 else s1
  if rbit v 2 then wrB s2 Reg.dbgLock 0 false else s2

/-- DBG registers; `acc` performs the access of ACC_CMD.GO, a comparator is armed only while the package is unlocked, and LS_CTL names the twin
port (05 R300, R310, 16 R726, R745). -/
def writeDbg (acc : State → State) (s : State) (o : Nat) (v : Word) : State :=
  let off := Reg.pageDbg + o
  if o = 0x040 then twinAgain (plainWrite s off v)
  else if o = 0x104 then writeUnlock s v
  else if o = 0x240 then writeHaltCtl s v
  else if o = 0x268 then (let s1 := plainWrite s off v; if rbit v 2 then stepGo s1 else s1)
  else if 0x270 ≤ o ∧ o < 0x280 then (if rbit v 25 && !unlocked s then s else plainWrite s off v)
  else if 0x280 ≤ o ∧ o < 0x2C0 ∧ o % 16 = 0 then (if rbit v 17 && !unlocked s then s else plainWrite s off v)
  else if o = 0x2C0 then (let s1 := plainWrite s off v; if rbit v 0 then acc s1 else s1)
  else if o = 0x2F0 then writeDivCtl s v
  else plainWrite s off v

/-- THM registers: a PERIOD below 250,000 and a MAX_LEN above PERIOD - 12,500 are discarded (15 R715). -/
def writeThm (s : State) (o : Nat) (v : Word) : State :=
  if (o = 0x04C ∧ v.toNat < 250000) ∨ (o = 0x054 ∧ rdN s Reg.thmPeriod < v.toNat + 12500) then s else plainWrite s (Reg.pageThm + o) v

/-- LDG registers: zeros are discarded, QUARANTINE acts, and a new QUAR_WINDOW counts by its own multiples (09 R472, R477). -/
def writeLdg (s : State) (o : Nat) (v : Word) : State :=
  let off := Reg.pageLdg + o
  match o with
  | 0x0A4 =>
    if v = 0 then s
    else
      let s1 := plainWrite s off v
      putPower s1 { s1.power with quarAt := quarMultiple s1 }
  | 0x0A8 =>
    let v1 := if rfld v 7 0 = 0 then putFld v 7 0 (rdF s off 7 0) else v
    plainWrite s off (if rfld v 15 8 = 0 then putFld v1 15 8 (rdF s off 15 8) else v1)
  | 0x0B0 => after (execLdgQuarantine v s) s
  | _ => plainWrite s off v

/-- RESUME and DISCARD of a function (13 R633, R634). -/
def writeHifCtl (s : State) (fn : Fin 9) (v : Word) : State :=
  if rbit v 1 then after (execHifDiscard fn s) s else if rbit v 0 then after (execHifResume fn s) s else s

/-- One field of RING_OWNER: values 9 to 15, and a VF's 17th ring, are discarded (13 R594, R637). -/
def setOwner (v : Word) (r : Nat) (s : State) : State :=
  let i := r % 8
  let n := rfld v (4 * i + 3) (4 * i)
  if 9 ≤ n ∨ (n ≠ 0 ∧ ringOwner s r ≠ n ∧ 16 ≤ (ownedRings s n).length) then s else wrF s (Reg.hifRingOwner + 4 * (r / 8)) (4 * i + 3) (4 * i) n

/-- One field of EVQ_OWNER (13 R637). -/
def setQueueOwner (v : Word) (q : Nat) (s : State) : State :=
  let n := rfld v (4 * q + 3) (4 * q)
  if 9 ≤ n then s else wrF s Reg.hifEvqOwner (4 * q + 3) (4 * q) n

/-- HIF registers (13 R590, R591, R593, R594, R633, R637). -/
def writeHif (s : State) (o : Nat) (v : Word) : State :=
  let s1 := plainWrite s (Reg.pageHif + o) v
  if o = 0x040 then writeHifCtl s 0 v
  else if o = 0x04C ∨ o = 0x050 then trimBase s1
  else if 0x060 ≤ o ∧ o < 0x0A0 then each ((List.range 8).map fun i => 8 * ((o - 0x060) / 4) + i) (setOwner v) s
  else if o = 0x0A0 then each (List.range 8) (setQueueOwner v) s
  else if 0x800 ≤ o ∧ o < 0x900 ∧ o % 16 = 12 then msixPending 0 ((o - 0x800) / 16) s1
  else s1

/-- A VF control page (13 R634, R637). -/
def writeVfc (s : State) (k o : Nat) (v : Word) : State :=
  let fn : Fin 9 := ⟨(k + 1) % 9, Nat.mod_lt _ (by decide)⟩
  let s1 := plainWrite s (onPage Reg.pageVfc k + o) v
  if o = 0x040 then writeHifCtl s fn v
  else if 0x800 ≤ o ∧ o < 0x820 ∧ o % 16 = 12 then msixPending (k + 1) ((o - 0x800) / 16) s1
  else s1

/-- EVQ registers (13 R620, R624, R639). -/
def writeEvq (s : State) (q : Fin 8) (o : Nat) (v : Word) : State :=
  let on := rdB s (onPage Reg.evqCtl q.val) 0
  if o = 0x040 then enableEvq s q.val (rbit v 0)
  else if 0x044 ≤ o ∧ o ≤ 0x04C ∧ on = true then s
  else if o = 0x054 then after (execEvqHeadWrite q v s) s
  else plainWrite s (onPage Reg.pageEvq q.val + o) v

/-- CMQ registers (13 R599, R600, R605, R638). -/
def writeCmq (s : State) (r : Fin 128) (o : Nat) (v : Word) : State :=
  let on := rdB s (onPage Reg.cmqCtl r.val) 0
  if o = 0x040 then after (execDoorbell r v s) s
  else if o = 0x044 then
    enableRing (if on then s else wrF s (onPage Reg.cmqCtl r.val) 3 1 (rfld v 3 1)) r.val (rbit v 0)
  else if 0x048 ≤ o ∧ o ≤ 0x050 ∧ on = true then s
  else plainWrite s (onPage Reg.pageCmq r.val + o) v

/-- DLM registers: no GAP below 125,000 while LEAN_EN is 1 (15 R687). -/
def writeDlm (s : State) (o : Nat) (v : Word) : State :=
  if o = 0x040 ∧ v.toNat < 125000 ∧ rdB s Reg.lspCtl 0 = true then s else plainWrite s (Reg.pageDlm + o) v

/-- AZL common registers (07 R375, R404, R408, R416). -/
def writeAzl (s : State) (o : Nat) (v : Word) : State :=
  if o = 0x040 then
    let s1 := beginForm (plainWrite s Reg.azlCtl v)
    if rbit v 1 then after (execAzlStop s1) s1 else s1
  else if o = 0x064 ∧ rfld v 3 0 = 0 then s
  else if Reg.pageAzl + o = Reg.azlSyncTol then newTol (plainWrite s Reg.azlSyncTol v)
  else plainWrite s (Reg.pageAzl + o) v

/-- AZL port registers: MODE is written only while ENABLE is 0, and 3 is no mode (07 R363, R364, R417). -/
def writeAzp (s : State) (k o : Nat) (v : Word) : State :=
  let off := onPage Reg.pageAzp k + o
  if o = 0x040 ∧ (rdB s off 0 = true ∨ rfld v 2 1 = 3) then plainWrite s off (putFld v 2 1 (rdF s off 2 1)) else plainWrite s off v

/-- SLU registers: with ENABLE the Sluice performs its boundary again (06 R356, 08 R448). -/
def writeSlu (s : State) (o : Nat) (v : Word) : State :=
  let s1 := plainWrite s (Reg.pageSlu + o) v
  if o = 0x040 ∧ rbit v 0 = true then putGener s1 { s1.gener with again := true } else s1

/-- KVP registers: LOW_WATER is the least FREE since its write, FREE as it stands then included (06 R358). -/
def writeKvp (s : State) (o : Nat) (v : Word) : State :=
  plainWrite s (Reg.pageKvp + o) (if o = 0x04C then w32 (min (rfld v 15 0) (rdN s Reg.kvpFree)) else v)

/-- LSP registers: LEAN_EN acts as LEAN_EN_WRITE; DECAY 0 and SAMPLE_LOG2 outside 3 to 16 are discarded (05 R286, R309, 15 R684,
R687). -/
def writeLsp (s : State) (o : Nat) (v : Word) : State :=
  if o = 0x040 then
    let n := rfld v 12 8
    let v1 := if 3 ≤ n ∧ n ≤ 16 then v else putFld v 12 8 (rdF s Reg.lspCtl 12 8)
    let v2 := if rfld v 19 16 = 0 then putFld v1 19 16 (rdF s Reg.lspCtl 19 16) else v1
    let s1 := plainWrite s Reg.lspCtl (putBit v2 0 (rdB s Reg.lspCtl 0))
    if rbit v 0 = rdB s Reg.lspCtl 0 then s1 else after (execLeanEnWrite (rbit v 0) s1) s1
  else if Reg.pageLsp + o = Reg.lspDrift then
    (let s1 := plainWrite s Reg.lspDrift v; putPower s1 { s1.power with driftWas := some (s.count, driftBefore s) })
  else plainWrite s (Reg.pageLsp + o) v

/-- SNS, RBK and FCL registers (10 R481, R484, R489, R505, R506, R511, R513 to R515). -/
def writeFcl (s : State) (o : Nat) (v : Word) : State :=
  if o = 0x040 then writeFclCtl s v.toNat
  else if o = 0x058 then after (execFclWdataWrite v s) s
  else if 0x0C0 ≤ o ∧ o ≤ 0x0C8 ∧ rdB s Reg.fclCtl 5 = true then s
  else plainWrite s (Reg.pageFcl + o) v

/-- RBK registers. -/
def writeRbk (s : State) (p o : Nat) (v : Word) : State :=
  if o = 0x040 then writeRbkCtl s p v.toNat
  else if 0x080 ≤ o ∧ o < 0x100 then writeRbkSec s p ((o - 0x080) / 4) v.toNat
  else plainWrite s (onPage Reg.pageRbk p + o) v

/-- A write of DEC.XFADE: the length, then the swap requests (11 R537, R545). -/
def writeXfade (s : State) (c : Nat) (v : Word) : State :=
  let s1 := wrF s (decReg Reg.decXfade c) 15 0 (rfld v 15 0)
  let s2 := if rbit v 16 then swapReq false c s1 else s1
  if rbit v 17 then swapReq true c s2 else s2

/-- DEC registers (11 R521, R537, R539, R543 to R545). -/
def writeDec (s : State) (c : Fin 4) (o : Nat) (v : Word) : State :=
  let off := onPage Reg.pageDec c.val + o
  if o = 0x040 then writeDecRing (writeDecEnable s c.val (rbit v 0)) c.val (rbit v 1)
  else if o = 0x044 ∨ o = 0x048 ∨ o = 0x04C then stageDec (plainWrite s off v) c.val ((o - 0x044) / 4)
  else if o = 0x06C then writeXfade s c.val v
  else if o = 0x074 then after (execRsCdataAccess c (some v) s) s
  else if 0x080 ≤ o ∧ o ≤ 0x088 ∧ rdB s (decReg Reg.decCtl c.val) 1 = true then s
  else if 0x100 ≤ o ∧ o < 0x180 then writeFirCoef s c.val false ((o - 0x100) / 4) v.toNat
  else if 0x180 ≤ o ∧ o < 0x200 then writeFirCoef s c.val true ((o - 0x180) / 4) v.toNat
  else plainWrite s off v

/-- WIR registers (12 R553, R581). -/
def writeWir (s : State) (g o : Nat) (v : Word) : State :=
  let s1 := plainWrite s (onPage Reg.pageWir g + o) v
  if 0x080 ≤ o ∧ o < 0x180 ∧ o % 0x20 < 8 then stageWeir s1 (8 * g + (o - 0x080) / 0x20) (o % 0x20 / 4) else s1

/-- PG registers (12 R558, R559, R564, R571, R573, R582). -/
def writePgn (s : State) (g o : Nat) (v : Word) : State :=
  let j := 8 * g + (o - 0x040) / 0x80
  if 0x440 ≤ o then s
  else match (o - 0x040) % 0x80 with
    | 0x00 => writePgCtl s j v.toNat
    | 0x04 => writePgMask s j v.toNat
    | 0x0C => writePgCmd s j v.toNat
    | _ => plainWrite s (onPage Reg.pagePg g + o) v

/-- A write of a block-specific register (17 R754, and the registers of each chapter). -/
def writeSpecific (acc : State → State) (s : State) (p : PageRow) (base o : Nat) (v : Word) : State :=
  let k := (base - p.base) / 0x1000
  if (p.regs.find? fun r => rowHas r o).isNone then s
  else match p.type with
    | 0x01 => if o = 0x070 then writeReset s v else plainWrite s (base + o) v
    | 0x03 => writeGct s o v
    | 0x04 => writePst s o v
    | 0x05 => writeMgt s o v
    | 0x06 => writeDbg acc s o v
    | 0x07 => writeThm s o v
    | 0x08 => writeLdg s o v
    | 0x10 =>
      if p.base = Reg.pageHif then writeHif s o v
      else if p.base = Reg.pageVfc then writeVfc s k o v
      else writeEvq s ⟨k % 8, Nat.mod_lt _ (by decide)⟩ o v
    | 0x11 => writeCmq s ⟨k % 128, Nat.mod_lt _ (by decide)⟩ o v
    | 0x20 => if p.base = Reg.pageSlu then writeSlu s o v else plainWrite s (base + o) v
    | 0x21 => writeDlm s o v
    | 0x23 => writeKvp s o v
    | 0x27 => if p.base = Reg.pageAzl then writeAzl s o v else if p.base = Reg.pageAzp then writeAzp s k o v else plainWrite s (base + o) v
    | 0x28 => writeLsp s o v
    | 0x40 => if o = 0x040 then writeFrameLen s v.toNat else plainWrite s (base + o) v
    | 0x41 => writeRbk s k o v
    | 0x42 => writeFcl s o v
    | 0x43 => writeDec s ⟨k % 4, Nat.mod_lt _ (by decide)⟩ o v
    | 0x44 => writeWir s k o v
    | 0x45 => writePgn s k o v
    | _ => plainWrite s (base + o) v

/-- A 4-byte write of a register. -/
def regWrite (acc : State → State) (s : State) (off : Nat) (v : Word) : State :=
  match pageOf off with
  | none => s
  | some p =>
    let base := pageBase off
    let o := off % 0x1000
    if o < 0x40 then writeHeader s p base o v else writeSpecific acc s p base o v

/-- A 4-byte access of the PF's BAR0 by the debug controller: the state after it and what a read returns (16 R724, R737). -/
def bar0 (acc : State → State) (off : Nat) (w : Option Nat) (s : State) : State × Nat :=
  match w with
  | none => busRead s 0 off
  | some v => (match target s 0 off with
    | .reg o => regWrite acc s o (w32 v)
    | .zero => s
    | .unmapped => countUnmapped s off true, 0)

/-- The access of ACC_CMD.GO; a GO that its own space 6 writes finds it busy and is discarded (16 R737, R741). -/
def accNow (ecc : Ecc) (s : State) : State := accGo (bar0 id) ecc s

/-- ACC_GO: `ecc` is what the access's read finds (09 R455). -/
def execAccGo (s : State) (ecc : Ecc := .clean) : Out := .next (accNow ecc s)

/-- While the package is locked, DBG_REG reads the GLB and DBG pages and writes DBG offsets 0x100 to 0x23F (16 R725). -/
def tapMay (s : State) (off : Nat) (write : Bool) : Bool :=
  unlocked s || (if write then decide (0x005100 ≤ off) && decide (off ≤ 0x00523F) else pageBase off == 0 || pageBase off == Reg.pageDbg)

/-- DBG_REG_UPDATE: an Update-DR of DBG_REG performs one access of BAR0 (16 R724, R725). -/
def execDbgRegUpdate (data : Word) (off : Nat) (write : Bool) (s : State) : Out :=
  if s.dbgp.held then .next s
  else
    let a := off % 2 ^ 25 / 4 * 4
    let s1 := setIr s 0x10
    let r := if !tapMay s a write then (s1, 0) else bar0 (accNow .clean) a (if write then some data.toNat else none) s1
    .next (putDbgp r.1 { r.1.dbgp with tapDone := true, tapData := if write then s.dbgp.tapData else w32 r.2 })

/-- A host write of 4 bytes at a function's BAR0 offset. -/
def busWrite (s : State) (fn off : Nat) (v : Word) : State :=
  match target s fn off with
  | .reg o => regWrite (accNow .clean) s o v
  | _ => s

/-- REGISTER_WRITE: a host write of 4 or 8 bytes to a function's BAR0; 8 bytes act on two registers, the lower address first
(13 R587, R589, R593, 14 R644, 17 R748, R749, R754). -/
def execRegisterWrite (fn : Fin 9) (off : Nat) (wide : Bool) (v : BitVec 64) (s : State) : Out :=
  if svcLevel s < 2 then .next s
  else if off % (if wide then 8 else 4) ≠ 0 ∨ fnAsleep s fn.val = true then .next (refuseReq s fn.val)
  else
    let s0 := putHif s { s.hif with unsupported := false }
    if target s fn.val off = .unmapped then .next (countUnmapped s0 off true)
    else
      let s1 := busWrite s0 fn.val off (v.truncate 32)
      .next (if wide then busWrite s1 fn.val (off + 4) (w32 (v.toNat / 2 ^ 32)) else s1)

/-- A page command of the PF: what it does to the page that an offset lies in. -/
def onPageOf (s : State) (off : Nat) (f : PageRow → Nat → State) : Out :=
  if svcLevel s < 2 then .next s
  else match target s 0 (pageBase off) with
    | .reg o => .next (match pageOf o with | some p => f p o | none => s)
    | _ => .next s

/-- SOFT_RESET of the page at an offset. -/
def execSoftReset (page : Nat) (s : State) : Out := onPageOf s page fun _ base => softReset s base

/-- FREEZE of the page at an offset. -/
def execFreeze (page : Nat) (on : Bool) (s : State) : Out := onPageOf s page fun p base => setFreeze s p base on

/-- EVTSET of the page at an offset. -/
def execEvtset (page : Nat) (v : Word) (s : State) : Out := onPageOf s page fun p base => writeEvtset s p base v.toNat

end Sys2Proof.Machine
end

