-- ==== Sys2Proof/Machine/Integer.lean ====
section
/-!
DEFINITION. Integer, move, special-register and predicate instructions (03 R157 to R166).
-/
namespace Sys2Proof.Machine

/-- IADD (03 R157 to R159). -/
def execIadd (st : Site) (o : Alu) (s : State) : Out := issue s st (.iadd st o) (aluAct aluAdd o)

/-- ISUB (03 R157 to R159). -/
def execIsub (st : Site) (o : Alu) (s : State) : Out := issue s st (.isub st o) (aluAct aluSub o)

/-- IMUL (03 R157 to R159). -/
def execImul (st : Site) (o : Alu) (s : State) : Out := issue s st (.imul st o) (aluAct aluMul o)

/-- IMULHU (03 R157 to R159). -/
def execImulhu (st : Site) (o : Alu) (s : State) : Out := issue s st (.imulhu st o) (aluAct aluMulHu o)

/-- IMULHS (03 R157 to R159). -/
def execImulhs (st : Site) (o : Alu) (s : State) : Out := issue s st (.imulhs st o) (aluAct aluMulHs o)

/-- AND (03 R157 to R159). -/
def execAnd (st : Site) (o : Alu) (s : State) : Out := issue s st (.and st o) (aluAct aluAnd o)

/-- OR (03 R157 to R159). -/
def execOr (st : Site) (o : Alu) (s : State) : Out := issue s st (.or st o) (aluAct aluOr o)

/-- XOR (03 R157 to R159). -/
def execXor (st : Site) (o : Alu) (s : State) : Out := issue s st (.xor st o) (aluAct aluXor o)

/-- SHL (03 R157 to R159). -/
def execShl (st : Site) (o : Alu) (s : State) : Out := issue s st (.shl st o) (aluAct aluShl o)

/-- SHR (03 R157 to R159). -/
def execShr (st : Site) (o : Alu) (s : State) : Out := issue s st (.shr st o) (aluAct aluShr o)

/-- SRA (03 R157 to R159). -/
def execSra (st : Site) (o : Alu) (s : State) : Out := issue s st (.sra st o) (aluAct aluSra o)

/-- IMIN (03 R157 to R159). -/
def execImin (st : Site) (o : Alu) (s : State) : Out := issue s st (.imin st o) (aluAct aluSmin o)

/-- IMAX (03 R157 to R159). -/
def execImax (st : Site) (o : Alu) (s : State) : Out := issue s st (.imax st o) (aluAct aluSmax o)

/-- UMIN (03 R157 to R159). -/
def execUmin (st : Site) (o : Alu) (s : State) : Out := issue s st (.umin st o) (aluAct aluUmin o)

/-- UMAX (03 R157 to R159). -/
def execUmax (st : Site) (o : Alu) (s : State) : Out := issue s st (.umax st o) (aluAct aluUmax o)

/-- POPC (03 R160). -/
def execPopc (st : Site) (o : Alu1) (s : State) : Out := issue s st (.popc st o) (alu1Act aluPopc o)

/-- CLZ (03 R160). -/
def execClz (st : Site) (o : Alu1) (s : State) : Out := issue s st (.clz st o) (alu1Act aluClz o)

/-- IMAD: low 32 bits of A × B + C (03 R160). -/
def execImad (st : Site) (gd : Guard) (d a : Fin 256) (b : RegB) (c : Fin 256) (s : State) : Out :=
  issue s st (.imad st gd d a b c) fun x =>
    laneAct x gd ([.v a.val, .v c.val] ++ laneBSrc (regBLane b)) d.val
      fun l => x.v a.val l * laneBVal x (regBLane b) l + x.v c.val l

/-- SEL: A where p[C] of the lane holds, else B (03 R160). -/
def execSel (st : Site) (gd : Guard) (d a : Fin 256) (b : RegB) (c : Fin 8) (s : State) : Out :=
  issue s st (.sel st gd d a b c) fun x =>
    laneAct x gd ([.v a.val, .p c.val] ++ laneBSrc (regBLane b)) d.val
      fun l => if (rdPred x.c x.g c.val).getLsbD l then x.v a.val l else laneBVal x (regBLane b) l

/-- MOV (03). -/
def execMov (st : Site) (gd : Guard) (d a : Fin 256) (s : State) : Out :=
  issue s st (.mov st gd d a) fun x => laneAct x gd [.v a.val] d.val fun l => x.v a.val l

/-- MOVI (03). -/
def execMovi (st : Site) (gd : Guard) (d : Fin 256) (imm : Word) (s : State) : Out :=
  issue s st (.movi st gd d imm) fun x => laneAct x gd [] d.val fun _ => imm

/-- UMOVI (03). -/
def execUmovi (st : Site) (d : Fin 64) (imm : Word) (s : State) : Out :=
  issue s st (.umovi st d imm) fun _ => uniAct [] d.val imm

/-- BCAST (03). -/
def execBcast (st : Site) (gd : Guard) (d : Fin 256) (a : Fin 64) (s : State) : Out :=
  issue s st (.bcast st gd d a) fun x => laneAct x gd [.u a.val] d.val fun _ => x.u a.val

/-- LANERD: one lane, active or not; it acts once for the whole group, on a path without lanes too (03, R155, 02 Registers; DEDUCED, log 9). -/
def execLaneRd (st : Site) (d : Fin 64) (a : Fin 256) (lane : Fin 32) (s : State) : Out :=
  issue s st (.laneRd st d a lane) fun x => uniAct [.v a.val] d.val (x.v a.val lane.val)

/-- The value of a special register in a lane, low half and high half (03 R161, R162). -/
def sregVal (x : Ctx) (code : SReg) (l : Nat) : Word × Word :=
  match code with
  | .laneId => (w32 l, 0)
  | .groupId => (w32 x.g, 0)
  | .nGroups => (w32 x.c.ngroups, 0)
  | .lCluster => (w32 x.env.lcl, 0)
  | .nCluster => (w32 x.env.ncl, 0)
  | .kcyc => (w32 x.c.kcyc, 0)
  | .countLo => (w32 x.env.count, 0)
  | .countHi => (w32 (x.env.count / 2 ^ 32), 0)
  | .count => (w32 x.env.count, w32 (x.env.count / 2 ^ 32))

/-- Codes 5 to 8 take the execution out of the exact class (03 R149, 05 R262). -/
def sregVaries (code : SReg) : Bool :=
  match code with
  | .kcyc => true
  | .countLo => true
  | .countHi => true
  | .count => true
  | _ => false

/-- S2R (03 R161 to R163). -/
def s2rAct (gd : Guard) (d : Nat) (code : SReg) (x : Ctx) : Act :=
  let m := x.lanes gd
  let two := code == .count
  { srcs := guardSrc gd, dsts := if two then vRun d 2 else [.v d], mask := m,
    eff := { vary := sregVaries code },
    writes := (maskLanes m).flatMap fun l =>
      let v := sregVal x code l
      if two then [(.lane d l, v.1), (.lane (d + 1) l, v.2)] else [(.lane d l, v.1)] }

/-- S2R vD, code (03 R161 to R163). -/
def execS2r (st : Site) (gd : Guard) (d : Fin 256) (code : SReg) (s : State) : Out :=
  issue s st (.s2r st gd d code) (s2rAct gd d.val code)

/-- S2U uD, code (03 R161 to R163). -/
def execS2u (st : Site) (d : Fin 64) (code : SReg) (s : State) : Out :=
  issue s st (.s2u st d code) fun x =>
    let v := sregVal x code 0
    let e : CEff := { vary := sregVaries code }
    if code = .count then
      { uniAct [] d.val v.1 with dsts := [.u d.val, .u (d.val + 1)], eff := e,
                                 writes := [(.uni d.val, v.1), (.uni (d.val + 1), v.2)] }
    else { uniAct [] d.val v.1 with eff := e }

/-- ISETP (03 R164, R166). -/
def execIsetp (st : Site) (gd : Guard) (cc : Cmp) (d : Fin 8) (a : Fin 256) (b : LaneB) (s : State) : Out :=
  issue s st (.isetp st gd cc d a b) (isetpAct gd cc d.val a.val b)

/-- FSETP (03 R164 to R166). -/
def execFsetp (st : Site) (gd : Guard) (cc : Cmp) (fmt : VFmt) (e : Fin 2) (d : Fin 8) (a b : Fin 256) (s : State) : Out :=
  issue s st (.fsetp st gd cc fmt e d a b) (fsetpAct gd cc fmt e.val d.val a.val b.val)

/-- PLOP (03 R166). -/
def execPlop (st : Site) (gd : Guard) (op : POp) (d a b : Fin 8) (s : State) : Out :=
  issue s st (.plop st gd op d a b) (plopAct gd op d.val a.val b.val)

end Sys2Proof.Machine
end

