-- ==== Sys2Proof/Machine/Matrix.lean ====
section
/-!
DEFINITION. Matrix and Peat instructions (01 R27 to R54, 02 R101 to R112, 03 R175 to R184).
-/
namespace Sys2Proof.Machine

/-- MLD (02 R104, R106, R108, 03 R175, R177). -/
def execMld (st : Site) (gd : Guard) (fmt : MFmt) (buf : Fin 2) (a b c e : Fin 64) (s : State) : Out :=
  issue s st (.mld st gd fmt buf a b c e) (mldAct gd fmt buf.val a.val b.val c.val e.val)

/-- MMA (02 R101 to R107, 03 R176, R178, R200). -/
def execMma (st : Site) (gd : Guard) (pair : Pair) (buf : Fin 2) (lean : Bool) (va vs : Fin 256) (p : Fin 4096) (s : State) : Out :=
  issue s st (.mma st gd pair buf lean va vs p) (mmaAct gd pair buf.val lean va.val vs.val p.val)

/-- PCLR (03 R179). -/
def execPclr (st : Site) (gd : Guard) (p : Fin 4096) (s : State) : Out :=
  issue s st (.pclr st gd p) fun x => peatAct .pclr (x.lanes gd) (guardSrc gd) [] [(p.val, 32)] []

/-- PACC: value accumulate of both elements of each lane (01 R32, 03 R179). -/
def execPacc (st : Site) (gd : Guard) (fmt : VFmt) (p : Fin 4096) (a : Fin 256) (s : State) : Out :=
  issue s st (.pacc st gd fmt p a) fun x =>
    peatAct (.pacc fmt) (x.lanes gd) (guardSrc gd ++ vecRun fmt a.val) [] [(p.val, 64)]
      ((List.range 32).flatMap fun l => [elemVal x fmt a.val 0 l, elemVal x fmt a.val 1 l])

/-- PADD: adds the range at uA[11:0] (03 R180, R203). -/
def execPadd (st : Site) (gd : Guard) (p : Fin 4096) (a : Fin 64) (s : State) : Out :=
  issue s st (.padd st gd p a) fun x =>
    let src := (x.u a.val).toNat % 4096
    peatAct (.padd src) (x.lanes gd) (guardSrc gd ++ [.u a.val]) [] [(p.val, 32), (src, 32)] []

/-- PLD (03 R183, R184). -/
def execPld (st : Site) (o : PeatMem) (s : State) : Out := issue s st (.pld st o) (peatMemAct (.pld o.t) o 16 16)

/-- PST (03 R183, R184). -/
def execPst (st : Site) (o : PeatMem) (s : State) : Out := issue s st (.pst st o) (peatMemAct (.pst o.t) o 16 16)

/-- PADDM (03 R183, R184). -/
def execPaddm (st : Site) (o : PeatMem) (s : State) : Out := issue s st (.paddm st o) (peatMemAct (.paddm o.t) o 16 16)

/-- PEXT: wire extract to W/8 bytes (01 R44, 03 R183, R184). -/
def execPext (st : Site) (o : PeatMem) (s : State) : Out :=
  issue s st (.pext st o) fun x => peatMemAct (.pext o.t) o (wireBytes x.c.wBits) (wireAlign x.c.wBits) x

/-- PINS: wire insert of W/8 bytes (01 R46, 03 R183, R184). -/
def execPins (st : Site) (o : PeatMem) (s : State) : Out :=
  issue s st (.pins st o) fun x => peatMemAct (.pins o.t) o (wireBytes x.c.wBits) (wireAlign x.c.wBits) x

/-- PCVT.H16 (01 R50 to R52, 03). -/
def execPcvtH16 (st : Site) (gd : Guard) (d : Fin 256) (p : Fin 4096) (s : State) : Out :=
  issue s st (.pcvtH16 st gd d p) fun x => peatAct (.pcvtH16 d.val) (x.lanes gd) (guardSrc gd) [.v d.val] [(p.val, 32)] []

/-- PCVT.F8 (01 R50 to R52, 03). -/
def execPcvtF8 (st : Site) (gd : Guard) (d : Fin 256) (p : Fin 4096) (s : State) : Out :=
  issue s st (.pcvtF8 st gd d p) fun x => peatAct (.pcvtF8 d.val) (x.lanes gd) (guardSrc gd) [.v d.val] [(p.val, 32)] []

/-- PCVT.B8 (01 R54, 03 R181). -/
def execPcvtB8 (st : Site) (gd : Guard) (d : Fin 256) (b : Fin 64) (p : Fin 4096) (s : State) : Out :=
  issue s st (.pcvtB8 st gd d b p) fun x =>
    peatAct (.pcvtB8 d.val b.val) (x.lanes gd) (guardSrc gd) [.v d.val, .u b.val] [(p.val, 32)] []

end Sys2Proof.Machine
end

