-- ==== Sys2Proof/Machine/MemoryOps.lean ====
section
/-!
DEFINITION. Lane memory, constant loads and atomics (02 R91 to R100, R117 to R123; 03 R185 to R197).
-/
namespace Sys2Proof.Machine

/-- LD (03 R185, R186). -/
def execLd (st : Site) (o : MemOp) (s : State) : Out := issue s st (.ld st o) (ldAct o)

/-- ST (03 R185, R187). -/
def execSt (st : Site) (o : MemOp) (s : State) : Out := issue s st (.st st o) (stAct o)

/-- ULDC (03 R188 to R190, 02 R761). -/
def execUldc (st : Site) (gd : Guard) (x64 t : Bool) (d a : Fin 64) (imm : BitVec 28) (s : State) : Out :=
  issue s st (.uldc st gd x64 t d a imm) (uldcAct x64 t d.val a.val imm)

/-- ATOM.ADD (02 R117 to R122, 03 R195). -/
def execAtomAdd (st : Site) (o : AtomOp) (s : State) : Out := issue s st (.atomAdd st o) (atomAct .add o none)

/-- ATOM.SMIN (02 R117 to R122, 03 R195). -/
def execAtomSmin (st : Site) (o : AtomOp) (s : State) : Out := issue s st (.atomSmin st o) (atomAct .smin o none)

/-- ATOM.SMAX (02 R117 to R122, 03 R195). -/
def execAtomSmax (st : Site) (o : AtomOp) (s : State) : Out := issue s st (.atomSmax st o) (atomAct .smax o none)

/-- ATOM.UMIN (02 R117 to R122, 03 R195). -/
def execAtomUmin (st : Site) (o : AtomOp) (s : State) : Out := issue s st (.atomUmin st o) (atomAct .umin o none)

/-- ATOM.UMAX (02 R117 to R122, 03 R195). -/
def execAtomUmax (st : Site) (o : AtomOp) (s : State) : Out := issue s st (.atomUmax st o) (atomAct .umax o none)

/-- ATOM.AND (02 R117 to R122, 03 R195). -/
def execAtomAnd (st : Site) (o : AtomOp) (s : State) : Out := issue s st (.atomAnd st o) (atomAct .and o none)

/-- ATOM.OR (02 R117 to R122, 03 R195). -/
def execAtomOr (st : Site) (o : AtomOp) (s : State) : Out := issue s st (.atomOr st o) (atomAct .or o none)

/-- ATOM.XOR (02 R117 to R122, 03 R195). -/
def execAtomXor (st : Site) (o : AtomOp) (s : State) : Out := issue s st (.atomXor st o) (atomAct .xor o none)

/-- ATOM.XCHG (02 R117 to R122, 03 R195). -/
def execAtomXchg (st : Site) (o : AtomOp) (s : State) : Out := issue s st (.atomXchg st o) (atomAct .xchg o none)

/-- ATOM.CAS (02 R123, 03 R195 to R197). -/
def execAtomCas (st : Site) (o : AtomOp) (c : Fin 256) (s : State) : Out :=
  issue s st (.atomCas st o c) (atomAct .cas o (some c.val))

/-- ATOM.FADD.S32 (02 R122). -/
def execAtomFaddS32 (st : Site) (o : AtomOp) (s : State) : Out := issue s st (.atomFaddS32 st o) (atomAct .fadd o none)

end Sys2Proof.Machine
end

