-- ==== Sys2Proof/Machine/Vector.lean ====
section
/-!
DEFINITION. Vector, conversion, special-function and generator instructions (01 R53 to R63, 02 R113 to R116, 03 R167 to R174).
-/
namespace Sys2Proof.Machine

/-- FADD (01 R55, 03 R167). -/
def execFadd (st : Site) (o : Vec2) (s : State) : Out := issue s st (.fadd st o) (vec2Act fpAdd o)

/-- FSUB (01 R55, 03 R167). -/
def execFsub (st : Site) (o : Vec2) (s : State) : Out := issue s st (.fsub st o) (vec2Act fpSub o)

/-- FMUL (01 R55, 03 R167). -/
def execFmul (st : Site) (o : Vec2) (s : State) : Out := issue s st (.fmul st o) (vec2Act fpMul o)

/-- FMIN (01 R55, 03 R167). -/
def execFmin (st : Site) (o : Vec2) (s : State) : Out := issue s st (.fmin st o) (vec2Act fpMin o)

/-- FMAX (01 R55, 03 R167). -/
def execFmax (st : Site) (o : Vec2) (s : State) : Out := issue s st (.fmax st o) (vec2Act fpMax o)

/-- FFMA, rounded once (01 R56). -/
def execFfma (st : Site) (o : Vec2) (c : Fin 256) (s : State) : Out := issue s st (.ffma st o c) (fmaAct o c)

/-- FABS (03 R168). -/
def execFabs (st : Site) (fmt : VFmt) (o : Vec1) (s : State) : Out :=
  issue s st (.fabs st fmt o) (vec1Act fpAbs fmt o)

/-- FNEG (03 R168). -/
def execFneg (st : Site) (fmt : VFmt) (o : Vec1) (s : State) : Out :=
  issue s st (.fneg st fmt o) (vec1Act fpNeg fmt o)

/-- CVT.S32.H16 (01 R53, R58, 03 R169 to R171). -/
def execCvtS32H16 (st : Site) (o : Vec1) (s : State) : Out :=
  issue s st (.cvtS32H16 st o) (cvtAct cvtS32H16 .h16 .s32 o)

/-- CVT.H16.S32 (01 R53, R58, 03 R169 to R171). -/
def execCvtH16S32 (st : Site) (o : Vec1) (s : State) : Out :=
  issue s st (.cvtH16S32 st o) (cvtAct cvtH16S32 .s32 .h16 o)

/-- CVT.F8.S32 (01 R53, R58, 03 R169 to R171). -/
def execCvtF8S32 (st : Site) (o : Vec1) (s : State) : Out :=
  issue s st (.cvtF8S32 st o) (cvtToF8Act (cvtF8 s32Fmt) .s32 o)

/-- CVT.F8.H16 (01 R53, R58, 03 R169 to R171). -/
def execCvtF8H16 (st : Site) (o : Vec1) (s : State) : Out :=
  issue s st (.cvtF8H16 st o) (cvtToF8Act (cvtF8 h16Fmt) .h16 o)

/-- CVT.H16.F8 (01 R53, R58, 03 R169 to R171). -/
def execCvtH16F8 (st : Site) (o : Vec1) (s : State) : Out :=
  issue s st (.cvtH16F8 st o) (cvtFromF8Act cvtH16F8 o)

/-- CVT.S32.I32 (01 R53, R58, 03 R169 to R171). -/
def execCvtS32I32 (st : Site) (o : Vec1) (s : State) : Out :=
  issue s st (.cvtS32I32 st o) (cvtAct cvtS32I32 .s32 .s32 o)

/-- CVT.I32.S32 (01 R53, R58, 03 R169 to R171). -/
def execCvtI32S32 (st : Site) (o : Vec1) (s : State) : Out :=
  issue s st (.cvtI32S32 st o) (cvtAct cvtI32S32 .s32 .s32 o)

/-- EXP2 (01 R59 to R63, 03 R172). -/
def execExp2 (st : Site) (fmt : VFmt) (o : Vec1) (s : State) : Out :=
  issue s st (.exp2 st fmt o) (sfuAct sfuExp2 fmt o)

/-- LOG2 (01 R59 to R63, 03 R172). -/
def execLog2 (st : Site) (fmt : VFmt) (o : Vec1) (s : State) : Out :=
  issue s st (.log2 st fmt o) (sfuAct sfuLog2 fmt o)

/-- RCP (01 R59 to R63, 03 R172). -/
def execRcp (st : Site) (fmt : VFmt) (o : Vec1) (s : State) : Out :=
  issue s st (.rcp st fmt o) (sfuAct sfuRcp fmt o)

/-- RSQ (01 R59 to R63, 03 R172). -/
def execRsq (st : Site) (fmt : VFmt) (o : Vec1) (s : State) : Out :=
  issue s st (.rsq st fmt o) (sfuAct sfuRsqrt fmt o)

/-- SIN (01 R59 to R63, 03 R172). -/
def execSin (st : Site) (fmt : VFmt) (o : Vec1) (s : State) : Out :=
  issue s st (.sin st fmt o) (sfuAct (sfuSinCos false) fmt o)

/-- COS (01 R59 to R63, 03 R172). -/
def execCos (st : Site) (fmt : VFmt) (o : Vec1) (s : State) : Out :=
  issue s st (.cos st fmt o) (sfuAct (sfuSinCos true) fmt o)

/-- KCG (03 R173, R174, 05 R274). -/
def execKcg (st : Site) (gd : Guard) (d a b : Fin 256) (s : State) : Out :=
  issue s st (.kcg st gd d a b) (kcgAct gd d.val a.val b.val)

end Sys2Proof.Machine
end

