-- ==== Sys2Proof/Machine/Dispatch.lean ====
section
/-!
DEFINITION. One arm per command.
-/
namespace Sys2Proof.Machine

/-- The effect of a command on everything but the queue. -/
def exec (i : Instr) (s : State) : Host.Outcome State Fault Refusal :=
  match i with
  | .nop s0 gd => Sys2Proof.Machine.execNop s0 gd s
  | .bra s0 target => Sys2Proof.Machine.execBra s0 target s
  | .braP s0 gd target reconv => Sys2Proof.Machine.execBraP s0 gd target reconv s
  | .braT s0 gd target reconv => Sys2Proof.Machine.execBraT s0 gd target reconv s
  | .loop s0 a target => Sys2Proof.Machine.execLoop s0 a target s
  | .exit s0 gd => Sys2Proof.Machine.execExit s0 gd s
  | .illegalEncoding s0 => Sys2Proof.Machine.execIllegalEncoding s0 s
  | .instructionFetch s0 ecc regs => Sys2Proof.Machine.execInstructionFetch s0 ecc s regs
  | .cacheFillDone cl oc idx ecc => Sys2Proof.Machine.execCacheFillDone cl oc idx s ecc
  | .unitStart cl u ecc => Sys2Proof.Machine.execUnitStart cl u ecc s
  | .resultReady s0 ecc => Sys2Proof.Machine.execResultReady s0 ecc s
  | .iadd s0 o => Sys2Proof.Machine.execIadd s0 o s
  | .isub s0 o => Sys2Proof.Machine.execIsub s0 o s
  | .imul s0 o => Sys2Proof.Machine.execImul s0 o s
  | .imulhu s0 o => Sys2Proof.Machine.execImulhu s0 o s
  | .imulhs s0 o => Sys2Proof.Machine.execImulhs s0 o s
  | .imad s0 gd d a b c => Sys2Proof.Machine.execImad s0 gd d a b c s
  | .and s0 o => Sys2Proof.Machine.execAnd s0 o s
  | .or s0 o => Sys2Proof.Machine.execOr s0 o s
  | .xor s0 o => Sys2Proof.Machine.execXor s0 o s
  | .shl s0 o => Sys2Proof.Machine.execShl s0 o s
  | .shr s0 o => Sys2Proof.Machine.execShr s0 o s
  | .sra s0 o => Sys2Proof.Machine.execSra s0 o s
  | .imin s0 o => Sys2Proof.Machine.execImin s0 o s
  | .imax s0 o => Sys2Proof.Machine.execImax s0 o s
  | .umin s0 o => Sys2Proof.Machine.execUmin s0 o s
  | .umax s0 o => Sys2Proof.Machine.execUmax s0 o s
  | .popc s0 o => Sys2Proof.Machine.execPopc s0 o s
  | .clz s0 o => Sys2Proof.Machine.execClz s0 o s
  | .sel s0 gd d a b c => Sys2Proof.Machine.execSel s0 gd d a b c s
  | .mov s0 gd d a => Sys2Proof.Machine.execMov s0 gd d a s
  | .movi s0 gd d imm => Sys2Proof.Machine.execMovi s0 gd d imm s
  | .umovi s0 d imm => Sys2Proof.Machine.execUmovi s0 d imm s
  | .bcast s0 gd d a => Sys2Proof.Machine.execBcast s0 gd d a s
  | .laneRd s0 d a lane => Sys2Proof.Machine.execLaneRd s0 d a lane s
  | .s2r s0 gd d code => Sys2Proof.Machine.execS2r s0 gd d code s
  | .s2u s0 d code => Sys2Proof.Machine.execS2u s0 d code s
  | .isetp s0 gd cc d a b => Sys2Proof.Machine.execIsetp s0 gd cc d a b s
  | .fsetp s0 gd cc fmt e d a b => Sys2Proof.Machine.execFsetp s0 gd cc fmt e d a b s
  | .plop s0 gd op d a b => Sys2Proof.Machine.execPlop s0 gd op d a b s
  | .fadd s0 o => Sys2Proof.Machine.execFadd s0 o s
  | .fsub s0 o => Sys2Proof.Machine.execFsub s0 o s
  | .fmul s0 o => Sys2Proof.Machine.execFmul s0 o s
  | .ffma s0 o c => Sys2Proof.Machine.execFfma s0 o c s
  | .fmin s0 o => Sys2Proof.Machine.execFmin s0 o s
  | .fmax s0 o => Sys2Proof.Machine.execFmax s0 o s
  | .fabs s0 fmt o => Sys2Proof.Machine.execFabs s0 fmt o s
  | .fneg s0 fmt o => Sys2Proof.Machine.execFneg s0 fmt o s
  | .cvtS32H16 s0 o => Sys2Proof.Machine.execCvtS32H16 s0 o s
  | .cvtH16S32 s0 o => Sys2Proof.Machine.execCvtH16S32 s0 o s
  | .cvtF8S32 s0 o => Sys2Proof.Machine.execCvtF8S32 s0 o s
  | .cvtF8H16 s0 o => Sys2Proof.Machine.execCvtF8H16 s0 o s
  | .cvtH16F8 s0 o => Sys2Proof.Machine.execCvtH16F8 s0 o s
  | .cvtS32I32 s0 o => Sys2Proof.Machine.execCvtS32I32 s0 o s
  | .cvtI32S32 s0 o => Sys2Proof.Machine.execCvtI32S32 s0 o s
  | .exp2 s0 fmt o => Sys2Proof.Machine.execExp2 s0 fmt o s
  | .log2 s0 fmt o => Sys2Proof.Machine.execLog2 s0 fmt o s
  | .rcp s0 fmt o => Sys2Proof.Machine.execRcp s0 fmt o s
  | .rsq s0 fmt o => Sys2Proof.Machine.execRsq s0 fmt o s
  | .sin s0 fmt o => Sys2Proof.Machine.execSin s0 fmt o s
  | .cos s0 fmt o => Sys2Proof.Machine.execCos s0 fmt o s
  | .kcg s0 gd d a b => Sys2Proof.Machine.execKcg s0 gd d a b s
  | .mld s0 gd fmt buf a b c e => Sys2Proof.Machine.execMld s0 gd fmt buf a b c e s
  | .mma s0 gd pair buf lean va vs p => Sys2Proof.Machine.execMma s0 gd pair buf lean va vs p s
  | .pclr s0 gd p => Sys2Proof.Machine.execPclr s0 gd p s
  | .pacc s0 gd fmt p a => Sys2Proof.Machine.execPacc s0 gd fmt p a s
  | .padd s0 gd p a => Sys2Proof.Machine.execPadd s0 gd p a s
  | .pld s0 o => Sys2Proof.Machine.execPld s0 o s
  | .pst s0 o => Sys2Proof.Machine.execPst s0 o s
  | .paddm s0 o => Sys2Proof.Machine.execPaddm s0 o s
  | .pext s0 o => Sys2Proof.Machine.execPext s0 o s
  | .pins s0 o => Sys2Proof.Machine.execPins s0 o s
  | .pcvtH16 s0 gd d p => Sys2Proof.Machine.execPcvtH16 s0 gd d p s
  | .pcvtF8 s0 gd d p => Sys2Proof.Machine.execPcvtF8 s0 gd d p s
  | .pcvtB8 s0 gd d b p => Sys2Proof.Machine.execPcvtB8 s0 gd d b p s
  | .ld s0 o => Sys2Proof.Machine.execLd s0 o s
  | .st s0 o => Sys2Proof.Machine.execSt s0 o s
  | .uldc s0 gd x64 t d a imm => Sys2Proof.Machine.execUldc s0 gd x64 t d a imm s
  | .dsync s0 k => Sys2Proof.Machine.execDsync s0 k s
  | .nsync s0 k => Sys2Proof.Machine.execNsync s0 k s
  | .atomAdd s0 o => Sys2Proof.Machine.execAtomAdd s0 o s
  | .atomSmin s0 o => Sys2Proof.Machine.execAtomSmin s0 o s
  | .atomSmax s0 o => Sys2Proof.Machine.execAtomSmax s0 o s
  | .atomUmin s0 o => Sys2Proof.Machine.execAtomUmin s0 o s
  | .atomUmax s0 o => Sys2Proof.Machine.execAtomUmax s0 o s
  | .atomAnd s0 o => Sys2Proof.Machine.execAtomAnd s0 o s
  | .atomOr s0 o => Sys2Proof.Machine.execAtomOr s0 o s
  | .atomXor s0 o => Sys2Proof.Machine.execAtomXor s0 o s
  | .atomXchg s0 o => Sys2Proof.Machine.execAtomXchg s0 o s
  | .atomCas s0 o c => Sys2Proof.Machine.execAtomCas s0 o c s
  | .atomFaddS32 s0 o => Sys2Proof.Machine.execAtomFaddS32 s0 o s
  | .barg s0 gd => Sys2Proof.Machine.execBarg s0 gd s
  | .barc s0 gd id => Sys2Proof.Machine.execBarc s0 gd id s
  | .bkpt s0 n => Sys2Proof.Machine.execBkpt s0 n s
  | .digest s0 gd a => Sys2Proof.Machine.execDigest s0 gd a s
  | .stepLaunch => Sys2Proof.Machine.execStepLaunch s
  | .kernelLaunch => Sys2Proof.Machine.execKernelLaunch s
  | .windowEnd => Sys2Proof.Machine.execWindowEnd s
  | .planInstanceStart cl net k eccs => Sys2Proof.Machine.execPlanInstanceStart cl net k s eccs
  | .planInstanceComplete cl net k => Sys2Proof.Machine.execPlanInstanceComplete cl net k s
  | .hbmAccessStart h pc => Sys2Proof.Machine.execHbmAccessStart h pc s
  | .hbmReadReturn h pc ecc => Sys2Proof.Machine.execHbmReadReturn h pc ecc s
  | .hbmLate h pc => Sys2Proof.Machine.execHbmLate h pc s
  | .hbmRefreshWindow h pc => Sys2Proof.Machine.execHbmRefreshWindow h pc s
  | .executionEnd => Sys2Proof.Machine.execExecutionEnd s
  | .stepEnd => Sys2Proof.Machine.execStepEnd s
  | .freezeStart => Sys2Proof.Machine.execFreezeStart s
  | .freezeEnd => Sys2Proof.Machine.execFreezeEnd s
  | .leanSampleCheck cl => Sys2Proof.Machine.execLeanSampleCheck cl s
  | .stepBoundary => Sys2Proof.Machine.execStepBoundary s
  | .openSession r hostOk => Sys2Proof.Machine.execOpenSession r s hostOk
  | .appendPrompt r hostOk => Sys2Proof.Machine.execAppendPrompt r s hostOk
  | .generate r => Sys2Proof.Machine.execGenerate r s
  | .park r => Sys2Proof.Machine.execPark r s
  | .unpark r hostOk => Sys2Proof.Machine.execUnpark r s hostOk
  | .closeSession r => Sys2Proof.Machine.execCloseSession r s
  | .loadImage r hostOk => Sys2Proof.Machine.execLoadImage r s hostOk
  | .imageLoadDone img hostOk => Sys2Proof.Machine.execImageLoadDone img s hostOk
  | .unloadImage r => Sys2Proof.Machine.execUnloadImage r s
  | .imageUnloaded => Sys2Proof.Machine.execImageUnloaded s
  | .runKernel r hostOk errs => Sys2Proof.Machine.execRunKernel r s hostOk errs
  | .runKernelLaunch hostOk errs => Sys2Proof.Machine.execRunKernelLaunch s hostOk errs
  | .saveState r => Sys2Proof.Machine.execSaveState r s
  | .restoreState r hostOk => Sys2Proof.Machine.execRestoreState r s hostOk
  | .fence r => Sys2Proof.Machine.execFence r s
  | .stageEpoch r hostOk => Sys2Proof.Machine.execStageEpoch r s hostOk
  | .stageDone flashOk => Sys2Proof.Machine.execStageDone flashOk s
  | .switchEpoch r => Sys2Proof.Machine.execSwitchEpoch r s
  | .readLedger r hostOk => Sys2Proof.Machine.execReadLedger r s hostOk
  | .hostTransferStart => Sys2Proof.Machine.execHostTransferStart s
  | .parkSaveDone hostOk errs => Sys2Proof.Machine.execParkSaveDone s hostOk errs
  | .unparkReadDone hostOk rows => Sys2Proof.Machine.execUnparkReadDone s hostOk rows
  | .spillStreamStart => Sys2Proof.Machine.execSpillStreamStart s
  | .preempt => Sys2Proof.Machine.execPreempt s
  | .preemptSaveDone errs => Sys2Proof.Machine.execPreemptSaveDone s errs
  | .executionResume => Sys2Proof.Machine.execExecutionResume s
  | .hello k f => Sys2Proof.Machine.execHello k f s
  | .keepalive k f => Sys2Proof.Machine.execKeepalive k f s
  | .ack k f => Sys2Proof.Machine.execAck k f s
  | .partialSum k f errs => Sys2Proof.Machine.execPartialSum k f s errs
  | .ledger k f => Sys2Proof.Machine.execLedger k f s
  | .verdict k f => Sys2Proof.Machine.execVerdict k f s
  | .regionReloadDone hostOk => Sys2Proof.Machine.execRegionReloadDone hostOk s
  | .launch k f => Sys2Proof.Machine.execLaunch k f s
  | .committed k f => Sys2Proof.Machine.execCommitted k f s
  | .hold k f => Sys2Proof.Machine.execHold k f s
  | .loss k f => Sys2Proof.Machine.execLoss k f s
  | .form k f => Sys2Proof.Machine.execForm k f s
  | .formed k f => Sys2Proof.Machine.execFormed k f s
  | .staged k f => Sys2Proof.Machine.execStaged k f s
  | .switch k f => Sys2Proof.Machine.execSwitch k f s
  | .rejoin k f => Sys2Proof.Machine.execRejoin k f s
  | .join k f => Sys2Proof.Machine.execJoin k f s
  | .twin k f => Sys2Proof.Machine.execTwin k f s
  | .lockstepHalt => Sys2Proof.Machine.execLockstepHalt s
  | .linkLost k f => Sys2Proof.Machine.execLinkLost k f s
  | .linkLostTimeout k => Sys2Proof.Machine.execLinkLostTimeout k s
  | .ackTimer k => Sys2Proof.Machine.execAckTimer k s
  | .retryTimeout k => Sys2Proof.Machine.execRetryTimeout k s
  | .keepaliveTimer k => Sys2Proof.Machine.execKeepaliveTimer k s
  | .silenceTimeout k => Sys2Proof.Machine.execSilenceTimeout k s
  | .pcsDown k => Sys2Proof.Machine.execPcsDown k s
  | .pcsUp k corr => Sys2Proof.Machine.execPcsUp k corr s
  | .syncOffsetTimeout k => Sys2Proof.Machine.execSyncOffsetTimeout k s
  | .handshakeRetry k => Sys2Proof.Machine.execHandshakeRetry k s
  | .rejoinTimeout => Sys2Proof.Machine.execRejoinTimeout s
  | .reductionDeadline slot unit => Sys2Proof.Machine.execReductionDeadline slot unit s
  | .azlStop => Sys2Proof.Machine.execAzlStop s
  | .ptpMessage k m => Sys2Proof.Machine.execPtpMessage k m s
  | .ptpSendTimer k announce => Sys2Proof.Machine.execPtpSendTimer k announce s
  | .ppsInEdge => Sys2Proof.Machine.execPpsInEdge s
  | .measurementTimeout => Sys2Proof.Machine.execMeasurementTimeout s
  | .ppsOutRise => Sys2Proof.Machine.execPpsOutRise s
  | .ppsOutFall => Sys2Proof.Machine.execPpsOutFall s
  | .refLost => Sys2Proof.Machine.execRefLost s
  | .refRestored => Sys2Proof.Machine.execRefRestored s
  | .thermalPeriod => Sys2Proof.Machine.execThermalPeriod s
  | .sensorRefresh temps => Sys2Proof.Machine.execSensorRefresh temps s
  | .sensorFail n => Sys2Proof.Machine.execSensorFail n s
  | .thermtrip n => Sys2Proof.Machine.execThermtrip n s
  | .leanWindowEnd vmtxMv => Sys2Proof.Machine.execLeanWindowEnd vmtxMv s
  | .leanEnWrite on => Sys2Proof.Machine.execLeanEnWrite on s
  | .quarantineWindow => Sys2Proof.Machine.execQuarantineWindow s
  | .ldgQuarantine w => Sys2Proof.Machine.execLdgQuarantine w s
  | .frameBoundary => Sys2Proof.Machine.execFrameBoundary s
  | .featureWrite p s0 energy overload => Sys2Proof.Machine.execFeatureWrite p s0 energy overload s
  | .classifierPublish => Sys2Proof.Machine.execClassifierPublish s
  | .fclWdataWrite w => Sys2Proof.Machine.execFclWdataWrite w s
  | .fclWdataRead => Sys2Proof.Machine.execFclWdataRead s
  | .sampleRecord c => Sys2Proof.Machine.execSampleRecord c s
  | .fadeDone c rs => Sys2Proof.Machine.execFadeDone c rs s
  | .firSwap c => Sys2Proof.Machine.execFirSwap c s
  | .rsSwap c => Sys2Proof.Machine.execRsSwap c s
  | .rsCdataAccess c w => Sys2Proof.Machine.execRsCdataAccess c w s
  | .weirCrossing w u => Sys2Proof.Machine.execWeirCrossing w u s
  | .qualChange w => Sys2Proof.Machine.execQualChange w s
  | .blankingEnd w => Sys2Proof.Machine.execBlankingEnd w s
  | .avddFail dvdd => Sys2Proof.Machine.execAvddFail s dvdd
  | .programApply j => Sys2Proof.Machine.execProgramApply j s
  | .programEdge j => Sys2Proof.Machine.execProgramEdge j s
  | .pgClear j => Sys2Proof.Machine.execPgClear j s
  | .pgSwTrip j => Sys2Proof.Machine.execPgSwTrip j s
  | .pgCommit j => Sys2Proof.Machine.execPgCommit j s
  | .pgEnable j => Sys2Proof.Machine.execPgEnable j s
  | .doorbell r v => Sys2Proof.Machine.execDoorbell r v s
  | .descriptorFetch r => Sys2Proof.Machine.execDescriptorFetch r s
  | .descriptorReadDone r hostOk => Sys2Proof.Machine.execDescriptorReadDone r hostOk s
  | .cmqEnable r on => Sys2Proof.Machine.execCmqEnable r on s
  | .evqEnable q on => Sys2Proof.Machine.execEvqEnable q on s
  | .evqHeadWrite q v => Sys2Proof.Machine.execEvqHeadWrite q v s
  | .eventRecordWrite q => Sys2Proof.Machine.execEventRecordWrite q s
  | .coalesceTimer q => Sys2Proof.Machine.execCoalesceTimer q s
  | .hifResume fn => Sys2Proof.Machine.execHifResume fn s
  | .hifDiscard fn => Sys2Proof.Machine.execHifDiscard fn s
  | .heldRecordsFlush => Sys2Proof.Machine.execHeldRecordsFlush s
  | .functionLevelReset fn how => Sys2Proof.Machine.execFunctionLevelReset fn how s
  | .perstN => Sys2Proof.Machine.execPerstN s
  | .linkUp speed width => Sys2Proof.Machine.execLinkUp speed width s
  | .configRequest q => Sys2Proof.Machine.execConfigRequest q s
  | .unsupportedRequest off size => Sys2Proof.Machine.execUnsupportedRequest off size s
  | .unmappedAccess off write => Sys2Proof.Machine.execUnmappedAccess off write s
  | .bar2Read off len errs => Sys2Proof.Machine.execBar2Read off len s errs
  | .bar2Write off data => Sys2Proof.Machine.execBar2Write off data s
  | .bar2Open => Sys2Proof.Machine.execBar2Open s
  | .bar2Close => Sys2Proof.Machine.execBar2Close s
  | .coldReset cause => Sys2Proof.Machine.execColdReset cause s
  | .supplyDrop => Sys2Proof.Machine.execSupplyDrop s
  | .pllLock => Sys2Proof.Machine.execPllLock s
  | .pstLoadDone => Sys2Proof.Machine.execPstLoadDone s
  | .levelGuard => Sys2Proof.Machine.execLevelGuard s
  | .pcieTrainingStart => Sys2Proof.Machine.execPcieTrainingStart s
  | .firmwareBoot => Sys2Proof.Machine.execFirmwareBoot s
  | .levelNarrow clusters routers => Sys2Proof.Machine.execLevelNarrow clusters routers s
  | .levelFull stackOk portOk => Sys2Proof.Machine.execLevelFull stackOk portOk s
  | .firmwareRestarted => Sys2Proof.Machine.execFirmwareRestarted s
  | .glbWarmReset key => Sys2Proof.Machine.execGlbWarmReset key s
  | .glbColdReset key => Sys2Proof.Machine.execGlbColdReset key s
  | .info seq => Sys2Proof.Machine.execInfo seq s
  | .flashRead seq => Sys2Proof.Machine.execFlashRead seq s
  | .flashProgram seq => Sys2Proof.Machine.execFlashProgram seq s
  | .selectSlot seq => Sys2Proof.Machine.execSelectSlot seq s
  | .mboxDone flashOk => Sys2Proof.Machine.execMboxDone flashOk s
  | .pstWrite n v => Sys2Proof.Machine.execPstWrite n v s
  | .pstWriteDone ok fails => Sys2Proof.Machine.execPstWriteDone ok s fails
  | .gctCountRead wide fn off => Sys2Proof.Machine.execGctCountRead wide s fn off
  | .softReset page => Sys2Proof.Machine.execSoftReset page s
  | .freeze page on => Sys2Proof.Machine.execFreeze page on s
  | .evtset page v => Sys2Proof.Machine.execEvtset page v s
  | .unlockStart => Sys2Proof.Machine.execUnlockStart s
  | .nonceReady => Sys2Proof.Machine.execNonceReady s
  | .unlockSubmit => Sys2Proof.Machine.execUnlockSubmit s
  | .unlockCheckDone => Sys2Proof.Machine.execUnlockCheckDone s
  | .dbgLock => Sys2Proof.Machine.execDbgLock s
  | .haltNow => Sys2Proof.Machine.execHaltNow s
  | .haltAtCount => Sys2Proof.Machine.execHaltAtCount s
  | .dbgResume => Sys2Proof.Machine.execDbgResume s
  | .resumeAtCount => Sys2Proof.Machine.execResumeAtCount s
  | .stepGo => Sys2Proof.Machine.execStepGo s
  | .stepDone => Sys2Proof.Machine.execStepDone s
  | .accGo ecc => Sys2Proof.Machine.execAccGo s ecc
  | .rewind => Sys2Proof.Machine.execRewind s
  | .abandon => Sys2Proof.Machine.execAbandon s
  | .dbgRegUpdate data off write => Sys2Proof.Machine.execDbgRegUpdate data off write s
  | .extest scan => Sys2Proof.Machine.execExtest s scan
  | .idcode => Sys2Proof.Machine.execIdcode s
  | .samplePreload preload => Sys2Proof.Machine.execSamplePreload preload s
  | .clamp => Sys2Proof.Machine.execClamp s
  | .highz => Sys2Proof.Machine.execHighz s
  | .bypass code => Sys2Proof.Machine.execBypass s code
  | .trstN low => Sys2Proof.Machine.execTrstN low s
  | .registerWrite fn off wide v => Sys2Proof.Machine.execRegisterWrite fn off wide v s
  | .converterSample c nv => Sys2Proof.Machine.execConverterSample c nv s
  | .avddOk dvdd => Sys2Proof.Machine.execAvddOk s dvdd
  | .powerGood => Sys2Proof.Machine.execPowerGood s
  | .vmtxReached => Sys2Proof.Machine.execVmtxReached s
  | .restoreDone errs => Sys2Proof.Machine.execRestoreDone s errs
  | .stateCopyDone hostOk errs => Sys2Proof.Machine.execStateCopyDone hostOk s errs
  | .fcsErr k fec => Sys2Proof.Machine.execFcsErr k s fec
  | .discardedFrame k => Sys2Proof.Machine.execDiscardedFrame k s
  | .dieToDieTrained errors => Sys2Proof.Machine.execDieToDieTrained s errors
  | .ringEn dec on => Sys2Proof.Machine.execRingEn dec on s

end Sys2Proof.Machine
end

