-- ==== Sys2Proof/Machine/Tick.lean ====
section
/-!
DEFINITION. The passage of one count: what the block does when no command waits (00 R4, 04 R206, R211, R213, 12 R556, R560, 13
R603, 16 R730; DESIGN CHOICE, log 1).
-/
namespace Sys2Proof.Machine

/-- Kernel cycles advance on the clusters that run, and on those that drain (02 R74, 08 R452). -/
def tickClusters (s : State) : State :=
  allCl s fun c => if c.st = .running then { c with kcyc := c.kcyc + 1 } else c

/-- The counts frozen in the running execution and by thermal holds (04 R211, R255, 15 R703, R715, 16 R733). -/
def tickFrozen (s : State) : State :=
  let s1 := if s.sched.exec.running then modExec s fun e => { e with frozen := e.frozen + 1 } else s
  if s.sched.freezes.any fun w => w.active && w.cause == .thermal then wr64 s1 Reg.thmHeldLo (rd64 s Reg.thmHeldLo + 1) else s1

/-- The group port and the matrix array of one cluster in this cycle; watchpoints see their accesses (02 R92 to R95, R117, 16 R736). -/
def tickPort (s : State) (p : Nat) : State :=
  let c := clOf s p
  if c.flights.isEmpty then s
  else
    let see := fun (f : Flight) (t : State) =>
      let ts := portTouches c f
      if ts.isEmpty then t else watch t (c.logical.getD 0) f.g f.pc 0 ts
    modCl (each c.flights see s) p portCycle

/-- The ports of every cluster in the order of R95: the group ports, the stream ports with the mesh, the fill ports. -/
def tickPorts (s : State) : State :=
  let s1 := each s.clusters (fun e t => tickPort t e.1) s
  let s2 := if moving s then moveCycle s1 else s1
  allCl s2 refill

/-- The rest of the schedule cycle of this count, and the next cycle (02 R762, 04 R206, R211, R234). -/
def tickSchedule (s : State) : State :=
  if dieFrozen s then tickFrozen s
  else
    let s1 := idleStopped (tickPorts s)
    if s.sched.exec.running || moving s then tickClusters (modExec s1 fun e => { e with cyc := e.cyc + 1 }) else s1

/-- The Falbo die's own clocks: D15 at every fifth tick, D16 at every second (10 R479, 12 R556, R560). -/
def tickFalbo (s : State) : State :=
  let s1 := setFalbo s { s.falbo with ticks := s.falbo.ticks + 1 }
  if !sensing s then s1
  else
    let s2 := if s1.count % 5 = 0 then each (List.range 32) tickWeir s1 else s1
    if s2.count % 2 = 0 then each (List.range 16) reportTrip s2 else s2

/-- Descriptors whose checks fail go on by themselves (13 R603, R614). -/
def tickRings (s : State) : State := each s.hif.rings (fun e t => if e.2.fifo.isEmpty then t else skipBad 64 t e.1) s

/-- One count passes; its writes to host memory are past: with the PLL locked the global counter advances (00 R4, 15 R692). -/
def tick (s : State) : State :=
  if !s.power.pll then tickRings (putHw (putWrote s []) [])
  else
    let s1 := tickSchedule (spillStream (putWrote s []))
    let s2 := putHw (putCount s1 ((s1.count + 1) % 2 ^ 64)) []
    tickRings (haltDue (resumeDue (tickFalbo (tickSense (tickSteer s2)))))

end Sys2Proof.Machine
end

