-- ==== Sys2Proof/WellFormed.lean ====
section
/-!
DEFINITION. The commands an outside can form: an instruction is well formed when some word encodes it (03 R136 to R147, R205), any
other command when its operands lie in the ranges the spec gives them. The machine does not consult this: a command out of range
has the effect its meaning gives it.
-/
namespace Sys2Proof

/-- A branch target or a reconvergence address: an aligned 20-bit scratchpad address (03 R143). -/
def targetOk (t : Nat) : Bool := decide (t < 2 ^ 20) && t % 8 == 0

/-- COUNT is read into an even register pair (03 R161). -/
def countPair (d : Nat) (c : SReg) : Bool := c != .count || d % 2 == 0

/-- ISETP has no uniform-register form (03 R164). -/
def notUni (b : LaneB) : Bool :=
  match b with
  | .uni _ => false
  | .reg _ => true
  | .imm _ => true

/-- FSETP takes the codes 0 to 5 (03 R164, R165). -/
def floatCmp (c : Cmp) : Bool :=
  match c with
  | .eq => true
  | .ne => true
  | .lt => true
  | .le => true
  | .gt => true
  | .ge => true
  | .ltu => false
  | .leu => false
  | .gtu => false
  | .geu => false

/-- Register pairs are even in S32 (02 R114). -/
def vec2Ok (o : Vec2) : Bool := evenFor o.fmt o.d.val && evenFor o.fmt o.a.val && evenFor o.fmt o.b.val

/-- Register pairs are even in S32 (02 R114). -/
def vec1Ok (fmt : VFmt) (o : Vec1) : Bool := evenFor fmt o.d.val && evenFor fmt o.a.val

/-- 64-bit atomics use even pairs (03 R196). -/
def atomOk (o : AtomOp) : Bool := !o.x64 || (o.d.val % 2 == 0 && o.b.val % 2 == 0)

/-- LEAN is for B8 by B8; the mantissa run is aligned and within the registers; a pair without scales has VS zero (02 R109, 03 R176). -/
def mmaOk (p : Pair) (lean : Bool) (va vs : Nat) : Bool :=
  (!lean || p == .b8b8) && va % pairRun p == 0 && decide (va + pairRun p ≤ 256) && (pairScaled p || vs == 0)

/-- Every number of a list is below a bound. -/
def upTo (n : Nat) (xs : List Nat) : Bool := xs.all fun x => decide (x < n)

/-- The fields of an Azlink header fit their places, and the payload is words (07 R368). -/
def frameOk (f : Frame) : Bool :=
  decide (f.et < 2 ^ 16) && decide (f.dst < 2 ^ 48) && decide (f.sa < 2 ^ 48) && decide (f.version < 2 ^ 8) && decide (f.kind < 2 ^ 8) && decide (f.seq < 2 ^ 16) && decide (f.ack < 2 ^ 16)
    && decide (f.group < 2 ^ 32) && decide (f.epoch < 2 ^ 16) && decide (f.src < 2 ^ 8) && upTo (2 ^ 32) [f.w4, f.w5, f.w6, f.w7]
    && upTo (2 ^ 32) f.payload

/-- The sizes BAR2 may take, and the limits the endpoint supports (13 R587, R590). -/
def cfgOk (q : CfgReq) : Bool :=
  match q with
  | .read _ _ => true
  | .bme _ _ => true
  | .bar2Size n => decide (28 ≤ n) && decide (n ≤ 37)
  | .power _ _ => true
  | .payload _ b => [128, 256, 512].contains b
  | .readReq _ b => [128, 256, 512, 1024, 2048, 4096].contains b
  | .tag10 _ _ => true
  | .ecrc _ _ _ => true
  | .aerClear _ => true
  | .msix _ _ _ => true

/-- Errors of units of HBM: 64 bytes each, inside the memory (04 R228, 13 R592). -/
def hbmErrsOk (xs : List (Nat × Ecc)) : Bool := xs.all fun x => x.1 % 64 == 0 && decide (x.1 < 0x2400000000)

/-- Errors of numbered units. -/
def unitErrsOk (n : Nat) (xs : List (Nat × Ecc)) : Bool := xs.all fun x => decide (x.1 < n)

/-- The bytes of BAR0 of the PF (13, BAR table). -/
def bar0Size : Nat := 2 ^ 25

/-- A page of BAR0 (17 R747). -/
def pageAligned (off : Nat) : Bool := decide (off < bar0Size) && off % 0x1000 == 0

/-- Descriptors, plan entries and records of an image are 32-bit words (04, 06, 07). -/
def imageOk (m : Image) : Bool :=
  m.layers.all (upTo (2 ^ 32)) && m.kernels.all (upTo (2 ^ 32)) && m.dirs.all (fun d => d.recs.all (upTo (2 ^ 32)))
    && m.area.all (upTo (2 ^ 32)) && m.poolMap.all (upTo (2 ^ 32)) && m.code.all (upTo (2 ^ 64))

/-- The command is well formed. -/
def wellFormed (i : Instr) : Bool :=
  match i with
  | .nop _ _ => true
  | .bra _ target => targetOk target
  | .braP _ _ target reconv => targetOk target && targetOk reconv
  | .braT _ _ target reconv => targetOk target && targetOk reconv
  | .loop _ _ target => targetOk target
  | .exit _ _ => true
  | .illegalEncoding _ => true
  | .instructionFetch _ _ _ => true
  | .cacheFillDone _ oc idx _ => decide (idx < (if oc then 256 else 512))
  | .unitStart _ _ _ => true
  | .resultReady _ _ => true
  | .iadd _ _ => true
  | .isub _ _ => true
  | .imul _ _ => true
  | .imulhu _ _ => true
  | .imulhs _ _ => true
  | .imad _ _ _ _ _ _ => true
  | .and _ _ => true
  | .or _ _ => true
  | .xor _ _ => true
  | .shl _ _ => true
  | .shr _ _ => true
  | .sra _ _ => true
  | .imin _ _ => true
  | .imax _ _ => true
  | .umin _ _ => true
  | .umax _ _ => true
  | .popc _ _ => true
  | .clz _ _ => true
  | .sel _ _ _ _ _ _ => true
  | .mov _ _ _ _ => true
  | .movi _ _ _ _ => true
  | .umovi _ _ _ => true
  | .bcast _ _ _ _ => true
  | .laneRd _ _ _ _ => true
  | .s2r _ _ d code => countPair d.val code
  | .s2u _ d code => code != .laneId && countPair d.val code
  | .isetp _ _ _ _ _ b => notUni b
  | .fsetp _ _ cc fmt _ _ a b => floatCmp cc && evenFor fmt a.val && evenFor fmt b.val
  | .plop _ _ _ _ _ _ => true
  | .fadd _ o => vec2Ok o
  | .fsub _ o => vec2Ok o
  | .fmul _ o => vec2Ok o
  | .ffma _ o c => vec2Ok o && evenFor o.fmt c.val
  | .fmin _ o => vec2Ok o
  | .fmax _ o => vec2Ok o
  | .fabs _ fmt o => vec1Ok fmt o
  | .fneg _ fmt o => vec1Ok fmt o
  | .cvtS32H16 _ o => o.d.val % 2 == 0
  | .cvtH16S32 _ o => o.a.val % 2 == 0
  | .cvtF8S32 _ o => o.a.val % 2 == 0
  | .cvtF8H16 _ _ => true
  | .cvtH16F8 _ _ => true
  | .cvtS32I32 _ o => vec1Ok .s32 o
  | .cvtI32S32 _ o => vec1Ok .s32 o
  | .exp2 _ fmt o => vec1Ok fmt o
  | .log2 _ fmt o => vec1Ok fmt o
  | .rcp _ fmt o => vec1Ok fmt o
  | .rsq _ fmt o => vec1Ok fmt o
  | .sin _ fmt o => vec1Ok fmt o
  | .cos _ fmt o => vec1Ok fmt o
  | .kcg _ _ d a b => d.val % 4 == 0 && a.val % 4 == 0 && b.val % 4 == 0
  | .mld _ _ fmt _ _ _ c e => fmt == .b4 || fmt == .b8 || (c.val == 0 && e.val == 0)
  | .mma _ _ pair _ lean va vs _ => mmaOk pair lean va.val vs.val
  | .pclr _ _ _ => true
  | .pacc _ _ fmt _ a => evenFor fmt a.val
  | .padd _ _ _ _ => true
  | .pld _ _ => true
  | .pst _ _ => true
  | .paddm _ _ => true
  | .pext _ _ => true
  | .pins _ _ => true
  | .pcvtH16 _ _ _ _ => true
  | .pcvtF8 _ _ _ _ => true
  | .pcvtB8 _ _ _ _ _ => true
  | .ld _ o => o.d.val % szRegs o.sz == 0
  | .st _ o => o.d.val % szRegs o.sz == 0 && stSz o.sz
  | .uldc _ _ x64 _ d _ _ => !x64 || d.val % 2 == 0
  | .dsync _ _ => true
  | .nsync _ _ => true
  | .atomAdd _ o => atomOk o
  | .atomSmin _ o => atomOk o
  | .atomSmax _ o => atomOk o
  | .atomUmin _ o => atomOk o
  | .atomUmax _ o => atomOk o
  | .atomAnd _ o => atomOk o
  | .atomOr _ o => atomOk o
  | .atomXor _ o => atomOk o
  | .atomXchg _ o => atomOk o
  | .atomCas _ o c => atomOk o && (!o.x64 || c.val % 2 == 0)
  | .atomFaddS32 _ o => !o.x64
  | .barg _ _ => true
  | .barc _ _ _ => true
  | .bkpt _ _ => true
  | .digest _ _ _ => true
  | .stepLaunch => true
  | .kernelLaunch => true
  | .windowEnd => true
  | .planInstanceStart _ _ k eccs => decide (k < 2 ^ 32) && unitErrsOk (2 ^ 15) eccs
  | .planInstanceComplete _ _ k => decide (k < 2 ^ 32)
  | .hbmAccessStart _ _ => true
  | .hbmReadReturn _ _ _ => true
  | .hbmLate _ _ => true
  | .hbmRefreshWindow _ _ => true
  | .executionEnd => true
  | .stepEnd => true
  | .freezeStart => true
  | .freezeEnd => true
  | .leanSampleCheck _ => true
  | .stepBoundary => true
  | .openSession _ _ => true
  | .appendPrompt _ _ => true
  | .generate _ => true
  | .park _ => true
  | .unpark _ _ => true
  | .closeSession _ => true
  | .loadImage _ _ => true
  | .imageLoadDone img _ => imageOk img
  | .unloadImage _ => true
  | .imageUnloaded => true
  | .runKernel _ _ errs => hbmErrsOk errs
  | .runKernelLaunch _ errs => hbmErrsOk errs
  | .saveState _ => true
  | .restoreState _ _ => true
  | .fence _ => true
  | .stageEpoch _ _ => true
  | .stageDone _ => true
  | .switchEpoch _ => true
  | .readLedger _ _ => true
  | .hostTransferStart => true
  | .parkSaveDone _ errs => hbmErrsOk errs
  | .unparkReadDone _ rows => rows.all fun r => decide (r.1 < 2 ^ 32)
  | .spillStreamStart => true
  | .preempt => true
  | .preemptSaveDone errs => hbmErrsOk errs
  | .executionResume => true
  | .hello _ f => frameOk f
  | .keepalive _ f => frameOk f
  | .ack _ f => frameOk f
  | .partialSum _ f errs => frameOk f && unitErrsOk (2 ^ 14) errs
  | .ledger _ f => frameOk f
  | .verdict _ f => frameOk f
  | .regionReloadDone _ => true
  | .launch _ f => frameOk f
  | .committed _ f => frameOk f
  | .hold _ f => frameOk f
  | .loss _ f => frameOk f
  | .form _ f => frameOk f
  | .formed _ f => frameOk f
  | .staged _ f => frameOk f
  | .switch _ f => frameOk f
  | .rejoin _ f => frameOk f
  | .join _ f => frameOk f
  | .twin _ f => frameOk f
  | .lockstepHalt => true
  | .linkLost _ f => frameOk f
  | .linkLostTimeout _ => true
  | .ackTimer _ => true
  | .retryTimeout _ => true
  | .keepaliveTimer _ => true
  | .silenceTimeout _ => true
  | .pcsDown _ => true
  | .pcsUp _ corr => decide (corr < 2 ^ 32)
  | .syncOffsetTimeout _ => true
  | .handshakeRetry _ => true
  | .rejoinTimeout => true
  | .reductionDeadline slot unit => decide (slot < 2 ^ 16) && decide (unit < 2 ^ 32)
  | .azlStop => true
  | .ptpMessage _ m => decide (m.domain < 256) && decide (m.seq < 2 ^ 16) && decide (m.time < 2 ^ 64)
  | .ptpSendTimer _ _ => true
  | .ppsInEdge => true
  | .measurementTimeout => true
  | .ppsOutRise => true
  | .ppsOutFall => true
  | .refLost => true
  | .refRestored => true
  | .thermalPeriod => true
  | .sensorRefresh temps => temps.length == 23
  | .sensorFail _ => true
  | .thermtrip _ => true
  | .leanWindowEnd vmtxMv => decide (vmtxMv < 2 ^ 16)
  | .leanEnWrite _ => true
  | .quarantineWindow => true
  | .ldgQuarantine _ => true
  | .frameBoundary => true
  | .featureWrite _ _ _ _ => true
  | .classifierPublish => true
  | .fclWdataWrite _ => true
  | .fclWdataRead => true
  | .sampleRecord _ => true
  | .fadeDone _ _ => true
  | .firSwap _ => true
  | .rsSwap _ => true
  | .rsCdataAccess _ _ => true
  | .weirCrossing _ _ => true
  | .qualChange _ => true
  | .blankingEnd _ => true
  | .avddFail _ => true
  | .programApply _ => true
  | .programEdge _ => true
  | .pgClear _ => true
  | .pgSwTrip _ => true
  | .pgCommit _ => true
  | .pgEnable _ => true
  | .doorbell _ _ => true
  | .descriptorFetch _ => true
  | .descriptorReadDone _ _ => true
  | .cmqEnable _ _ => true
  | .evqEnable _ _ => true
  | .evqHeadWrite _ _ => true
  | .eventRecordWrite _ => true
  | .coalesceTimer _ => true
  | .hifResume _ => true
  | .hifDiscard _ => true
  | .heldRecordsFlush => true
  | .functionLevelReset _ _ => true
  | .perstN => true
  | .linkUp speed width => decide (1 ≤ speed) && decide (speed ≤ 5) && [1, 2, 4, 8, 16].contains width
  | .configRequest q => cfgOk q
  | .unsupportedRequest off _ => decide (off < bar0Size)
  | .unmappedAccess off _ => decide (off < bar0Size)
  | .bar2Read off len errs => decide (off + len ≤ 2 ^ 37) && hbmErrsOk errs
  | .bar2Write off data => decide (off + data.length ≤ 2 ^ 37)
  | .bar2Open => true
  | .bar2Close => true
  | .coldReset _ => true
  | .supplyDrop => true
  | .pllLock => true
  | .pstLoadDone => true
  | .levelGuard => true
  | .pcieTrainingStart => true
  | .firmwareBoot => true
  | .levelNarrow clusters routers => upTo 144 clusters && upTo 144 routers
  | .levelFull stackOk portOk => decide (stackOk < 2 ^ 6) && decide (portOk < 2 ^ 8)
  | .firmwareRestarted => true
  | .glbWarmReset _ => true
  | .glbColdReset _ => true
  | .info _ => true
  | .flashRead _ => true
  | .flashProgram _ => true
  | .selectSlot _ => true
  | .mboxDone _ => true
  | .pstWrite _ _ => true
  | .pstWriteDone _ _ => true
  | .gctCountRead _ _ off => decide (off < bar0Size)
  | .softReset page => pageAligned page
  | .freeze page _ => pageAligned page
  | .evtset page _ => pageAligned page
  | .unlockStart => true
  | .nonceReady => true
  | .unlockSubmit => true
  | .unlockCheckDone => true
  | .dbgLock => true
  | .haltNow => true
  | .haltAtCount => true
  | .dbgResume => true
  | .resumeAtCount => true
  | .stepGo => true
  | .stepDone => true
  | .accGo _ => true
  | .rewind => true
  | .abandon => true
  | .dbgRegUpdate _ off _ => decide (off < bar0Size)
  | .extest _ => true
  | .idcode => true
  | .samplePreload _ => true
  | .clamp => true
  | .highz => true
  | .bypass code => !(([0x00, 0x01, 0x02, 0x03, 0x04, 0x10] : List Nat).contains code.toNat)
  | .trstN _ => true
  | .registerWrite _ off wide v => decide (off < bar0Size) && (wide || decide (v.toNat < 2 ^ 32))
  | .converterSample _ _ => true
  | .avddOk _ => true
  | .powerGood => true
  | .vmtxReached => true
  | .restoreDone errs => hbmErrsOk errs
  | .stateCopyDone _ errs => hbmErrsOk errs
  | .fcsErr _ _ => true
  | .discardedFrame _ => true
  | .dieToDieTrained e => decide (e < 2 ^ 32)
  | .ringEn _ _ => true

end Sys2Proof
end

