-- ==== Sys2Proof/Safety.lean ====
section
/-!
DEFINITION. The terms the statements use: what a group reads, when its instruction may issue, how an issue shows, and the
canonical form of a state.
-/
namespace Sys2Proof.Machine

/-- The cluster of a site. -/
def siteCl (s : State) (st : Site) : Cluster := clOf s st.cl.val

/-- A lane register of the site's group (02 R76). -/
def laneVal (s : State) (st : Site) (r l : Nat) : Word := rdLane (siteCl s st) st.g.val r l

/-- A uniform register of the site's group (02 R76, R78). -/
def uniVal (s : State) (st : Site) (r : Nat) : Word := rdUni (siteCl s st) st.g.val r

/-- A predicate of the site's group in a lane (02 R76, R78). -/
def predVal (s : State) (st : Site) (p l : Nat) : Bool := (rdPred (siteCl s st) st.g.val p).getLsbD l

/-- The lanes that take part under a guard, ascending (03 R144, R145). -/
def lanesOf (s : State) (st : Site) (gd : Guard) : List Nat := maskLanes (guardLanes (siteCl s st) st.g.val gd)

/-- Field B of a lane instruction: a register, a uniform register, or IMM28 sign-extended (03 R157, R158). -/
def bVal (s : State) (st : Site) (b : LaneB) (l : Nat) : Word :=
  match b with
  | .reg r => laneVal s st r.val l
  | .uni r => uniVal s st r.val
  | .imm v => v.signExtend 32

/-- Field B of a uniform instruction (03 R158, R159). -/
def ubVal (s : State) (st : Site) (b : UniB) : Word :=
  match b with
  | .reg r => uniVal s st r.val
  | .imm v => v.signExtend 32

/-- The instruction stands at its slot with its word held, the die runs and no pre-emption drains, the registers it needs are
ready and read without an error, and its unit is in order (02 R86, R87, R98, 04 R211, 08 R452, 09 R455). -/
def AtIssue (s : State) (st : Site) (i : Instr) (rs : List RegId) (u : UnitUse) : Prop :=
  dieFrozen s = false ∧ s.sched.exec.draining = false ∧ atSlot (siteCl s st) st (some i) = true
    ∧ regsReady (siteCl s st) st.g.val rs = true ∧ unitReady (siteCl s st) st.g.val u = true
    ∧ (grp (siteCl s st) st.g.val).regEcc = .clean

/-- The instruction issues: exec answers a state whose cluster has one flight more, of this group and as described. -/
def Issues (i : Instr) (s : State) (st : Site) (P : Flight → Prop) : Prop :=
  ∃ t f, exec i s = .next t ∧ (siteCl t st).flights = (siteCl s st).flights ++ [f] ∧ f.g = st.g.val ∧ P f

/-- The instruction issues with results known at issue, ready `lat` cycles later. -/
def Sends (i : Instr) (s : State) (st : Site) (lat : Nat) (dsts : List RegId) (ws : List (Dst × Word)) : Prop :=
  Issues i s st fun f =>
    f.started = true ∧ f.readyAt = (siteCl s st).kcyc + lat ∧ f.dsts = dsts ∧ f.writes = ws

/-- The instruction issues and waits for its unit with this work. -/
def Waits (i : Instr) (s : State) (st : Site) (u : UnitUse) (job : Job) (P : Flight → Prop) : Prop :=
  Issues i s st fun f => f.started = false ∧ f.use = u ∧ f.job = job ∧ P f

/-- The fifteen two-operand integer instructions and their results modulo 2^32 (03). -/
def aluTable : List ((Site → Alu → Instr) × (Word → Word → Word)) :=
  [(.iadd, fun a b => a + b),
   (.isub, fun a b => a - b),
   (.imul, fun a b => a * b),
   (.imulhu, fun a b => BitVec.ofNat 32 (a.toNat * b.toNat / 2 ^ 32)),
   (.imulhs, fun a b => BitVec.ofInt 32 (a.toInt * b.toInt / 2 ^ 32)),
   (.and, fun a b => a &&& b),
   (.or, fun a b => a ||| b),
   (.xor, fun a b => a ^^^ b),
   (.shl, fun a b => a <<< (b.toNat % 32)),
   (.shr, fun a b => a >>> (b.toNat % 32)),
   (.sra, fun a b => a.sshiftRight (b.toNat % 32)),
   (.imin, fun a b => if a.toInt ≤ b.toInt then a else b),
   (.imax, fun a b => if a.toInt ≤ b.toInt then b else a),
   (.umin, fun a b => if a.toNat ≤ b.toNat then a else b),
   (.umax, fun a b => if a.toNat ≤ b.toNat then b else a)]

/-- The number of bits set (03). -/
def bitCount (w : Word) : Word := BitVec.ofNat 32 ((List.range 32).countP fun i => w.getLsbD i)

/-- A comparison of two register values under a compare code (03 R164). -/
def cmpHolds (cc : Cmp) (a b : Word) : Bool :=
  match cc with
  | .eq => decide (a = b)
  | .ne => decide (a ≠ b)
  | .lt => decide (a.toInt < b.toInt)
  | .le => decide (a.toInt ≤ b.toInt)
  | .gt => decide (b.toInt < a.toInt)
  | .ge => decide (b.toInt ≤ a.toInt)
  | .ltu => decide (a.toNat < b.toNat)
  | .leu => decide (a.toNat ≤ b.toNat)
  | .gtu => decide (b.toNat < a.toNat)
  | .geu => decide (b.toNat ≤ a.toNat)

/-- What a special register reads in a lane: its low and its high word (03 R161, R162). -/
def specialVal (s : State) (st : Site) (code : SReg) (l : Nat) : Word × Word :=
  match code with
  | .laneId => (w32 l, 0)
  | .groupId => (w32 st.g.val, 0)
  | .nGroups => (w32 (siteCl s st).ngroups, 0)
  | .lCluster => (w32 ((siteCl s st).logical.getD 0), 0)
  | .nCluster => (w32 (mappedCount s), 0)
  | .kcyc => (w32 (siteCl s st).kcyc, 0)
  | .countLo => (w32 s.count, 0)
  | .countHi => (w32 (s.count / 2 ^ 32), 0)
  | .count => (w32 s.count, w32 (s.count / 2 ^ 32))

/-- Element h of a lane of a vector operand: a register of the pair, or a half (02 R113). -/
def elemOf (s : State) (st : Site) (fmt : VFmt) (r h l : Nat) : Nat :=
  match fmt with
  | .s32 => (laneVal s st (r + h) l).toNat
  | .h16 => (laneVal s st r l).toNat / 2 ^ (16 * h) % 2 ^ 16

/-- The writes of two elements to each of some lanes (02 R113). -/
def elemWrites (ls : List Nat) (fmt : VFmt) (d : Nat) (f : Nat → Nat → Nat) : List (Dst × Word) :=
  ls.flatMap fun l =>
    match fmt with
    | .s32 => [(.lane d l, w32 (f 0 l)), (.lane (d + 1) l, w32 (f 1 l))]
    | .h16 => [(.lane d l, w32 (f 0 l % 2 ^ 16 + f 1 l % 2 ^ 16 * 2 ^ 16))]

/-- The vector instructions of two sources and what they do to an element (01 R55, 03 R167). -/
def vec2Table : List ((Site → Vec2 → Instr) × (FpFmt → Nat → Nat → Nat)) :=
  [(.fadd, fpAdd), (.fsub, fpSub), (.fmul, fpMul), (.fmin, fpMin), (.fmax, fpMax)]

/-- The vector instructions of one source (03 R168). -/
def vec1Table : List ((Site → VFmt → Vec1 → Instr) × (FpFmt → Nat → Nat)) := [(.fabs, fpAbs), (.fneg, fpNeg)]

/-- The conversions between register formats: instruction, element function, source and result format (03 R169 to R171). -/
def cvtTable : List ((Site → Vec1 → Instr) × (Nat → Nat) × VFmt × VFmt) :=
  [(.cvtS32H16, cvtS32H16, .h16, .s32), (.cvtH16S32, cvtH16S32, .s32, .h16), (.cvtS32I32, cvtS32I32, .s32, .s32),
   (.cvtI32S32, cvtI32S32, .s32, .s32)]

/-- The special functions and what they do to a binary32 element (01 R59 to R63, 03 R172). -/
def sfuTable : List ((Site → VFmt → Vec1 → Instr) × (Nat → Nat)) :=
  [(.exp2, sfuExp2), (.log2, sfuLog2), (.rcp, sfuRcp), (.rsq, sfuRsqrt), (.sin, sfuSinCos false), (.cos, sfuSinCos true)]

/-- The lane addresses of a base register plus an offset, modulo 2^32 (03 R188). -/
def addrsOf (s : State) (st : Site) (gd : Guard) (a : Nat) (off : Word) : List (Nat × Nat) :=
  (lanesOf s st gd).map fun l => (l, (laneVal s st a l + off).toNat)

/-- Every lane's access of n bytes lies in the scratchpad and is aligned (02 R91). -/
def AccessOk (s : State) (st : Site) (gd : Guard) (a : Nat) (off : Word) (n al : Nat) : Prop :=
  ∀ p ∈ addrsOf s st gd a off, p.2 + n ≤ 2 ^ 20 ∧ p.2 % al = 0

/-- The number in a run of lane registers, lowest first. -/
def runVal (s : State) (st : Site) (r k l : Nat) : Nat := sumN ((List.range k).map fun i => (laneVal s st (r + i) l).toNat * 2 ^ (32 * i))

/-- The atomics of one operand (03 R195). -/
def atomTable : List ((Site → AtomOp → Instr) × AtomFn) :=
  [(.atomAdd, .add), (.atomSmin, .smin), (.atomSmax, .smax), (.atomUmin, .umin), (.atomUmax, .umax), (.atomAnd, .and),
   (.atomOr, .or), (.atomXor, .xor), (.atomXchg, .xchg), (.atomFaddS32, .fadd)]

/-- The Peat transfers: instruction, work, and the bytes and alignment of one lane at the wire width W (03 R183, R184). -/
def peatMemTable : List ((Site → PeatMem → Instr) × (Bool → Job) × (Nat → Nat × Nat)) :=
  [(.pld, .pld, fun _ => (16, 16)), (.pst, .pst, fun _ => (16, 16)), (.paddm, .paddm, fun _ => (16, 16)),
   (.pext, .pext, fun w => (w / 8, if w = 48 then 2 else if w = 96 then 4 else w / 8)),
   (.pins, .pins, fun w => (w / 8, if w = 48 then 2 else if w = 96 then 4 else w / 8))]

/-- The slices of a stationary load: 40 columns, each mantissas and, for B4 and B8, scales (02 R108, 03 R175). -/
def slicesOf (s : State) (st : Site) (fmt : MFmt) (a b c e : Nat) : List (Nat × Nat) :=
  (List.range 40).flatMap fun i =>
    let mant := ((uniVal s st a + BitVec.ofNat 32 i * uniVal s st b).toNat, if fmt = .h16 then 32 else 64)
    let scale := (uniVal s st c + BitVec.ofNat 32 i * uniVal s st e).toNat
    match fmt with
    | .b4 => [mant, (scale, 4)]
    | .b8 => [mant, (scale, 2)]
    | .f8 => [mant]
    | .h16 => [mant]

/-- The group of a site. -/
def siteGrp (s : State) (st : Site) : Group := grp (siteCl s st) st.g.val

/-- The instruction issues, and its group goes on as the jump says: its word is consumed, its path follows (02 R80 to R85). -/
def GoesOn (i : Instr) (s : State) (st : Site) (j : Jump) (P : State → Prop) : Prop :=
  ∃ t, exec i s = .next t ∧ (siteGrp t st).held = none ∧ (siteGrp t st).pc = (advance (siteGrp s st) j).pc
    ∧ (siteGrp t st).active = (advance (siteGrp s st) j).active ∧ (siteGrp t st).exited = (advance (siteGrp s st) j).exited
    ∧ (siteGrp t st).stack = (advance (siteGrp s st) j).stack ∧ P t

/-- The instruction faults: exec answers a state whose cluster is faulted with this code at the group's address, its group where it
was and no flight added (02 R131, R132). -/
def FaultsWith (i : Instr) (s : State) (st : Site) (code : Nat) : Prop :=
  ∃ t, exec i s = .next t ∧ (siteCl t st).st = .faulted ∧ (siteCl t st).flt.code = code ∧ (siteCl t st).flt.group = st.g.val
    ∧ (siteCl t st).flt.pc = (siteGrp s st).pc ∧ siteGrp t st = siteGrp s st ∧ (siteCl t st).flights = (siteCl s st).flights

/-- The instruction faults as `FaultsWith` says, naming this lane and address. -/
def FaultsAt (i : Instr) (s : State) (st : Site) (code lane addr : Nat) : Prop :=
  ∃ t, exec i s = .next t ∧ (siteCl t st).st = .faulted ∧ (siteCl t st).flt.code = code ∧ (siteCl t st).flt.lane = lane
    ∧ (siteCl t st).flt.addr = addr ∧ siteGrp t st = siteGrp s st ∧ (siteCl t st).flights = (siteCl s st).flights

/-- The sum of exact products floored onto the grid of weight 2^G, modulo 2^128; an element that is none adds nothing (01 R30 to
R33, R40). -/
def sumProducts (g : Int) : List (Option (Int × Int)) → List (Option (Int × Int)) → Peat
  | some a :: as, some b :: bs => floorGrid (a.1 * b.1) (a.2 + b.2) g + sumProducts g as bs
  | _ :: as, _ :: bs => sumProducts g as bs
  | [], _ => 0
  | _, [] => 0

/-- A command has completed: its ring counts it no longer, and unless QUIET and OK hold it its completion record waits in the queue
with its tag, status and opcode, its index and its result (13 R607, R616). -/
def Completed (t : State) (c : CmdRef) (status w6 : Nat) : Prop :=
  (∀ x ∈ (ringOf t c.ring).out, ¬ (x.era = c.era ∧ x.idx = c.idx))
    ∧ ((c.quiet = true ∧ status = 0) ∨ ∃ r, (true, r) ∈ (evqOf t c.q).waiting
      ∧ nthN r 4 = (c.tag % 2 ^ 16 + status * 2 ^ 16 + c.op * 2 ^ 24) % 2 ^ 32 ∧ nthN r 5 = c.idx % 2 ^ 32 ∧ nthN r 6 = w6 % 2 ^ 32)

/-- A descriptor of a ring whose turn has come is this command, with the state `s1` in which it is under way (13 R603). -/
def Turn (s : State) (r op : Nat) (s1 : State) (c : Cmd) : Prop :=
  popDesc s r (· == op) = some (s1, c) ∧ opcodeOf c.w = op ∧ c.ref.ring = r ∧ c.ref.remote = false

/-- The command is processed: exec answers what follows a state of which `P` holds, when the boundary looks again at what waits
and the descriptors behind it whose opcode is unknown complete (13 R603, R614, 08 R448). -/
def Handles (i : Instr) (s : State) (r : Nat) (P : State → Prop) : Prop :=
  ∃ t, exec i s = .next (skipBad 64 (putGener t { t.gener with again := true }) r) ∧ P t

/-- The commands that come as descriptors, each with the outcome of its accesses to host memory where it has one, and their opcodes
(13 R608). -/
def descTable : List ((Fin 128 → Bool → Instr) × Nat) :=
  [(fun r ok => .loadImage r ok, 0x01), (fun r _ => .unloadImage r, 0x02), (fun r ok => .openSession r ok, 0x10),
   (fun r ok => .appendPrompt r ok, 0x11), (fun r _ => .generate r, 0x12), (fun r _ => .park r, 0x13),
   (fun r ok => .unpark r ok, 0x14), (fun r _ => .closeSession r, 0x15), (fun r ok => .runKernel r ok, 0x20),
   (fun r _ => .saveState r, 0x21), (fun r ok => .restoreState r ok, 0x22), (fun r _ => .fence r, 0x30),
   (fun r ok => .stageEpoch r ok, 0x31), (fun r _ => .switchEpoch r, 0x32), (fun r ok => .readLedger r ok, 0x33)]

/-- The session commands (06 R319). -/
def sessTable : List ((Fin 128 → Bool → Instr) × Nat) :=
  [(fun r ok => .openSession r ok, 0x10), (fun r ok => .appendPrompt r ok, 0x11), (fun r _ => .generate r, 0x12),
   (fun r _ => .park r, 0x13), (fun r ok => .unpark r ok, 0x14), (fun r _ => .closeSession r, 0x15)]

/-- The open block of an OPEN_SESSION, padded to 64 bytes, and a field of it (13 R609). -/
def openBlock (s : State) (c : Cmd) : List Byte := memRange s.host c.addr c.len ++ List.replicate (64 - c.len) 0
def openField (s : State) (c : Cmd) (o n : Nat) : Nat := leNat (((openBlock s c).drop o).take n)

/-- The link accepts a frame: its port is up and its peer accepted, and the frame has the package's EtherType, is addressed to this
station, is of this kind and version, the next in order, and of a kind that the port carries; `s2` is the state in which it is
noted (07 R367, R368, R372, R373, R380). -/
def Accepted (s : State) (k kind : Nat) (f : Frame) (s2 : State) : Prop :=
  portUp s k = true ∧ frameFor s k f = true ∧ hsOf s k = 2 ∧ f.kind = kind ∧ f.version = 1
    ∧ let s1 := takeAck (noteRx s k f) k f
      f.seq = ((portOf s1 k).rxSeq + 1) % 2 ^ 16
      ∧ s2 = modPort s1 k (fun p => { p with rxSeq := f.seq, ackAt := some (p.ackAt.getD (s.count + 1250)) })
      ∧ kindAllowed s k kind = true

/-- The frames that carry a sequence number, and their kinds (07 R368). -/
def seqTable : List ((Fin 8 → Frame → Instr) × Nat) :=
  [(.partialSum, 0x10), (.ledger, 0x11), (.verdict, 0x12), (.launch, 0x13), (.committed, 0x14), (.hold, 0x15), (.loss, 0x16),
   (.form, 0x17), (.formed, 0x18), (.staged, 0x19), (.switch, 0x1A), (.rejoin, 0x1B), (.join, 0x1C), (.twin, 0x1D),
   (.linkLost, 0x1E)]

/-- A counter register of port k counts one more. -/
def CountsPort (s t : State) (reg k : Nat) : Prop := rdN t (onPage reg k) = min (rdN s (onPage reg k) + 1) (2 ^ 32 - 1)

/-- The state keeps its registers and every byte memory in canonical form. -/
def Canonical (s : State) : Prop :=
  smWf coldReg s.regs = true ∧ Memory.wf s.hbm = true ∧ Memory.wf s.host = true ∧ Memory.wf s.boot.flash = true

end Sys2Proof.Machine
end

