-- ==== Sys2Proof/Certificates/Slice0/Obligations.lean ====
section
/-!
DEFINITION. The statements for the provers.
-/
open Sys2Proof Sys2Proof.Machine

/-- For every command c and state s: step of s with c at the front of its queue is exec c on s with the queue's rest. That one step takes one command, and that the queue is first in, first out, is the model's form (log 1, log 2). -/
def Obligations.StepRunsFrontCommand : Prop :=
  ∀ (s : State) (c : Instr) (rest : List Instr), s.pending = c :: rest → step s = exec c (putPending s rest)

/-- For every command that has an instruction word and is well formed, at every operand value the encoding admits, decoding its word at its site gives the command: no bit of an encoding is dropped. -/
def Obligations.EncodedWordDecodes : Prop :=
  ∀ (i : Instr) (w : Nat) (st : Site), wellFormed i = true → encodeWord i = some w → siteOf i = some st →
    decodeWord st w = some i

/-- For every 64-bit word and site: when the word decodes to an instruction, that instruction is well formed, stands at that site and its own word is this word, so no two words name one instruction. -/
def Obligations.DecodedWordHasOneMeaning : Prop :=
  ∀ (i : Instr) (w : Nat) (st : Site), w < 2 ^ 64 → decodeWord st w = some i →
    wellFormed i = true ∧ siteOf i = some st ∧ encodeWord i = some w

/-- The integer instructions issue with their results (R138, R144, R157, R158, 03_instructions.md, 02_cluster.md, R159, R160). -/
def Obligations.IntegerResults : Prop :=
   (∀ (s : State) (st : Site) (gd : Guard) (d a : Fin 256) (b : LaneB), ∀ p ∈ aluTable,
      AtIssue s st (p.1 st (.lane gd d a b)) (guardSrc gd ++ ([.v a.val] ++ laneBSrc b) ++ [.v d.val]) .free →
      Sends (p.1 st (.lane gd d a b)) s st 8 [.v d.val]
        ((lanesOf s st gd).map fun l => (.lane d.val l, p.2 (laneVal s st a.val l) (bVal s st b l))))
   ∧ (∀ (s : State) (st : Site) (d a : Fin 64) (b : UniB), ∀ p ∈ aluTable,
      AtIssue s st (p.1 st (.uni d a b)) ([.u a.val] ++ uniBSrc b ++ [.u d.val]) .free →
      Sends (p.1 st (.uni d a b)) s st 8 [.u d.val] [(.uni d.val, p.2 (uniVal s st a.val) (ubVal s st b))])
   ∧ (∀ (s : State) (st : Site) (gd : Guard) (d a c : Fin 256) (b : RegB) (q : Fin 8) (im : Bool) (ud ua : Fin 64),
      (AtIssue s st (.imad st gd d a b c) (guardSrc gd ++ ([.v a.val, .v c.val] ++ laneBSrc (regBLane b)) ++ [.v d.val]) .free →
        Sends (.imad st gd d a b c) s st 8 [.v d.val] ((lanesOf s st gd).map fun l =>
          (.lane d.val l, laneVal s st a.val l * bVal s st (regBLane b) l + laneVal s st c.val l)))
      ∧ (AtIssue s st (.sel st gd d a b q) (guardSrc gd ++ ([.v a.val, .p q.val] ++ laneBSrc (regBLane b)) ++ [.v d.val]) .free →
        Sends (.sel st gd d a b q) s st 8 [.v d.val] ((lanesOf s st gd).map fun l =>
          (.lane d.val l, if predVal s st q.val l then laneVal s st a.val l else bVal s st (regBLane b) l)))
      ∧ (AtIssue s st (.popc st (.lane gd im d a)) (guardSrc gd ++ [.v a.val] ++ [.v d.val]) .free →
        Sends (.popc st (.lane gd im d a)) s st 8 [.v d.val] ((lanesOf s st gd).map fun l =>
          (.lane d.val l, bitCount (laneVal s st a.val l))))
      ∧ (AtIssue s st (.popc st (.uni im ud ua)) ([.u ua.val] ++ [.u ud.val]) .free →
        Sends (.popc st (.uni im ud ua)) s st 8 [.u ud.val] [(.uni ud.val, bitCount (uniVal s st ua.val))])
      ∧ (AtIssue s st (.clz st (.lane gd im d a)) (guardSrc gd ++ [.v a.val] ++ [.v d.val]) .free →
        Sends (.clz st (.lane gd im d a)) s st 8 [.v d.val] ((lanesOf s st gd).map fun l =>
          (.lane d.val l, (laneVal s st a.val l).clz)))
      ∧ (AtIssue s st (.clz st (.uni im ud ua)) ([.u ua.val] ++ [.u ud.val]) .free →
        Sends (.clz st (.uni im ud ua)) s st 8 [.u ud.val] [(.uni ud.val, (uniVal s st ua.val).clz)]))

/-- When they may issue: MOV sends vA, MOVI its immediate and BCAST uA to each lane under the guard; UMOVI sends its immediate to uD; LANERD sends one lane of vA to uD, on a path without lanes too; S2R and S2U send the special register, COUNT to a register pair; all ready 8 cycles later. When they may issue: ISETP sends the integer comparison and PLOP its logic, ready 8 cycles later, and FSETP the ordered comparison of the selected elements, ready 16 cycles later, to the predicate of each lane under the guard and of no other lane. -/
def Obligations.MoveAndPredicateResults : Prop :=
   (∀ (s : State) (st : Site) (gd : Guard) (d a : Fin 256) (ud ua : Fin 64) (imm : Word) (lane : Fin 32) (code : SReg),
      let ls := lanesOf s st gd
      let two : Bool := code == .count
      (AtIssue s st (.mov st gd d a) (guardSrc gd ++ [.v a.val] ++ [.v d.val]) .free →
        Sends (.mov st gd d a) s st 8 [.v d.val] (ls.map fun l => (.lane d.val l, laneVal s st a.val l)))
      ∧ (AtIssue s st (.movi st gd d imm) (guardSrc gd ++ [] ++ [.v d.val]) .free →
        Sends (.movi st gd d imm) s st 8 [.v d.val] (ls.map fun l => (.lane d.val l, imm)))
      ∧ (AtIssue s st (.umovi st ud imm) [.u ud.val] .free → Sends (.umovi st ud imm) s st 8 [.u ud.val] [(.uni ud.val, imm)])
      ∧ (AtIssue s st (.bcast st gd d ua) (guardSrc gd ++ [.u ua.val] ++ [.v d.val]) .free →
        Sends (.bcast st gd d ua) s st 8 [.v d.val] (ls.map fun l => (.lane d.val l, uniVal s st ua.val)))
      ∧ (AtIssue s st (.laneRd st ud a lane) ([.v a.val] ++ [.u ud.val]) .free →
        Sends (.laneRd st ud a lane) s st 8 [.u ud.val] [(.uni ud.val, laneVal s st a.val lane.val)])
      ∧ (AtIssue s st (.s2r st gd d code) (guardSrc gd ++ if two then vRun d.val 2 else [.v d.val]) .free →
        Sends (.s2r st gd d code) s st 8 (if two then vRun d.val 2 else [.v d.val]) (ls.flatMap fun l =>
          (.lane d.val l, (specialVal s st code l).1) :: if two then [(.lane (d.val + 1) l, (specialVal s st code l).2)] else []))
      ∧ (AtIssue s st (.s2u st ud code) (if two then [.u ud.val, .u (ud.val + 1)] else [.u ud.val]) .free →
        Sends (.s2u st ud code) s st 8 (if two then [.u ud.val, .u (ud.val + 1)] else [.u ud.val])
          ((.uni ud.val, (specialVal s st code 0).1) :: if two then [(.uni (ud.val + 1), (specialVal s st code 0).2)] else [])))
   ∧ (∀ (s : State) (st : Site) (gd : Guard) (cc : Cmp) (fmt : VFmt) (e : Fin 2) (op : POp) (d pa pb : Fin 8) (a b : Fin 256) (lb : LaneB),
      let ls := lanesOf s st gd
      (AtIssue s st (.isetp st gd cc d a lb) (guardSrc gd ++ ([.v a.val] ++ laneBSrc lb) ++ [.p d.val]) .free →
        Sends (.isetp st gd cc d a lb) s st 8 [.p d.val]
          (ls.map fun l => (.pred d.val l, w32 (b2n (cmpHolds cc (laneVal s st a.val l) (bVal s st lb l))))))
      ∧ (AtIssue s st (.fsetp st gd cc fmt e d a b)
          (guardSrc gd ++ (match fmt with | .s32 => [.v (a.val + e.val), .v (b.val + e.val)] | .h16 => [.v a.val, .v b.val]) ++ [.p d.val])
          .free →
        Sends (.fsetp st gd cc fmt e d a b) s st 16 [.p d.val]
          (ls.map fun l => (.pred d.val l, w32 (b2n (cmpFp (vfp fmt) cc (elemOf s st fmt a.val e.val l) (elemOf s st fmt b.val e.val l))))))
      ∧ (AtIssue s st (.plop st gd op d pa pb) (guardSrc gd ++ [.p pa.val, .p pb.val] ++ [.p d.val]) .free →
        Sends (.plop st gd op d pa pb) s st 8 [.p d.val] (ls.map fun l =>
          (.pred d.val l, w32 (b2n (match op with
            | .and => predVal s st pa.val l && predVal s st pb.val l
            | .or => predVal s st pa.val l || predVal s st pb.val l
            | .xor => predVal s st pa.val l != predVal s st pb.val l
            | .andn => predVal s st pa.val l && !predVal s st pb.val l))))))

/-- When they may issue, FADD, FSUB, FMUL, FMIN, FMAX, FABS, FNEG and FFMA send their operation on both elements of each lane under the guard, ready 16 cycles later. -/
def Obligations.VectorResults : Prop :=
  ∀ (s : State) (st : Site) (o : Vec2) (c : Fin 256) (fmt : VFmt) (v : Vec1),
    let el := fun r h l => elemOf s st o.fmt r h l
    (∀ p ∈ vec2Table, AtIssue s st (p.1 st o) (guardSrc o.gd ++ (vecRun o.fmt o.a.val ++ vecRun o.fmt o.b.val) ++ vecRun o.fmt o.d.val) .free →
      Sends (p.1 st o) s st 16 (vecRun o.fmt o.d.val) (elemWrites (lanesOf s st o.gd) o.fmt o.d.val fun h l =>
        p.2 (vfp o.fmt) (el o.a.val h l) (el o.b.val h l)))
    ∧ (∀ p ∈ vec1Table, AtIssue s st (p.1 st fmt v) (guardSrc v.gd ++ vecRun fmt v.a.val ++ vecRun fmt v.d.val) .free →
      Sends (p.1 st fmt v) s st 16 (vecRun fmt v.d.val) (elemWrites (lanesOf s st v.gd) fmt v.d.val fun h l =>
        p.2 (vfp fmt) (elemOf s st fmt v.a.val h l)))
    ∧ (AtIssue s st (.ffma st o c) (guardSrc o.gd ++ (vecRun o.fmt o.a.val ++ vecRun o.fmt o.b.val ++ vecRun o.fmt c.val)
        ++ vecRun o.fmt o.d.val) .free →
      Sends (.ffma st o c) s st 16 (vecRun o.fmt o.d.val) (elemWrites (lanesOf s st o.gd) o.fmt o.d.val fun h l =>
        fpFma (vfp o.fmt) (el o.a.val h l) (el o.b.val h l) (el c.val h l)))

/-- When they may issue, the seven conversions send the converted elements, ready 16 cycles later, and the six special functions and KCG wait for the SFU with their results, for each lane under the guard. -/
def Obligations.ConversionAndSpecialResults : Prop :=
  ∀ (s : State) (st : Site) (v : Vec1) (fmt : VFmt) (gd : Guard) (d a b : Fin 256),
    let ls := lanesOf s st v.gd
    (∀ p ∈ cvtTable, AtIssue s st (p.1 st v) (guardSrc v.gd ++ vecRun p.2.2.1 v.a.val ++ vecRun p.2.2.2 v.d.val) .free →
      Sends (p.1 st v) s st 16 (vecRun p.2.2.2 v.d.val)
        (elemWrites ls p.2.2.2 v.d.val fun h l => p.2.1 (elemOf s st p.2.2.1 v.a.val h l)))
    ∧ (AtIssue s st (.cvtF8S32 st v) (guardSrc v.gd ++ vecRun .s32 v.a.val ++ [.v v.d.val]) .free →
      Sends (.cvtF8S32 st v) s st 16 [.v v.d.val] (ls.map fun l => (.lane v.d.val l,
        w32 (cvtF8 s32Fmt (elemOf s st .s32 v.a.val 0 l) + cvtF8 s32Fmt (elemOf s st .s32 v.a.val 1 l) * 256))))
    ∧ (AtIssue s st (.cvtF8H16 st v) (guardSrc v.gd ++ vecRun .h16 v.a.val ++ [.v v.d.val]) .free →
      Sends (.cvtF8H16 st v) s st 16 [.v v.d.val] (ls.map fun l => (.lane v.d.val l,
        w32 (cvtF8 h16Fmt (elemOf s st .h16 v.a.val 0 l) + cvtF8 h16Fmt (elemOf s st .h16 v.a.val 1 l) * 256))))
    ∧ (AtIssue s st (.cvtH16F8 st v) (guardSrc v.gd ++ [.v v.a.val] ++ [.v v.d.val]) .free →
      Sends (.cvtH16F8 st v) s st 16 [.v v.d.val] (elemWrites ls .h16 v.d.val fun h l =>
        cvtH16F8 ((laneVal s st v.a.val l).toNat / 2 ^ (8 * h) % 2 ^ 8)))
    ∧ (∀ p ∈ sfuTable, AtIssue s st (p.1 st fmt v) (guardSrc v.gd ++ vecRun fmt v.a.val ++ vecRun fmt v.d.val) .sfu →
      Waits (p.1 st fmt v) s st .sfu .value fun f => f.writes = elemWrites ls fmt v.d.val fun h l =>
        (match fmt with | .s32 => p.2 | .h16 => sfuH16 p.2) (elemOf s st fmt v.a.val h l))
    ∧ (AtIssue s st (.kcg st gd d a b) (guardSrc gd ++ vRun a.val 4 ++ vRun b.val 4 ++ vRun d.val 4) .sfu →
      Waits (.kcg st gd d a b) s st .sfu .value fun f => f.writes = (lanesOf s st gd).flatMap fun l =>
        (List.range 4).map fun i => (.lane (d.val + i) l, w32
          ((kcg (BitVec.ofNat 128 (runVal s st a.val 4 l)) (BitVec.ofNat 128 (runVal s st b.val 4 l))).toNat / 2 ^ (32 * i))))

/-- With all 32 lanes taking part, or on a path without lanes, where no check applies: MLD with every slice in range and aligned to its size waits for the group port with the 40 column slices to read, and MMA with PB at most 2816 and the stationary buffer of its format waits for the matrix engine with the streamed registers of each lane and the Peat range of 1280 registers. -/
def Obligations.MatrixIssue : Prop :=
  ∀ (s : State) (st : Site) (gd : Guard) (fmt : MFmt) (buf : Fin 2) (a b c e : Fin 64) (pair : Pair) (lean : Bool) (va vs : Fin 256)
    (p : Fin 4096), let idle := (siteGrp s st).active = 0
    (idle ∨ guardLanes (siteCl s st) st.g.val gd = allLanes) →
    ((idle ∨ ∀ x ∈ slicesOf s st fmt a.val b.val c.val e.val, x.1 + x.2 ≤ 2 ^ 20 ∧ x.1 % x.2 = 0) →
      AtIssue s st (.mld st gd fmt buf a b c e)
        (guardSrc gd ++ [.u a.val, .u b.val] ++ (match fmt with | .b4 => [.u c.val, .u e.val] | .b8 => [.u c.val, .u e.val] | _ => [])) .gport →
      Waits (.mld st gd fmt buf a b c e) s st .gport (.mld fmt buf.val) fun f => f.reads = slicesOf s st fmt a.val b.val c.val e.val)
    ∧ ((idle ∨ p.val ≤ 2816 ∧ (nth (siteCl s st).sbufs buf.val {}).fmt = some (pairStat pair)) →
      AtIssue s st (.mma st gd pair buf lean va vs p)
        (guardSrc gd ++ vRun va.val (pairRun pair) ++ if pairScaled pair then [.v vs.val] else []) .mma →
      Waits (.mma st gd pair buf lean va vs p) s st .mma (.mma pair buf.val lean) fun f =>
        f.ranges = [(p.val, 1280)] ∧ f.frag = (List.range 32).map fun l =>
          ((List.range (pairRun pair)).map fun i => (laneVal s st (va.val + i) l).toNat)
            ++ [if pairScaled pair then (laneVal s st vs.val l).toNat else 0])

/-- With their Peat ranges inside the file (on a path without lanes no check applies) and, for transfers, every lane address in range and aligned: each Peat instruction waits for the Peat unit (transfers for the group port and the Peat unit together) with its register range and operands. -/
def Obligations.PeatIssue : Prop :=
  ∀ (s : State) (st : Site) (gd : Guard) (p : Fin 4096) (fmt : VFmt) (a d : Fin 256) (u : Fin 64) (o : PeatMem),
    let src := (uniVal s st u.val).toNat % 4096
    let idle := (siteGrp s st).active = 0
    (idle ∨ p.val + 32 ≤ 4096 →
      (AtIssue s st (.pclr st gd p) (guardSrc gd) .peat → Waits (.pclr st gd p) s st .peat .pclr fun f => f.ranges = [(p.val, 32)])
      ∧ (AtIssue s st (.pcvtH16 st gd d p) (guardSrc gd ++ [.v d.val]) .peat →
        Waits (.pcvtH16 st gd d p) s st .peat (.pcvtH16 d.val) fun f => f.ranges = [(p.val, 32)])
      ∧ (AtIssue s st (.pcvtF8 st gd d p) (guardSrc gd ++ [.v d.val]) .peat →
        Waits (.pcvtF8 st gd d p) s st .peat (.pcvtF8 d.val) fun f => f.ranges = [(p.val, 32)])
      ∧ (AtIssue s st (.pcvtB8 st gd d u p) (guardSrc gd ++ [.v d.val, .u u.val]) .peat →
        Waits (.pcvtB8 st gd d u p) s st .peat (.pcvtB8 d.val u.val) fun f => f.ranges = [(p.val, 32)])
      ∧ (idle ∨ src + 32 ≤ 4096 → AtIssue s st (.padd st gd p u) (guardSrc gd ++ [.u u.val]) .peat →
        Waits (.padd st gd p u) s st .peat (.padd src) fun f => f.ranges = [(p.val, 32), (src, 32)]))
    ∧ (idle ∨ p.val + 64 ≤ 4096 → AtIssue s st (.pacc st gd fmt p a) (guardSrc gd ++ vecRun fmt a.val) .peat →
      Waits (.pacc st gd fmt p a) s st .peat (.pacc fmt) fun f => f.ranges = [(p.val, 64)]
        ∧ f.vals = (List.range 32).flatMap fun l => [elemOf s st fmt a.val 0 l, elemOf s st fmt a.val 1 l])
    ∧ (∀ q ∈ peatMemTable, idle ∨ o.p.val + 32 ≤ 4096 →
      AccessOk s st o.gd o.a.val 0 (q.2.2 (siteCl s st).wBits).1 (q.2.2 (siteCl s st).wBits).2 →
      AtIssue s st (q.1 st o) (guardSrc o.gd ++ [.v o.a.val]) .both →
      Waits (q.1 st o) s st .both (q.2.1 o.t) fun f => f.ranges = [(o.p.val, 32)] ∧ f.addrs = addrsOf s st o.gd o.a.val 0)

/-- With every lane address in range and aligned: LD and ST at the base register plus IMM28 sign-extended modulo 2^32, and the eleven atomics at the base register, wait for the group port with the address of each lane under the guard and, for ST and the atomics, the values of the source registers. -/
def Obligations.MemoryIssue : Prop :=
  ∀ (s : State) (st : Site) (m : MemOp) (o : AtomOp) (c : Fin 256),
    let off := m.imm.signExtend 32
    let k := if o.x64 then 2 else 1
    (AccessOk s st m.gd m.a.val off (szBytes m.sz) (szBytes m.sz) →
      (AtIssue s st (.ld st m) (guardSrc m.gd ++ [.v m.a.val] ++ vRun m.d.val (szRegs m.sz)) .gport →
        Waits (.ld st m) s st .gport (.ld m.sz m.t m.d.val) fun f => f.addrs = addrsOf s st m.gd m.a.val off)
      ∧ (AtIssue s st (.st st m) (guardSrc m.gd ++ [.v m.a.val] ++ vRun m.d.val (szRegs m.sz)) .gport →
        Waits (.st st m) s st .gport (.st m.sz m.t) fun f => f.addrs = addrsOf s st m.gd m.a.val off
          ∧ f.vals = (lanesOf s st m.gd).map fun l => runVal s st m.d.val (szRegs m.sz) l % 2 ^ (8 * szBytes m.sz)))
    ∧ (AccessOk s st o.gd o.a.val 0 (4 * k) (4 * k) →
      (∀ p ∈ atomTable, AtIssue s st (p.1 st o) (guardSrc o.gd ++ [.v o.a.val] ++ vRun o.b.val k ++ vRun o.d.val k) .gport →
        Waits (p.1 st o) s st .gport (.atom p.2 o.x64 o.t o.d.val) fun f => f.addrs = addrsOf s st o.gd o.a.val 0
          ∧ f.vals = (lanesOf s st o.gd).map fun l => runVal s st o.b.val k l)
      ∧ (AtIssue s st (.atomCas st o c) (guardSrc o.gd ++ [.v o.a.val] ++ vRun o.b.val k ++ vRun c.val k ++ vRun o.d.val k) .gport →
        Waits (.atomCas st o c) s st .gport (.atom .cas o.x64 o.t o.d.val) fun f => f.addrs = addrsOf s st o.gd o.a.val 0
          ∧ f.vals = (lanesOf s st o.gd).map fun l => runVal s st o.b.val k l + runVal s st c.val k l * 2 ^ 64))

/-- When they may issue: NOP goes to the next word; BRA goes to TARGET; BRA.P goes to TARGET when all active lanes take it, to the next word when none does (or no lane is active) and otherwise diverges; BRA.T always diverges; LOOP with uA at least 2 decrements uA and goes to TARGET, otherwise clears uA and goes to the next word; EXIT removes the lanes under its guard. The word is consumed and the path, the exited lanes and the divergence stack are those of that move, with finished paths left (R80, R84, R85). -/
def Obligations.ControlGoesOn : Prop :=
  ∀ (s : State) (st : Site) (gd : Guard) (target reconv : Nat) (a : Fin 64),
    let act := (siteGrp s st).active
    let taken := guardLanes (siteCl s st) st.g.val gd
    let full := 16 ≤ (siteGrp s st).stack.length
    (AtIssue s st (.nop st gd) (guardSrc gd) .free → GoesOn (.nop st gd) s st .next fun _ => True)
    ∧ (AtIssue s st (.bra st target) [] .free → GoesOn (.bra st target) s st (.goto target) fun _ => True)
    ∧ (AtIssue s st (.braP st gd target reconv) (guardSrc gd) .free →
      (taken = 0 → GoesOn (.braP st gd target reconv) s st .next fun _ => True)
      ∧ (taken ≠ 0 → taken = act → GoesOn (.braP st gd target reconv) s st (.goto target) fun _ => True)
      ∧ (taken ≠ 0 → taken ≠ act → ¬ full →
        GoesOn (.braP st gd target reconv) s st (.diverge false taken target reconv) fun _ => True))
    ∧ (AtIssue s st (.braT st gd target reconv) (guardSrc gd) .free → ¬ full →
      GoesOn (.braT st gd target reconv) s st (.diverge true taken target reconv) fun _ => True)
    ∧ (AtIssue s st (.loop st a target) [.u a.val, .u a.val] .free →
      let n := (uniVal s st a.val).toNat
      GoesOn (.loop st a target) s st (if 2 ≤ n then .goto target else .next) fun t =>
        ∃ f, (siteCl t st).flights = (siteCl s st).flights ++ [f] ∧ f.g = st.g.val
          ∧ f.writes = [(.uni a.val, BitVec.ofNat 32 (if 2 ≤ n then n - 1 else 0))])
    ∧ (AtIssue s st (.exit st gd) (guardSrc gd) .free → GoesOn (.exit st gd) s st (.leave taken) fun _ => True)

/-- A conditional branch whose predicate holds for some active lanes and not for others leaves the group on the lanes without it at the next word; when those reach the reconvergence address the group goes to the target with the lanes that took it; when these reach the same address the group continues there with the union, its stack as before. -/
def Obligations.DivergedPathsRejoin : Prop :=
  ∀ (gr : Group) (taken : BitVec 32) (target reconv : Nat),
    taken &&& gr.active = taken → taken ≠ 0 → taken ≠ gr.active → gr.pc + 8 ≠ reconv → target ≠ reconv →
    let g1 := advance gr (.diverge false taken target reconv)
    g1.pc = gr.pc + 8 ∧ g1.active = gr.active &&& ~~~ taken
    ∧ (∀ n, let g2 := settle (n + 1) { g1 with pc := reconv }
      g2.pc = target ∧ g2.active = taken
      ∧ let g3 := settle 1 { g2 with pc := reconv }
        g3.pc = reconv ∧ g3.active = gr.active ∧ g3.stack = gr.stack)

/-- When a conditional branch would diverge (the ordinary form with lanes that differ, the fixed-time form always) and 16 entries are on the stack, exec answers a next state in which the cluster has faulted with code 4 at that instruction and the group has not moved. -/
def Obligations.BranchesFault : Prop :=
  ∀ (s : State) (st : Site) (gd : Guard) (target reconv : Nat),
    let taken := guardLanes (siteCl s st) st.g.val gd
    16 ≤ (siteGrp s st).stack.length →
    (AtIssue s st (.braP st gd target reconv) (guardSrc gd) .free → taken ≠ 0 → taken ≠ (siteGrp s st).active →
      FaultsWith (.braP st gd target reconv) s st 4)
    ∧ (AtIssue s st (.braT st gd target reconv) (guardSrc gd) .free → FaultsWith (.braT st gd target reconv) s st 4)

/-- When they may issue: DSYNC and NSYNC of an instance the plan has go on, waiting while it is not complete; BARG and BARC with the lanes taking part and the exited lanes being all 32 go on and wait (BARG until the group has drained, BARC as arrived once it has drained, while another open group has not arrived); BKPT goes on and, when a comparator matches and no halt stands, asks for a halt of the next count with cause 3; DIGEST folds its lanes in ascending order into the cluster digest. -/
def Obligations.WaitingInstructions : Prop :=
  ∀ (s : State) (st : Site) (gd : Guard) (k n : BitVec 16) (id : Fin 4) (a : Fin 256),
    let c := siteCl s st
    let env := mkEnv s st.cl.val
    let quiet := drained c st.g.val
    (AtIssue s st (.dsync st k) [] .free → k.toNat < env.nDma → GoesOn (.dsync st k) s st .next fun t =>
      (siteGrp t st).wait = if (false, k.toNat) ∈ env.done then .none else .plan false k.toNat)
    ∧ (AtIssue s st (.nsync st k) [] .free → k.toNat < env.nNet → GoesOn (.nsync st k) s st .next fun t =>
      (siteGrp t st).wait = if (true, k.toNat) ∈ env.done then .none else .plan true k.toNat)
    ∧ (guardLanes c st.g.val gd ||| (siteGrp s st).exited = allLanes → (siteGrp s st).active ≠ 0 →
      (AtIssue s st (.barg st gd) (guardSrc gd) .free → GoesOn (.barg st gd) s st .next fun t =>
        (siteGrp t st).wait = if quiet then .til (c.kcyc + 8) else .barg c.kcyc)
      ∧ (AtIssue s st (.barc st gd id) (guardSrc gd) .free →
        (∃ x ∈ openGroups c, x.1 ≠ st.g.val ∧ x.2.wait = .none ∧ laneless x.2 = false) →
        GoesOn (.barc st gd id) s st .next fun t =>
          (siteGrp t st).wait = .barc id.val c.kcyc (if quiet then some c.kcyc else none)))
    ∧ (AtIssue s st (.bkpt st n) [] .free → GoesOn (.bkpt st n) s st .next fun t =>
      ∀ i, (siteGrp s st).active ≠ 0 → bkptHit s (c.logical.getD 0) n.toNat = some i → s.dbgp.halt = none →
        s.dbgp.stepMode = none → t.dbgp.halt = some ⟨s.count + 1, 3, c.logical.getD 0, st.g.val, i, 0, (siteGrp s st).pc, 0⟩)
    ∧ (AtIssue s st (.digest st gd a) (guardSrc gd ++ [.v a.val]) .free → GoesOn (.digest st gd a) s st .next fun t =>
      (siteCl t st).digest = digFoldAll c.digest ((lanesOf s st gd).map fun l => (laneVal s st a.val l).toNat))

/-- When it may issue and its address is in range and aligned, on every path: ULDC sends the 32-bit or 64-bit number at uA plus IMM28 to uD (and uD + 1): from the cached line, ready 8 cycles later in the ordinary form and 32 in the fixed-time form; on a miss ready 32 cycles later, from the line in progress when one is, and otherwise from the line whose fill it starts, as that fill reads it at the end of the cycle. -/
def Obligations.ConstantLoadResults : Prop :=
  ∀ (s : State) (st : Site) (gd : Guard) (x64 t : Bool) (d a : Fin 64) (imm : BitVec 28),
    let n := if x64 then 8 else 4
    let ad := (uniVal s st a.val + imm.signExtend 32).toNat
    let c := siteCl s st
    let ds : List RegId := if x64 then [.u d.val, .u (d.val + 1)] else [.u d.val]
    let send := fun (lat : Nat) (bs : List Byte) =>
      let v := leNat ((bs.drop (ad % 64)).take n)
      Sends (.uldc st gd x64 t d a imm) s st lat ds
        ((.uni d.val, BitVec.ofNat 32 v) :: if x64 then [(.uni (d.val + 1), BitVec.ofNat 32 (v / 2 ^ 32))] else [])
    ad + n ≤ 2 ^ 20 → ad % n = 0 → AtIssue s st (.uldc st gd x64 t d a imm) ([.u a.val] ++ ds) .free →
    (∀ bs, ocLook c (ad / 64) = some bs → send (if t then 32 else 8) bs)
    ∧ (∀ x, ocLook c (ad / 64) = none → c.fills.find? (fun f => f.oc && f.line == ad / 64) = some x → send 32 x.bytes)
    ∧ (ocLook c (ad / 64) = none → (∀ f ∈ c.fills, ¬ (f.oc = true ∧ f.line = ad / 64)) →
      ∃ u f, exec (.uldc st gd x64 t d a imm) s = .next u ∧ (siteCl u st).flights = c.flights ++ [f] ∧ f.g = st.g.val ∧ f.dsts = ds
        ∧ f.readyAt = c.kcyc + 32 ∧ (siteCl u st).ocMiss = c.ocMiss + 1
        ∧ (∃ x ∈ (siteCl u st).fills, x.oc = true ∧ x.line = ad / 64 ∧ x.doneAt = c.kcyc + 24)
        ∧ ∃ y ∈ (refill (siteCl u st)).flights, y.g = st.g.val ∧
          let v := leNat (((memRange c.spad (ad / 64 * 64) 64).drop (ad % 64)).take n)
          y.writes = (.uni d.val, BitVec.ofNat 32 v) :: if x64 then [(.uni (d.val + 1), BitVec.ofNat 32 (v / 2 ^ 32))] else [])

/-- For LD and ST, for the eleven atomics and for the five Peat transfers: when the instruction may issue and some active lane under the guard has an address out of range, exec answers a next state in which the cluster has faulted with code 2, and with code 3 when every address is in range and some is not aligned; the fault names the lowest such lane and its address, and no flight is added. -/
def Obligations.AccessFaultsRaise : Prop :=
  ∀ (s : State) (st : Site) (m : MemOp) (o : AtomOp) (c : Fin 256) (q : PeatMem) (l : Nat),
    let k := if o.x64 then 2 else 1
    let raises := fun (i : Instr) (rs : List RegId) (u : UnitUse) (gd : Guard) (a : Nat) (off : Word) (n al : Nat) =>
      let adr := fun j => (laneVal s st a j + off).toNat
      AtIssue s st i rs u → l ∈ lanesOf s st gd →
        (adr l + n > 2 ^ 20 → (∀ j ∈ lanesOf s st gd, j < l → adr j + n ≤ 2 ^ 20) → FaultsAt i s st 2 l (adr l))
        ∧ ((∀ j ∈ lanesOf s st gd, adr j + n ≤ 2 ^ 20) → adr l % al ≠ 0 → (∀ j ∈ lanesOf s st gd, j < l → adr j % al = 0) →
          FaultsAt i s st 3 l (adr l))
    (∀ i ∈ [Instr.ld st m, .st st m], raises i (guardSrc m.gd ++ [.v m.a.val] ++ vRun m.d.val (szRegs m.sz)) .gport m.gd m.a.val
      (m.imm.signExtend 32) (szBytes m.sz) (szBytes m.sz))
    ∧ (∀ p ∈ atomTable, raises (p.1 st o) (guardSrc o.gd ++ [.v o.a.val] ++ vRun o.b.val k ++ vRun o.d.val k) .gport o.gd o.a.val 0
      (4 * k) (4 * k))
    ∧ raises (.atomCas st o c) (guardSrc o.gd ++ [.v o.a.val] ++ vRun o.b.val k ++ vRun c.val k ++ vRun o.d.val k) .gport o.gd o.a.val 0
      (4 * k) (4 * k)
    ∧ ∀ p ∈ peatMemTable, let w := p.2.2 (siteCl s st).wBits
      raises (p.1 st q) (guardSrc q.gd ++ [.v q.a.val]) .both q.gd q.a.val 0 w.1 w.2

/-- While the die runs: a fetch of a group that may fetch takes its word from the cached line, or counts a miss and waits for the line, starting one fill of it when none is in progress; the completion of a due fill makes its line usable when no later fill of the index is in progress; and a held word that decodes to no instruction faults at its slot with code 1. -/
def Obligations.FetchAndIllegalWord : Prop :=
  ∀ (s : State) (st : Site), dieFrozen s = false →
    let c := siteCl s st
    let gr := siteGrp s st
    let line := gr.pc / 64
    (mayFetch c st.g.val = true → st.g.val < c.groups.length → gr.pc < 2 ^ 20 →
      (∀ x, smGet (dflt none) c.ic (line % 512) = some x → x.line = line →
        ∃ t, exec (.instructionFetch st .clean .clean) s = .next t ∧ (siteGrp t st).held = some (lineWord x.bytes gr.pc)
          ∧ (siteCl t st).icMiss = c.icMiss)
      ∧ ((∀ x, smGet (dflt none) c.ic (line % 512) = some x → x.line ≠ line) →
        ∃ t, exec (.instructionFetch st .clean .clean) s = .next t ∧ (siteGrp t st).wait = .fill line
          ∧ (siteCl t st).icMiss = c.icMiss + 1
          ∧ (siteCl t st).fills = if c.fills.any (fun f => !f.oc && f.line == line) then c.fills
              else c.fills ++ [⟨false, line, memRange c.spad (line * 64) 64, c.kcyc + 24, false⟩]))
    ∧ (∀ f, f.oc = false → c.fills = [f] → f.doneAt ≤ c.kcyc →
      ∃ t, exec (.cacheFillDone st.cl false (f.line % 512) .clean) s = .next t ∧ (siteCl t st).fills = []
        ∧ smGet (dflt none) (siteCl t st).ic (f.line % 512) = some ⟨f.line, f.bytes⟩)
    ∧ (atSlot c st none = true → FaultsWith (.illegalEncoding st) s st 1)

/-- A store or load that its unit starts occupies the port and serves its lines cycle by cycle (R88, R91, R92, R93, R94, R186, R187). -/
def Obligations.UnitStartsStoreAndLoad : Prop :=
  ∀ (s : State) (cl : Fin 144) (pre : List Flight) (f : Flight) (sz : Sz) (t : Bool) (d : Nat),
    let c := clOf s cl.val
    let n := if t then 32 else occLines (f.addrs.flatMap fun p => accLines (szBytes sz) p.2)
    dieFrozen s = false → c.st = .running → unitHead .gport [] c.flights = some (pre, f) → startOk c pre f = true →
    f.use = .gport →
    (f.job = .st sz t → ∃ u, exec (.unitStart cl .gport .clean) s = .next u
      ∧ (clOf u cl.val).spad = c.spad ∧ (clOf u cl.val).gportFree = c.kcyc + n
      ∧ ∃ g ∈ (clOf u cl.val).flights, g.started = true ∧ g.occ = n ∧ g.cycIn = f.cycIn ∧ g.addrs = f.addrs ∧ g.vals = f.vals
        ∧ g.plan = lanePieces f (szBytes sz) ∧ g.readyAt = c.kcyc + n)
    ∧ (f.job = .ld sz t d → ∃ u g, exec (.unitStart cl .gport .clean) s = .next u ∧ g ∈ (clOf u cl.val).flights
      ∧ g.started = true ∧ g.readyAt = c.kcyc + n + 20 ∧ (clOf u cl.val).spad = c.spad ∧ (clOf u cl.val).gportFree = c.kcyc + n
      ∧ g.occ = n ∧ g.cycIn = f.cycIn ∧ g.addrs = f.addrs ∧ g.plan = lanePieces f (szBytes sz) ∧ g.got = f.got)
    ∧ (∀ p ∈ lanePieces f (szBytes sz), p.cyc < occLines (f.addrs.flatMap fun x => accLines (szBytes sz) x.2)
      ∧ ∀ q ∈ lanePieces f (szBytes sz), (p.addr / 16 = q.addr / 16 → p.cyc = q.cyc)
        ∧ (p.addr / 16 ≠ q.addr / 16 → p.addr / 16 % 64 = q.addr / 16 % 64 → p.cyc ≠ q.cyc))
    ∧ (∀ x ∈ f.addrs, ∀ j < szBytes sz, ∃ p ∈ lanePieces f (szBytes sz), p.who = x.1 ∧ p.addr = x.2 + p.off ∧ p.off ≤ j ∧ j < p.off + p.len)
    ∧ (c.flights = [f] → f.started = true → f.cycIn < f.occ →
      let now := f.plan.filter fun p => p.cyc == f.cycIn
      let u := portCycle c
      (f.job = .st sz t → f.plan = lanePieces f (szBytes sz) → (f.addrs.map (·.1)).Pairwise (· < ·) → f.vals.length = f.addrs.length →
        (∀ a, (∀ p ∈ now, a < p.addr ∨ p.addr + p.len ≤ a) → memByte u.spad a = memByte c.spad a)
        ∧ ∀ p ∈ now, ∀ x ∈ f.addrs.zip f.vals, x.1.1 = p.who → ∀ j < p.len,
          (∀ q ∈ now, p.who < q.who → p.addr + j < q.addr ∨ q.addr + q.len ≤ p.addr + j) →
          memByte u.spad (p.addr + j) = BitVec.ofNat 8 (x.2 / 2 ^ (8 * (p.off + j))))
      ∧ (f.job = .ld sz t d → f.got = [] → f.flip = 0 → u.spad = c.spad ∧ ∃ g, u.flights = [g]
        ∧ g.cycIn = f.cycIn + 1 ∧ g.got = now.map fun p => (p.who, p.off, memRange c.spad p.addr p.len)))

/-- While the cluster runs at the nominal point: when the MMA at the head of the matrix engine may start, its flight holds for row r and column n an addition to Peat register PB + 40r + n that is the sum over k, modulo 2^128, of the exact product of stationary element k of column n and streamed element k of row r, each floored onto the grid of the kernel, elements that are NaN or infinite counted as none. -/
def Obligations.MatrixProductsAccumulate : Prop :=
  ∀ (s : State) (cl : Fin 144) (pre : List Flight) (f : Flight) (pair : Pair) (b : Nat) (lean : Bool),
    let c := clOf s cl.val
    let es := mmaElems pair f.frag (nth c.sbufs b {}).cols
    dieFrozen s = false → c.st = .running → unitHead .mma [] c.flights = some (pre, f) → startOk c pre f = true → f.use = .mma →
    f.job = .mma pair b lean → f.live = true → s.sched.exec.lean = false → f.frag.length = 32 →
    ∃ u g, exec (.unitStart cl .mma .clean) s = .next u ∧ g ∈ (clOf u cl.val).flights ∧ g.started = true
      ∧ g.readyAt = c.kcyc + 39
      ∧ ∀ r < 32, ∀ n < 40, ((flightBase f + 40 * r + n, sumProducts c.gExp (nth es.1 r []) (nth es.2 n [])) : Nat × Peat) ∈ g.acc

/-- When a group has a due flight on a running, unfrozen cluster whose results, those of the bytes it has read among them, have distinct destinations, RESULT_READY removes the flight and each lane register, uniform register (u0 apart) and lane predicate (p0 apart) it writes reads the value written. -/
def Obligations.ResultsLand : Prop :=
  ∀ (s : State) (st : Site) (f : Flight), dieFrozen s = false →
    let ws := (takeGot (siteCl s st) f).writes
    dueFlight (siteCl s st) st.g.val = some f → (ws.map Prod.fst).Nodup →
    (∀ w ∈ ws, match w.1 with | .lane r l => r < 256 ∧ l < 32 | .uni r => r < 64 | .pred p l => p < 8 ∧ l < 32) →
    ∃ t, exec (.resultReady st .clean) s = .next t ∧ (siteCl t st).flights = dropFlight f (siteCl s st).flights
      ∧ ∀ w ∈ ws, match w.1 with
        | .lane r l => rdLane (siteCl t st) f.g r l = w.2
        | .uni r => r ≠ 0 → rdUni (siteCl t st) f.g r = w.2
        | .pred p l => p ≠ 0 → (rdPred (siteCl t st) f.g p).getLsbD l = w.2.getLsbD 0

/-- In every cluster and group, u0 reads zero, p0 reads true in every lane, and a landing write to either changes nothing. -/
def Obligations.HardwiredRegisters : Prop :=
  ∀ (c : Cluster) (g l : Nat) (v : Word), rdUni c g 0 = 0 ∧ (l < 32 → (rdPred c g 0).getLsbD l = true)
    ∧ wrDst c g (.uni 0, v) = c ∧ wrDst c g (.pred 0 l, v) = c

/-- For every command that has an instruction word: when exec answers a next state, the global counter, HBM, host memory, the sessions, the links, the Falbo die, the supplies, the boot state and the queue are unchanged, and in every cluster the lane registers, uniform registers, predicates, Peat registers and the scratchpad are unchanged: results land, and stores write, at their own events. -/
def Obligations.IssueFrame : Prop :=
  ∀ (i : Instr) (s t : State), (encodeWord i).isSome = true → exec i s = .next t →
    t.pending = s.pending ∧ t.count = s.count ∧ t.hbm = s.hbm ∧ t.host = s.host ∧ t.gener = s.gener ∧ t.azl = s.azl
    ∧ t.falbo = s.falbo ∧ t.power = s.power ∧ t.boot = s.boot
    ∧ ∀ p, (clOf t p).lanes = (clOf s p).lanes ∧ (clOf t p).unis = (clOf s p).unis ∧ (clOf t p).preds = (clOf s p).preds
      ∧ (clOf t p).peat = (clOf s p).peat ∧ (clOf t p).spad = (clOf s p).spad

/-- For every command that has an instruction word and stands at a site: when it is not its group's slot, or the word the group holds does not decode to it, exec answers a state in which every cluster and every other part of the state is as before (log 2). -/
def Obligations.UnheldInstructionDoesNothing : Prop :=
  ∀ (i : Instr) (s : State) (st : Site), (encodeWord i).isSome = true → siteOf i = some st →
    atSlot (siteCl s st) st (some i) = false →
    ∃ t, exec i s = .next t ∧ (∀ p, clOf t p = clOf s p) ∧ putClusters t s.clusters = s

/-- When a step record and its launch count are held, the image is resident, its launch count has come, nothing runs or is unjudged, recovery was over and the record in time, launches are allowed, a pre-emption's save is over and the operating point fits the step: STEP_LAUNCH answers a next state whose execution runs that step from schedule cycle 0, launched at the present count with the kernels the tiler lays from cycle 16 and the duration they take, with no kernel yet, an empty ledger of that step and no record waiting; TIL.SF shows its slots and folds. -/
def Obligations.StepLaunches : Prop :=
  ∀ (s : State) (r : StepRec) (l : Nat) (im : Image),
    s.sched.nextStep = some r → s.sched.nextLaunch = some l → s.gener.image = some im → l ≤ s.count →
    s.sched.exec.running = false → s.sched.done = none → s.dbgp.noLaunch = false → s.sched.recovered = true →
    s.sched.recordLate = false → stepAllowed s = true → s.sched.launchReady = true → saveOver s = true → pointFits s (stepLean im r) = true →
    ∃ t, exec .stepLaunch s = .next t ∧ t.sched.exec.running = true ∧ t.sched.exec.kind = .step ∧ t.sched.exec.launch = s.count
      ∧ t.sched.exec.cyc = 0 ∧ t.sched.exec.runs = layRuns im r.s r.f 0 16 (stepKernels im r.exitKind) ∧ t.sched.exec.planDur = planEnd t.sched.exec.runs ∧ t.sched.exec.cur = none ∧ t.sched.exec.sRec = r
      ∧ t.sched.exec.stopped = false ∧ t.sched.exec.lean = s.power.lean ∧ t.sched.exec.led.step = r.step
      ∧ t.sched.exec.led.uncorr = 0 ∧ t.sched.exec.led.linkLate = 0 ∧ t.sched.nextStep = none ∧ t.sched.nextLaunch = none
      ∧ rdReg t Reg.tilSf = w32 (r.s % 2 ^ 16 + r.f % 2 ^ 16 * 2 ^ 16)

/-- A kernel launches with cleared registers and its window ends it or stops the execution (R76, R77, R79, R220, R222, R221, R255, R298, R460). -/
def Obligations.KernelWindows : Prop :=
   (∀ (s : State) (r : KRun), let e := s.sched.exec
      e.running = true → e.stopped = false → e.draining = false → dieFrozen s = false → nextRun e = some r → r.at_ ≤ e.cyc →
      (e.cur = none ∨ e.ended = true) →
      ∃ t, exec .kernelLaunch s = .next t ∧ t.sched.exec.cur = some r.idx ∧ t.sched.exec.ended = false
        ∧ ∀ l < ncl s, ∀ p, physOf s l = some p → (clOf s p).st ≠ .faulted →
          let c := clOf t p
          c.st = .running ∧ c.kcyc = 0 ∧ c.kernel = r.idx ∧ c.digest = digInit ∧ c.spad = (clOf s p).spad ∧ c.peat = (clOf s p).peat
          ∧ (∀ g x l, rdLane c g x l = 0) ∧ (∀ g p, p ≠ 0 → rdPred c g p = 0)
          ∧ (∀ g < 8, (grp c g).started = decide (g < kGroups r.desc)
              ∧ (g < kGroups r.desc → (grp c g).pc = kEntry r.desc ∧ (grp c g).active = allLanes)
              ∧ ∀ i < 8, rdUni c g (i + 1) = w32 (kArg s r.desc i)))
   ∧ (∀ (s : State) (k : Nat), let e := s.sched.exec
      let r := nth e.runs k ⟨0, 0, 0, [], [], 0⟩
      e.running = true → e.stopped = false → e.kind = .step → dieFrozen s = false → e.cur = some k → e.ended = false →
      r.at_ + r.window ≤ e.cyc →
      ∃ t, exec .windowEnd s = .next t ∧ t.sched.exec.ended = true ∧ smGet (dflt 0) t.sched.exec.kdig k = kernelDigest s
        ∧ (overrun s = none → t.sched.exec.stopped = false ∧ ∀ p < 144, (clOf t p).st ≠ .running)
        ∧ (∀ l, overrun s = some l → t.sched.exec.stopped = true ∧ t.sched.exec.led.stopCause = 1
          ∧ rdReg t Reg.schStop = w32 (l % 256 + 2 ^ 8 + k * 2 ^ 16)))

/-- On an unfrozen die: PLAN_INSTANCE_START in a running execution marks the first instance it names that starts at this cycle; PLAN_INSTANCE_COMPLETE marks the first started instance it names whose end has come as complete at this cycle, and every group of its cluster that waits for it may issue from the next cycle when it is of the current kernel. -/
def Obligations.PlanInstancesRun : Prop :=
  ∀ (s : State) (cl : Fin 128) (net : Bool) (k n : Nat) (eccs : List (Nat × Ecc)), let e := s.sched.exec
    (e.running = true → e.stopped = false → e.draining = false → dieFrozen s = false →
      instAt s cl.val net k (fun i => !i.started && i.start == e.cyc) = some n →
      ∃ t, exec (.planInstanceStart cl net k eccs) s = .next t ∧ (∃ i, t.sched.exec.insts[n]? = some i ∧ i.started = true)
        ∧ ∀ m, m ≠ n → t.sched.exec.insts[m]? = e.insts[m]?)
    ∧ (moving s = true → instAt s cl.val net k (fun i => i.started && i.doneAt.isNone && decide (instEnd i ≤ e.cyc)) = some n →
      ∃ t, exec (.planInstanceComplete cl net k) s = .next t ∧ (∃ i, t.sched.exec.insts[n]? = some i ∧ i.doneAt = some e.cyc)
        ∧ ∀ i p, e.insts[n]? = some i → e.cur = some i.kernel → physOf s cl.val = some p →
          ∀ g < (clOf s p).groups.length, (grp (clOf s p) g).wait = .plan net k → (grp (clOf t p) g).wait = .til ((clOf s p).kcyc + 1))

/-- HBM accesses start, return, refresh and stop a step when late (R211, R213, R240, R241, R242, R243, R258, R255, R460). -/
def Obligations.HbmAccessesRun : Prop :=
   (∀ (s : State) (h : Fin 6) (pc : Fin 32) (x : HbmAcc), let key := chanKey h.val pc.val
      let c := chanOf s key
      (moving s = true → nextAcc c = some x → x.planned ≤ s.sched.exec.cyc → c.freeAt ≤ s.count → refreshFree s.count pc.val = true →
        ∃ t, exec (.hbmAccessStart h pc) s = .next t
          ∧ rdN t (onPage Reg.hbcUnits h.val) = min (rdN s (onPage Reg.hbcUnits h.val) + 1) (2 ^ 32 - 1)
          ∧ (x.wdata = none → chanOf t key = { c with freeAt := s.count + 4, q := markStarted s.count (some (memRange s.hbm x.addr 64)) c.q } ∧ t.hbm = s.hbm)
          ∧ (∀ bs, x.wdata = some bs → t.hbm = memStore s.hbm x.addr bs))
      ∧ (dieFrozen s = true → exec (.hbmAccessStart h pc) s = .next s)
      ∧ (∀ n, (c.q.findIdx? fun x => x.wdata.isNone && !x.back && (match x.startedAt with | some t => decide (t + 120 ≤ s.count) | none => false)) = some n →
        c.q[n]? = some x →
        ∀ ecc, ∃ t, exec (.hbmReadReturn h pc ecc) s = .next t
          ∧ (chanOf t key).q[n]? = some { x with back := true, data := x.data.map (flipBytes (eccMask ecc)) } ∧ t.hbm = s.hbm)
      ∧ (s.count % 4096 / 128 = pc.val →
        ∃ t, exec (.hbmRefreshWindow h pc) s = .next t ∧ (chanOf t key).window = some (s.count / 4096) ∧ (chanOf t key).q = c.q))
   ∧ (∀ (s : State) (h : Fin 6) (pc : Fin 32) (x : HbmAcc), let e := s.sched.exec
      moving s = true → e.running = true → e.stopped = false →
      ((chanOf s (chanKey h.val pc.val)).q.find? fun x => x.wdata.isNone && !x.back && decide (x.planned + 256 ≤ e.cyc)) = some x →
      ∃ t, exec (.hbmLate h pc) s = .next t ∧ t.sched.exec.stopped = true ∧ t.sched.exec.led.stopped = true
        ∧ t.sched.exec.led.stopCause = 3 ∧ rdF t Reg.schStop 11 8 = 3 ∧ rdN t Reg.schStopCyc = e.cyc % 2 ^ 32
        ∧ rdB t (onPage Reg.hbcLate h.val) 5 = true
        ∧ (rdB s (onPage Reg.hbcLate h.val) 5 = false →
          rdF t (onPage Reg.hbcLate h.val) 4 0 = pc.val ∧ rdN t (onPage Reg.hbcLateCyc h.val) = x.planned % 2 ^ 32))

/-- Executions end, freeze windows begin and end, sampled instructions are checked (R208, R210, R298, R400, R406, R613, R211, R214, R255, R285, R287, R288). -/
def Obligations.EndsFreezesAndSamples : Prop :=
   (∀ (s : State) (rk : RunK), let e := s.sched.exec
      (e.running = true → e.kind = .step → dieFrozen s = false → e.planDur ≤ e.cyc → (e.stopped || e.missed || e.ended) = true →
        ∃ s2 d, exec .stepEnd s = .next (stepExecEnd (if e.dropped then recover s2 else deliverLedger s2 d))
          ∧ s2.sched.exec.running = false ∧ (∀ p < 144, (clOf s2 p).st ≠ .running) ∧ rdB s2 (Reg.pageSch + 0x14) 0 = true
          ∧ s2.sched.done = (if e.dropped then none else some d) ∧ d.record = e.sRec ∧ d.ledger = s2.sched.exec.led ∧ d.ledger.step = e.led.step
          ∧ d.clean = ledClean s2 d.ledger ∧ s2.sched.lastLaunch = e.launch ∧ s2.sched.lastPlan = e.sRec.planDur
          ∧ s2.sched.lastFrozen = e.frozen)
      ∧ (e.running = true → e.kind = .step → dieFrozen s = false → e.planDur ≤ e.cyc → (e.stopped || e.missed || e.ended) = true →
        (e.dropped = true → ∃ t, exec .stepEnd s = .next t ∧ t.sched.exec.running = false ∧ t.sched.done = none)
        ∧ (e.dropped = false → isEntry s = false →
          ∃ t d, exec .stepEnd s = .next t ∧ t.sched.exec.running = false ∧ t.sched.done = some d ∧ d.record = e.sRec))
      ∧ (e.rk = some rk → e.running = true → e.kind = .runk → (e.stopped || !dieFrozen s) = true → runkDone s = true →
        ∃ t, exec .executionEnd s = .next t ∧ t.sched.exec.running = false ∧ rd64 t Reg.dbgRkDigLo = kernelDigest s % 2 ^ 64
          ∧ ∃ s5, t = stepExecEnd (finish s5 rk.ref 0 (b2n (ledClean s5 { s5.sched.exec.led with runk := true })
            + 2 * b2n s5.sched.exec.led.stopped) 0)))
   ∧ (∀ (s : State) (cl : Fin 144) (n : Nat) (x : Sample) (xs : List Sample),
      ((s.sched.freezes.findIdx? fun w => !w.active && w.start == s.count) = some n →
        ∃ t, exec .freezeStart s = .next t ∧ (∃ w, t.sched.freezes[n]? = some w ∧ w.active = true ∧ w.start = s.count)
          ∧ (∀ m, m ≠ n → t.sched.freezes[m]? = s.sched.freezes[m]?) ∧ rdB t (Reg.pageSch + 0x14) 2 = true
          ∧ t.sched.exec = s.sched.exec ∧ t.clusters = s.clusters)
      ∧ (∃ t, exec .freezeEnd s = .next t ∧ t = putSched s { s.sched with freezes := t.sched.freezes }
        ∧ ∀ w, w ∈ t.sched.freezes ↔ w ∈ s.sched.freezes
          ∧ ((w.active = true ∧ s.count < w.start + w.len) ∨ (w.active = false ∧ s.count ≤ w.start)))
      ∧ ((clOf s cl.val).samples = x :: xs →
        let bad := x.deltas.countP fun d => decide (224 < d)
        ∃ t, exec (.leanSampleCheck cl) s = .next t ∧ (clOf t cl.val).samples = xs
          ∧ rdN t Reg.lspExecSum = min (rdN s Reg.lspExecSum + sumN x.deltas) (2 ^ 32 - 1)
          ∧ t.sched.exec.sumAll = s.sched.exec.sumAll + sumN x.deltas ∧ t.sched.exec.nAll = s.sched.exec.nAll + 1
          ∧ (bad = 0 → t.sched.exec.led = s.sched.exec.led ∧ rdReg t Reg.lspConfine = rdReg s Reg.lspConfine)
          ∧ (bad ≠ 0 → rdN t Reg.lspConfine = min (rdN s Reg.lspConfine + bad) (2 ^ 32 - 1) ∧ rdB t Reg.lspStatus 1 = true
            ∧ t.sched.exec.led.leanDrift = min (s.sched.exec.led.leanDrift + bad) (2 ^ 16 - 1))))

/-- Descriptor fields and the image are checked before a command acts (R603, R607, R614, R616, R319, R320). -/
def Obligations.DescriptorChecks : Prop :=
   (∀ (s s1 : State) (c : Cmd) (r : Fin 128) (ok : Bool), ∀ p ∈ descTable,
      (popDesc s r.val (· == p.2) = none → exec (p.1 r ok) s = .next s)
      ∧ ((∀ d ∈ (ringOf s r.val).fifo, mayRun (ringOf s r.val) d = true → opcodeOf d.words ≠ p.2) → exec (p.1 r ok) s = .next s)
      ∧ (Turn s r.val p.2 s1 c →
        let only := fun (t : State) (code w6 : Nat) => Completed t c.ref code w6 ∧ t.gener = s.gener ∧ t.sched = s.sched
          ∧ t.azl = s.azl ∧ t.hbm = s.hbm ∧ t.host = s.host ∧ t.boot = s.boot
        (∀ i, badWord c = some i → Handles (p.1 r ok) s r.val fun t => only t 0x61 i)
        ∧ (badWord c = none → c.fn ≠ 0 → vfMay p.2 = false → Handles (p.1 r ok) s r.val fun t => only t 0x62 0)
        ∧ (badWord c = none → (c.fn = 0 ∨ vfMay p.2 = true) → touchesHost s1 c = true → ok = false →
          Handles (p.1 r ok) s r.val fun t => only t 0x63 0)
        ∧ (badWord c = none → p.2 = 0x12 → c.len < 16 * c.cnt → Handles (p.1 r ok) s r.val fun t => only t 0x64 0)))
   ∧ (∀ (s s1 : State) (c : Cmd) (r : Fin 128) (ok : Bool), ∀ p ∈ sessTable, Turn s r.val p.2 s1 c → hifCheck s1 c ok = none → notEntry s1 = false →
      s.gener.image = none →
      Handles (p.1 r ok) s r.val fun t => Completed t c.ref 1 0 ∧ t.gener = s.gener)

/-- OPEN_SESSION at its turn, with every check of R319 passed: the lowest-numbered idle context becomes OPEN with the session's identifier, ring, limit, deadline, sampling fields, stop tokens, seed and park place, where zero in a field means what R321 says; no other context changes, and the command completes with OK and the context number. -/
def Obligations.OpenSessionRuns : Prop :=
  ∀ (s s1 : State) (c : Cmd) (r : Fin 128) (ok : Bool) (n : Nat), Turn s r.val 0x10 s1 c → hifCheck s1 c ok = none → notEntry s1 = false →
    let lim := if nthN c.w 6 = 0 then rdN s1 Reg.kvpCtxMax else nthN c.w 6
    let dl := if nthN c.w 7 = 0 then s1.gener.dlDef else nthN c.w 7
    let temp := nthN c.w 8 % 2 ^ 16
    let fld_ := openField s1 c
    s1.gener.image ≠ none → (∀ k < 512, (ctxOf s1 k).st = .idle → n ≤ k) → n < 512 → (ctxOf s1 n).st = .idle →
    ctxBySid s1 c.sid = none → badTemp temp = false → allZero ((openBlock s1 c).drop 0x30) = true → lim ≤ rdN s1 Reg.kvpCtxMax →
    pagesFor lim + 1 + rdN s1 Reg.kvpFloor ≤ rdN s1 Reg.kvpPages → deadlineFails s1 lim dl = false →
    (fld_ 0x20 8 = 0 ∨ parkSize s1 lim ≤ fld_ 0x28 8) →
    Handles (.openSession r ok) s r.val fun t =>
      Completed t c.ref 0 n ∧ (∀ k, k ≠ n → ctxOf t k = ctxOf s k)
      ∧ let x := ctxOf t n
        x.st = .opened ∧ x.sid = nthN c.w 1 % 2 ^ 16 ∧ x.ring = c.ref.ring ∧ x.limit = lim ∧ x.deadline = dl ∧ x.temp = temp
        ∧ x.topK = nthN c.w 8 / 2 ^ 16 % 2 ^ 16 ∧ x.topP = nthN c.w 9 % 2 ^ 16 ∧ x.seed = fld_ 0 16
        ∧ x.stops = [fld_ 0x10 4, fld_ 0x14 4, fld_ 0x18 4, fld_ 0x1C 4] ∧ x.parkAddr = fld_ 0x20 8 ∧ x.parkLen = fld_ 0x28 8
        ∧ x.len = 0 ∧ x.budget = 0 ∧ x.waiting = [] ∧ x.pages = []

/-- For a session of this function in OPEN, or in DECODE with no budget: APPEND_PROMPT with tokens below the vocabulary and within the limit appends them to those that wait and completes with their number. With no budget, GENERATE sets BUDGET at once; with prompt tokens waiting it waits as a join, and with none its ring moves on. A count of zero completes it and changes nothing. -/
def Obligations.PromptAndGenerateRun : Prop :=
  ∀ (s s1 : State) (c : Cmd) (r : Fin 128) (ok : Bool) (n : Nat) (y : Context), notEntry s1 = false → hifCheck s1 c ok = none →
    s1.gener.image ≠ none → findSess s1 c = some (n, y) → ctxOf s1 n = y → (y.st = .opened ∨ y.st = .decode ∧ y.budget = 0) →
    (Turn s r.val 0x11 s1 c → c.cnt ≠ 0 → (∀ t ∈ memWords s1.host c.addr c.cnt, t < rdN s1 Reg.sluVocab) →
      y.len + y.waiting.length + c.cnt < y.limit →
      Handles (.appendPrompt r ok) s r.val fun t => Completed t c.ref 0 (y.waiting.length + c.cnt)
        ∧ ctxOf t n = { y with waiting := y.waiting ++ memWords s1.host c.addr c.cnt } ∧ ∀ k, k ≠ n → ctxOf t k = ctxOf s k)
    ∧ (Turn s r.val 0x12 s1 c → y.budget = 0 → (y.st = .opened → y.waiting ≠ []) → y.len ≠ y.limit →
      (c.cnt = 0 → Handles (.generate r) s r.val fun t => Completed t c.ref 0 0 ∧ t.gener = s.gener)
      ∧ (c.cnt ≠ 0 → Handles (.generate r) s r.val fun t => let z := ctxOf t n
        z.budget = c.cnt ∧ z.st = y.st ∧ z.waiting = y.waiting ∧ z.gen = some ⟨c.ref, c.addr, 0, false, false⟩
        ∧ (∀ k, k ≠ n → ctxOf t k = ctxOf s k)
        ∧ (y.waiting = [] → z.join = y.join ∧ (c.ref.era, c.ref.idx) ∉ (ringOf t r.val).busy)
        ∧ (y.waiting ≠ [] → z.join = some ⟨c.ref, false, s1.gener.joinSeq, 0, false, false, 0⟩
          ∧ (c.ref.era, c.ref.idx) ∈ (ringOf t r.val).busy)))

/-- At its turn with its checks passed: PARK of a DECODE session with room for its block waits for the boundary and its ring moves on; UNPARK of an identifier that no context holds takes the lowest idle context into PARKED from a sound block of this image and waits as a join; CLOSE_SESSION of an OPEN session makes its context idle, and of a PREFILL or DECODE session without a waiting join CLOSING, and completes. -/
def Obligations.ParkUnparkCloseRun : Prop :=
  ∀ (s s1 : State) (c : Cmd) (r : Fin 128) (ok : Bool) (n : Nat) (y : Context), notEntry s1 = false → hifCheck s1 c ok = none →
    s1.gener.image ≠ none →
    (Turn s r.val 0x13 s1 c → findSess s1 c = some (n, y) → y.st = .decode → y.parkPending = none →
      y.closeAfter = false → c.len ≠ 0 → parkSize s1 y.len ≤ c.len →
      Handles (.park r) s r.val fun t => (ctxOf t n).parkPending = some ⟨c.ref, c.addr, false, false⟩
        ∧ (ctxOf t n).st = (ctxOf s n).st ∧ (c.ref.era, c.ref.idx) ∉ (ringOf t r.val).busy ∧ ∀ k, k ≠ n → ctxOf t k = ctxOf s k)
    ∧ (Turn s r.val 0x14 s1 c → ctxBySid s1 c.sid = none → idleCtxNo s1 = some n →
      let b := blockCtx s1 c.addr {}
      let dl := if b.deadline = 0 then s1.gener.dlDef else b.deadline
      badTemp b.temp = false → b.limit ≤ rdN s1 Reg.kvpCtxMax → pagesFor b.limit + 1 + rdN s1 Reg.kvpFloor ≤ rdN s1 Reg.kvpPages →
      deadlineFails s1 b.limit dl = false → c.len ≠ 0 → parkSize s1 b.len ≤ c.len →
      memNat s1.host c.addr 4 = 0x4B524150 → memNat s1.host (c.addr + 4) 4 = 1 → b.sid = c.sid →
      memNat s1.host (c.addr + 0xF8) 8 = parkDigest s1 c.addr b.len → memNat s1.host (c.addr + 8) 8 = s1.gener.hdr.ident →
      Handles (.unpark r ok) s r.val fun t => let z := ctxOf t n
        z.st = .parked ∧ z.sid = c.sid ∧ z.ring = c.ref.ring ∧ z.len = b.len ∧ z.limit = b.limit ∧ z.deadline = dl ∧ z.seed = b.seed
        ∧ z.blockAt = c.addr ∧ z.join = some ⟨c.ref, true, s1.gener.joinSeq, 0, false, false, 0⟩ ∧ ∀ k, k ≠ n → ctxOf t k = ctxOf s k)
    ∧ (Turn s r.val 0x15 s1 c → findSess s1 c = some (n, y) → ctxOf s1 n = y → y.closeAfter = false →
      (y.st = .opened → Handles (.closeSession r) s r.val fun t => Completed t c.ref 0 0 ∧ ctxOf t n = {})
      ∧ (y.st = .prefill ∨ y.st = .decode → y.join = none →
        Handles (.closeSession r) s r.val fun t => Completed t c.ref 0 0 ∧ ctxOf t n = { y with st := .closing }))

/-- FENCE, READ_LEDGER and the state copies run (R464, R597, R608, R613, R616, R429, R454, R614). -/
def Obligations.FenceLedgerAndStateCopies : Prop :=
   (∀ (s s1 : State) (c : Cmd) (r : Fin 128) (ok : Bool), hifCheck s1 c ok = none →
      (Turn s r.val 0x30 s1 c →
        (fenceDue (ringOf s1 r.val) c.ref = true → Handles (.fence r) s r.val fun t => Completed t c.ref 0 0 ∧ t.gener = s.gener)
        ∧ (fenceDue (ringOf s1 r.val) c.ref = false → Handles (.fence r) s r.val fun t =>
          (ringOf t r.val).fences = (ringOf s1 r.val).fences ++ [c.ref] ∧ (ringOf t r.val).out = (ringOf s1 r.val).out ∧ t.regs = s.regs))
      ∧ (Turn s r.val 0x33 s1 c → c.addr + 64 ≤ 2 ^ 64 →
        let ws := (List.range 8).map (fun i => rdN s (Reg.ldgLastStep + 4 * i)) ++ (List.range 8).map fun i => rdN s (Reg.ldgLastRk + 4 * i)
        Handles (.readLedger r ok) s r.val fun t => Completed t c.ref 0 c.len
          ∧ t.wrote = s.wrote ++ [(c.fn, c.addr, min c.len 64)]
          ∧ (∀ i < min c.len 64, memByte t.host (c.addr + i) = BitVec.ofNat 8 (nthN ws (i / 4) / 2 ^ (8 * (i % 4))))
          ∧ (∀ a, a < c.addr ∨ c.addr + c.len ≤ a → memByte t.host a = memByte s.host a) ∧ t.hbm = s.hbm))
   ∧ (∀ (s s1 : State) (c : Cmd) (r : Fin 128) (x : Xfer) (ok : Bool) (errs : List (Nat × Ecc)) (ref : CmdRef) (a n : Nat),
      (Turn s r.val 0x21 s1 c → hifCheck s1 c ok = none → 4 ≤ svcLevel s1 →
        (c.len = 0 → Handles (.saveState r) s r.val fun t => Completed t c.ref 0 0 ∧ t.gener = s.gener)
        ∧ (c.len ≠ 0 → s1.sched.susp ≠ none → Handles (.saveState r) s r.val fun t =>
          t.gener.xfers = s.gener.xfers ++ [⟨.saveState c.ref c.addr c.len, false, 0⟩]))
      ∧ (Turn s r.val 0x22 s1 c → hifCheck s1 c ok = none → 4 ≤ svcLevel s1 →
        (c.len = 0 → Handles (.restoreState r ok) s r.val fun t => Completed t c.ref 0 0 ∧ t.gener = s.gener)
        ∧ (c.len ≠ 0 → memNat s1.host c.addr 4 = ncl s1 → Handles (.restoreState r ok) s r.val fun t =>
          t.gener.xfers = s.gener.xfers ++ [⟨.restoreState c.ref c.addr c.len, false, 0⟩]))
      ∧ (s.gener.xfers.find? (fun x => x.started && isCopy x.kind) = some x → s.sched.exec.running = false →
        (x.kind = .saveState ref a n → ∃ t, exec (.stateCopyDone ok errs) s = .next t ∧ t.gener.xfers.length + 1 = s.gener.xfers.length
          ∧ (ok = false → Completed t ref 0x63 0 ∧ t.host = s.host)
          ∧ ∀ u, ok = true → s.sched.susp = some u → Completed t ref 0 (min n (256 + u.live)))
        ∧ (x.kind = .restoreState ref a n → ∃ t, exec (.stateCopyDone ok errs) s = .next t ∧ t.gener.xfers.length + 1 = s.gener.xfers.length
          ∧ (ok = false → Completed t ref 0x63 0 ∧ t.hbm = s.hbm ∧ t.sched.susp = s.sched.susp)
          ∧ (ok = true → Completed t ref 0 0 ∧ t.sched.susp ≠ none))))

/-- LOAD_IMAGE at level 4 with no image, no load and no auxiliary execution, with its length, header and digest right, begins the load of its header. IMAGE_LOAD_DONE outside an execution with no failed check makes the image resident, maps the clusters and completes the load with OK; with failed checks it completes with the lowest code and leaves no image, and with a failed access to host memory with HOST_ACCESS and nothing else. UNLOAD_IMAGE with FORCE, outside a group and with no park under way, waits; IMAGE_UNLOADED with no execution or transfer takes the image away and completes it. -/
def Obligations.ImagesLoadAndUnload : Prop :=
  ∀ (s s1 : State) (c : Cmd) (r : Fin 128) (ok : Bool) (l : Loading) (img : Image),
    (Turn s r.val 0x01 s1 c → hifCheck s1 c ok = none → s1.gener.image = none → s1.gener.loading = none → 4 ≤ svcLevel s1 →
      auxActive s1 = false → 256 ≤ c.len → memNat s1.host (c.addr + 8) 8 = c.len → hdrOk s1 c.addr = true →
      memNat s1.host (c.addr + 0xF8) 8 = byteDigest (memRange s1.host c.addr 0xF8) →
      Handles (.loadImage r ok) s r.val fun t =>
        t.gener.loading = some ⟨c.ref, c.addr, c.len, nthN c.w 6, readHdr s1 c.addr⟩ ∧ t.gener.image = none)
    ∧ (s.gener.loading = some l → s.sched.exec.running = false →
      (exec (.imageLoadDone img false) s = .next (complete (putGener s { s.gener with loading := none }) l.ref 0x63 0 0))
      ∧ (loadCode s l img = none → ∃ t, exec (.imageLoadDone img true) s = .next t ∧ t.gener.image = some img ∧ t.gener.hdr = l.hdr
        ∧ t.gener.loading = none ∧ t.boot.mapped = true ∧ Completed t l.ref 0 0)
      ∧ (∀ code, loadCode s l img = some code → ∃ t, exec (.imageLoadDone img true) s = .next t ∧ t.gener.image = s.gener.image
        ∧ t.gener.loading = none ∧ t.hbm = s.hbm ∧ Completed t l.ref code 0))
    ∧ (Turn s r.val 0x02 s1 c → hifCheck s1 c ok = none → s1.gener.image ≠ none → 4 ≤ svcLevel s1 → auxActive s1 = false →
      azlState s1 = 0 → parkBusy s1 = false → bitN (nthN c.w 0) 17 = true →
      Handles (.unloadImage r) s r.val fun t => t.gener.unloading = s.gener.unloading ++ [(c.ref, true)])
    ∧ (s.gener.unloading ≠ [] → s.sched.exec.running = false → xferBusy s = false → s.sched.done = none →
      ∃ t, exec .imageUnloaded s = .next t ∧ t.gener.image = none ∧ t.gener.unloading = [] ∧ t.sched.nextStep = none
        ∧ ∀ u ∈ s.gener.unloading, Completed t u.1 0 0)

/-- RUN_KERNEL is accepted, launches, is pre-empted, suspended and resumed (R207, R210, R450, R451, R452, R453, R455, R610, R611, R613, R614, R684). -/
def Obligations.AuxiliaryKernelsRun : Prop :=
  ∀ (s s1 : State) (c : Cmd) (r : Fin 128) (rk : RunK) (u : Suspended) (l : Nat) (x : Xfer) (ok : Bool) (errs : List (Nat × Ecc)),
    let e := s.sched.exec
    let es := if 4 ≤ svcLevel s1 then readErrs [(c.addr, c.len)] errs else []
    let u1 := eccNote es s1
    let m := eccMem (blockMem u1) es
    (Turn s r.val 0x20 s1 c → hifCheck s1 c ok = none → (4 ≤ svcLevel u1 ∨ (svcLevel u1 = 3 ∧ narrowBad c rk = false)) →
      mappedCount u1 ≠ 0 → kernelBusy u1 = false → blockFits m c.addr c.len (ncl u1) = true → rk = readRunK u1 m c true →
      saveBad u1 rk = false → blockBad u1 rk = false → preloadBad u1 c rk = false →
      Handles (.runKernel r ok errs) s r.val fun t =>
        t.sched.rkWait = some rk ∧ (c.ref.era, c.ref.idx) ∉ (ringOf t r.val).busy ∧ t.gener = s.gener)
    ∧ (s.sched.rkWait = some rk → mayLaunch s = true → auxAllowed s = true → dieFrozen s = false → s.sched.susp = none →
      pointFits s (kLeanOk rk.desc) = true →
      (preloadFails rk ok = false → ∃ t, exec (.runKernelLaunch ok errs) s = .next t ∧ t.sched.rkWait = none
        ∧ t.sched.exec.running = true ∧ t.sched.exec.kind = .runk ∧ t.sched.exec.rk = some rk ∧ t.sched.exec.launch = s.count
        ∧ t.sched.exec.cyc = 0)
      ∧ (preloadFails rk ok = true → ∃ t, exec (.runKernelLaunch ok errs) s = .next t ∧ t.sched.rkWait = none
        ∧ t.sched.exec = s.sched.exec ∧ t.clusters = s.clusters ∧ Completed t rk.ref 0x63 0))
    ∧ (s.sched.nextLaunch = some l → e.rk = some rk → e.running = true → e.kind = .runk → rk.preempt = true → e.draining = false →
      e.stopped = false → dieFrozen s = false → l ≤ s.count + switchTime (liveBytes (ncl s) rk) + 62500 →
      ∃ t, exec .preempt s = .next t ∧ t.sched.exec.draining = true ∧ t.sched.exec.heldCyc = e.cyc
        ∧ t.gener.xfers = s.gener.xfers ++ [⟨.preSave, false, 0⟩])
    ∧ (e.rk = some rk → s.gener.xfers.find? (fun x => x.started && x.kind == .preSave) = some x → drainOver s = true →
      x.doneAt ≤ s.count →
      ∃ t, exec (.preemptSaveDone errs) s = .next t ∧ t.sched.exec.running = false
        ∧ ∃ v, t.sched.susp = some v ∧ v.rk = rk ∧ v.cyc = e.heldCyc ∧ v.resuming = none ∧ v.live = liveBytes (ncl s) rk)
    ∧ (s.sched.susp = some u →
      (u.resuming = none → mayLaunch s = true → auxAllowed s = true → s.sched.done = none → s.power.lean = backPoint s u →
        farLaunch s (2 * switchTime u.live + 62500 + 12500) = true →
        ∃ t, exec .executionResume s = .next t ∧ t.sched.susp = some { u with resuming := some s.count }
          ∧ t.gener.xfers = s.gener.xfers ++ [⟨.restore, false, 0⟩])
      ∧ (s.gener.xfers.find? (fun x => x.started && x.kind == .restore) = some x → x.doneAt ≤ s.count →
        mayLaunch s = true → auxAllowed s = true → s.power.lean = backPoint s u →
        ∃ t, exec (.restoreDone errs) s = .next t ∧ t.sched.susp = none ∧ t.sched.exec.running = true ∧ t.sched.exec.kind = .runk
          ∧ t.sched.exec.rk = some u.rk ∧ t.sched.exec.cyc = u.cyc ∧ t.sched.exec.frozen = u.exec.frozen
          ∧ t.sched.exec.lean = s.power.lean ∧ t.sched.exec.insts = u.exec.insts ∧ (errs = [] → t.sched.exec.led = u.exec.led)))

/-- STAGE_EPOCH, its end and SWITCH_EPOCH (R409, R410, R411, R416, R612, R613, R615, R649, R654). -/
def Obligations.EpochsAreStagedAndSwitched : Prop :=
  ∀ (s s1 : State) (c : Cmd) (r : Fin 128) (ref : CmdRef) (bs : List Byte) (q : List (CmdRef × List Byte)) (ok : Bool),
    let b := memRange s1.host c.addr c.len
    let e := nthN c.w 6 % 2 ^ 16
    let base := slotBase (inactiveSlot s)
    let same := fun (t : State) => ∀ a, a < base ∨ base + 0x200000 ≤ a → memByte t.boot.flash a = memByte s.boot.flash a
    (Turn s r.val 0x31 s1 c → hifCheck s1 c ok = none → 4 ≤ svcLevel s1 → s1.azl.epochTo = none →
      (c.len = 0 ∨ (512 ≤ c.len ∧ c.len = 512 + fwLength b ∧ fwStatus s1 b = 1)) →
      Handles (.stageEpoch r ok) s r.val fun t => t.boot.staging = s.boot.staging ++ [(c.ref, b)] ∧ t.boot.flash = s.boot.flash)
    ∧ (s.boot.staging = (ref, bs) :: q → bs ≠ [] → bs.length ≤ 0x200000 →
      let f := flashStore (flashErase s.boot.flash base 0x200000) base bs
      let w := putBoot s { s.boot with staging := q, flash := f }
      let st := slotStatus w (inactiveSlot s)
      (ok = true → st = 1 → ∃ t, exec (.stageDone ok) s = .next t ∧ t.boot.staging = q ∧ Completed t ref 0 0
        ∧ rdF t Reg.azlEpoch 31 16 = fwEpoch (slotBytes w (inactiveSlot s)) % 2 ^ 16 ∧ same t
        ∧ ∀ i < 0x200000, ~~~ memByte t.boot.flash (base + i) = bs.getD i 0xFF#8)
      ∧ (ok = false ∨ st ≠ 1 → ∃ t, exec (.stageDone ok) s = .next t ∧ t.boot.staging = q ∧ Completed t ref 0x25 0
        ∧ rdF t Reg.azlEpoch 31 16 = 0 ∧ same t ∧ ∀ i < 0x200000, ~~~ memByte t.boot.flash (base + i) = 0xFF#8))
    ∧ (s.boot.staging = (ref, []) :: q → let st := slotStatus s (inactiveSlot s)
      (st = 1 → ∃ t, exec (.stageDone ok) s = .next t ∧ t.boot.staging = q ∧ t.boot.flash = s.boot.flash ∧ Completed t ref 0 0
        ∧ rdF t Reg.azlEpoch 31 16 = fwEpoch (slotBytes s (inactiveSlot s)) % 2 ^ 16)
      ∧ (st ≠ 1 → ∃ t, exec (.stageDone ok) s = .next t ∧ t.boot.staging = q ∧ t.boot.flash = s.boot.flash ∧ Completed t ref 0x24 0
        ∧ rdF t Reg.azlEpoch 31 16 = 0))
    ∧ (Turn s r.val 0x32 s1 c → hifCheck s1 c ok = none → notEntry s1 = false → allStaged s1 e = true → e ≠ runEpoch s1 →
      s1.azl.epochTo = none →
      Handles (.switchEpoch r) s r.val fun t => t.azl.epochTo = some e ∧ Completed t c.ref 0 0 ∧ t.boot = s.boot
        ∧ rd64 t Reg.azlSwitchLo = switchStep s1 % 2 ^ 64)

/-- Host transfers start one at a time, and park blocks are written and read (R429, R431, R432, R433, R441, R443, R447, R614). -/
def Obligations.TransfersRun : Prop :=
  ∀ (s : State) (n k : Nat) (x : Xfer) (p : ParkReq) (errs : List (Nat × Ecc)) (rows : List (Nat × Bool × Nat)), let e := s.sched.exec
    (xferBusy s = true → exec .hostTransferStart s = .next s)
    ∧ (xferBusy s = false → nextXfer s = some n → s.gener.xfers[n]? = some x → xferMay s x.kind = true →
      ∃ t, exec .hostTransferStart s = .next t ∧ t.gener.xfers[n]? = some ⟨x.kind, true, s.count + xferTime s x.kind⟩
        ∧ (∀ m, m ≠ n → t.gener.xfers[m]? = s.gener.xfers[m]?) ∧ t.gener.xfers.length = s.gener.xfers.length)
    ∧ (s.gener.xfers.find? (fun x => x.started && (parkCtx x.kind).isSome) = some x → x.kind = .park k → e.running = false →
      (ctxOf s k).park = some p → (ctxOf s k).closeAfter = false →
      (p.swap = true → exec (.parkSaveDone false errs) s = .next s)
      ∧ (p.swap = false → ∃ t, exec (.parkSaveDone false errs) s = .next t ∧ (ctxOf t k).park = none ∧ t.host = s.host
        ∧ (p.ref.remote = false → Completed t p.ref 0x63 0))
      ∧ ∃ t, exec (.parkSaveDone true errs) s = .next t ∧ (ctxOf t k).park = some { p with saved := true } ∧ (ctxOf t k).blockAt = p.addr
        ∧ (p.swap = false → p.ref.remote = false → Completed t p.ref 0 0)
        ∧ (p.swap = true → ∃ j, (ctxOf t k).join = some j ∧ j.unpark = true ∧ j.swap = true))
    ∧ (s.gener.xfers.find? (fun x => x.started && (unparkCtx x.kind).isSome) = some x → x.kind = .unpark k → e.running = false →
      ((ctxOf s k).unparkRef = none → exec (.unparkReadDone false rows) s = .next s)
      ∧ (∀ ref, (ctxOf s k).unparkRef = some ref → ∃ t, exec (.unparkReadDone false rows) s = .next t ∧ t.hbm = s.hbm
        ∧ (ctxOf t k).st = .parked ∧ (ctxOf t k).reading = false ∧ (ctxOf t k).pages = [] ∧ (ref.remote = false → Completed t ref 0x63 0))
      ∧ ∃ t, exec (.unparkReadDone true rows) s = .next t ∧ (ctxOf t k).reading = false ∧ (ctxOf t k).accrued = 0 ∧ (ctxOf t k).unparkRef = none
        ∧ ∀ ref, (ctxOf s k).unparkRef = some ref → ref.remote = false → Completed t ref 0 k)
    ∧ (e.running = true → e.stopped = false → e.kind = .step → s.gener.hdr.q ≠ 0 → readsSpill e = true → e.launch + 2500 ≤ s.count →
      ∃ t, exec .spillStreamStart s = .next t ∧ t.sched.exec = { e with spillOn := true })

/-- A boundary lets contexts leave, gives spares, considers joins, decides and agrees the next step, or begins a switch (R317, R327, R330, R331, R335, R336, R337, R342, R411, R444, R448, R766). -/
def Obligations.StepBoundaryRuns : Prop :=
  ∀ (s : State) (im : Image) (n : Nat) (x : Context) (j : Join),
    (switchDue s = false → s.gener.image = some im → boundaryOpen s = true →
      (∃ t, exec .stepBoundary s = .next t ∧ t.gener.atBoundary = false
        ∧ (∀ k, (ctxOf s k).st = .closing → (ctxOf t k).st = .idle)
        ∧ ∀ rec, t.sched.nextStep = some rec → rec.batch ≠ [] ∧ t.sched.nextLaunch = some rec.launch ∧ t.sched.launchReady = true)
      ∧ (inGroup s = false → azlState s ≠ 5 → s.azl.floods = [] → mayDecide s = true → liveCtxs s ≠ [] →
        (∀ y ∈ liveCtxs s, ctxOf s y.1 = y.2 ∧ decodeEligible y.2 = true ∧ y.2.parkPending = none ∧ y.2.park = none) →
        let all : List BatchEntry := (liveCtxs s).map fun y =>
          { ctx := y.1, rows := 1, decode := true, tok := ((y.2.hist.getLast?).map (·.1)).getD 0 }
        let sf := batchSF s im all
        let pf := rdN s Reg.dlmFullD0 + sf.1 * rdN s Reg.dlmFullSa + sf.2 * rdN s Reg.dlmFullFc + s.gener.gap
        let px := pxOf s (tilePages im) ((liveCtxs s).map fun y => y.2.limit) % 2 ^ 32
        ∃ t rec, exec .stepBoundary s = .next t ∧ t.sched.nextStep = some rec ∧ t.sched.nextLaunch = some rec.launch
          ∧ rec.step = lastCommit s + 1 ∧ rec.launch = launchAfter s 0 ∧ (rec.s, rec.f) = batchSF s im rec.batch
          ∧ rec.planDur = planOfBatch s rec.exitKind (rec.s, rec.f)
          ∧ ((∀ y ∈ liveCtxs s, y.2.accrued + pf ≤ y.2.deadline) → rec.exitKind = false ∧ rec.batch = all)
          ∧ ((∃ y ∈ liveCtxs s, y.2.deadline < y.2.accrued + pf) → rec.exitKind = true ∧ rec.batch.map (·.ctx) = ((liveCtxs s).filter
            fun y => decide (y.2.deadline < y.2.accrued + pf) || decide (y.2.deadline < y.2.accrued + 2 * px)).map (·.1)))
      ∧ (inGroup s = false → s.azl.floods = [] → liveCtxs s = [(n, x)] → ctxOf s n = x → x.parkPending = none → x.park = none → x.reading = false →
        (x.st = .opened → x.join = some j → j.unpark = false → j.swap = false → s.gener.prio = none →
          s.gener.gap = rdN s Reg.dlmGap → s.gener.dlDef = rdN s Reg.dlmDlDefault →
          (admitTest s n false = none → ∃ t, exec .stepBoundary s = .next t ∧ (ctxOf t n).st = .prefill ∧ (ctxOf t n).join = none
            ∧ (ctxOf t n).pages = x.pages ++ (freePages s).take (pagesFor (x.len + x.waiting.length) + 1 - x.pages.length)
            ∧ rdN t Reg.sluJoins = min (rdN s Reg.sluJoins + 1) (2 ^ 32 - 1)
            ∧ (j.ref.remote = false → (j.ref.era, j.ref.idx) ∉ (ringOf t j.ref.ring).busy))
          ∧ (∀ cause, admitTest s n false = some cause → ∃ t, exec .stepBoundary s = .next t ∧ (ctxOf t n).st = .opened
            ∧ (ctxOf t n).pages = x.pages
            ∧ (s.gener.atBoundary = true →
              (ctxOf t n).join = some { j with deferrals := min (j.deferrals + 1) 255, deferred := true, cause := cause }
              ∧ rdN t Reg.sluDeferrals = min (rdN s Reg.sluDeferrals + 1) (2 ^ 32 - 1))
            ∧ (s.gener.atBoundary = false →
              (ctxOf t n).join = some { j with deferred := true } ∧ rdN t Reg.sluDeferrals = rdN s Reg.sluDeferrals)))
        ∧ (x.st = .decode → x.join = none → x.short = true →
          (rdN s Reg.kvpFree ≠ 0 → ∃ t, exec .stepBoundary s = .next t ∧ (ctxOf t n).st = .decode ∧ (ctxOf t n).short = false
            ∧ (ctxOf t n).blocked = false ∧ (ctxOf t n).pages = x.pages ++ (freePages s).take 1)
          ∧ (rdN s Reg.kvpFree = 0 → x.blocked = false → ∃ t, exec .stepBoundary s = .next t ∧ (ctxOf t n).pages = x.pages
            ∧ rdN t Reg.sluBlocks = min (rdN s Reg.sluBlocks + 1) (2 ^ 32 - 1)
            ∧ (x.parkAddr = 0 → (ctxOf t n).st = .decode ∧ (ctxOf t n).blocked = true)
            ∧ (x.parkAddr ≠ 0 → (ctxOf t n).st = .parked ∧ (ctxOf t n).park = some ⟨{}, x.parkAddr, true, false⟩
              ∧ t.gener.xfers = s.gener.xfers ++ [⟨.park n, false, 0⟩])))))
    ∧ (switchDue s = true →
      ∃ t, exec .stepBoundary s = .next t ∧ azlState t = 6 ∧ t.boot.fwRunning = false ∧ t.azl.restarting = true
        ∧ rdB t Reg.mgtStatus 0 = false ∧ t.sched = s.sched)

/-- Frames are accepted in order, a gap is NAKed, a repeat acknowledged, and acknowledged frames are dropped (R367, R368, R372, R373, R374, R380). -/
def Obligations.LinkRetryRules : Prop :=
  ∀ (s : State) (k : Fin 8) (f : Frame),
    let s1 := takeAck (noteRx s k.val f) k.val f
    let want := ((portOf s1 k.val).rxSeq + 1) % 2 ^ 16
    let nak : Frame := { mkFrame s1 0x03 0 0 0 0 [] with nak := true }
    (∀ p ∈ seqTable,
      (portUp s k.val = false ∨ f.kind ≠ p.2 ∨ (frameFor s k.val f = true ∧ (hsOf s k.val ≠ 2 ∨ f.version ≠ 1)) → exec (p.1 k f) s = .next s)
      ∧ (portUp s k.val = true → f.kind = p.2 → (f.et ≠ rdF s Reg.azlEthertype 15 0 ∨ f.dst ≠ stationAddr s k.val) → ∃ t, exec (p.1 k f) s = .next t
        ∧ CountsPort s t Reg.portDiscard k.val ∧ t.azl = s.azl ∧ t.sched = s.sched ∧ t.gener = s.gener)
      ∧ (portUp s k.val = true → frameFor s k.val f = true → hsOf s k.val = 2 → f.kind = p.2 → f.version = 1 → f.seq ≠ want →
        (seqAfter f.seq want = true → exec (p.1 k f) s = .next (putOut s1 k.val nak) ∧ CountsPort s1 (putOut s1 k.val nak) Reg.portTxFrames k.val)
        ∧ (seqAfter f.seq want = false → ∃ t, exec (p.1 k f) s = .next t ∧ t.regs = s1.regs ∧ t.sched = s1.sched ∧ t.gener = s1.gener
          ∧ (portOf t k.val).rxSeq = (portOf s1 k.val).rxSeq
          ∧ (k.val < s1.azl.ports.length → (portOf t k.val).ackAt = some ((portOf s1 k.val).ackAt.getD (s.count + 1250)))))
      ∧ (portUp s k.val = true → frameFor s k.val f = true → hsOf s k.val = 2 → f.kind = p.2 → f.version = 1 → f.seq = want → kindAllowed s k.val p.2 = false →
        ∃ t, exec (p.1 k f) s = .next t ∧ t.regs = s1.regs ∧ t.sched = s1.sched ∧ t.gener = s1.gener))
    ∧ (portUp s k.val = true → frameFor s k.val f = true → f.version = 1 → ∀ p ∈ [(Instr.keepalive, 0x02), (Instr.ack, 0x03)], f.kind = p.2 →
      ∃ t, exec (p.1 k f) s = .next t ∧ (f.ackValid = false → CountsPort s t Reg.portRxFrames k.val ∧ t.sched = s.sched)
        ∧ (f.ackValid = true → f.nak = false → (portOf t k.val).replay.map (·.frame.seq)
          = ((portOf s k.val).replay.filter fun x => seqAfter x.frame.seq f.ack).map (·.frame.seq)))

/-- What the entry does with the frames of its members (R381, R400, R401, R402, R403, R407, R408, R409, R414, R419). -/
def Obligations.EntryFramesRun : Prop :=
  ∀ (s s2 : State) (k : Fin 8) (f : Frame), isEntry s2 = true →
    (Accepted s k.val 0x11 f s2 → azlState s2 ≠ 4 → azlState s2 ≠ 5 → f45 f = currentStep s2 → (∀ l ∈ s2.azl.ledgers, l.1 ≠ f.src) →
      let ls := s2.azl.ledgers ++ [(f.src, ledgerOf f.payload)]
      (s2.sched.done = none ∨ ls.length ≠ groupSize s2 → ∃ t, exec (.ledger k f) s = .next t ∧ t.azl.ledgers = ls ∧ t.sched = s2.sched)
      ∧ (s2.sched.done ≠ none → ls.length = groupSize s2 →
        ∃ t, exec (.ledger k f) s = .next t ∧ t.sched.done = none ∧ t.azl.ledgers = []))
    ∧ (∀ n ts q, Accepted s k.val 0x14 f s2 → inGroup s2 = true → s2.azl.releaseQ = (n, ts) :: q →
      let c := (noteCommitted s2 f.src (f45 f)).azl.committed
      let done := ∀ p < groupSize s2, p ≠ memberPos s2 → ∃ x ∈ c, x.1 = p ∧ n ≤ x.2
      (∃ m, (f.src, m) ∈ c ∧ f45 f ≤ m) ∧ (∀ p ≠ f.src, ∀ m, (p, m) ∈ c ↔ (p, m) ∈ s2.azl.committed)
      ∧ (¬ done → ∃ t, exec (.committed k f) s = .next t ∧ t.azl.committed = c ∧ t.azl.releaseQ = s2.azl.releaseQ ∧ t.azl.released = s2.azl.released)
      ∧ (done → (∀ h ∈ s2.lock.held, h.2 ≠ n) → n ∉ s2.lock.orphans → q = [] → ∃ t, exec (.committed k f) s = .next t ∧ t.azl.committed = c
        ∧ t.azl.releaseQ = [] ∧ t.azl.released = n ∧ rdN t Reg.azlReleasedLo = n % 2 ^ 32))
    ∧ (Accepted s k.val 0x18 f s2 → memberPart s2 = false → f.src ∉ s2.azl.formed → s2.azl.formed ≠ [] →
      (s2.azl.formed.length + 1 < groupSize s2 → ∃ t, exec (.formed k f) s = .next t ∧ t.azl.formed = f.src :: s2.azl.formed)
      ∧ (groupSize s2 ≤ s2.azl.formed.length + 1 → ∃ t, exec (.formed k f) s = .next t ∧ t.azl.formed = []
        ∧ t.azl.stepBase = lastCommit s2 ∧ t.azl.reformed = true ∧ t.azl.waitSince = none))
    ∧ (Accepted s k.val 0x19 f s2 → ∃ t, exec (.staged k f) s = .next t
      ∧ t.azl.staged = (f.src, f.w4 % 2 ^ 16) :: s2.azl.staged.filter fun x => x.1 != f.src)
    ∧ (Accepted s k.val 0x1B f s2 → azlState s2 = 4 →
      let left := s2.azl.losses.filter fun l => l.2 != f.src
      (f45 f = lastCommit s2 → ¬ ((∀ l ∈ left, l.2 = memberPos s2) ∧ portsReady s2 = true) → ∃ t, exec (.rejoin k f) s = .next t
        ∧ t.azl.losses = left ∧ azlState t = 4 ∧ t.sched = s2.sched ∧ rdB t (Reg.pageAzl + 0x14) 5 = true)
      ∧ (f45 f = lastCommit s2 → (∀ l ∈ left, l.2 = memberPos s2) → portsReady s2 = true → ∃ t, exec (.rejoin k f) s = .next t
        ∧ t.azl.waitSince = none ∧ t.azl.ledgers = [] ∧ t.azl.losses = [] ∧ rdB t (Reg.pageAzl + 0x14) 5 = true
        ∧ (discarded s2 = none → t.gener.again = true)
        ∧ ∀ r, discarded s2 = some r → t.sched.replay = true ∧ ∃ l, t.sched.nextStep = some { r with launch := l } ∧ t.sched.nextLaunch = some l)
      ∧ (f45 f ≠ lastCommit s2 → ¬ (f45 f + 1 = lastCommit s2 ∧ bitN f.w6 0 = true) →
        exec (.rejoin k f) s = .next (stopAll s2)))
    ∧ (Accepted s k.val 0x1C f s2 → ∃ t, exec (.join k f) s = .next t ∧ t.gener.again = true
      ∧ ∀ n y, opcodeOf f.payload = 0x15 → s2.gener.image ≠ none → ctxBySid s2 (nthN f.payload 1 % 2 ^ 16) = some (n, y) →
        y.st = .opened → y.closeAfter = false → ctxOf t n = {})

/-- What a member does with the frames of the entry, and with flooded frames (R371, R378, R381, R393, R396, R402, R405, R407, R411). -/
def Obligations.MemberFramesRun : Prop :=
  ∀ (s s2 : State) (k : Fin 8) (f : Frame),
    (isEntry s2 = false →
      (∀ r im, Accepted s k.val 0x13 f s2 → f.ctl = some r → azlState s2 = 2 ∨ azlState s2 = 3 → s2.gener.image = some im →
        (r.batch ≠ [] → ∃ t, exec (.launch k f) s = .next t ∧ t.sched.nextStep = some r ∧ t.sched.nextLaunch = some r.launch
          ∧ t.sched.launchReady = true ∧ t.sched.done = none ∧ t.sched.recordLate = decide (r.launch < s.count))
        ∧ (r.batch = [] → s2.azl.floods = [] → ∃ t, exec (.launch k f) s = .next t ∧ t.sched = s2.sched))
      ∧ (Accepted s k.val 0x13 f s2 → azlState s2 ≠ 2 → azlState s2 ≠ 3 → ∃ t, exec (.launch k f) s = .next t ∧ t.sched = s2.sched)
      ∧ (∀ d, Accepted s k.val 0x12 f s2 → s2.sched.done = some d → d.record.step = f45 f → bitN f.w6 0 = true →
        ∃ t, exec (.verdict k f) s = .next t ∧ t.sched.done = none ∧ t.gener.atBoundary = true)
      ∧ (Accepted s k.val 0x17 f s2 → azlState s2 ≠ 5 →
        (azlState s2 = 4 ∨ s2.azl.formed = [memberPos s2] → ∃ t, exec (.form k f) s = .next t ∧ t.azl.formed = []
          ∧ t.azl.stepBase = f45 f ∧ t.azl.waitSince = none ∧ t.gener.again = true)
        ∧ (azlState s2 ≠ 4 → s2.azl.formed ≠ [memberPos s2] → memberPos s2 ≠ entryPos s2 → ∃ t, exec (.form k f) s = .next t
          ∧ t.azl.formed = if portsReady s2 then [memberPos s2] else [entryPos s2]))
      ∧ (Accepted s k.val 0x1A f s2 → ∃ t, exec (.switch k f) s = .next t ∧ t.azl.epochTo = some (f.w4 % 2 ^ 16))
      ∧ (∀ p ∈ [(Instr.ledger, 0x11), (Instr.committed, 0x14), (Instr.formed, 0x18), (Instr.staged, 0x19), (Instr.rejoin, 0x1B),
          (Instr.join, 0x1C)], Accepted s k.val p.2 f s2 → (portOf s2 (parentPort s2)).replay.length < 1024 →
        rdB s2 (onPage Reg.portStatus (parentPort s2)) 20 = false →
        exec (p.1 k f) s = .next (sendSeq s2 (parentPort s2) f)
          ∧ CountsPort s2 (sendSeq s2 (parentPort s2) f) Reg.portTxFrames (parentPort s2)))
    ∧ (Accepted s k.val 0x15 f s2 →
      (s2.azl.floods.contains (0x15, f.w7 % 2 ^ 8, f.w7 / 2 ^ 8 % 2 ^ 24) = true → exec (.hold k f) s = .next s2)
      ∧ (s2.azl.floods.contains (0x15, f.w7 % 2 ^ 8, f.w7 / 2 ^ 8 % 2 ^ 24) = false → s2.count < f45 f →
        ∃ t, exec (.hold k f) s = .next t ∧ t.sched.freezes = s2.sched.freezes ++ [⟨f45 f, f.w6, .group, false⟩]
          ∧ (0x15, f.w7 % 2 ^ 8, f.w7 / 2 ^ 8 % 2 ^ 24) ∈ t.azl.floods))
    ∧ (Accepted s k.val 0x16 f s2 → s2.azl.floods.contains (0x16, f.w4 / 2 ^ 8 % 2 ^ 8, f.w4 / 2 ^ 16 % 2 ^ 3) = false →
      azlState s2 ≠ 0 → azlState s2 ≠ 4 → azlState s2 ≠ 5 →
      ∃ t, exec (.loss k f) s = .next t ∧ azlState t = 4 ∧ t.azl.waitSince ≠ none
        ∧ (s2.sched.exec.running = true → t.sched.exec.stopped = true))
    ∧ (Accepted s k.val 0x17 f s2 → isEntry s2 = true → memberPart s2 = true → azlState s2 = 0 → s2.azl.formed ≠ [memberPos s2] →
      ∃ t, exec (.form k f) s = .next t ∧ t.azl.formed = [entryPos s2])
    ∧ (portUp s k.val = true → frameFor s k.val f = true → f.kind = 1 → f.ackValid = false →
      rdB s (onPage Reg.portStatus k.val) 1 = false → k.val < s.azl.ports.length →
      ∃ t, exec (.hello k f) s = .next t ∧ (portOf t k.val).early = some f ∧ hsOf t k.val = hsOf s k.val)
    ∧ (portUp s k.val = true → frameFor s k.val f = true → f.kind = 1 → f.ackValid = false → rdB s (onPage Reg.portStatus k.val) 1 = true →
      let s1 := noteRx s k.val f
      ∃ t, exec (.hello k f) s = .next t
        ∧ (refusal s1 k.val f = 0 → bitN f.w6 16 = false → hsOf t k.val = 2)
        ∧ (refusal s1 k.val f ≠ 0 → hsOf t k.val = 3 ∧ rdF t (onPage Reg.portStatus k.val) 7 4 = refusal s1 k.val f))

/-- The timers of a link, its loss, and the stop of a group (R367, R372, R373, R374, R375, R376, R379, R405, R408, R415, R417). -/
def Obligations.LinksAreTimedAndLost : Prop :=
  ∀ (s : State) (k : Fin 8) (n : Nat) (w : LinkWait),
    let st := onPage Reg.portStatus k.val
    let late := (portOf s k.val).replay.filter (timedOut s k.val)
    let lost := fun (c : Instr) => exec c s = .next (declareLoss s k.val)
    ((portOf s k.val).ackAt ≠ none → ∃ t, exec (.ackTimer k) s = .next t ∧ CountsPort s t Reg.portTxFrames k.val)
    ∧ (portUp s k.val = true → hsOf s k.val = 2 → (portOf s k.val).lastKeep + 12500 ≤ s.count →
      ∃ t, exec (.keepaliveTimer k) s = .next t ∧ CountsPort s t Reg.portTxFrames k.val)
    ∧ (portUp s k.val = true → ((portOf s k.val).replay.map (·.frame.seq)).Nodup → (∀ x ∈ late, x.sends < 8 ∧ x.due = none) → ∃ t, exec (.retryTimeout k) s = .next t ∧ t.sched = s.sched
      ∧ rdN t (onPage Reg.portRetries k.val) = min (rdN s (onPage Reg.portRetries k.val) + late.length) (2 ^ 32 - 1)
      ∧ (portOf t k.val).replay.map (·.frame) = (portOf s k.val).replay.map (·.frame))
    ∧ (portUp s k.val = true → (∃ x ∈ late, 8 ≤ x.sends) → lost (.retryTimeout k))
    ∧ (portUp s k.val = true → hsOf s k.val = 2 → (portOf s k.val).lastRx + 37500 ≤ s.count → lost (.silenceTimeout k))
    ∧ (portUp s k.val = true → hsOf s k.val = 2 → (portOf s k.val).beyondAt = some n → beyondTol s k.val = true →
      n + 1250000 ≤ s.count → lost (.syncOffsetTimeout k))
    ∧ (rdB s st 19 = false → rdB (declareLoss s k.val) st 19 = true ∧ hsOf (declareLoss s k.val) k.val = 0)
    ∧ (rdB s st 0 = true → ∃ t, exec (.pcsDown k) s = .next t ∧ portUp t k.val = false ∧ rdB t st 1 = false
      ∧ rdB t (portPage k.val + 0x14) 1 = true ∧ (hsOf s k.val = 2 → rdB t st 19 = true) ∧ (hsOf s k.val ≠ 2 → hsOf t k.val = 0))
    ∧ (rdB s (onPage Reg.portCtl k.val) 0 = true → rdB s st 0 = false → k.val ∉ s.boot.qPorts → k.val < s.azl.ports.length →
      ∀ corr, ∃ t, exec (.pcsUp k corr) s = .next t ∧ rdN t (onPage Reg.portFecCorr k.val) = min (rdN s (onPage Reg.portFecCorr k.val) + corr) (2 ^ 32 - 1) ∧ portUp t k.val = true ∧ rdB t (portPage k.val + 0x14) 0 = true ∧ rdB t st 1 = false
        ∧ (portOf t k.val).ptp = {} ∧ (portOf t k.val).ptpAt = s.count ∧ hsOf t k.val = hsOf s k.val)
    ∧ (portUp s k.val = true → rdB s st 1 = true → hsOf s k.val ≠ 2 → (∀ t, (portOf s k.val).helloAt = some t → t + 1250000 ≤ s.count) →
      s.boot.fwRunning = true → ∃ t, exec (.handshakeRetry k) s = .next t ∧ hsOf t k.val = 1 ∧ CountsPort s t Reg.portTxFrames k.val)
    ∧ ((s.azl.linkWaits.find? fun x => x.port == k.val && decide (x.since + 37500 ≤ s.count)) = some w →
      ∃ t, exec (.linkLostTimeout k) s = .next t ∧ t.azl.linkWaits = s.azl.linkWaits.filter fun x => x != w)
    ∧ (portUp s k.val = true → (∀ fec, ∃ t, exec (.fcsErr k fec) s = .next t
        ∧ CountsPort s t (if fec then Reg.portFecUncorr else Reg.portFcsErr) k.val ∧ (hsOf s k.val = 2 → CountsPort s t Reg.portTxFrames k.val))
      ∧ ∃ t, exec (.discardedFrame k) s = .next t ∧ CountsPort s t Reg.portDiscard k.val ∧ t.azl = s.azl ∧ t.sched = s.sched)
    ∧ (s.azl.waitSince = some n → azlState s = 4 ∨ azlState s = 6 → n + rdN s Reg.azlRejoinWait ≤ s.count →
      exec .rejoinTimeout s = .next (if isEntry s then stopAll s else stopGroup s))
    ∧ (inGroup s = true → isEntry s = true → exec .azlStop s = .next (stopAll s)
      ∧ ∃ u, stopAll s = stopGroup u ∧ u.sched = s.sched ∧ u.azl.releaseQ = s.azl.releaseQ)
    ∧ (let t := stopGroup s
      azlState t = 5 ∧ t.azl.releaseQ = [] ∧ t.azl.waitSince = none ∧ t.sched.nextStep = none ∧ t.sched.nextLaunch = none
        ∧ (s.sched.exec.running = true → t.sched.exec.stopped = true ∧ (s.sched.exec.kind = .step → t.sched.exec.dropped = true)))

/-- Partial sums enter the engine, late units are zeros, twins are compared, and damaged regions reload (R301, R303, R305, R386, R387, R389, R415, R418, R467, R469). -/
def Obligations.ReductionsAndLockStepRun : Prop :=
  ∀ (s s2 : State) (k : Fin 8) (f : Frame) (r : Reduction) (n : Nat) (i : PlanInst) (u slot unit : Nat) (errs : List (Nat × Ecc)),
    let layer := f.w4 % 2 ^ 16
    let sl := f.w4 / 2 ^ 16 % 2 ^ 8
    let bs := ofWords f.payload
    (Accepted s k.val 0x10 f s2 → redOf s2 layer sl = some r → r.layer = layer → r.slot = sl →
      ∃ t r2, exec (.partialSum k f errs) s = .next t ∧ findRed t layer sl = some r2
        ∧ ∀ j < bs.length / 64,
          (bitN f.w4 24 = true → smGet (dflt []) r2.result (f.w5 / 64 + j) = (bs.drop (64 * j)).take 64)
          ∧ (bitN f.w4 24 = false → smGet (dflt []) (srcUnits r2 k.val) (f.w5 / 64 + j) = (bs.drop (64 * j)).take 64))
    ∧ (moving s = true → lateRed s slot unit = some (n, i, u) → resultUnit s (layerOf s i.kernel) slot unit = none →
      ∃ t, exec (.reductionDeadline slot unit) s = .next t
        ∧ rdN t Reg.redLate = min (rdN s Reg.redLate + 1) (2 ^ 32 - 1) ∧ t.sched.exec.led.linkLate = min (s.sched.exec.led.linkLate + 1) 0xFFFF
        ∧ rdB t (Reg.pageAzr + 0x14) 0 = true
        ∧ t.sched.exec.transit = s.sched.exec.transit
          ++ [⟨i.start + u + 2 * i.hops + 262, i.cl, i.sadr + 64 * u, List.replicate 64 0, none, .clean⟩])
    ∧ (Accepted s k.val 0x1D f s2 →
      let tr : Triple := ⟨f45 f, f.w6 + f.w7 * 2 ^ 32, nthN f.payload 0 + nthN f.payload 1 * 2 ^ 32⟩
      (s2.lock.own = [] → ∃ t, exec (.twin k f) s = .next t ∧ t.lock = { s2.lock with twin := s2.lock.twin ++ [tr] })
      ∧ (rdB s2 Reg.dbgLsStatus 1 = true → (∀ a as b bs, s2.lock.own = a :: as → s2.lock.twin ++ [tr] = b :: bs → (a.n = 0 ↔ b.n = 0)) →
        ∃ t, exec (.twin k f) s = .next t ∧ t.lock = { s2.lock with twin := s2.lock.twin ++ [tr] })
      ∧ ∀ a as, s2.lock.own = a :: as → s2.lock.twin = [] → a.n = tr.n → rdB s2 Reg.dbgLsStatus 1 = false →
        let h := max a.count tr.count + rdN s2 Reg.dbgLsLag
        s2.count ≤ h →
        (a.digest = tr.digest → ∃ t, exec (.twin k f) s = .next t ∧ t.lock.own = as ∧ t.lock.twin = []
          ∧ t.lock.held = s2.lock.held.eraseP fun x => x.1 == a.n)
        ∧ (a.digest ≠ tr.digest → ∃ t, exec (.twin k f) s = .next t ∧ t.lock.haltAt = some h ∧ t.lock.own = a :: as
          ∧ rdB t Reg.dbgLsStatus 1 = true))
    ∧ (s.lock.haltAt = some n → n ≤ s.count → ∃ t, exec .lockstepHalt s = .next t ∧ t.lock.haltAt = none ∧ t.sched.halted = true
      ∧ rdB t Reg.dbgLsStatus 3 = true)
    ∧ (∀ w, Accepted s k.val 0x1E f s2 → s2.azl.floods.contains (0x1E, f.w4 % 2 ^ 8, f.w4 / 2 ^ 8 % 2 ^ 3) = false →
      s2.azl.linkWaits = [w] → w.pos = f.w4 % 2 ^ 8 →
      rdF s2 (onPage Reg.portStatus w.port) 18 16 = f.w4 / 2 ^ 8 % 2 ^ 3 → s2.count ≤ w.since + 37500 →
      ∃ t, exec (.linkLost k f) s = .next t ∧ t.azl.linkWaits = [] ∧ t.gener.image = s2.gener.image
        ∧ (s2.sched.exec.running = true → s2.sched.exec.kind = .step →
          t.sched.exec.led.linkLate = min (s2.sched.exec.led.linkLate + 1) 0xFFFF))
    ∧ (∀ d im (a : AltRoute), Accepted s k.val 0x12 f s2 → isEntry s2 = false → s2.sched.done = some d → d.record.step = f45 f →
      bitN f.w6 0 = false → bitN f.w6 1 = false → azlState s2 ≠ 4 → azlState s2 ≠ 5 → s2.gener.image = some im → im.alts = [a] →
      (0x1E, a.pos, a.port) ∈ s2.azl.floods → (0x1E, a.farPos, a.farPort) ∈ s2.azl.floods →
      ∃ t im2, exec (.verdict k f) s = .next t ∧ t.gener.image = some im2 ∧ im2.group = a.group ∧ im2.shards = a.shards
        ∧ im2.alts = [] ∧ rdN t Reg.dbgVarRoute = min (rdN s2 Reg.dbgVarRoute + 1) (2 ^ 32 - 1))
    ∧ (∀ x hb ho len dg, (s.sched.reloads.find? fun r => !r.failed) = some x → reloadOf s x.addr = some (hb, ho, len, dg) →
      let marked := s.sched.reloads.map fun y => if y.addr = x.addr then { y with failed := true } else y
      (byteDigest (memRange s.host ho len) = dg →
        ∃ t, exec (.regionReloadDone true) s = .next t ∧ t.hbm = memCopy s.host ho s.hbm hb len
          ∧ t.sched.reloads = s.sched.reloads.filter fun y => y.addr != x.addr)
      ∧ (byteDigest (memRange s.host ho len) ≠ dg →
        ∃ t, exec (.regionReloadDone true) s = .next t ∧ t.hbm = s.hbm ∧ t.sched.reloads = marked)
      ∧ (∃ t, exec (.regionReloadDone false) s = .next t ∧ t.hbm = s.hbm ∧ t.sched.reloads = marked))

/-- Measurements, pulses per second, the reference and the transition window (R376, R377, R378, R665, R684, R686, R687, R691, R694, R696, R697, R700). -/
def Obligations.TimeAndClocksRun : Prop :=
  ∀ (s : State) (k : Fin 8) (m : PtpMsg) (mv w n t1 t2 t3 : Nat) (d : Int) (on : Bool),
    let p := portOf s k.val
    let dom := rdF s Reg.gctPtpDomain 7 0
    let st := onPage Reg.portStatus k.val
    (ptpOn s k.val = true → k.val < s.azl.ports.length →
      (m.domain ≠ dom → exec (.ptpMessage k m) s = .next s)
      ∧ (m.domain = dom → m.kind = .sync → ∃ t, exec (.ptpMessage k m) s = .next t ∧ (portOf t k.val).ptp = { p.ptp with heard := some (m.seq, s.count) })
      ∧ (m.domain = dom → m.kind = .followUp → p.ptp.heard = some (m.seq, t2) → p.ptp.d2 = some d →
        (ptpRole s k.val ≠ 2 ∨ rdF s Reg.gctCtl 1 0 ≠ 2) →
        let e : Int := (2 * ((m.time : Int) - t2) + d + 1) / 2
        ∃ t, exec (.ptpMessage k m) s = .next t ∧ rdReg t (onPage Reg.portOffset k.val) = BitVec.ofInt 32 e
          ∧ (portOf t k.val).ptp = { p.ptp with heard := none, t12 := some (m.time, t2) }
          ∧ (portOf t k.val).beyondAt = if rdF s Reg.azlSyncTol 15 0 < e.natAbs then some (p.beyondAt.getD s.count) else none)
      ∧ (m.domain = dom → m.kind = .delayReq → ∃ t, exec (.ptpMessage k m) s = .next t
        ∧ (portOf t k.val).ptp = { p.ptp with out := [⟨dom, .delayResp, m.seq % 2 ^ 16, s.count, clockId s⟩] })
      ∧ (m.domain = dom → m.kind = .delayResp → p.ptp.asked = some (m.seq, t3) → p.ptp.t12 = some (t1, t2) →
        let d2 : Int := max 0 ((t2 : Int) - t1 + (m.time - t3))
        ∃ t, exec (.ptpMessage k m) s = .next t ∧ rdN t (onPage Reg.portDelay k.val) = (d2.toNat + 1) / 2 % 2 ^ 32
          ∧ (portOf t k.val).ptp.d2 = some d2 ∧ rdB t st 1 = true ∧ (rdB s st 1 = true → hsOf t k.val = hsOf s k.val)
          ∧ (rdB s st 1 = false → (portOf t k.val).helloAt = some s.count ∧ (portOf t k.val).early = none
            ∧ (p.early = none → hsOf t k.val = 1)))
      ∧ (p.ptpAt ≤ s.count → ∃ t, exec (.ptpSendTimer k false) s = .next t ∧ (portOf t k.val).ptpAt = s.count + 156250000
        ∧ (portOf t k.val).ptp.out = [⟨dom, .sync, p.ptp.syncSeq % 2 ^ 16, 0, clockId s⟩, ⟨dom, .followUp, p.ptp.syncSeq % 2 ^ 16, s.count, clockId s⟩]
          ++ (if p.ptp.t12.isSome then [⟨dom, .delayReq, p.ptp.reqSeq % 2 ^ 16, 0, clockId s⟩] else [])
        ∧ (portOf t k.val).ptp.asked = if p.ptp.t12.isSome then some (p.ptp.reqSeq % 2 ^ 16, s.count) else none))
    ∧ ((ppsValid s = false → ∃ t, exec .ppsInEdge s = .next t ∧ rdN t Reg.gctPpsReject = min (rdN s Reg.gctPpsReject + 1) (2 ^ 32 - 1)
        ∧ t.count = s.count)
      ∧ (ppsValid s = true → rdF s Reg.gctCtl 1 0 = 1 →
        let e : Int := (rd64 s Reg.gctPpsSecLo * 1250000000 : Nat) - (s.count : Int)
        ∃ t, exec .ppsInEdge s = .next t ∧ rd64 t Reg.gctPpsSecLo = (rd64 s Reg.gctPpsSecLo + 1) % 2 ^ 64
          ∧ t.count = if rdN s Reg.gctLoadThr < e.natAbs ∧ rdB s Reg.gctCtl 2 = true ∧ loadBar s = 0 then rd64 s Reg.gctPpsSecLo * 1250000000 % 2 ^ 64
            else s.count)
      ∧ (ppsValid s = true → rdF s Reg.gctCtl 1 0 ≠ 1 → ∃ t, exec .ppsInEdge s = .next t ∧ t.power.lastPps = some s.count ∧ t.regs = s.regs))
    ∧ (rdB s Reg.gctStatus 0 = true → s.power.lastMeas + 3750000000 ≤ s.count →
      ∃ t, exec .measurementTimeout s = .next t ∧ rdB t Reg.gctStatus 0 = false ∧ rdB t (Reg.pageGct + 0x14) 4 = true
        ∧ rdReg t Reg.clkSteer = rdReg s Reg.clkSteer)
    ∧ (rdB s Reg.gctCtl 3 = true → rdB s Reg.gctStatus 0 = true → s.power.resetN = true →
      (s.count % 1250000000 = 0 → ∃ t, exec .ppsOutRise s = .next t ∧ t.power = { s.power with ppsOut := true } ∧ t.regs = s.regs)
      ∧ (125000000 ≤ s.count % 1250000000 → ∃ t, exec .ppsOutFall s = .next t ∧ t.power = { s.power with ppsOut := false } ∧ t.regs = s.regs))
    ∧ (rdB s Reg.clkStatus 2 = false → s.power.pll = true → ∃ t, exec .refLost s = .next t ∧ rdB t Reg.clkStatus 2 = true
      ∧ rdN t Reg.clkRefLosses = min (rdN s Reg.clkRefLosses + 1) (2 ^ 32 - 1) ∧ rdB t (Reg.pageClk + 0x14) 0 = true ∧ t.count = s.count)
    ∧ (s.power.holdoverAt = some n → ∃ t, exec .refRestored s = .next t ∧ rdB t Reg.clkStatus 2 = false
      ∧ rdB t (Reg.pageClk + 0x14) 1 = true ∧ t.power = { s.power with holdoverAt := none })
    ∧ (s.power.window = some w → w ≤ s.count → ∃ t, exec (.leanWindowEnd mv) s = .next t ∧ t.power.window = none
      ∧ rdB t Reg.clkStatus 4 = false ∧ t.power.toNominal = false
      ∧ t.power.lateFrom = if s.power.toNominal = true ∧ mv < 735 then some (s.power.lateFrom.getD s.count) else none)
    ∧ (s.power.lateFrom = some n → ∃ t, exec .vmtxReached s = .next t ∧ t.power.lateFrom = none ∧ rdB t (Reg.pageClk + 0x14) 2 = true
      ∧ rdN t Reg.clkVmtxLate = min (rdN s Reg.clkVmtxLate + (s.count - n)) (2 ^ 32 - 1))
    ∧ ((on = false ∨ 125000 ≤ rdN s Reg.dlmGap) → ∃ t, exec (.leanEnWrite on) s = .next t ∧ rdB t Reg.lspCtl 0 = on
      ∧ (s.sched.exec.running = true → t.power = s.power) ∧ (s.sched.exec.running = false → t.power.leanEn = on))
    ∧ (rdN s Reg.dlmGap < 125000 → exec (.leanEnWrite true) s = .next s)

/-- THERMAL_PERIOD at its multiple changes THM.LEN as R701 says and, when it is not zero, counts a window and schedules its freeze, AZL.HOLD_LEAD counts after the multiple in a running group and 2,500 otherwise. A sensor's reading shows at its register and one without a reading loses VALID; a sensor without a reading for 1,250,000 counts fails; 115 °C sets THERMTRIP_N. A quarantine window begins its counts anew; a quarantine of a cluster by register marks it. -/
def Obligations.ThermalAndQuarantineRun : Prop :=
  ∀ (s : State) (temps : List (Option Int)) (n : Fin 23) (m : Fin 16) (since : Nat) (v : Word),
    let period := max 1 s.power.periodEff
    let base := s.count / period * period
    let len := holdLen s (rdN s Reg.thmStep) (rdN s Reg.thmMaxLen)
    let t0 := hottest s dieSensors
    let th := hottest s hbmSensors
    let hot := fun (a : Option (Int × Nat)) (z : Int) => ∃ x, a = some x ∧ z ≤ x.1
    let ht := sext 16 (rdF s Reg.thmHoldT 15 0)
    let hh := sext 16 (rdF s Reg.thmHbmHoldT 15 0)
    let hyst : Int := rdF s Reg.thmHoldT 31 16
    (s.power.nextPeriod ≤ s.count → ∃ t, exec .thermalPeriod s = .next t ∧ rdN t Reg.thmLen = len % 2 ^ 32
      ∧ (len = 0 → t.sched.freezes = s.sched.freezes)
      ∧ (len ≠ 0 →
        let lead := if azlState s = 2 ∨ azlState s = 3 then rdN s Reg.azlHoldLead else 2500
        t.sched.freezes = s.sched.freezes ++ [⟨base + lead, len, .thermal, false⟩]
        ∧ rdN t Reg.thmHolds = min (rdN s Reg.thmHolds + 1) (2 ^ 32 - 1)))
    ∧ (rdB s Reg.thmCtl 0 = false → len = 0)
    ∧ (rdB s Reg.thmCtl 0 = true → (∃ i < 16, i ∉ s.power.failed) →
      (hot t0 ht ∨ hot th hh → len = min (rdN s Reg.thmLen + rdN s Reg.thmStep) (rdN s Reg.thmMaxLen))
      ∧ (¬ hot t0 ht → ¬ hot th hh → ¬ hot t0 (ht - hyst) → ¬ hot th (hh - hyst) → len = rdN s Reg.thmLen - rdN s Reg.thmStep)
      ∧ (¬ hot t0 ht → ¬ hot th hh → (hot t0 (ht - hyst) ∨ hot th (hh - hyst)) → len = rdN s Reg.thmLen))
    ∧ (∃ t, exec (.sensorRefresh temps) s = .next t ∧ ∀ i < 23,
      (∀ x, temps[i]? = some (some x) → rdF t (Reg.thmTemp + 4 * i) 15 0 = (x % 2 ^ 16).toNat ∧ rdB t (Reg.thmTemp + 4 * i) 16 = true)
      ∧ (temps[i]? = some none → rdB t (Reg.thmTemp + 4 * i) 16 = false ∧ i ∈ t.power.invalidAt.map (·.1)))
    ∧ (s.power.invalidAt.find? (fun e => e.1 == n.val) = some (n.val, since) → since + 1250000 ≤ s.count → n.val ∉ s.power.failed →
      ∃ t, exec (.sensorFail n) s = .next t ∧ t.power.failed = n.val :: s.power.failed ∧ rdB t (Reg.pageThm + 0x14) 2 = true)
    ∧ (∃ t, exec (.thermtrip m) s = .next t ∧ t.power = { s.power with thermtrip := true } ∧ t.regs = s.regs)
    ∧ (let q := rdN s Reg.ldgQuarWindow * 2 ^ 32
      q ≠ 0 → s.power.quarAt < s.count / q → ∃ t, exec .quarantineWindow s = .next t ∧ t.power.quarAt = s.count / q
        ∧ t.boot.quar = {} ∧ ∀ p < 144, (clOf t p).ueExecs = 0 ∧ (clOf t p).ceCount = 0)
    ∧ (rbit v 31 = false → exec (.ldgQuarantine v) s = .next s)
    ∧ (rbit v 31 = true → rfld v 9 8 = 0 → rfld v 7 0 < 144 →
      ∃ t, exec (.ldgQuarantine v) s = .next t ∧ (clOf t (rfld v 7 0)).quarantined = true)

/-- Frames, features, the classifier and the wideband channels (R479, R480, R491, R493, R494, R504, R506, R511, R537, R538, R542, R545). -/
def Obligations.SensingAndWidebandRun : Prop :=
  ∀ (s : State) (p : Fin 16) (sec : Fin 32) (energy tk : Nat) (ov : Bool) (w : Word) (c : Fin 4) (nv : Int) (rs : Bool) (r : DecRec)
    (rest : List DecRec) (d : Fade) (errs : Nat),
    let f := s.falbo.frames
    let x := decChan s c.val
    let page := onPage Reg.pageDec c.val
    let xf := decReg Reg.decXfade c.val
    let st := decReg Reg.decStatus c.val
    (1 ≤ svcLevel s → s.count % frameLen f.now.len = 0 → f.last ≠ some s.falbo.ticks →
      ∃ t, exec .frameBoundary s = .next t ∧ t.falbo.frames.last = some s.falbo.ticks
        ∧ t.falbo.frames.done.number = s.count / frameLen f.now.len - 1 ∧ t.count = s.count)
    ∧ (smGet (dflt 0) f.conv p.val ≠ sec.val → exec (.featureWrite p sec energy ov) s = .next s)
    ∧ (f.last = some tk → tk + 130 * (sec.val + 1) ≤ s.falbo.ticks → smGet (dflt 0) f.conv p.val = sec.val →
      let on := bitN (smGet (dflt 9) f.done.ctl p.val) 0
      let gain := smGet (dflt 9) f.done.ctl p.val / 2 % 4
      let ishift := smGet secCold f.done.secs (32 * p.val + sec.val) / 2 ^ 11 % 8
      let len := 78125 * 2 ^ f.done.len
      let code := min ((2 * 4095 * 2 ^ ishift * (2 ^ (1 + 2 * gain) * energy) + len * 2 ^ 32) / (len * 2 ^ 33)) 4095
      ∃ t, exec (.featureWrite p sec energy ov) s = .next t
        ∧ let v := rdReg t (onPage Reg.rbkFeat p.val + 4 * sec.val)
          rfld v 31 16 = f.done.number % 2 ^ 16
          ∧ rfld v 11 0 = (if on = false then 0 else if ov = true then 4095 else code)
          ∧ rbit v 12 = (on && (ov || code == 4095)) ∧ smGet (dflt 0) t.falbo.frames.conv p.val = sec.val + 1)
    ∧ (f.last = some tk → s.falbo.fcl.waiting = true → tk + 12500 ≤ s.falbo.ticks →
      ∃ t, exec .classifierPublish s = .next t ∧ rdN t Reg.fclResults = min (rdN s Reg.fclResults + 1) (2 ^ 32 - 1)
        ∧ rdF t Reg.fclResult 4 0 = (classify s).2.cls % 32 ∧ rd64 t Reg.fclRframe = f.done.number % 2 ^ 64
        ∧ rdB t (Reg.pageFcl + 0x14) 0 = true)
    ∧ (falboUp s = true → let a := rdF s Reg.fclWaddr 18 0
      (rdB s Reg.fclStatus 0 = true → ∃ t, exec (.fclWdataWrite w) s = .next t ∧ t.falbo = s.falbo ∧ rdF t Reg.fclWaddr 18 0 = a)
      ∧ (rdB s Reg.fclStatus 0 = false → a < 0x44D80 → ∃ t, exec (.fclWdataWrite w) s = .next t
        ∧ memNat t.falbo.fcl.weights a 4 = w.toNat ∧ rdF t Reg.fclWaddr 18 0 = a + 4)
      ∧ ∃ t, exec .fclWdataRead s = .next t ∧ t.hif.lastRead = memRange s.falbo.fcl.weights a 4
        ∧ rdF t Reg.fclWaddr 18 0 = if a = 0x5FFFC then 0 else (a + 4) % 2 ^ 19)
    ∧ (x.running = true → x.t0 + (5 * x.n + 1) / 2 ≤ s.falbo.ticks → ∃ t, exec (.converterSample c nv) s = .next t
      ∧ (decChan t c.val).n = x.n + 1 ∧ rd64 t (decReg Reg.decSamples c.val) = (decChan t c.val).k % 2 ^ 64
      ∧ ((adcCode nv).2 = true → rdB t (page + 0x14) 5 = true ∧ (decChan t c.val).ovr = true))
    ∧ (x.recs = r :: rest → r.at_ ≤ s.falbo.ticks →
      let tail := rdF s (decReg Reg.decRingTail c.val) 15 0
      let log2 := rdF s (decReg Reg.decRingSize c.val) 4 0
      let full := (tail + 2 ^ 16 - rdF s (decReg Reg.decRingHead c.val) 15 0) % 2 ^ 16 = 2 ^ log2
      (full ∨ permitted s 0 = false → ∃ t, exec (.sampleRecord c) s = .next t ∧ (decChan t c.val).recs = rest ∧ t.host = s.host
        ∧ rdN t (decReg Reg.decDropped c.val) = min (rdN s (decReg Reg.decDropped c.val) + 1) (2 ^ 32 - 1))
      ∧ (¬ full → permitted s 0 = true → ∃ t, exec (.sampleRecord c) s = .next t ∧ (decChan t c.val).recs = rest
        ∧ rdF t (decReg Reg.decRingTail c.val) 15 0 = (tail + 1) % 2 ^ 16
        ∧ t.host = memStore s.host ((rd64 s (decReg Reg.decRingLo c.val) + 128 * (tail % 2 ^ log2)) % 2 ^ 64)
          ((recWords c.val r (1 - tail / 2 ^ log2 % 2) x.ovr (x.gap == some r.run)).flatMap (leBytes 4))))
    ∧ (fadeOf x rs = some d → max 1 d.len ≤ d.j → ∃ t, exec (.fadeDone c rs) s = .next t
      ∧ rdB t st (bankBit rs) = !rdB s st (bankBit rs) ∧ rdB t st (fadeBit rs) = false ∧ fadeOf (decChan t c.val) rs = none
      ∧ rdB t (page + 0x14) 2 = true)
    ∧ (falboUp s = true → ∀ q ∈ [(Instr.firSwap, false), (Instr.rsSwap, true)],
      (rdB s st (fadeBit q.2) = false → ∃ t, exec (q.1 c) s = .next t ∧ rdB t xf (swapBit q.2) = true ∧ rdB t st (fadeBit q.2) = true
        ∧ t.falbo = s.falbo)
      ∧ (rdB s st (fadeBit q.2) = true → ∃ t, exec (q.1 c) s = .next t ∧ rdB t (page + 0x14) 3 = true ∧ rdReg t xf = rdReg s xf
        ∧ t.falbo = s.falbo))
    ∧ (falboUp s = true → let a := rdReg s (decReg Reg.decCaddr c.val)
      let next := fun (t : State) => rdF t (decReg Reg.decCaddr c.val) 9 0 = (rfld a 9 0 + 1) % 2 ^ 10
      (∃ t, exec (.rsCdataAccess c none) s = .next t ∧ t.hif.lastRead = leBytes 4 (smGet (dflt 0) x.coefs (rfld a 10 0)) ∧ next t)
      ∧ (coefFree s c.val true (rbit a 10) = true → ∃ t, exec (.rsCdataAccess c (some w)) s = .next t
        ∧ smGet (dflt 0) (decChan t c.val).coefs (rfld a 10 0) = w.toNat % 2 ^ 18 ∧ next t)
      ∧ (coefFree s c.val true (rbit a 10) = false → ∃ t, exec (.rsCdataAccess c (some w)) s = .next t ∧ t.falbo = s.falbo ∧ next t))
    ∧ (falboUp s = true → (rdB s (decReg Reg.decCtl c.val) 1 = false → 4 ≤ rdF s (decReg Reg.decRingSize c.val) 4 0 →
        rdF s (decReg Reg.decRingSize c.val) 4 0 ≤ 16 → ∃ t, exec (.ringEn (some c) true) s = .next t
          ∧ rdB t (decReg Reg.decCtl c.val) 1 = true ∧ rdN t (decReg Reg.decRingTail c.val) = 0 ∧ rdN t (decReg Reg.decRingHead c.val) = 0)
      ∧ (rdB s Reg.fclCtl 5 = false → 4 ≤ rdF s Reg.fclRingSize 3 0 → rdF s Reg.fclRingSize 3 0 ≤ 12 →
        ∃ t, exec (.ringEn none true) s = .next t ∧ rdB t Reg.fclCtl 5 = true ∧ rdN t Reg.fclRingTail = 0 ∧ rdN t Reg.fclRingHead = 0)
      ∧ (∃ t, exec (.ringEn none false) s = .next t ∧ rdB t Reg.fclCtl 5 = false))
    ∧ (∃ t, exec (.dieToDieTrained errs) s = .next t ∧ t.boot = { s.boot with d2d := true } ∧ rdB t Reg.snsStatus 2 = true
      ∧ rdN t (Reg.pageSns + 0x1C) = min (rdN s (Reg.pageSns + 0x1C) + errs) (2 ^ 32 - 1))

/-- Weirs decide, qualify and blank, and pulse generators trip, clear, commit and drive (R548, R550, R554, R556, R557, R559, R564, R569, R571, R573, R578, R749). -/
def Obligations.WeirsAndPulsesRun : Prop :=
  ∀ (s : State) (w : Fin 32) (u t0 : Nat) (j : Fin 16) (prog : PgProg) (dv : Bool), let x := weirOf s w.val
    let p := pulseOf s j.val
    let ctl := rdN s (pgReg Reg.pgCtl j.val)
    let page := onPage Reg.pagePg (j.val / 8)
    (1 ≤ svcLevel s → ∃ t, exec (.weirCrossing w u) s = .next t ∧ (weirOf t w.val).u = u
      ∧ ((x.enabled = false ∨ x.blankUntil ≠ none) → (rawOut (weirOf t w.val)) = rawOut x)
      ∧ (x.enabled = true → x.blankUntil = none → x.test = 0 → bitN x.cfg 1 = false → avddOk s = true →
        let off := if x.mode = 3 then 64 else 32
        let hi := thrLevel x.resCode (x.thr % 2 ^ 12)
        let lo := thrLevel x.resCode (x.thr / 2 ^ 16 % 2 ^ 12)
        (u + off < hi ∨ hi + off < u) → (u + off < lo ∨ lo + off < u) →
        (weirOf t w.val).raw = ((bitN x.cfg 15 && decide (hi < u)) || (bitN x.cfg 16 && decide (u < lo)))))
    ∧ (x.blankUntil = some t0 → t0 ≤ s.falbo.ticks →
      ∃ t, exec (.blankingEnd w) s = .next t ∧ (weirOf t w.val).blankUntil = none)
    ∧ (1 ≤ svcLevel s → x.enabled = true → filtered x ≠ x.qual → ∃ t, exec (.qualChange w) s = .next t
      ∧ (weirOf t w.val).qual = filtered x
      ∧ (filtered x = true → rd64 t (weirReg Reg.wirLastLo w.val) = s.count % 2 ^ 64
        ∧ rdN t (weirReg Reg.wirTrans w.val) = min (rdN s (weirReg Reg.wirTrans w.val) + 1) (2 ^ 32 - 1)))
    ∧ (falboUp s = false → ∀ i ∈ [Instr.pgSwTrip j, .pgClear j, .pgEnable j, .pgCommit j], exec i s = .next s)
    ∧ (falboUp s = true → p.armed = true → bitN ctl 0 = true → ∃ t, exec (.pgSwTrip j) s = .next t ∧ (pulseOf t j.val).armed = false
      ∧ (pulseOf t j.val).tripped = true ∧ rdN t (pgReg Reg.pgTripCause j.val) = 2
      ∧ rdN t (pgReg Reg.pgTrips j.val) = min (rdN s (pgReg Reg.pgTrips j.val) + 1) (2 ^ 32 - 1)
      ∧ (1 ≤ svcLevel s → (pulseOf t j.val).pin = match ctl / 4 % 4 with | 0 => .low | 1 => .high | _ => .off))
    ∧ (falboUp s = true → ∃ t, exec (.pgClear j) s = .next t ∧ (pulseOf t j.val).tripped = p.tripped ∧ (pulseOf t j.val).armed = p.armed
      ∧ (p.tripped = true → (pulseOf t j.val).clear = true) ∧ t.regs = s.regs)
    ∧ (falboUp s = true → bitN ctl 0 = false → ∃ t, exec (.pgEnable j) s = .next t ∧ bitN (rdN t (pgReg Reg.pgCtl j.val)) 0 = true
      ∧ (pulseOf t j.val).tripped = true ∧ (pulseOf t j.val).armed = false ∧ rdN t (pgReg Reg.pgTripCause j.val) = 8)
    ∧ (falboUp s = true → (commitCause s j.val = 0 → ∃ t, exec (.pgCommit j) s = .next t
        ∧ (pulseOf t j.val).pend = some (shadowProg s j.val, rd64 s (pgReg Reg.pgApplyLo j.val)) ∧ t.regs = s.regs)
      ∧ (commitCause s j.val ≠ 0 → ∃ t, exec (.pgCommit j) s = .next t ∧ t.falbo = s.falbo ∧ rdB t (page + 0x14) 16 = true))
    ∧ (p.pend = some (prog, t0) → t0 ≤ s.count → ∃ t, exec (.programApply j) s = .next t ∧ (pulseOf t j.val).prog = prog
      ∧ (pulseOf t j.val).pend = none ∧ (pulseOf t j.val).seq = (p.seq + 1) % 2 ^ 16)
    ∧ (p.armed = true → p.tripped = false → bitN ctl 0 = true → 1 ≤ svcLevel s → ∃ t, exec (.programEdge j) s = .next t
      ∧ (pulseOf t j.val).pin = (if progLevel p.prog (bitN ctl 1) s.count then .high else .low) ∧ t.regs = s.regs)
    ∧ (avddOk s = true → ∃ t, exec (.avddFail dv) s = .next t ∧ avddOk t = false ∧ rdB t Reg.snsStatus 1 = dv
      ∧ (1 ≤ svcLevel s → p.armed = true → bitN ctl 0 = true → bitN ctl 5 = true → (pulseOf t j.val).tripped = true))
    ∧ (avddOk s = false → ∃ t, exec (.avddOk dv) s = .next t ∧ avddOk t = true ∧ rdB t Reg.snsStatus 1 = dv)

/-- Command rings and event queues run (R598, R599, R600, R601, R602, R604, R605, R619, R620, R624, R625, R626). -/
def Obligations.RingsAndQueuesRun : Prop :=
  ∀ (s : State) (r : Fin 128) (q : Fin 8) (v : Word) (i t0 : Nat) (x : Bool × EvRec) (xs : List (Bool × EvRec)),
    let ctl := onPage Reg.cmqCtl r.val
    let st := onPage Reg.cmqStatus r.val
    let g := ringOf s r.val
    let size := rdN s (onPage Reg.cmqSize r.val)
    let rq := ringQueue s r.val
    let stops := fun (c : Instr) (cause : Nat) => ∃ t, exec c s = .next t ∧ ringRuns t r.val = false ∧ rdB t st 1 = true
      ∧ rdF t st 3 2 = cause ∧ rdB t (onPage Reg.pageCmq r.val + 0x14) 0 = true
    let e := evqOf s q.val
    let qctl := onPage Reg.evqCtl q.val
    let tail := rdN s (onPage Reg.evqTail q.val)
    let qsize := rdN s (onPage Reg.evqSize q.val)
    let irq := rdReg s (onPage Reg.evqIrq q.val)
    let free := fun (o : Nat) => rbit (smGet (dflt 0) s.hw o) 0 = false
    let vec := rfld irq 3 0
    let mask := msixMasked s 0 vec
    let pend := rdB s Reg.hifMsixPba vec
    let msg := memStore s.host (rd64 s (Reg.hifMsixAddrLo + 16 * vec) % 2 ^ 64) (leBytes 4 (rdN s (Reg.hifMsixData + 16 * vec)))
    ((ringRuns s r.val = false ∨ pendingAt s r.val v.toNat ≤ size) → ∃ t, exec (.doorbell r v) s = .next t ∧ t.hif = s.hif
        ∧ rdReg t (onPage Reg.cmqDoorbell r.val) = v ∧ ∀ o, o ≠ onPage Reg.cmqDoorbell r.val → rdReg t o = rdReg s o)
    ∧ (ringRuns s r.val = true → size < pendingAt s r.val v.toNat → stops (.doorbell r v) 2)
    ∧ (ringRuns s r.val = true → s.boot.fwRunning = true → g.fetching = none → permitted s (ringOwner s r.val) = true →
      pendingAt s r.val (rdN s (onPage Reg.cmqDoorbell r.val)) ≠ 0 →
      ((evqOf s rq).reserved < 1024 → ∃ t, exec (.descriptorFetch r) s = .next t ∧ (evqOf t rq).reserved = (evqOf s rq).reserved + 1
        ∧ (ringOf t r.val).fetching = some (rdN s (onPage Reg.cmqHead r.val)))
      ∧ (1024 ≤ (evqOf s rq).reserved → exec (.descriptorFetch r) s = .next s))
    ∧ (g.fetching = some i →
      stops (.descriptorReadDone r false) 3
      ∧ ∃ t, exec (.descriptorReadDone r true) s = .next (skipBad 64 t r.val)
        ∧ rdN t (onPage Reg.cmqHead r.val) = (i + 1) % 2 ^ 32 ∧ (ringOf t r.val).fetching = none
        ∧ rdN t (onPage Reg.cmqOutstanding r.val) = (g.out.length + 1) % 2 ^ 32
        ∧ ∃ d, (ringOf t r.val).fifo = g.fifo ++ [d] ∧ d.ref.idx = i ∧ d.ref.ring = r.val ∧ d.ref.q = rq
          ∧ d.words = memWords s.host (rd64 s (onPage Reg.cmqBaseLo r.val) + 64 * (i % max 1 size)) 16)
    ∧ (svcLevel s < 2 → ∀ on, exec (.cmqEnable r on) s = .next s ∧ exec (.evqEnable q on) s = .next s)
    ∧ (rbit (smGet (dflt 0) s.hw ctl) 0 = true → ∀ on, exec (.cmqEnable r on) s = .next s)
    ∧ (2 ≤ svcLevel s → free ctl → rdB s ctl 0 = false → sizeOk size = true → rdB s (onPage Reg.evqCtl rq) 0 = true → evqOwner s rq = ringOwner s r.val →
      ∃ t, exec (.cmqEnable r true) s = .next t ∧ rdB t ctl 0 = true ∧ ringRuns t r.val = true ∧ rdB t st 1 = false
        ∧ rdN t (onPage Reg.cmqHead r.val) = 0 ∧ rdN t (onPage Reg.cmqDoorbell r.val) = 0)
    ∧ (2 ≤ svcLevel s → free ctl → rdB s ctl 0 = false → (sizeOk size = false ∨ rdB s (onPage Reg.evqCtl rq) 0 = false ∨ evqOwner s rq ≠ ringOwner s r.val) →
      stops (.cmqEnable r true) 1)
    ∧ (2 ≤ svcLevel s → free ctl → rdB s ctl 0 = true → ∃ t, exec (.cmqEnable r false) s = .next t ∧ rdB t ctl 0 = false ∧ ringRuns t r.val = false
      ∧ (ringOf t r.val).fifo = g.fifo ∧ (ringOf t r.val).out = g.out)
    ∧ (2 ≤ svcLevel s → free qctl → rdB s qctl 0 = false →
      (sizeOk qsize = true → ∃ t, exec (.evqEnable q true) s = .next t ∧ rdB t qctl 0 = true ∧ rdN t (onPage Reg.evqTail q.val) = 0
        ∧ rdN t (onPage Reg.evqHead q.val) = 0 ∧ rdB t (onPage Reg.evqStatus q.val) 0 = false)
      ∧ (sizeOk qsize = false → exec (.evqEnable q true) s = .next s))
    ∧ (2 ≤ svcLevel s → free qctl → ∃ t, exec (.evqEnable q false) s = .next t ∧ rdB t qctl 0 = false ∧ t.hif = s.hif)
    ∧ (let d := (tail + 2 ^ 32 - v.toNat) % 2 ^ 32
      (d ≤ qsize → ∃ t, exec (.evqHeadWrite q v) s = .next t ∧ rdReg t (onPage Reg.evqHead q.val) = v)
      ∧ (qsize < d → ∃ t, exec (.evqHeadWrite q v) s = .next t ∧ rdB t (onPage Reg.evqStatus q.val) 0 = true
        ∧ rdReg t (onPage Reg.evqHead q.val) = rdReg s (onPage Reg.evqHead q.val)))
    ∧ (e.waiting = x :: xs →
      (evqOpen s q.val = false → exec (.eventRecordWrite q) s = .next s)
      ∧ (evqOpen s q.val = true → e.lostSince = 0 → rbit irq 4 = false → ∃ t, exec (.eventRecordWrite q) s = .next t
        ∧ rdN t (onPage Reg.evqTail q.val) = (tail + 1) % 2 ^ 32 ∧ (evqOf t q.val).waiting = xs ∧ t.hif.rings = s.hif.rings
        ∧ t.wrote = s.wrote ++ [(evqOwner s q.val, (rd64 s (onPage Reg.evqBaseLo q.val) + 32 * (tail % max 1 qsize)) % 2 ^ 64,
          4 * (x.2.drop 1).length + 4)]
        ∧ t.host = memStore s.host ((rd64 s (onPage Reg.evqBaseLo q.val) + 32 * (tail % max 1 qsize)) % 2 ^ 64)
          (((nthN x.2 0 % 2 ^ 31 + (1 - tail / max 1 qsize % 2) * 2 ^ 31) :: x.2.drop 1).flatMap (leBytes 4))))
    ∧ (evqOwner s q.val = 0 →
      (e.firstAt = some t0 → rbit irq 4 = true →
        (s.count < t0 + 1250 * rfld irq 31 16 → (msixOn s 0 = false ∨ mask = true ∨ pend = false) → exec (.coalesceTimer q) s = .next s)
        ∧ (t0 + 1250 * rfld irq 31 16 ≤ s.count → msixOn s 0 = false → exec (.coalesceTimer q) s = .next s)
        ∧ (t0 + 1250 * rfld irq 31 16 ≤ s.count → msixOn s 0 = true → (mask = true ∨ pend = false) →
          ∃ t, exec (.coalesceTimer q) s = .next t ∧ (evqOf t q.val).firstAt = none ∧ (evqOf t q.val).unreported = 0
            ∧ (mask = true → t.host = s.host ∧ rdB t Reg.hifMsixPba vec = true) ∧ (mask = false → t.regs = s.regs ∧ t.host = msg)))
      ∧ (e.firstAt = none → msixOn s 0 = true → mask = false → pend = true →
        ∃ t, exec (.coalesceTimer q) s = .next t ∧ rdB t Reg.hifMsixPba vec = false ∧ t.host = msg))

/-- In a PF that is not in D3hot: a BAR2 read while BAR2 is closed or at an HBM address at or above 0x24_0000_0000 returns all-ones data, a write in the same conditions is discarded, and each counts in HIF.BAR2_DENIED (which saturates). An aligned access of BAR0 in no page reads as zero, is discarded as a write, counts in GLB.UNMAPPED (which saturates) and leaves its offset in GLB.UNMAPPED_ADDR (17 R748); one of a wrong size or alignment, in a page or in none, counts nowhere and changes no register, whatever the power state. -/
def Obligations.DeniedAndUnmappedAccesses : Prop :=
  ∀ (s : State) (off len size : Nat) (data : List Byte) (write : Bool) (errs : List (Nat × Ecc)),
    let denied := rdB s Reg.hifStatus 11 = false ∨ 0x2400000000 ≤ rd64 s Reg.hifBar2BaseLo + off
    let counts := fun (t : State) => rdN t Reg.hifBar2Denied = min (rdN s Reg.hifBar2Denied + 1) (2 ^ 32 - 1)
    (fnAsleep s 0 = false →
      (0 < len → denied → ∃ t, exec (.bar2Read off len errs) s = .next t ∧ t.hif.lastRead = List.replicate len 255 ∧ counts t
        ∧ t.hbm = s.hbm)
      ∧ (data ≠ [] → denied → ∃ t, exec (.bar2Write off data) s = .next t ∧ t.hbm = s.hbm ∧ counts t)
      ∧ (mappedOff off = false → off % 4 = 0 → ∃ t, exec (.unmappedAccess off write) s = .next t
        ∧ (write = false → t.hif.lastRead ≠ [] ∧ ∀ b ∈ t.hif.lastRead, b = 0)
        ∧ rdN t Reg.glbUnmapped = min (rdN s Reg.glbUnmapped + 1) (2 ^ 32 - 1)
        ∧ rdF t Reg.glbUnmappedAddr 24 0 = off % 2 ^ 25
        ∧ (∀ o, o ≠ Reg.glbUnmapped → o ≠ Reg.glbUnmappedAddr → o ≠ Reg.pageGlb + 0x14 → rdReg t o = rdReg s o)
        ∧ t.hbm = s.hbm ∧ t.host = s.host ∧ t.clusters = s.clusters))
    ∧ (mappedOff off = false → off % 4 ≠ 0 → ∃ t, exec (.unmappedAccess off write) s = .next t ∧ t.regs = s.regs)
    ∧ (((size ≠ 4 ∧ size ≠ 8) ∨ off % size ≠ 0) → ∃ t, exec (.unsupportedRequest off size) s = .next t ∧ t.regs = s.regs)

/-- Suspension, resets of a function, the PCIe link, configuration requests and the BAR2 window (R585, R590, R591, R592, R627, R630, R631, R632, R633, R634, R644, R682). -/
def Obligations.LinkAndWindowsRun : Prop :=
  ∀ (s : State) (fn : Fin 9) (how : FnReset) (reg : CfgReg) (off len size speed width n a0 : Nat) (data : List Byte) (on m : Bool) (errs : List (Nat × Ecc)),
    let base := rd64 s Reg.hifBar2BaseLo
    let out := fun (t : State) => ∀ r < 128, covers fn.val (ringOwner s r) = true → rdB t (onPage Reg.cmqCtl r) 0 = false
    let outq := fun (t : State) => ∀ q < 8, covers fn.val (evqOwner s q) = true → rdB t (onPage Reg.evqCtl q) 0 = false
    (s.hif.vfSusp.length = 8 → ∃ t, exec (.hifResume fn) s = .next t ∧ fnSuspended t fn.val = false ∧ t.hif.vfBme = s.hif.vfBme
      ∧ t.hif.evqs = s.hif.evqs)
    ∧ (s.hif.vfSusp.length = 8 → ∃ t, exec (.hifDiscard fn) s = .next t ∧ fnSuspended t fn.val = false
      ∧ t.hif.held = s.hif.held.filter (fun x => !covers fn.val x.fn)
      ∧ (∀ c, (c, ctxOf s c) ∈ s.gener.ctxs → covers fn.val (ctxFn s (ctxOf s c)) = true → (ctxOf t c).gen = none)
      ∧ (s.hif.held = [] → s.gener.ctxs = [] → (∀ q < 8, (evqOf s q).lostSince = 0) →
        ∀ q < 8, covers fn.val (evqOwner s q) = true → (evqOf t q).waiting = []))
    ∧ (((∀ x ∈ s.hif.held, permitted s x.fn = true) → ∃ t, exec .heldRecordsFlush s = .next t ∧ t.hif.held = [] ∧ t.gener.again = true)
      ∧ ((∀ x ∈ s.hif.held, permitted s x.fn = false ∧ x.bare = false) →
        ∃ t, exec .heldRecordsFlush s = .next t ∧ t.hif = s.hif ∧ t.host = s.host ∧ t.regs = s.regs))
    ∧ (∃ t, exec (.functionLevelReset fn how) s = .next t ∧ fnSuspended t fn.val = true ∧ fnBme t fn.val = false ∧ out t ∧ outq t
      ∧ t.gener = s.gener ∧ t.sched = s.sched ∧ t.hbm = s.hbm ∧ t.host = s.host)
    ∧ (∃ t, exec .perstN s = .next t ∧ rdB t Reg.hifStatus 0 = false ∧ fnSuspended t 0 = true ∧ fnBme t 0 = false
      ∧ t.clusters = s.clusters ∧ t.sched = s.sched ∧ t.gener = s.gener ∧ t.falbo = s.falbo ∧ t.hbm = s.hbm ∧ t.count = s.count)
    ∧ (s.hif.trained = true → rdB s Reg.hifStatus 0 = false → 1 ≤ speed → speed ≤ 5 → [1, 2, 4, 8, 16].contains width = true →
      ∃ t, exec (.linkUp speed width) s = .next t ∧ rdB t Reg.hifStatus 0 = true ∧ rdF t Reg.hifStatus 8 4 = width
        ∧ rdF t Reg.hifStatus 3 1 = if 2 ≤ svcLevel s then speed else min 3 speed)
    ∧ (s.hif.trained = false → exec (.linkUp speed width) s = .next s)
    ∧ (svcLevel s < 2 → ∀ q, ∃ t, exec (.configRequest q) s = .next t ∧ t.hif = { s.hif with retryStatus := true } ∧ t.regs = s.regs)
    ∧ (2 ≤ svcLevel s → (∃ t, exec (.configRequest (.read fn reg)) s = .next t ∧ t.regs = s.regs
        ∧ t.hif = { s.hif with retryStatus := false, lastRead := leBytes 4 (cfgWord s fn.val reg) })
      ∧ (∃ t, exec (.configRequest (.power fn on)) s = .next t ∧ fnAsleep t fn.val = on ∧ (on = true → permitted t fn.val = false))
      ∧ (∃ t, exec (.configRequest (.msix fn on m)) s = .next t ∧ (smGet (dflt ({} : PcieFn)) t.hif.pcie fn.val).msixEn = on
        ∧ (smGet (dflt ({} : PcieFn)) t.hif.pcie fn.val).msixMask = m)
      ∧ (s.hif.vfBme.length = 8 → ∃ t, exec (.configRequest (.bme fn on)) s = .next t ∧ fnBme t fn.val = on)
      ∧ (28 ≤ n → n ≤ 37 → ∃ t, exec (.configRequest (.bar2Size n)) s = .next t ∧ t.hif.bar2Log2 = n
        ∧ rd64 t Reg.hifBar2BaseLo = base / 2 ^ n * 2 ^ n))
    ∧ (∀ c ∈ [Instr.bar2Read off len errs, .bar2Write off data], fnAsleep s 0 = true → ∃ t, exec c s = .next t
      ∧ t.hif.unsupported = true ∧ t.regs = s.regs ∧ t.hbm = s.hbm)
    ∧ (((size ≠ 4 ∧ size ≠ 8) ∨ off % size ≠ 0) → ∃ t, exec (.unsupportedRequest off size) s = .next t ∧ t.hif.unsupported = true)
    ∧ (fnAsleep s 0 = false → rdB s Reg.hifStatus 11 = true → base + off + len ≤ 0x2400000000 →
      (∃ t, exec (.bar2Read off len) s = .next t ∧ t.hif.lastRead = memRange s.hbm (base + off) len ∧ t.regs = s.regs ∧ t.hbm = s.hbm)
      ∧ (meets (base + off) len a0 64 = true → a0 < 0x2400000000 → s.sched.exec.running = false →
        ∃ t, exec (.bar2Read off len [(a0, .corrected)]) s = .next t ∧ t.hif.lastRead = memRange s.hbm (base + off) len ∧ t.hbm = s.hbm
          ∧ let o := onPage Reg.pageHbc (a0 / 0x600000000) + 0x1C
            rdN t o = min (rdN s o + 1) (2 ^ 32 - 1)))
    ∧ (fnAsleep s 0 = false → rdB s Reg.hifStatus 11 = true → base + off + data.length ≤ 0x2400000000 → ∃ t, exec (.bar2Write off data) s = .next t
      ∧ (∀ i (h : i < data.length), memByte t.hbm (base + off + i) = data[i])
      ∧ (∀ a, a < base + off ∨ base + off + data.length ≤ a → memByte t.hbm a = memByte s.hbm a) ∧ t.regs = s.regs)
    ∧ (let req := rdB s Reg.hifBar2Ctl 0
      (req = true → s.sched.exec.running = false → xferBusy s = false → ∃ t, exec .bar2Open s = .next t
        ∧ rdB t Reg.hifStatus 11 = true ∧ t.hif = s.hif)
      ∧ (req = false ∨ s.sched.exec.running = true ∨ xferBusy s = true → exec .bar2Open s = .next s)
      ∧ (req = false → ∃ t, exec .bar2Close s = .next t ∧ rdB t Reg.hifStatus 11 = false ∧ t.hif = s.hif)
      ∧ (req = true → exec .bar2Close s = .next s))

/-- Resets and bring-up (R408, R472, R575, R641, R647, R652, R655, R664, R666, R667, R669, R681). -/
def Obligations.BringUpRuns : Prop :=
  ∀ (s : State) (cause : ColdCause) (clusters routers : List Nat) (stackOk portOk : Nat) (key : BitVec 16),
    let v := fun (n : Nat) => (storeVal s n).toNat
    let cold := fun (t : State) (c : Nat) (high : Bool) => (∀ off, off ≠ Reg.glbResetCause → rdReg t off = coldReg off)
      ∧ rdN t Reg.glbResetCause = c ∧ t.count = 0 ∧ t.clusters = [] ∧ t.sched = {} ∧ t.gener = { blocks := s.gener.blocks } ∧ t.azl = {} ∧ t.lock = {}
      ∧ t.falbo = {} ∧ t.dbgp = {} ∧ t.hif = {} ∧ t.power = { resetN := high } ∧ t.host = s.host ∧ t.pending = s.pending
      ∧ t.boot.flash = s.boot.flash ∧ (s.boot.queue = [] → t.boot.store = s.boot.store ∧ t.boot.older = s.boot.older ∧ t.boot.wear = s.boot.wear)
    (∃ t, exec (.coldReset cause) s = .next t ∧ cold t (match cause with | .powerOn => 0 | .resetN => 1) false)
    ∧ (s.power.resetN = true → ∃ t, exec .supplyDrop s = .next t ∧ cold t 0 true)
    ∧ ((key = 0xD7A5 → ∃ t, exec (.glbColdReset key) s = .next t ∧ cold t 2 true)
      ∧ (key ≠ 0xD7A5 → exec (.glbColdReset key) s = .next s ∧ exec (.glbWarmReset key) s = .next s))
    ∧ (∃ t, exec .powerGood s = .next t ∧ t.power = { s.power with resetN := true } ∧ t.regs = s.regs)
    ∧ (s.power.resetN = true → s.power.pll = false → ∃ t, exec .pllLock s = .next t ∧ t.count = 0 ∧ t.power.pll = true)
    ∧ (s.power.pll = true → s.boot.pstLoaded = false → ∃ t, exec .pstLoadDone s = .next t ∧ t.boot.pstLoaded = true
      ∧ (∀ p < 144, rbit (storeVal s (0x40 + p / 32)) (p % 32) = true → (clOf t p).quarantined = true)
      ∧ rdF t Reg.glbIdent 15 8 = rfld (storeVal s 0) 15 8 ∧ rdF t Reg.glbIdent 0 0 = rfld (storeVal s 0) 0 0
      ∧ rdB t Reg.pstStatus 6 = rbit (storeVal s 1) 0)
    ∧ (s.boot.pstLoaded = true → svcLevel s = 0 → ∃ t, exec .levelGuard s = .next t ∧ svcLevel t = 1
      ∧ (∀ w < 32, (weirOf t w).cfg = v (0x50 + 2 * w) ∧ (bitN (v (0x50 + 2 * w)) 0 = true → (weirOf t w).blankUntil ≠ none))
      ∧ ∀ j < 16, rdN t (pgReg Reg.pgTripMask j) = v (0x91 + 2 * j)
        ∧ (bitN (v (0x90 + 2 * j)) 0 = true → (pulseOf t j).tripped = true ∧ (pulseOf t j).armed = false))
    ∧ (s.power.pll = true → ∃ t, exec .pcieTrainingStart s = .next t ∧ t.hif = { s.hif with trained := true } ∧ t.regs = s.regs)
    ∧ (svcLevel s = 1 → let a := activeSlot s
      ∃ t, exec .firmwareBoot s = .next t ∧ svcLevel t = 2
        ∧ (slotStatus s a = 1 → t.boot.fwRunning = true ∧ runningSlot t = a)
        ∧ (slotStatus s a ≠ 1 → slotStatus s (1 - a) = 1 → t.boot.fwRunning = true ∧ runningSlot t = 1 - a ∧ rdB t Reg.glbBoot 1 = true)
        ∧ (slotStatus s a ≠ 1 → slotStatus s (1 - a) ≠ 1 → t.boot.recovery = true ∧ t.boot.fwRunning = s.boot.fwRunning))
    ∧ (svcLevel s = 2 → s.boot.recovery = false → s.boot.fwRunning = true → ∃ t, exec (.levelNarrow clusters routers) s = .next t
      ∧ svcLevel t = 3 ∧ t.boot.selfTested = true ∧ (∀ p < 144, p ∈ clusters → isQuar t 0 p = true)
      ∧ ∀ p < 144, p ∈ routers → isQuar t 1 p = true)
    ∧ (svcLevel s = 3 → ∃ t, exec (.levelFull stackOk portOk) s = .next t ∧ svcLevel t = 4
      ∧ (∀ h < 6, bitN stackOk h = false → isQuar t 2 h = true) ∧ ∀ k < 8, bitN portOk k = false → isQuar t 3 k = true)
    ∧ (s.azl.restarting = true → s.boot.fwRunning = false → ∃ t, exec .firmwareRestarted s = .next t ∧ t.boot.fwRunning = true
      ∧ (slotStatus s (inactiveSlot s) = 1 → runningSlot t = inactiveSlot s ∧ rdF t Reg.azlEpoch 31 16 = 0)
      ∧ (slotStatus s (inactiveSlot s) ≠ 1 → runningSlot t = runningSlot s))
    ∧ (key = 0xD7A5 → smWf coldReg s.regs = true → ∃ t, exec (.glbWarmReset key) s = .next t
      ∧ svcLevel t = (if svcLevel s = 5 then 4 else svcLevel s) ∧ rdN t Reg.glbResetCause = 3 ∧ t.count = s.count
      ∧ t.falbo = s.falbo ∧ t.hbm = s.hbm ∧ t.gener.ctxs = [] ∧ t.sched.exec.running = false
      ∧ t.power.leanEn = false ∧ t.power.lean = false ∧ (s.power.lean = false → t.power = { s.power with leanEn := false })
      ∧ t.hif.held = (s.hif.held.filter fun x => !x.bare).map (fun x => { x with fin := none })
      ∧ t.azl.restarting = s.azl.restarting ∧ (s.boot.fwRunning = false → t.boot.fwRunning = false)
      ∧ rdB t Reg.azlCtl 0 = false ∧ (∀ k < 8, rdB t (onPage Reg.portCtl k) 0 = false) ∧ t.boot.queue = [] ∧ t.boot.staging = []
      ∧ ∀ p < 144, (clOf t p).st ≠ .running)

/-- The mailbox, host writes of the persistent store, the common header and register writes (R589, R644, R658, R659, R660, R664, R670, R671, R714, R750, R751, R753). -/
def Obligations.RegistersMailboxAndStoreRun : Prop :=
  ∀ (s : State) (seq : Byte) (op sq page off : Nat) (n : Fin 256) (w v : Word) (x : StoreWrite) (xs : List StoreWrite)
    (ok wide on : Bool) (d : BitVec 64) (o b : Nat) (p : PageRow) (fails : Fin 3),
    let a0 := rdN s Reg.mgtArg0
    let len := rdN s Reg.mgtArg1
    let fits := 0 < len ∧ len ≤ 2048 ∧ a0 + len ≤ 0x400000
    let ends := fun (fl : Bool) (P : State → Nat → Prop) => ∃ t, exec (.mboxDone fl) s = .next t ∧ t.boot.mbox = none
      ∧ rdB t Reg.mgtMboxStatus 0 = false ∧ rdF t Reg.mgtMboxStatus 15 8 = sq % 256 ∧ P t (rdF t Reg.mgtMboxStatus 7 4)
    (∀ c ∈ [(Instr.info, 1), (.flashRead, 2), (.flashProgram, 3), (.selectSlot, 4)],
      (2 ≤ svcLevel s → s.boot.mbox = none → ∃ t, exec (c.1 seq) s = .next t ∧ t.boot = { s.boot with mbox := some (c.2, seq.toNat) }
        ∧ rdB t Reg.mgtMboxStatus 0 = true)
      ∧ (s.boot.mbox ≠ none ∨ svcLevel s < 2 → exec (c.1 seq) s = .next s))
    ∧ (svcLevel s < 2 → exec (.mboxDone ok) s = .next s ∧ exec (.pstWrite n w) s = .next s)
    ∧ (2 ≤ svcLevel s → s.boot.mbox = some (1, sq) → ends true fun t c => c = 0
      ∧ windowBytes t 64 = flashRange s.boot.flash 0 32 ++ flashRange s.boot.flash 0x200000 32)
    ∧ (2 ≤ svcLevel s → s.boot.mbox = some (2, sq) → fits → (ends true fun t c => c = 0 ∧ windowBytes t len = flashRange s.boot.flash a0 len)
      ∧ ends false fun t c => c = 4 ∧ t.boot.flash = s.boot.flash)
    ∧ (2 ≤ svcLevel s → s.boot.mbox = some (3, sq) → fits → s.boot.recovery = false →
      (inSlot a0 len (inactiveSlot s) = true → s.boot.staging = [] → ends true fun t c => c = 0
        ∧ flashRange t.boot.flash a0 len = windowBytes s len)
      ∧ (inSlot a0 len (inactiveSlot s) = false ∨ s.boot.staging ≠ [] → ends ok fun t c => c = 3 ∧ t.boot.flash = s.boot.flash))
    ∧ (2 ≤ svcLevel s → s.boot.mbox = some (4, sq) → (slotStatus s (a0 % 2) = 1 → s.boot.queue.length < 8 → ends ok fun t c => c = 0 ∧ storeRead t 0x4C = w32 (a0 % 2))
      ∧ (slotStatus s (a0 % 2) ≠ 1 → ends ok fun t c => c = 5 ∧ t.boot.store = s.boot.store))
    ∧ (2 ≤ svcLevel s → s.boot.mbox = some (op, sq) → op = 2 ∨ op = 3 → ¬ fits → ends ok fun t c => c = 2 ∧ t.boot.flash = s.boot.flash)
    ∧ (2 ≤ svcLevel s → let y := w &&& storeMask n.val
      (storeDenied s n.val y = true → ∃ t, exec (.pstWrite n w) s = .next t ∧ t.boot = s.boot
        ∧ rdN t (Reg.pagePst + 0x1C) = min (rdN s (Reg.pagePst + 0x1C) + 1) (2 ^ 32 - 1))
      ∧ (storeDenied s n.val y = false → 8 ≤ s.boot.queue.length → ∃ t, exec (.pstWrite n w) s = .next t ∧ t.boot = s.boot
        ∧ rdN t Reg.pstDiscarded = min (rdN s Reg.pstDiscarded + 1) (2 ^ 32 - 1))
      ∧ (storeDenied s n.val y = false → s.boot.queue.length < 8 → ∃ t, exec (.pstWrite n w) s = .next t ∧ storeRead t n.val = y
        ∧ t.boot.store = s.boot.store))
    ∧ (s.boot.queue = x :: xs →
      (storeVal s x.reg = x.val → ∃ t, exec (.pstWriteDone ok fails) s = .next t ∧ t.boot = { s.boot with queue := xs })
      ∧ (storeVal s x.reg ≠ x.val → ∃ t, exec (.pstWriteDone true fails) s = .next t ∧ t.boot.queue = xs ∧ storeVal t x.reg = x.val
        ∧ smGet (dflt 0) t.boot.wear x.reg = min (smGet (dflt 0) s.boot.wear x.reg + (1 + fails.val)) (2 ^ 32 - 1))
      ∧ (storeVal s x.reg ≠ x.val → ∃ t, exec (.pstWriteDone false fails) s = .next t ∧ t.boot.queue = xs ∧ smGet (dflt 0) t.boot.wear x.reg = min (smGet (dflt 0) s.boot.wear x.reg + 3) (2 ^ 32 - 1) ∧ rdB t Reg.pstStatus 5 = true
        ∧ rdN t Reg.pstLastFail = x.reg % 2 ^ 32))
    ∧ (2 ≤ svcLevel s → fnAsleep s 0 = false →
      (∃ t, exec (.gctCountRead wide) s = .next t ∧ t.hif.lastRead = leBytes (if wide then 8 else 4) s.count ∧ t.count = s.count
        ∧ rdN t Reg.gctCountHi = s.count / 2 ^ 32 % 2 ^ 32)
      ∧ (off % 4 = 0 → target s 0 off = .reg o → (∃ t, exec (.gctCountRead false 0 off) s = .next t ∧ t.hif.lastRead = leBytes 4 (regView s o)
        ∧ t.boot = s.boot ∧ t.count = s.count))
      ∧ (target s 0 (pageBase page) = .reg o → pageOf o = some p → pageBase o = o →
        (smGet (dflt 0) s.hw (o + 0x14) = 0 → ∃ t, exec (.softReset page) s = .next t ∧ rdN t (o + 0x14) = 0 ∧ rdN t (o + 0x1C) = 0
          ∧ t.boot = s.boot ∧ t.sched = s.sched)
        ∧ (∃ t, exec (.freeze page on) s = .next t ∧ rdB t (o + 8) 2 = on
          ∧ (on = true → rdB s (o + 8) 2 = false → regView t (o + 0x1C) = rdN s (o + 0x1C)))
        ∧ (∃ t, exec (.evtset page v) s = .next t
          ∧ (b < 32 → rbit v b = true → bitN p.evt b = true → rdB t (o + 0x14) b = true)))
      ∧ (off % 4 = 0 → target s 0 off = .reg o → (pageOf o).isSome = true →
        (o % 0x1000 = 0x010 → ∃ t, exec (.registerWrite 0 off false d) s = .next t ∧ rdReg t o = d.truncate 32
          ∧ ∀ o', o' ≠ o → rdReg t o' = rdReg s o')
        ∧ (o % 0x1000 = 0x014 → smGet (dflt 0) s.hw o = 0 → ∃ t, exec (.registerWrite 0 off false d) s = .next t
          ∧ rdReg t o = rdReg s o &&& ~~~ (d.truncate 32 : Word) ∧ ∀ o', o' ≠ o → rdReg t o' = rdReg s o'))
      ∧ (off % (if wide then 8 else 4) ≠ 0 → (∃ t, exec (.registerWrite 0 off wide d) s = .next t ∧ t.hif.unsupported = true
        ∧ t.regs = s.regs) ∧ ∃ t, exec (.gctCountRead wide 0 off) s = .next t ∧ t.hif.unsupported = true ∧ t.regs = s.regs))
    ∧ (svcLevel s < 2 → exec (.registerWrite 0 off wide d) s = .next s ∧ exec (.gctCountRead wide 0 off) s = .next s)

/-- Halts, resume, steps, debug accesses, REWIND and ABANDON (R726, R730, R731, R732, R733, R734, R737, R738, R739, R743, R744, R745). -/
def Obligations.DebugHaltsRun : Prop :=
  ∀ (s : State) (r : HaltRec) (h n : Nat) (sv : StepSave) (ecc : Ecc) (m : Word), let locked := unlocked s = false
    let at_ := rd64 s Reg.dbgHaltAtLo
    let cmd := rdReg s Reg.dbgAccCmd
    let addr := rdN s Reg.dbgAddrLo + rdF s Reg.dbgAddrHi 5 0 * 2 ^ 32
    let space := rfld cmd 4 2
    let g := rdF s Reg.dbgAccSel 10 8
    let lane := rdF s Reg.dbgAccSel 15 11
    (locked → exec .haltNow s = .next s ∧ exec .haltAtCount s = .next s ∧ exec .stepGo s = .next s)
    ∧ (unlocked s = true → s.sched.halted = false → s.dbgp.halt = none → ∃ t, exec .haltNow s = .next t
      ∧ (∃ x, t.dbgp.halt = some x ∧ x.h = s.count + 1 ∧ x.cause = 1) ∧ t.sched = s.sched ∧ t.regs = s.regs)
    ∧ (unlocked s = true → rdB s Reg.dbgHaltCtl 2 = true → s.sched.halted = false →
      (at_ = s.count → ∃ t, exec .haltAtCount s = .next t ∧ t.sched = { s.sched with halted := true }
        ∧ rd64 t Reg.dbgHaltCountLo = s.count ∧ rdF t Reg.dbgHaltStatus 3 1 = 2 ∧ rdB t Reg.dbgHaltStatus 0 = true
        ∧ rdB t Reg.dbgHaltCtl 2 = false)
      ∧ (s.count < at_ → exec .haltAtCount s = .next s)
      ∧ (at_ < s.count → s.dbgp.halt = none → ∃ t, exec .haltAtCount s = .next t
        ∧ ∃ x, t.dbgp.halt = some x ∧ x.h = s.count + 1 ∧ x.cause = 2))
    ∧ (mayResume s = false → exec .dbgResume s = .next s ∧ exec .resumeAtCount s = .next s)
    ∧ (mayResume s = true →
      (rdB s Reg.dbgHaltCtl 3 = false → ∃ t, exec .dbgResume s = .next t ∧ t.sched = s.sched
        ∧ t.dbgp = { s.dbgp with resumeAt := some (s.count + 1), stepMode := none, stepHaltAt := none })
      ∧ (rdB s Reg.dbgHaltCtl 3 = true → rd64 s Reg.dbgResumeAtLo ≤ s.count → s.dbgp.halt = some r → s.lock.rewindStep = none →
        ∃ t, exec .resumeAtCount s = .next t ∧ t.sched = { s.sched with halted := false } ∧ t.dbgp.halt = none
          ∧ rdB t Reg.dbgHaltStatus 0 = false ∧ rdB t Reg.dbgHaltCtl 3 = false ∧ t.clusters = s.clusters))
    ∧ (unlocked s = true → s.sched.halted = true → rdN s Reg.dbgStepN = n → let mode := rdF s Reg.dbgStep 1 0
      ∃ t, exec .stepGo s = .next t ∧ t.dbgp.resumeAt = some (s.count + 1) ∧ t.dbgp.stepMode = some mode ∧ t.sched = s.sched
        ∧ t.dbgp.stepHaltAt = (if mode = 0 ∨ (mode = 1 ∧ n = 0) then some (s.count + 1 + n) else none) ∧ (mode = 1 → t.dbgp.stepLeft = n))
    ∧ (s.dbgp.stepHaltAt = some h → s.sched.halted = false → h ≤ s.count → ∃ t, exec .stepDone s = .next t
      ∧ t.sched = { s.sched with halted := true } ∧ rdF t Reg.dbgHaltStatus 3 1 = 5 ∧ t.dbgp.stepHaltAt = none)
    ∧ (space ≤ 5 → locked → ∃ t, exec (.accGo ecc) s = .next t ∧ rdN t Reg.dbgAccStatus = 2 ∧ t.clusters = s.clusters ∧ t.hbm = s.hbm)
    ∧ (space ≤ 5 → unlocked s = true → rbit cmd 1 = true → stepRuns s = true → ∃ t, exec (.accGo ecc) s = .next t
      ∧ rdN t Reg.dbgAccStatus = 8 ∧ t.clusters = s.clusters ∧ t.hbm = s.hbm)
    ∧ (space ≤ 4 → unlocked s = true → s.sched.halted = false → rbit cmd 1 = false ∨ stepRuns s = false → ∃ t, exec (.accGo ecc) s = .next t ∧ rdN t Reg.dbgAccStatus = 4
      ∧ t.clusters = s.clusters ∧ t.hbm = s.hbm)
    ∧ (∀ c, accCluster s = some c → unlocked s = true → s.sched.halted = true → accFits s space (rfld cmd 6 5) addr = true →
      (rbit cmd 1 = false →
        (∃ t, exec (.accGo .clean) s = .next t ∧ rdN t Reg.dbgAccStatus = 0 ∧ t.clusters = s.clusters ∧ t.hbm = s.hbm
          ∧ (space = 0 → rdReg t Reg.dbgAccData = rdLane (clOf s c) g addr lane)
          ∧ (space = 5 → rfld cmd 6 5 = 0 → rdN t Reg.dbgAccData = memNat s.hbm addr 4))
        ∧ (space = 5 → rfld cmd 6 5 = 0 → let count := onPage Reg.pageHbc (hbmStack addr) + 0x1C
          ∃ t, exec (.accGo .corrected) s = .next t ∧ rdN t Reg.dbgAccStatus = 0 ∧ rdN t Reg.dbgAccData = memNat s.hbm addr 4
            ∧ rdN t count = min (rdN s count + 1) (2 ^ 32 - 1) ∧ t.hbm = s.hbm)
        ∧ (space = 0 → ∃ t, exec (.accGo (.uncorrectable m)) s = .next t ∧ rdN t Reg.dbgAccStatus = 10
          ∧ rdReg t Reg.dbgAccData = rdLane (clOf s c) g addr lane ^^^ m ∧ t.clusters = s.clusters ∧ t.sched = s.sched))
      ∧ (rbit cmd 1 = true → stepRuns s = false → ∃ t, exec (.accGo ecc) s = .next t ∧ (s.sched.exec.running = true → rdB t Reg.dbgHaltStatus 4 = true)
        ∧ (space = 0 → rdLane (clOf t c) g addr lane = w32 (accData s) ∧ t.hbm = s.hbm)
        ∧ (space = 2 → addr = 3 → (grp (clOf t c) g).stack.length = min 16 (accData s))
        ∧ (space = 4 → rdPeat (clOf t c) addr = BitVec.ofNat _ (accData s) ∧ t.hbm = s.hbm)
        ∧ (space = 5 → t.hbm = memPutNat s.hbm addr (accBytes (rfld cmd 6 5)) (accData s) ∧ t.clusters = s.clusters)))
    ∧ (mayRewind s = false → exec .rewind s = .next s)
    ∧ (s.sched.halted = true → rdB s Reg.dbgLsStatus 1 = true → rewindTarget s = some sv → ∃ t, exec .rewind s = .next t
      ∧ t.lock.rewindStep = some sv.n ∧ rdB t Reg.dbgLsStatus 1 = false ∧ rdN t Reg.dbgLsSeq = (sv.n + 2 ^ 32 - 1) % 2 ^ 32
      ∧ t.sched.nextStep = some sv.record ∧ t.sched.halted = true)
    ∧ (rdB s Reg.dbgLsStatus 1 = false → exec .abandon s = .next s)
    ∧ (rdB s Reg.dbgLsStatus 1 = true → ∃ t, exec .abandon s = .next t ∧ rdB t Reg.dbgLsStatus 1 = false
      ∧ rdB t Reg.dbgLsCtl 0 = false ∧ t.lock.on = false ∧ t.lock.held = [])

/-- Unlocking the debug port and the test access port (R717, R718, R719, R720, R723, R724, R725, R727, R728, R729). -/
def Obligations.UnlockAndTapRun : Prop :=
  ∀ (s : State) (x : List Word) (low : Bool) (d : Word) (off j : Nat) (v : BitVec 52) (code : Byte),
    let fails := fun (t : State) => rdF t Reg.dbgLock 4 1 = min 8 (rdF s Reg.dbgLock 4 1 + 1)
      ∧ (rdF s Reg.dbgLock 4 1 = 7 → rdB t Reg.dbgLock 5 = true)
    let sets := fun (i : Instr) (ir : Byte) (P : State → Prop) => (s.dbgp.held = true → exec i s = .next s)
      ∧ (s.dbgp.held = false → ∃ t, exec i s = .next t ∧ t.dbgp.ir = ir ∧ t.dbgp.irOut = 0x01 ∧ t.regs = s.regs ∧ t.power = s.power ∧ P t)
    let drives := fun (t : State) (ir : TapIr) => tapIr t = if unlocked s then ir else .bypass
    let shows := fun (i : Nat) (p : Pin) => p = if v.getLsbD (i + 1) then (if v.getLsbD i then .high else .low) else .off
    (barred s = true → exec .unlockStart s = .next s ∧ exec .unlockSubmit s = .next s)
    ∧ (barred s = false → ∃ t, exec .unlockStart s = .next t ∧ t.dbgp = { s.dbgp with nonceReq := true } ∧ t.regs = s.regs)
    ∧ (s.dbgp.nonceReq = true → ∃ t, exec .nonceReady s = .next t ∧ rdB t Reg.dbgLock 6 = true ∧ t.dbgp.nonceReq = false
      ∧ ∀ i < 12, rdReg t (Reg.dbgNonce + 4 * i) = Config.nonce s.draw i)
    ∧ (s.dbgp.nonceReq = false → exec .nonceReady s = .next s)
    ∧ (barred s = false →
      (rdB s Reg.dbgLock 6 = true → ∃ t, exec .unlockSubmit s = .next t ∧ rdB t Reg.dbgLock 6 = false ∧ rdB t Reg.dbgLock 7 = true
        ∧ t.dbgp.submit = some (regRun s Reg.dbgNonce 12 ++ regRun s Reg.dbgResponse 48))
      ∧ (rdB s Reg.dbgLock 6 = false → ∃ t, exec .unlockSubmit s = .next t ∧ fails t ∧ t.dbgp = s.dbgp))
    ∧ (s.dbgp.submit = some x → ∃ t, exec .unlockCheckDone s = .next t ∧ rdB t Reg.dbgLock 7 = false ∧ t.dbgp.submit = none
      ∧ (unlockOk s x = true → unlocked t = true) ∧ (unlockOk s x = false → unlocked t = unlocked s ∧ fails t))
    ∧ (∃ t, exec .dbgLock s = .next t ∧ unlocked t = false ∧ t.sched = s.sched ∧ t.dbgp = s.dbgp)
    ∧ sets .extest 0x00 (fun t => drives t .extest ∧ t.dbgp.boundary = s.dbgp.boundary)
    ∧ sets (.extest (some v)) 0x00 (fun t => drives t .extest
      ∧ (unlocked s = true → t.dbgp.boundary = v ∧ shows (2 * j) (padPin t j) ∧ shows (32 + 2 * j) (padQspi t j) ∧ shows 44 (padLean t)
        ∧ shows 46 (padPps t) ∧ tripLow t = (s.power.thermtrip || v.getLsbD 48))
      ∧ (unlocked s = false → t.dbgp.boundary = s.dbgp.boundary ∧ padPin t j = (pulseOf s j).pin ∧ tripLow t = s.power.thermtrip))
    ∧ sets .clamp 0x03 (fun t => drives t .clamp ∧ (unlocked s = true → s.dbgp.boundary = v → shows (2 * j) (padPin t j) ∧ t.dbgp.drOut = 0))
    ∧ sets .highz 0x04 (fun t => drives t .highz
      ∧ (unlocked s = true → padPin t j = .off ∧ padQspi t j = .off ∧ padLean t = .off ∧ padPps t = .off ∧ tripLow t = s.power.thermtrip)
      ∧ (unlocked s = false → padPin t j = (pulseOf s j).pin))
    ∧ sets .idcode 0x01 (fun t => tapIr t = .idcode ∧ t.dbgp.drOut = 0x04800A6F)
    ∧ (code ∉ [0x00, 0x01, 0x02, 0x03, 0x04, 0x10] → sets (.bypass code) code (fun t => tapIr t = .bypass ∧ t.dbgp.drOut = 0))
    ∧ sets (.samplePreload (some v)) 0x02 (fun t => t.dbgp.boundary = v)
    ∧ sets (.samplePreload none) 0x02 (fun t => j < 16 →
      (t.dbgp.boundary.getLsbD (2 * j + 1) = true ↔ padPin s j ≠ .off) ∧ (t.dbgp.boundary.getLsbD (2 * j) = true ↔ padPin s j = .high))
    ∧ (∃ t, exec (.trstN low) s = .next t ∧ t.dbgp.held = low ∧ (low = true → tapIr t = .idcode) ∧ t.regs = s.regs ∧ t.falbo = s.falbo)
    ∧ (s.dbgp.held = true → exec (.dbgRegUpdate d off low) s = .next s)
    ∧ (s.dbgp.held = false → ∃ t, exec (.dbgRegUpdate d Reg.glbServiceLevel false) s = .next t ∧ tapIr t = .dbgReg
      ∧ t.dbgp.tapDone = true ∧ t.dbgp.tapData = rdReg s Reg.glbServiceLevel ∧ t.regs = s.regs)
    ∧ (s.dbgp.held = false → unlocked s = false → off % 4 = 0 → 0x1000 ≤ off → off < 2 ^ 25 → pageBase off ≠ Reg.pageDbg →
      ∃ t, exec (.dbgRegUpdate d off low) s = .next t ∧ t.regs = s.regs ∧ t.sched = s.sched ∧ t.clusters = s.clusters ∧ t.falbo = s.falbo
        ∧ (low = false → t.dbgp.tapData = 0))

/-- After reset nothing is pending, the counter is 0, every register has the value of the cold-reset column (zero where the spec gives none: log 3), the service level is 0, no execution runs, no context is open, every cluster is idle and unmapped, every pulse-generator pin is high-impedance, every event of every page is enabled, functions are suspended, and registers and memories are in canonical form. -/
def Obligations.ResetState : Prop :=
  Canonical State.reset ∧ State.reset.pending = [] ∧ State.reset.count = 0 ∧ svcLevel State.reset = 0
  ∧ (∀ off, rdReg State.reset off = coldReg off)
  ∧ (∀ p ∈ pageRows, ∀ k < p.pages, rdReg State.reset (p.base + k * 0x1000 + 0x010) = w32 p.evt)
  ∧ State.reset.sched.exec.running = false ∧ (∀ c, (ctxOf State.reset c).st = .idle)
  ∧ (∀ p, (clOf State.reset p).st = .idle ∧ (clOf State.reset p).logical = none)
  ∧ (∀ j, (pulseOf State.reset j).pin = .off ∧ (pulseOf State.reset j).armed = false)
  ∧ (∀ fn, 1 ≤ fn → fn ≤ 8 → fnSuspended State.reset fn = true) ∧ unlocked State.reset = false ∧ State.reset.power.pll = false

/-- On an empty queue the step is one passage of a count, the model's form (log 1): without the PLL nothing counts; with it the global counter advances by one modulo 2^64; a frozen die keeps its clusters and its schedule cycle, counting a frozen cycle while an execution runs; a running execution with no instance under way advances its cycle and the kernel cycle of every running cluster. -/
def Obligations.EmptyQueueIsOneCount : Prop :=
  ∀ (s : State), s.pending = [] → ∃ t, step s = .next t
    ∧ (s.power.pll = false → t.count = s.count ∧ t.clusters = s.clusters ∧ t.sched = s.sched ∧ t.falbo = s.falbo)
    ∧ (s.power.pll = true → t.count = (s.count + 1) % 2 ^ 64)
    ∧ (s.power.pll = true → dieFrozen s = true → s.dbgp.resumeAt = none → t.clusters = s.clusters
      ∧ t.sched.exec.cyc = s.sched.exec.cyc
      ∧ t.sched.exec.frozen = if s.sched.exec.running then s.sched.exec.frozen + 1 else s.sched.exec.frozen)
    ∧ (s.power.pll = true → dieFrozen s = false → s.dbgp.resumeAt = none → s.sched.exec.running = true → s.sched.exec.stopped = false →
      s.sched.exec.insts = [] → s.sched.exec.transit = [] →
      t.sched.exec.cyc = s.sched.exec.cyc + 1
      ∧ ∀ p < 144, (clOf s p).st = .running → (clOf t p).kcyc = (clOf s p).kcyc + 1)

/-- For every state whose registers, HBM, host memory and flash are in canonical form: when a step answers a next state, that state's are too, so equal memories stay equal data. -/
def Obligations.CanonicalIsKept : Prop :=
  ∀ (s t : State), Canonical s → step s = .next t → Canonical t

/-- For every state whose service level is at most 5: when a step answers a next state, the level is as before, or one higher, or it fell from 5 to 4, or it fell to 0 in a cold reset, with the counter at 0 and the PLL unlocked. -/
def Obligations.ServiceLevelMoves : Prop :=
  ∀ (s t : State), svcLevel s ≤ 5 → smWf coldReg s.regs = true → step s = .next t →
    svcLevel t = svcLevel s ∨ svcLevel t = svcLevel s + 1 ∧ svcLevel t ≤ 5 ∨ svcLevel s = 5 ∧ svcLevel t = 4
      ∨ svcLevel t = 0 ∧ t.count = 0 ∧ t.power.pll = false

/-- What whole groups of commands leave as it was (10_reedbank_and_classifier.md, 12_weirs_and_pulses.md, 13_host_interface.md, 14_bringup_and_persistence.md, 16_debug_port.md). -/
def Obligations.CommandFrames : Prop :=
  ∀ (s t : State) (p j : Fin 16) (sec w : Fin 32) (power off len : Nat) (ov rs on wide : Bool) (d v : Word) (od : Option Word) (c : Fin 4)
    (nv : Int) (oc : Option (Fin 4)) (r : Fin 128) (q : Fin 8) (fn : Fin 9) (how : FnReset) (cfg : CfgReq) (data : List Byte) (sq : Byte)
    (n : Fin 256) (page : Nat) (pl : Option (BitVec 52)) (fails : Fin 3) (code : Byte) (errs : List (Nat × Ecc)),
    let core := t.pending = s.pending ∧ t.count = s.count ∧ t.clusters = s.clusters ∧ t.sched = s.sched ∧ t.gener = s.gener
      ∧ t.azl = s.azl ∧ t.lock = s.lock
    (∀ i ∈ [Instr.frameBoundary, .featureWrite p sec power ov, .classifierPublish, .fclWdataWrite d, .fclWdataRead, .converterSample c nv,
        .sampleRecord c, .fadeDone c rs, .firSwap c, .rsSwap c, .rsCdataAccess c od, .ringEn oc on, .weirCrossing w power, .qualChange w,
        .blankingEnd w, .avddFail on, .avddOk on, .programApply j, .programEdge j, .pgClear j, .pgSwTrip j, .pgCommit j, .pgEnable j],
      exec i s = .next t → core ∧ t.power = s.power ∧ t.boot = s.boot ∧ t.dbgp = s.dbgp ∧ t.hbm = s.hbm)
    ∧ (∀ i ∈ [Instr.doorbell r v, .descriptorFetch r, .descriptorReadDone r on, .cmqEnable r on, .evqEnable q on, .evqHeadWrite q v,
        .eventRecordWrite q, .coalesceTimer q, .hifResume fn, .functionLevelReset fn how, .perstN, .linkUp off len,
        .configRequest cfg, .unsupportedRequest off len, .unmappedAccess off on, .bar2Open, .bar2Close],
      exec i s = .next t → core ∧ t.power = s.power ∧ t.boot = s.boot ∧ t.dbgp = s.dbgp ∧ t.falbo = s.falbo ∧ t.hbm = s.hbm)
    ∧ (exec .heldRecordsFlush s = .next t → t.pending = s.pending ∧ t.count = s.count ∧ t.clusters = s.clusters ∧ t.sched = s.sched
      ∧ t.gener = { s.gener with again := true } ∧ t.azl = s.azl ∧ t.lock = s.lock ∧ t.power = s.power ∧ t.boot = s.boot ∧ t.dbgp = s.dbgp
      ∧ t.falbo = s.falbo ∧ t.hbm = s.hbm)
    ∧ (exec (.bar2Read off len errs) s = .next t → t.pending = s.pending ∧ t.count = s.count ∧ t.clusters = s.clusters
      ∧ (s.sched.exec.running = false ∨ errs = [] → t.sched = s.sched) ∧ t.gener = s.gener ∧ t.azl = s.azl ∧ t.lock = s.lock
      ∧ t.power = s.power ∧ t.boot = s.boot ∧ t.dbgp = s.dbgp ∧ t.falbo = s.falbo ∧ t.hbm = s.hbm ∧ t.host = s.host)
    ∧ (exec (.bar2Write off data) s = .next t → t.pending = s.pending ∧ t.count = s.count ∧ t.clusters = s.clusters ∧ t.sched = s.sched
      ∧ t.azl = s.azl ∧ t.lock = s.lock ∧ t.gener.image = s.gener.image
      ∧ (∀ c, ctxOf t c = ctxOf s c ∨ ctxOf t c = { ctxOf s c with taint := s.draw + 1 }) ∧ t.power = s.power ∧ t.boot = s.boot ∧ t.dbgp = s.dbgp ∧ t.falbo = s.falbo
      ∧ t.host = s.host)
    ∧ (∀ i ∈ [Instr.info sq, .flashRead sq, .flashProgram sq, .selectSlot sq, .mboxDone on, .pstWrite n v, .pstWriteDone on fails,
        .gctCountRead wide fn off, .softReset page, .freeze page on, .evtset page v],
      exec i s = .next t → core ∧ t.power = s.power ∧ t.dbgp = s.dbgp ∧ t.falbo = s.falbo ∧ t.hbm = s.hbm ∧ t.host = s.host)
    ∧ (∀ i ∈ [Instr.unlockStart, .nonceReady, .unlockSubmit, .unlockCheckDone, .dbgLock, .extest pl, .idcode, .samplePreload pl, .clamp, .highz,
        .bypass code, .trstN on],
      exec i s = .next t → core ∧ t.power = s.power ∧ t.boot = s.boot ∧ t.falbo = s.falbo ∧ t.hbm = s.hbm ∧ t.host = s.host)
    ∧ (∀ i ∈ [Instr.ppsOutRise, .ppsOutFall, .refLost, .refRestored, .thermtrip p],
      exec i s = .next t → core ∧ t.boot = s.boot ∧ t.dbgp = s.dbgp ∧ t.falbo = s.falbo ∧ t.hbm = s.hbm ∧ t.host = s.host)
end

