-- ==== Sys2Proof/Laws/Encode.lean ====
section
/-!
SUPPORT. The fields of an encoded word are the fields it was built from (03 R138, R139).
-/
namespace Sys2Proof
open Machine

theorem bitN_eq (w n : Nat) : bitN w n = decide (w / 2 ^ n % 2 = 1) := by
  rw [Bool.eq_iff_iff]; simp [bitN, Nat.shiftRight_eq_div_pow]

theorem fld_eq (w hi lo : Nat) : fld w hi lo = w / 2 ^ lo % 2 ^ (hi - lo + 1) := by
  simp [fld, Nat.shiftRight_eq_div_pow]

theorem b2n_lt (b : Bool) : b2n b < 2 := by cases b <;> simp [b2n]

theorem b2n_eq_one (b : Bool) : decide (b2n b = 1) = b := by cases b <;> simp [b2n]

theorem fin_ofNat_val {n : Nat} [NeZero n] (x : Fin n) : Fin.ofNat n x.val = x := by
  ext; simp [Fin.ofNat, Nat.mod_eq_of_lt x.isLt]

/-- The head fields of a word, whatever its low 44 bits. -/
theorem wordFields_head (major minor mod : Nat) (gd : Guard) (low : Nat)
    (h1 : major < 64) (h2 : minor < 64) (h3 : mod < 16) (hl : low < 2 ^ 44) :
    let f := wordFields (encHead major minor mod gd + low)
    f.major = major ∧ f.minor = minor ∧ f.mod = mod ∧ f.gd = gd := by
  obtain ⟨p, neg⟩ := gd
  have hp := p.isLt
  have hn := b2n_lt neg
  simp only [wordFields, encHead, fld_eq, bitN_eq, Guard.mk.injEq]
  refine ⟨by omega, by omega, by omega, ?_, ?_⟩
  · have e : (major * 2 ^ 58 + minor * 2 ^ 52 + mod * 2 ^ 48 + p.val * 2 ^ 45 + b2n neg * 2 ^ 44 + low) / 2 ^ 45
        % 2 ^ (47 - 45 + 1) = p.val := by omega
    rw [e]; exact fin_ofNat_val p
  · have e : (major * 2 ^ 58 + minor * 2 ^ 52 + mod * 2 ^ 48 + p.val * 2 ^ 45 + b2n neg * 2 ^ 44 + low) / 2 ^ 44 % 2
        = b2n neg := by omega
    rw [e]; exact b2n_eq_one neg

/-- The R fields of an encoded word. -/
theorem wordFields_encR (major minor mod : Nat) (gd : Guard) (d a b c e : Nat) (h1 : major < 64) (h2 : minor < 64)
    (h3 : mod < 16) (hd : d < 256) (ha : a < 256) (hb : b < 256) (hc : c < 256) (he : e < 4096) :
    let f := wordFields (encR major minor mod gd d a b c e)
    f.major = major ∧ f.minor = minor ∧ f.mod = mod ∧ f.gd = gd ∧ f.d = d ∧ f.a = a ∧ f.b = b ∧ f.c = c ∧ f.e = e
      ∧ f.imm28 = b * 2 ^ 20 + c * 2 ^ 12 + e := by
  have h := wordFields_head major minor mod gd (d * 2 ^ 36 + a * 2 ^ 28 + b * 2 ^ 20 + c * 2 ^ 12 + e) h1 h2 h3 (by omega)
  have hp := gd.p.isLt
  have hn := b2n_lt gd.neg
  rw [← Nat.add_assoc, ← Nat.add_assoc, ← Nat.add_assoc, ← Nat.add_assoc] at h
  refine ⟨h.1, h.2.1, h.2.2.1, h.2.2.2, ?_⟩
  simp only [wordFields, encR, encHead, fld_eq]
  refine ⟨?_, ?_, ?_, ?_, ?_, ?_⟩ <;> omega

/-- The S fields of an encoded word. -/
theorem wordFields_encS (major minor mod : Nat) (gd : Guard) (d a : Nat) (imm : BitVec 28) (h1 : major < 64) (h2 : minor < 64)
    (h3 : mod < 16) (hd : d < 256) (ha : a < 256) :
    let f := wordFields (encS major minor mod gd d a imm)
    f.major = major ∧ f.minor = minor ∧ f.mod = mod ∧ f.gd = gd ∧ f.d = d ∧ f.a = a ∧ f.imm28 = imm.toNat := by
  have hi := imm.isLt
  have h := wordFields_head major minor mod gd (d * 2 ^ 36 + a * 2 ^ 28 + imm.toNat) h1 h2 h3 (by omega)
  have hp := gd.p.isLt
  have hn := b2n_lt gd.neg
  rw [← Nat.add_assoc, ← Nat.add_assoc] at h
  refine ⟨h.1, h.2.1, h.2.2.1, h.2.2.2, ?_⟩
  simp only [wordFields, encS, encHead, fld_eq]
  refine ⟨?_, ?_, ?_⟩ <;> omega

/-- The I fields of an encoded word. -/
theorem wordFields_encI (major minor mod : Nat) (gd : Guard) (d imm : Nat) (h1 : major < 64) (h2 : minor < 64)
    (h3 : mod < 16) (hd : d < 256) (hi : imm < 2 ^ 32) :
    let f := wordFields (encI major minor mod gd d imm)
    f.major = major ∧ f.minor = minor ∧ f.mod = mod ∧ f.gd = gd ∧ f.d = d ∧ f.zeroI = 0 ∧ f.imm32 = imm := by
  have h := wordFields_head major minor mod gd (d * 2 ^ 36 + imm) h1 h2 h3 (by omega)
  have hp := gd.p.isLt
  have hn := b2n_lt gd.neg
  rw [← Nat.add_assoc] at h
  refine ⟨h.1, h.2.1, h.2.2.1, h.2.2.2, ?_⟩
  simp only [wordFields, encI, encHead, fld_eq]
  refine ⟨?_, ?_, ?_⟩ <;> omega

/-- The B fields of an encoded word. -/
theorem wordFields_encB (minor : Nat) (gd : Guard) (t r : Nat) (h2 : minor < 64) (ht : t < 2 ^ 20) (hr : r < 2 ^ 20) :
    let f := wordFields (encB minor gd t r)
    f.major = 1 ∧ f.minor = minor ∧ f.mod = 0 ∧ f.gd = gd ∧ f.zeroB = 0 ∧ f.target = t ∧ f.reconv = r := by
  have h := wordFields_head 1 minor 0 gd (t * 2 ^ 20 + r) (by omega) h2 (by omega) (by omega)
  have hp := gd.p.isLt
  have hn := b2n_lt gd.neg
  rw [← Nat.add_assoc] at h
  refine ⟨h.1, h.2.1, h.2.2.1, h.2.2.2, ?_⟩
  simp only [wordFields, encB, encHead, fld_eq]
  refine ⟨?_, ?_, ?_⟩ <;> omega

end Sys2Proof
end

