-- ==== Sys2Proof/Laws/SMap.lean ====
section
/-!
SUPPORT. What a read of a sparse map or of a byte memory gives after a write, and that every operation keeps the canonical form.
-/
namespace Sys2Proof.Machine

variable {α : Type} {d : Nat → α} {m : SMap α} {k j : Nat} {v : α}

@[simp] theorem smGet_nil : smGet d [] k = d k := rfl

theorem smGet_smIns_same (h : ∀ e ∈ m, e.1 ≠ k) : smGet d (smIns m k v) k = v := by
  induction m with
  | nil => simp [smIns, smGet]
  | cons e m ih =>
    obtain ⟨a, x⟩ := e
    have ha : a ≠ k := h (a, x) (by simp)
    simp only [smIns]
    split
    · simp [smGet]
    · simp only [smGet, Ne.symm ha, if_false]
      exact ih fun e he => h e (by simp [he])

theorem smGet_smIns_other (h : j ≠ k) : smGet d (smIns m k v) j = smGet d m j := by
  induction m with
  | nil => simp [smIns, smGet, h]
  | cons e m ih =>
    obtain ⟨a, x⟩ := e
    simp only [smIns]
    split
    · simp [smGet, h]
    · simp [smGet, ih]

theorem smGet_smDel_same : smGet d (smDel m k) k = d k := by
  induction m with
  | nil => rfl
  | cons e m ih =>
    obtain ⟨a, x⟩ := e
    unfold smDel at ih ⊢
    by_cases h : a = k
    · simpa [h] using ih
    · simpa [h, smGet, Ne.symm h] using ih

theorem smGet_smDel_other (h : j ≠ k) : smGet d (smDel m k) j = smGet d m j := by
  induction m with
  | nil => rfl
  | cons e m ih =>
    obtain ⟨a, x⟩ := e
    unfold smDel at ih ⊢
    by_cases ha : a = k
    · subst ha; simpa [smGet, h] using ih
    · by_cases hj : j = a
      · simp [ha, smGet, hj]
      · simpa [ha, smGet, hj] using ih

theorem mem_smDel {e : Nat × α} : e ∈ smDel m k ↔ e ∈ m ∧ e.1 ≠ k := by simp [smDel]

/-- A read of the key just written gives the value written. -/
@[simp] theorem smGet_smSet_same [DecidableEq α] : smGet d (smSet d m k v) k = v := by
  unfold smSet
  split
  · next h => rw [smGet_smDel_same, h]
  · exact smGet_smIns_same fun e he => (mem_smDel.1 he).2

/-- A read of any other key gives what it gave before. -/
theorem smGet_smSet_other [DecidableEq α] (h : j ≠ k) : smGet d (smSet d m k v) j = smGet d m j := by
  unfold smSet
  split
  · exact smGet_smDel_other h
  · rw [smGet_smIns_other h, smGet_smDel_other h]

/-- A read after a write, either way. -/
theorem smGet_smSet [DecidableEq α] : smGet d (smSet d m k v) j = if j = k then v else smGet d m j := by
  split
  · next h => subst h; exact smGet_smSet_same
  · next h => exact smGet_smSet_other h

theorem smSorted_mono {lo : Option Nat} (h : smSorted lo m = true) : smSorted none m = true := by
  cases m with
  | nil => rfl
  | cons e m => obtain ⟨a, x⟩ := e; cases lo <;> simp_all [smSorted]

theorem smSorted_filter {lo : Option Nat} (p : Nat × α → Bool) (h : smSorted lo m = true) :
    smSorted lo (m.filter p) = true := by
  induction m generalizing lo with
  | nil => rfl
  | cons e m ih =>
    obtain ⟨a, x⟩ := e
    simp only [smSorted, Bool.and_eq_true] at h
    by_cases hp : p (a, x) = true
    · simp [hp, smSorted, h.1, ih h.2]
    · have hlo : smSorted lo m = true := by
        clear ih hp
        cases m with
        | nil => rfl
        | cons e m =>
          obtain ⟨b, y⟩ := e
          cases lo with
          | none => simp_all [smSorted]
          | some l => simp_all [smSorted]; omega
      simpa [hp] using ih hlo

theorem smSorted_smIns {lo : Option Nat} (hl : ∀ l ∈ lo, l < k) (hk : ∀ e ∈ m, e.1 ≠ k) (h : smSorted lo m = true) :
    smSorted lo (smIns m k v) = true := by
  induction m generalizing lo with
  | nil => cases lo <;> simp_all [smIns, smSorted]
  | cons e m ih =>
    obtain ⟨a, x⟩ := e
    have ha : a ≠ k := hk (a, x) (by simp)
    simp only [smSorted, Bool.and_eq_true] at h
    simp only [smIns]
    split
    · next hka => cases lo <;> simp_all [smSorted]
    · next hka =>
      simp only [smSorted, Bool.and_eq_true]
      exact ⟨h.1, ih (by intro l hl'; simp at hl'; omega) (fun e he => hk e (by simp [he])) h.2⟩

theorem mem_smIns {e : Nat × α} : e ∈ smIns m k v ↔ e = (k, v) ∨ e ∈ m := by
  induction m with
  | nil => simp [smIns]
  | cons x m ih =>
    obtain ⟨a, y⟩ := x
    simp only [smIns]
    split
    · simp
    · simp [ih]; tauto

/-- A write keeps the canonical form. -/
theorem smWf_smSet [DecidableEq α] (h : smWf d m = true) : smWf d (smSet d m k v) = true := by
  simp only [smWf, Bool.and_eq_true, List.all_eq_true, decide_eq_true_eq] at h ⊢
  have hs : smSorted none (smDel m k) = true := smSorted_filter _ h.1
  have hd : ∀ e ∈ smDel m k, e.2 ≠ d e.1 := fun e he => h.2 e (mem_smDel.1 he).1
  unfold smSet
  split
  · exact ⟨hs, hd⟩
  · next hv =>
    refine ⟨smSorted_smIns (by simp) (fun e he => (mem_smDel.1 he).2) hs, fun e he => ?_⟩
    rcases mem_smIns.1 he with rfl | he
    · exact hv
    · exact hd e he

/-- A filter keeps the canonical form. -/
theorem smWf_filter [DecidableEq α] (p : Nat × α → Bool) (h : smWf d m = true) : smWf d (m.filter p) = true := by
  simp only [smWf, Bool.and_eq_true, List.all_eq_true, decide_eq_true_eq] at h ⊢
  exact ⟨smSorted_filter p h.1, fun e he => h.2 e (List.mem_filter.1 he).1⟩

@[simp] theorem memByte_memPut (m : Mem) (a b : Nat) (x : Byte) :
    memByte (memPut m a x) b = if b = a then x else memByte m b := smGet_smSet

theorem wf_memPut {m : Mem} {a : Nat} {b : Byte} (h : Memory.wf m = true) : Memory.wf (memPut m a b) = true := smWf_smSet h

/-- Storing bytes keeps the canonical form. -/
theorem wf_memStore {m : Mem} {a : Nat} {bs : List Byte} (h : Memory.wf m = true) : Memory.wf (memStore m a bs) = true := by
  induction bs generalizing m a with
  | nil => exact h
  | cons b bs ih => exact ih (wf_memPut h)

theorem wf_memClear {m : Mem} {a n : Nat} (h : Memory.wf m = true) : Memory.wf (memClear m a n) = true := smWf_filter _ h

theorem wf_memPlace {m es : Mem} {a : Nat} (h : Memory.wf m = true) : Memory.wf (memPlace m a es) = true := by
  induction es generalizing m with
  | nil => exact h
  | cons e es ih => exact ih (wf_memPut h)

/-- Copying bytes keeps the canonical form of the memory copied to. -/
theorem wf_memCopy {src dst : Mem} {sa da n : Nat} (h : Memory.wf dst = true) :
    Memory.wf (memCopy src sa dst da n) = true := wf_memPlace (wf_memClear h)

/-- A byte outside the stored bytes reads as before. -/
theorem memByte_memStore_other {m : Mem} {a b : Nat} {bs : List Byte} (h : b < a ∨ a + bs.length ≤ b) :
    memByte (memStore m a bs) b = memByte m b := by
  induction bs generalizing m a with
  | nil => rfl
  | cons x bs ih =>
    simp only [List.length_cons] at h
    rw [memStore, ih (by omega), memByte_memPut, if_neg (by omega)]

/-- The i-th stored byte reads back. -/
theorem memByte_memStore {m : Mem} {a i : Nat} {bs : List Byte} (h : i < bs.length) :
    memByte (memStore m a bs) (a + i) = bs[i] := by
  induction bs generalizing m a i with
  | nil => simp at h
  | cons x bs ih =>
    cases i with
    | zero => rw [memStore, memByte_memStore_other (by omega)]; simp
    | succ i =>
      have := ih (m := memPut m a x) (a := a + 1) (i := i) (by simpa using h)
      rw [memStore, show a + (i + 1) = a + 1 + i by omega, this]; simp

end Sys2Proof.Machine
end

