-- ==== Sys2Proof/Laws/Flash.lean ====
section
/-!
SUPPORT. What a read of the flash gives after a write or an erase, and that both keep its canonical form (14 R648, R670).
-/
namespace Sys2Proof.Machine

/-- Storing and erasing keep the canonical form. -/
theorem wf_flashStore {m : Mem} {a : Nat} {bs : List Byte} (h : Memory.wf m = true) : Memory.wf (flashStore m a bs) = true := wf_memStore h

theorem wf_flashErase {m : Mem} {a n : Nat} (h : Memory.wf m = true) : Memory.wf (flashErase m a n) = true := wf_memClear h

/-- A part of what was stored reads back. -/
theorem flashRange_flashStore {m : Mem} {a i n : Nat} {bs : List Byte} (h : i + n ≤ bs.length) :
    flashRange (flashStore m a bs) (a + i) n = (bs.drop i).take n := by
  apply List.ext_getElem
  · simp [flashRange, memRange]; omega
  · intro j h1 h2
    have hj : j < n := by simpa [flashRange, memRange] using h1
    have := memByte_memStore (m := m) (a := a) (i := i + j) (bs := bs.map fun b => ~~~ b) (by simp; omega)
    simp [flashRange, memRange, flashStore, Nat.add_assoc, this]

/-- What lies outside the stored bytes reads as before. -/
theorem flashRange_flashStore_other {m : Mem} {a b n : Nat} {bs : List Byte} (h : b + n ≤ a ∨ a + bs.length ≤ b) :
    flashRange (flashStore m a bs) b n = flashRange m b n := by
  unfold flashRange memRange
  simp only [List.map_map]
  apply List.map_congr_left
  intro i hi
  have hi' := List.mem_range.mp hi
  simp only [Function.comp_apply, flashStore]
  rw [memByte_memStore_other (by simp; omega)]

end Sys2Proof.Machine
end

