-- ==== Sys2Proof/Laws/State.lean ====
section
/-!
SUPPORT. One lemma for each operation and each field of State it leaves alone, and what registers, clusters, contexts, rings and
queues read after a write.
-/
namespace Sys2Proof.Machine

variable (s : State)

/-! ### Replacing one part of the state -/

@[simp] theorem putPending_pending (x : List Instr) : (putPending s x).pending = x := rfl
@[simp] theorem putPending_count (x : List Instr) : (putPending s x).count = s.count := by cases s; rfl
@[simp] theorem putPending_draw (x : List Instr) : (putPending s x).draw = s.draw := by cases s; rfl
@[simp] theorem putPending_regs (x : List Instr) : (putPending s x).regs = s.regs := by cases s; rfl
@[simp] theorem putPending_snap (x : List Instr) : (putPending s x).snap = s.snap := by cases s; rfl
@[simp] theorem putPending_hw (x : List Instr) : (putPending s x).hw = s.hw := by cases s; rfl
@[simp] theorem putPending_clusters (x : List Instr) : (putPending s x).clusters = s.clusters := by cases s; rfl
@[simp] theorem putPending_sched (x : List Instr) : (putPending s x).sched = s.sched := by cases s; rfl
@[simp] theorem putPending_gener (x : List Instr) : (putPending s x).gener = s.gener := by cases s; rfl
@[simp] theorem putPending_hif (x : List Instr) : (putPending s x).hif = s.hif := by cases s; rfl
@[simp] theorem putPending_azl (x : List Instr) : (putPending s x).azl = s.azl := by cases s; rfl
@[simp] theorem putPending_lock (x : List Instr) : (putPending s x).lock = s.lock := by cases s; rfl
@[simp] theorem putPending_power (x : List Instr) : (putPending s x).power = s.power := by cases s; rfl
@[simp] theorem putPending_boot (x : List Instr) : (putPending s x).boot = s.boot := by cases s; rfl
@[simp] theorem putPending_dbgp (x : List Instr) : (putPending s x).dbgp = s.dbgp := by cases s; rfl
@[simp] theorem putPending_falbo (x : List Instr) : (putPending s x).falbo = s.falbo := by cases s; rfl
@[simp] theorem putPending_hbm (x : List Instr) : (putPending s x).hbm = s.hbm := by cases s; rfl
@[simp] theorem putPending_host (x : List Instr) : (putPending s x).host = s.host := by cases s; rfl
@[simp] theorem putPending_wrote (x : List Instr) : (putPending s x).wrote = s.wrote := by cases s; rfl

@[simp] theorem putCount_count (x : Nat) : (putCount s x).count = x := rfl
@[simp] theorem putCount_pending (x : Nat) : (putCount s x).pending = s.pending := by cases s; rfl
@[simp] theorem putCount_draw (x : Nat) : (putCount s x).draw = s.draw := by cases s; rfl
@[simp] theorem putCount_regs (x : Nat) : (putCount s x).regs = s.regs := by cases s; rfl
@[simp] theorem putCount_snap (x : Nat) : (putCount s x).snap = s.snap := by cases s; rfl
@[simp] theorem putCount_hw (x : Nat) : (putCount s x).hw = s.hw := by cases s; rfl
@[simp] theorem putCount_clusters (x : Nat) : (putCount s x).clusters = s.clusters := by cases s; rfl
@[simp] theorem putCount_sched (x : Nat) : (putCount s x).sched = s.sched := by cases s; rfl
@[simp] theorem putCount_gener (x : Nat) : (putCount s x).gener = s.gener := by cases s; rfl
@[simp] theorem putCount_hif (x : Nat) : (putCount s x).hif = s.hif := by cases s; rfl
@[simp] theorem putCount_azl (x : Nat) : (putCount s x).azl = s.azl := by cases s; rfl
@[simp] theorem putCount_lock (x : Nat) : (putCount s x).lock = s.lock := by cases s; rfl
@[simp] theorem putCount_power (x : Nat) : (putCount s x).power = s.power := by cases s; rfl
@[simp] theorem putCount_boot (x : Nat) : (putCount s x).boot = s.boot := by cases s; rfl
@[simp] theorem putCount_dbgp (x : Nat) : (putCount s x).dbgp = s.dbgp := by cases s; rfl
@[simp] theorem putCount_falbo (x : Nat) : (putCount s x).falbo = s.falbo := by cases s; rfl
@[simp] theorem putCount_hbm (x : Nat) : (putCount s x).hbm = s.hbm := by cases s; rfl
@[simp] theorem putCount_host (x : Nat) : (putCount s x).host = s.host := by cases s; rfl
@[simp] theorem putCount_wrote (x : Nat) : (putCount s x).wrote = s.wrote := by cases s; rfl

@[simp] theorem putDraw_draw (x : Nat) : (putDraw s x).draw = x := rfl
@[simp] theorem putDraw_pending (x : Nat) : (putDraw s x).pending = s.pending := by cases s; rfl
@[simp] theorem putDraw_count (x : Nat) : (putDraw s x).count = s.count := by cases s; rfl
@[simp] theorem putDraw_regs (x : Nat) : (putDraw s x).regs = s.regs := by cases s; rfl
@[simp] theorem putDraw_snap (x : Nat) : (putDraw s x).snap = s.snap := by cases s; rfl
@[simp] theorem putDraw_hw (x : Nat) : (putDraw s x).hw = s.hw := by cases s; rfl
@[simp] theorem putDraw_clusters (x : Nat) : (putDraw s x).clusters = s.clusters := by cases s; rfl
@[simp] theorem putDraw_sched (x : Nat) : (putDraw s x).sched = s.sched := by cases s; rfl
@[simp] theorem putDraw_gener (x : Nat) : (putDraw s x).gener = s.gener := by cases s; rfl
@[simp] theorem putDraw_hif (x : Nat) : (putDraw s x).hif = s.hif := by cases s; rfl
@[simp] theorem putDraw_azl (x : Nat) : (putDraw s x).azl = s.azl := by cases s; rfl
@[simp] theorem putDraw_lock (x : Nat) : (putDraw s x).lock = s.lock := by cases s; rfl
@[simp] theorem putDraw_power (x : Nat) : (putDraw s x).power = s.power := by cases s; rfl
@[simp] theorem putDraw_boot (x : Nat) : (putDraw s x).boot = s.boot := by cases s; rfl
@[simp] theorem putDraw_dbgp (x : Nat) : (putDraw s x).dbgp = s.dbgp := by cases s; rfl
@[simp] theorem putDraw_falbo (x : Nat) : (putDraw s x).falbo = s.falbo := by cases s; rfl
@[simp] theorem putDraw_hbm (x : Nat) : (putDraw s x).hbm = s.hbm := by cases s; rfl
@[simp] theorem putDraw_host (x : Nat) : (putDraw s x).host = s.host := by cases s; rfl
@[simp] theorem putDraw_wrote (x : Nat) : (putDraw s x).wrote = s.wrote := by cases s; rfl

@[simp] theorem putRegs_regs (x : SMap Word) : (putRegs s x).regs = x := rfl
@[simp] theorem putRegs_pending (x : SMap Word) : (putRegs s x).pending = s.pending := by cases s; rfl
@[simp] theorem putRegs_count (x : SMap Word) : (putRegs s x).count = s.count := by cases s; rfl
@[simp] theorem putRegs_draw (x : SMap Word) : (putRegs s x).draw = s.draw := by cases s; rfl
@[simp] theorem putRegs_snap (x : SMap Word) : (putRegs s x).snap = s.snap := by cases s; rfl
@[simp] theorem putRegs_hw (x : SMap Word) : (putRegs s x).hw = s.hw := by cases s; rfl
@[simp] theorem putRegs_clusters (x : SMap Word) : (putRegs s x).clusters = s.clusters := by cases s; rfl
@[simp] theorem putRegs_sched (x : SMap Word) : (putRegs s x).sched = s.sched := by cases s; rfl
@[simp] theorem putRegs_gener (x : SMap Word) : (putRegs s x).gener = s.gener := by cases s; rfl
@[simp] theorem putRegs_hif (x : SMap Word) : (putRegs s x).hif = s.hif := by cases s; rfl
@[simp] theorem putRegs_azl (x : SMap Word) : (putRegs s x).azl = s.azl := by cases s; rfl
@[simp] theorem putRegs_lock (x : SMap Word) : (putRegs s x).lock = s.lock := by cases s; rfl
@[simp] theorem putRegs_power (x : SMap Word) : (putRegs s x).power = s.power := by cases s; rfl
@[simp] theorem putRegs_boot (x : SMap Word) : (putRegs s x).boot = s.boot := by cases s; rfl
@[simp] theorem putRegs_dbgp (x : SMap Word) : (putRegs s x).dbgp = s.dbgp := by cases s; rfl
@[simp] theorem putRegs_falbo (x : SMap Word) : (putRegs s x).falbo = s.falbo := by cases s; rfl
@[simp] theorem putRegs_hbm (x : SMap Word) : (putRegs s x).hbm = s.hbm := by cases s; rfl
@[simp] theorem putRegs_host (x : SMap Word) : (putRegs s x).host = s.host := by cases s; rfl
@[simp] theorem putRegs_wrote (x : SMap Word) : (putRegs s x).wrote = s.wrote := by cases s; rfl

@[simp] theorem putSnap_snap (x : SMap Word) : (putSnap s x).snap = x := rfl
@[simp] theorem putSnap_pending (x : SMap Word) : (putSnap s x).pending = s.pending := by cases s; rfl
@[simp] theorem putSnap_count (x : SMap Word) : (putSnap s x).count = s.count := by cases s; rfl
@[simp] theorem putSnap_draw (x : SMap Word) : (putSnap s x).draw = s.draw := by cases s; rfl
@[simp] theorem putSnap_regs (x : SMap Word) : (putSnap s x).regs = s.regs := by cases s; rfl
@[simp] theorem putSnap_hw (x : SMap Word) : (putSnap s x).hw = s.hw := by cases s; rfl
@[simp] theorem putSnap_clusters (x : SMap Word) : (putSnap s x).clusters = s.clusters := by cases s; rfl
@[simp] theorem putSnap_sched (x : SMap Word) : (putSnap s x).sched = s.sched := by cases s; rfl
@[simp] theorem putSnap_gener (x : SMap Word) : (putSnap s x).gener = s.gener := by cases s; rfl
@[simp] theorem putSnap_hif (x : SMap Word) : (putSnap s x).hif = s.hif := by cases s; rfl
@[simp] theorem putSnap_azl (x : SMap Word) : (putSnap s x).azl = s.azl := by cases s; rfl
@[simp] theorem putSnap_lock (x : SMap Word) : (putSnap s x).lock = s.lock := by cases s; rfl
@[simp] theorem putSnap_power (x : SMap Word) : (putSnap s x).power = s.power := by cases s; rfl
@[simp] theorem putSnap_boot (x : SMap Word) : (putSnap s x).boot = s.boot := by cases s; rfl
@[simp] theorem putSnap_dbgp (x : SMap Word) : (putSnap s x).dbgp = s.dbgp := by cases s; rfl
@[simp] theorem putSnap_falbo (x : SMap Word) : (putSnap s x).falbo = s.falbo := by cases s; rfl
@[simp] theorem putSnap_hbm (x : SMap Word) : (putSnap s x).hbm = s.hbm := by cases s; rfl
@[simp] theorem putSnap_host (x : SMap Word) : (putSnap s x).host = s.host := by cases s; rfl
@[simp] theorem putSnap_wrote (x : SMap Word) : (putSnap s x).wrote = s.wrote := by cases s; rfl

@[simp] theorem putHw_hw (x : SMap Word) : (putHw s x).hw = x := rfl
@[simp] theorem putHw_pending (x : SMap Word) : (putHw s x).pending = s.pending := by cases s; rfl
@[simp] theorem putHw_count (x : SMap Word) : (putHw s x).count = s.count := by cases s; rfl
@[simp] theorem putHw_draw (x : SMap Word) : (putHw s x).draw = s.draw := by cases s; rfl
@[simp] theorem putHw_regs (x : SMap Word) : (putHw s x).regs = s.regs := by cases s; rfl
@[simp] theorem putHw_snap (x : SMap Word) : (putHw s x).snap = s.snap := by cases s; rfl
@[simp] theorem putHw_clusters (x : SMap Word) : (putHw s x).clusters = s.clusters := by cases s; rfl
@[simp] theorem putHw_sched (x : SMap Word) : (putHw s x).sched = s.sched := by cases s; rfl
@[simp] theorem putHw_gener (x : SMap Word) : (putHw s x).gener = s.gener := by cases s; rfl
@[simp] theorem putHw_hif (x : SMap Word) : (putHw s x).hif = s.hif := by cases s; rfl
@[simp] theorem putHw_azl (x : SMap Word) : (putHw s x).azl = s.azl := by cases s; rfl
@[simp] theorem putHw_lock (x : SMap Word) : (putHw s x).lock = s.lock := by cases s; rfl
@[simp] theorem putHw_power (x : SMap Word) : (putHw s x).power = s.power := by cases s; rfl
@[simp] theorem putHw_boot (x : SMap Word) : (putHw s x).boot = s.boot := by cases s; rfl
@[simp] theorem putHw_dbgp (x : SMap Word) : (putHw s x).dbgp = s.dbgp := by cases s; rfl
@[simp] theorem putHw_falbo (x : SMap Word) : (putHw s x).falbo = s.falbo := by cases s; rfl
@[simp] theorem putHw_hbm (x : SMap Word) : (putHw s x).hbm = s.hbm := by cases s; rfl
@[simp] theorem putHw_host (x : SMap Word) : (putHw s x).host = s.host := by cases s; rfl
@[simp] theorem putHw_wrote (x : SMap Word) : (putHw s x).wrote = s.wrote := by cases s; rfl

@[simp] theorem putClusters_clusters (x : SMap Cluster) : (putClusters s x).clusters = x := rfl
@[simp] theorem putClusters_pending (x : SMap Cluster) : (putClusters s x).pending = s.pending := by cases s; rfl
@[simp] theorem putClusters_count (x : SMap Cluster) : (putClusters s x).count = s.count := by cases s; rfl
@[simp] theorem putClusters_draw (x : SMap Cluster) : (putClusters s x).draw = s.draw := by cases s; rfl
@[simp] theorem putClusters_regs (x : SMap Cluster) : (putClusters s x).regs = s.regs := by cases s; rfl
@[simp] theorem putClusters_snap (x : SMap Cluster) : (putClusters s x).snap = s.snap := by cases s; rfl
@[simp] theorem putClusters_hw (x : SMap Cluster) : (putClusters s x).hw = s.hw := by cases s; rfl
@[simp] theorem putClusters_sched (x : SMap Cluster) : (putClusters s x).sched = s.sched := by cases s; rfl
@[simp] theorem putClusters_gener (x : SMap Cluster) : (putClusters s x).gener = s.gener := by cases s; rfl
@[simp] theorem putClusters_hif (x : SMap Cluster) : (putClusters s x).hif = s.hif := by cases s; rfl
@[simp] theorem putClusters_azl (x : SMap Cluster) : (putClusters s x).azl = s.azl := by cases s; rfl
@[simp] theorem putClusters_lock (x : SMap Cluster) : (putClusters s x).lock = s.lock := by cases s; rfl
@[simp] theorem putClusters_power (x : SMap Cluster) : (putClusters s x).power = s.power := by cases s; rfl
@[simp] theorem putClusters_boot (x : SMap Cluster) : (putClusters s x).boot = s.boot := by cases s; rfl
@[simp] theorem putClusters_dbgp (x : SMap Cluster) : (putClusters s x).dbgp = s.dbgp := by cases s; rfl
@[simp] theorem putClusters_falbo (x : SMap Cluster) : (putClusters s x).falbo = s.falbo := by cases s; rfl
@[simp] theorem putClusters_hbm (x : SMap Cluster) : (putClusters s x).hbm = s.hbm := by cases s; rfl
@[simp] theorem putClusters_host (x : SMap Cluster) : (putClusters s x).host = s.host := by cases s; rfl
@[simp] theorem putClusters_wrote (x : SMap Cluster) : (putClusters s x).wrote = s.wrote := by cases s; rfl

@[simp] theorem putSched_sched (x : Sched) : (putSched s x).sched = x := rfl
@[simp] theorem putSched_pending (x : Sched) : (putSched s x).pending = s.pending := by cases s; rfl
@[simp] theorem putSched_count (x : Sched) : (putSched s x).count = s.count := by cases s; rfl
@[simp] theorem putSched_draw (x : Sched) : (putSched s x).draw = s.draw := by cases s; rfl
@[simp] theorem putSched_regs (x : Sched) : (putSched s x).regs = s.regs := by cases s; rfl
@[simp] theorem putSched_snap (x : Sched) : (putSched s x).snap = s.snap := by cases s; rfl
@[simp] theorem putSched_hw (x : Sched) : (putSched s x).hw = s.hw := by cases s; rfl
@[simp] theorem putSched_clusters (x : Sched) : (putSched s x).clusters = s.clusters := by cases s; rfl
@[simp] theorem putSched_gener (x : Sched) : (putSched s x).gener = s.gener := by cases s; rfl
@[simp] theorem putSched_hif (x : Sched) : (putSched s x).hif = s.hif := by cases s; rfl
@[simp] theorem putSched_azl (x : Sched) : (putSched s x).azl = s.azl := by cases s; rfl
@[simp] theorem putSched_lock (x : Sched) : (putSched s x).lock = s.lock := by cases s; rfl
@[simp] theorem putSched_power (x : Sched) : (putSched s x).power = s.power := by cases s; rfl
@[simp] theorem putSched_boot (x : Sched) : (putSched s x).boot = s.boot := by cases s; rfl
@[simp] theorem putSched_dbgp (x : Sched) : (putSched s x).dbgp = s.dbgp := by cases s; rfl
@[simp] theorem putSched_falbo (x : Sched) : (putSched s x).falbo = s.falbo := by cases s; rfl
@[simp] theorem putSched_hbm (x : Sched) : (putSched s x).hbm = s.hbm := by cases s; rfl
@[simp] theorem putSched_host (x : Sched) : (putSched s x).host = s.host := by cases s; rfl
@[simp] theorem putSched_wrote (x : Sched) : (putSched s x).wrote = s.wrote := by cases s; rfl

@[simp] theorem putGener_gener (x : Gener) : (putGener s x).gener = x := rfl
@[simp] theorem putGener_pending (x : Gener) : (putGener s x).pending = s.pending := by cases s; rfl
@[simp] theorem putGener_count (x : Gener) : (putGener s x).count = s.count := by cases s; rfl
@[simp] theorem putGener_draw (x : Gener) : (putGener s x).draw = s.draw := by cases s; rfl
@[simp] theorem putGener_regs (x : Gener) : (putGener s x).regs = s.regs := by cases s; rfl
@[simp] theorem putGener_snap (x : Gener) : (putGener s x).snap = s.snap := by cases s; rfl
@[simp] theorem putGener_hw (x : Gener) : (putGener s x).hw = s.hw := by cases s; rfl
@[simp] theorem putGener_clusters (x : Gener) : (putGener s x).clusters = s.clusters := by cases s; rfl
@[simp] theorem putGener_sched (x : Gener) : (putGener s x).sched = s.sched := by cases s; rfl
@[simp] theorem putGener_hif (x : Gener) : (putGener s x).hif = s.hif := by cases s; rfl
@[simp] theorem putGener_azl (x : Gener) : (putGener s x).azl = s.azl := by cases s; rfl
@[simp] theorem putGener_lock (x : Gener) : (putGener s x).lock = s.lock := by cases s; rfl
@[simp] theorem putGener_power (x : Gener) : (putGener s x).power = s.power := by cases s; rfl
@[simp] theorem putGener_boot (x : Gener) : (putGener s x).boot = s.boot := by cases s; rfl
@[simp] theorem putGener_dbgp (x : Gener) : (putGener s x).dbgp = s.dbgp := by cases s; rfl
@[simp] theorem putGener_falbo (x : Gener) : (putGener s x).falbo = s.falbo := by cases s; rfl
@[simp] theorem putGener_hbm (x : Gener) : (putGener s x).hbm = s.hbm := by cases s; rfl
@[simp] theorem putGener_host (x : Gener) : (putGener s x).host = s.host := by cases s; rfl
@[simp] theorem putGener_wrote (x : Gener) : (putGener s x).wrote = s.wrote := by cases s; rfl

@[simp] theorem putHif_hif (x : Hif) : (putHif s x).hif = x := rfl
@[simp] theorem putHif_pending (x : Hif) : (putHif s x).pending = s.pending := by cases s; rfl
@[simp] theorem putHif_count (x : Hif) : (putHif s x).count = s.count := by cases s; rfl
@[simp] theorem putHif_draw (x : Hif) : (putHif s x).draw = s.draw := by cases s; rfl
@[simp] theorem putHif_regs (x : Hif) : (putHif s x).regs = s.regs := by cases s; rfl
@[simp] theorem putHif_snap (x : Hif) : (putHif s x).snap = s.snap := by cases s; rfl
@[simp] theorem putHif_hw (x : Hif) : (putHif s x).hw = s.hw := by cases s; rfl
@[simp] theorem putHif_clusters (x : Hif) : (putHif s x).clusters = s.clusters := by cases s; rfl
@[simp] theorem putHif_sched (x : Hif) : (putHif s x).sched = s.sched := by cases s; rfl
@[simp] theorem putHif_gener (x : Hif) : (putHif s x).gener = s.gener := by cases s; rfl
@[simp] theorem putHif_azl (x : Hif) : (putHif s x).azl = s.azl := by cases s; rfl
@[simp] theorem putHif_lock (x : Hif) : (putHif s x).lock = s.lock := by cases s; rfl
@[simp] theorem putHif_power (x : Hif) : (putHif s x).power = s.power := by cases s; rfl
@[simp] theorem putHif_boot (x : Hif) : (putHif s x).boot = s.boot := by cases s; rfl
@[simp] theorem putHif_dbgp (x : Hif) : (putHif s x).dbgp = s.dbgp := by cases s; rfl
@[simp] theorem putHif_falbo (x : Hif) : (putHif s x).falbo = s.falbo := by cases s; rfl
@[simp] theorem putHif_hbm (x : Hif) : (putHif s x).hbm = s.hbm := by cases s; rfl
@[simp] theorem putHif_host (x : Hif) : (putHif s x).host = s.host := by cases s; rfl
@[simp] theorem putHif_wrote (x : Hif) : (putHif s x).wrote = s.wrote := by cases s; rfl

@[simp] theorem putAzl_azl (x : AzlState) : (putAzl s x).azl = x := rfl
@[simp] theorem putAzl_pending (x : AzlState) : (putAzl s x).pending = s.pending := by cases s; rfl
@[simp] theorem putAzl_count (x : AzlState) : (putAzl s x).count = s.count := by cases s; rfl
@[simp] theorem putAzl_draw (x : AzlState) : (putAzl s x).draw = s.draw := by cases s; rfl
@[simp] theorem putAzl_regs (x : AzlState) : (putAzl s x).regs = s.regs := by cases s; rfl
@[simp] theorem putAzl_snap (x : AzlState) : (putAzl s x).snap = s.snap := by cases s; rfl
@[simp] theorem putAzl_hw (x : AzlState) : (putAzl s x).hw = s.hw := by cases s; rfl
@[simp] theorem putAzl_clusters (x : AzlState) : (putAzl s x).clusters = s.clusters := by cases s; rfl
@[simp] theorem putAzl_sched (x : AzlState) : (putAzl s x).sched = s.sched := by cases s; rfl
@[simp] theorem putAzl_gener (x : AzlState) : (putAzl s x).gener = s.gener := by cases s; rfl
@[simp] theorem putAzl_hif (x : AzlState) : (putAzl s x).hif = s.hif := by cases s; rfl
@[simp] theorem putAzl_lock (x : AzlState) : (putAzl s x).lock = s.lock := by cases s; rfl
@[simp] theorem putAzl_power (x : AzlState) : (putAzl s x).power = s.power := by cases s; rfl
@[simp] theorem putAzl_boot (x : AzlState) : (putAzl s x).boot = s.boot := by cases s; rfl
@[simp] theorem putAzl_dbgp (x : AzlState) : (putAzl s x).dbgp = s.dbgp := by cases s; rfl
@[simp] theorem putAzl_falbo (x : AzlState) : (putAzl s x).falbo = s.falbo := by cases s; rfl
@[simp] theorem putAzl_hbm (x : AzlState) : (putAzl s x).hbm = s.hbm := by cases s; rfl
@[simp] theorem putAzl_host (x : AzlState) : (putAzl s x).host = s.host := by cases s; rfl
@[simp] theorem putAzl_wrote (x : AzlState) : (putAzl s x).wrote = s.wrote := by cases s; rfl

@[simp] theorem putLock_lock (x : LockStep) : (putLock s x).lock = x := rfl
@[simp] theorem putLock_pending (x : LockStep) : (putLock s x).pending = s.pending := by cases s; rfl
@[simp] theorem putLock_count (x : LockStep) : (putLock s x).count = s.count := by cases s; rfl
@[simp] theorem putLock_draw (x : LockStep) : (putLock s x).draw = s.draw := by cases s; rfl
@[simp] theorem putLock_regs (x : LockStep) : (putLock s x).regs = s.regs := by cases s; rfl
@[simp] theorem putLock_snap (x : LockStep) : (putLock s x).snap = s.snap := by cases s; rfl
@[simp] theorem putLock_hw (x : LockStep) : (putLock s x).hw = s.hw := by cases s; rfl
@[simp] theorem putLock_clusters (x : LockStep) : (putLock s x).clusters = s.clusters := by cases s; rfl
@[simp] theorem putLock_sched (x : LockStep) : (putLock s x).sched = s.sched := by cases s; rfl
@[simp] theorem putLock_gener (x : LockStep) : (putLock s x).gener = s.gener := by cases s; rfl
@[simp] theorem putLock_hif (x : LockStep) : (putLock s x).hif = s.hif := by cases s; rfl
@[simp] theorem putLock_azl (x : LockStep) : (putLock s x).azl = s.azl := by cases s; rfl
@[simp] theorem putLock_power (x : LockStep) : (putLock s x).power = s.power := by cases s; rfl
@[simp] theorem putLock_boot (x : LockStep) : (putLock s x).boot = s.boot := by cases s; rfl
@[simp] theorem putLock_dbgp (x : LockStep) : (putLock s x).dbgp = s.dbgp := by cases s; rfl
@[simp] theorem putLock_falbo (x : LockStep) : (putLock s x).falbo = s.falbo := by cases s; rfl
@[simp] theorem putLock_hbm (x : LockStep) : (putLock s x).hbm = s.hbm := by cases s; rfl
@[simp] theorem putLock_host (x : LockStep) : (putLock s x).host = s.host := by cases s; rfl
@[simp] theorem putLock_wrote (x : LockStep) : (putLock s x).wrote = s.wrote := by cases s; rfl

@[simp] theorem putPower_power (x : Power) : (putPower s x).power = x := rfl
@[simp] theorem putPower_pending (x : Power) : (putPower s x).pending = s.pending := by cases s; rfl
@[simp] theorem putPower_count (x : Power) : (putPower s x).count = s.count := by cases s; rfl
@[simp] theorem putPower_draw (x : Power) : (putPower s x).draw = s.draw := by cases s; rfl
@[simp] theorem putPower_regs (x : Power) : (putPower s x).regs = s.regs := by cases s; rfl
@[simp] theorem putPower_snap (x : Power) : (putPower s x).snap = s.snap := by cases s; rfl
@[simp] theorem putPower_hw (x : Power) : (putPower s x).hw = s.hw := by cases s; rfl
@[simp] theorem putPower_clusters (x : Power) : (putPower s x).clusters = s.clusters := by cases s; rfl
@[simp] theorem putPower_sched (x : Power) : (putPower s x).sched = s.sched := by cases s; rfl
@[simp] theorem putPower_gener (x : Power) : (putPower s x).gener = s.gener := by cases s; rfl
@[simp] theorem putPower_hif (x : Power) : (putPower s x).hif = s.hif := by cases s; rfl
@[simp] theorem putPower_azl (x : Power) : (putPower s x).azl = s.azl := by cases s; rfl
@[simp] theorem putPower_lock (x : Power) : (putPower s x).lock = s.lock := by cases s; rfl
@[simp] theorem putPower_boot (x : Power) : (putPower s x).boot = s.boot := by cases s; rfl
@[simp] theorem putPower_dbgp (x : Power) : (putPower s x).dbgp = s.dbgp := by cases s; rfl
@[simp] theorem putPower_falbo (x : Power) : (putPower s x).falbo = s.falbo := by cases s; rfl
@[simp] theorem putPower_hbm (x : Power) : (putPower s x).hbm = s.hbm := by cases s; rfl
@[simp] theorem putPower_host (x : Power) : (putPower s x).host = s.host := by cases s; rfl
@[simp] theorem putPower_wrote (x : Power) : (putPower s x).wrote = s.wrote := by cases s; rfl

@[simp] theorem putBoot_boot (x : Boot) : (putBoot s x).boot = x := rfl
@[simp] theorem putBoot_pending (x : Boot) : (putBoot s x).pending = s.pending := by cases s; rfl
@[simp] theorem putBoot_count (x : Boot) : (putBoot s x).count = s.count := by cases s; rfl
@[simp] theorem putBoot_draw (x : Boot) : (putBoot s x).draw = s.draw := by cases s; rfl
@[simp] theorem putBoot_regs (x : Boot) : (putBoot s x).regs = s.regs := by cases s; rfl
@[simp] theorem putBoot_snap (x : Boot) : (putBoot s x).snap = s.snap := by cases s; rfl
@[simp] theorem putBoot_hw (x : Boot) : (putBoot s x).hw = s.hw := by cases s; rfl
@[simp] theorem putBoot_clusters (x : Boot) : (putBoot s x).clusters = s.clusters := by cases s; rfl
@[simp] theorem putBoot_sched (x : Boot) : (putBoot s x).sched = s.sched := by cases s; rfl
@[simp] theorem putBoot_gener (x : Boot) : (putBoot s x).gener = s.gener := by cases s; rfl
@[simp] theorem putBoot_hif (x : Boot) : (putBoot s x).hif = s.hif := by cases s; rfl
@[simp] theorem putBoot_azl (x : Boot) : (putBoot s x).azl = s.azl := by cases s; rfl
@[simp] theorem putBoot_lock (x : Boot) : (putBoot s x).lock = s.lock := by cases s; rfl
@[simp] theorem putBoot_power (x : Boot) : (putBoot s x).power = s.power := by cases s; rfl
@[simp] theorem putBoot_dbgp (x : Boot) : (putBoot s x).dbgp = s.dbgp := by cases s; rfl
@[simp] theorem putBoot_falbo (x : Boot) : (putBoot s x).falbo = s.falbo := by cases s; rfl
@[simp] theorem putBoot_hbm (x : Boot) : (putBoot s x).hbm = s.hbm := by cases s; rfl
@[simp] theorem putBoot_host (x : Boot) : (putBoot s x).host = s.host := by cases s; rfl
@[simp] theorem putBoot_wrote (x : Boot) : (putBoot s x).wrote = s.wrote := by cases s; rfl

@[simp] theorem putDbgp_dbgp (x : Debug) : (putDbgp s x).dbgp = x := rfl
@[simp] theorem putDbgp_pending (x : Debug) : (putDbgp s x).pending = s.pending := by cases s; rfl
@[simp] theorem putDbgp_count (x : Debug) : (putDbgp s x).count = s.count := by cases s; rfl
@[simp] theorem putDbgp_draw (x : Debug) : (putDbgp s x).draw = s.draw := by cases s; rfl
@[simp] theorem putDbgp_regs (x : Debug) : (putDbgp s x).regs = s.regs := by cases s; rfl
@[simp] theorem putDbgp_snap (x : Debug) : (putDbgp s x).snap = s.snap := by cases s; rfl
@[simp] theorem putDbgp_hw (x : Debug) : (putDbgp s x).hw = s.hw := by cases s; rfl
@[simp] theorem putDbgp_clusters (x : Debug) : (putDbgp s x).clusters = s.clusters := by cases s; rfl
@[simp] theorem putDbgp_sched (x : Debug) : (putDbgp s x).sched = s.sched := by cases s; rfl
@[simp] theorem putDbgp_gener (x : Debug) : (putDbgp s x).gener = s.gener := by cases s; rfl
@[simp] theorem putDbgp_hif (x : Debug) : (putDbgp s x).hif = s.hif := by cases s; rfl
@[simp] theorem putDbgp_azl (x : Debug) : (putDbgp s x).azl = s.azl := by cases s; rfl
@[simp] theorem putDbgp_lock (x : Debug) : (putDbgp s x).lock = s.lock := by cases s; rfl
@[simp] theorem putDbgp_power (x : Debug) : (putDbgp s x).power = s.power := by cases s; rfl
@[simp] theorem putDbgp_boot (x : Debug) : (putDbgp s x).boot = s.boot := by cases s; rfl
@[simp] theorem putDbgp_falbo (x : Debug) : (putDbgp s x).falbo = s.falbo := by cases s; rfl
@[simp] theorem putDbgp_hbm (x : Debug) : (putDbgp s x).hbm = s.hbm := by cases s; rfl
@[simp] theorem putDbgp_host (x : Debug) : (putDbgp s x).host = s.host := by cases s; rfl
@[simp] theorem putDbgp_wrote (x : Debug) : (putDbgp s x).wrote = s.wrote := by cases s; rfl

@[simp] theorem putFalbo_falbo (x : Falbo) : (putFalbo s x).falbo = x := rfl
@[simp] theorem putFalbo_pending (x : Falbo) : (putFalbo s x).pending = s.pending := by cases s; rfl
@[simp] theorem putFalbo_count (x : Falbo) : (putFalbo s x).count = s.count := by cases s; rfl
@[simp] theorem putFalbo_draw (x : Falbo) : (putFalbo s x).draw = s.draw := by cases s; rfl
@[simp] theorem putFalbo_regs (x : Falbo) : (putFalbo s x).regs = s.regs := by cases s; rfl
@[simp] theorem putFalbo_snap (x : Falbo) : (putFalbo s x).snap = s.snap := by cases s; rfl
@[simp] theorem putFalbo_hw (x : Falbo) : (putFalbo s x).hw = s.hw := by cases s; rfl
@[simp] theorem putFalbo_clusters (x : Falbo) : (putFalbo s x).clusters = s.clusters := by cases s; rfl
@[simp] theorem putFalbo_sched (x : Falbo) : (putFalbo s x).sched = s.sched := by cases s; rfl
@[simp] theorem putFalbo_gener (x : Falbo) : (putFalbo s x).gener = s.gener := by cases s; rfl
@[simp] theorem putFalbo_hif (x : Falbo) : (putFalbo s x).hif = s.hif := by cases s; rfl
@[simp] theorem putFalbo_azl (x : Falbo) : (putFalbo s x).azl = s.azl := by cases s; rfl
@[simp] theorem putFalbo_lock (x : Falbo) : (putFalbo s x).lock = s.lock := by cases s; rfl
@[simp] theorem putFalbo_power (x : Falbo) : (putFalbo s x).power = s.power := by cases s; rfl
@[simp] theorem putFalbo_boot (x : Falbo) : (putFalbo s x).boot = s.boot := by cases s; rfl
@[simp] theorem putFalbo_dbgp (x : Falbo) : (putFalbo s x).dbgp = s.dbgp := by cases s; rfl
@[simp] theorem putFalbo_hbm (x : Falbo) : (putFalbo s x).hbm = s.hbm := by cases s; rfl
@[simp] theorem putFalbo_host (x : Falbo) : (putFalbo s x).host = s.host := by cases s; rfl
@[simp] theorem putFalbo_wrote (x : Falbo) : (putFalbo s x).wrote = s.wrote := by cases s; rfl

@[simp] theorem putHbm_hbm (x : Mem) : (putHbm s x).hbm = x := rfl
@[simp] theorem putHbm_pending (x : Mem) : (putHbm s x).pending = s.pending := by cases s; rfl
@[simp] theorem putHbm_count (x : Mem) : (putHbm s x).count = s.count := by cases s; rfl
@[simp] theorem putHbm_draw (x : Mem) : (putHbm s x).draw = s.draw := by cases s; rfl
@[simp] theorem putHbm_regs (x : Mem) : (putHbm s x).regs = s.regs := by cases s; rfl
@[simp] theorem putHbm_snap (x : Mem) : (putHbm s x).snap = s.snap := by cases s; rfl
@[simp] theorem putHbm_hw (x : Mem) : (putHbm s x).hw = s.hw := by cases s; rfl
@[simp] theorem putHbm_clusters (x : Mem) : (putHbm s x).clusters = s.clusters := by cases s; rfl
@[simp] theorem putHbm_sched (x : Mem) : (putHbm s x).sched = s.sched := by cases s; rfl
@[simp] theorem putHbm_gener (x : Mem) : (putHbm s x).gener = s.gener := by cases s; rfl
@[simp] theorem putHbm_hif (x : Mem) : (putHbm s x).hif = s.hif := by cases s; rfl
@[simp] theorem putHbm_azl (x : Mem) : (putHbm s x).azl = s.azl := by cases s; rfl
@[simp] theorem putHbm_lock (x : Mem) : (putHbm s x).lock = s.lock := by cases s; rfl
@[simp] theorem putHbm_power (x : Mem) : (putHbm s x).power = s.power := by cases s; rfl
@[simp] theorem putHbm_boot (x : Mem) : (putHbm s x).boot = s.boot := by cases s; rfl
@[simp] theorem putHbm_dbgp (x : Mem) : (putHbm s x).dbgp = s.dbgp := by cases s; rfl
@[simp] theorem putHbm_falbo (x : Mem) : (putHbm s x).falbo = s.falbo := by cases s; rfl
@[simp] theorem putHbm_host (x : Mem) : (putHbm s x).host = s.host := by cases s; rfl
@[simp] theorem putHbm_wrote (x : Mem) : (putHbm s x).wrote = s.wrote := by cases s; rfl

@[simp] theorem putHost_host (x : Mem) : (putHost s x).host = x := rfl
@[simp] theorem putHost_wrote (x : Mem) : (putHost s x).wrote = s.wrote := by cases s; rfl
@[simp] theorem putHost_pending (x : Mem) : (putHost s x).pending = s.pending := by cases s; rfl
@[simp] theorem putHost_count (x : Mem) : (putHost s x).count = s.count := by cases s; rfl
@[simp] theorem putHost_draw (x : Mem) : (putHost s x).draw = s.draw := by cases s; rfl
@[simp] theorem putHost_regs (x : Mem) : (putHost s x).regs = s.regs := by cases s; rfl
@[simp] theorem putHost_snap (x : Mem) : (putHost s x).snap = s.snap := by cases s; rfl
@[simp] theorem putHost_hw (x : Mem) : (putHost s x).hw = s.hw := by cases s; rfl
@[simp] theorem putHost_clusters (x : Mem) : (putHost s x).clusters = s.clusters := by cases s; rfl
@[simp] theorem putHost_sched (x : Mem) : (putHost s x).sched = s.sched := by cases s; rfl
@[simp] theorem putHost_gener (x : Mem) : (putHost s x).gener = s.gener := by cases s; rfl
@[simp] theorem putHost_hif (x : Mem) : (putHost s x).hif = s.hif := by cases s; rfl
@[simp] theorem putHost_azl (x : Mem) : (putHost s x).azl = s.azl := by cases s; rfl
@[simp] theorem putHost_lock (x : Mem) : (putHost s x).lock = s.lock := by cases s; rfl
@[simp] theorem putHost_power (x : Mem) : (putHost s x).power = s.power := by cases s; rfl
@[simp] theorem putHost_boot (x : Mem) : (putHost s x).boot = s.boot := by cases s; rfl
@[simp] theorem putHost_dbgp (x : Mem) : (putHost s x).dbgp = s.dbgp := by cases s; rfl
@[simp] theorem putHost_falbo (x : Mem) : (putHost s x).falbo = s.falbo := by cases s; rfl
@[simp] theorem putHost_hbm (x : Mem) : (putHost s x).hbm = s.hbm := by cases s; rfl

@[simp] theorem putWrote_wrote (x : List (Nat × Nat × Nat)) : (putWrote s x).wrote = x := rfl
@[simp] theorem putWrote_hbm (x : List (Nat × Nat × Nat)) : (putWrote s x).hbm = s.hbm := by cases s; rfl
@[simp] theorem putWrote_pending (x : List (Nat × Nat × Nat)) : (putWrote s x).pending = s.pending := by cases s; rfl
@[simp] theorem putWrote_count (x : List (Nat × Nat × Nat)) : (putWrote s x).count = s.count := by cases s; rfl
@[simp] theorem putWrote_draw (x : List (Nat × Nat × Nat)) : (putWrote s x).draw = s.draw := by cases s; rfl
@[simp] theorem putWrote_regs (x : List (Nat × Nat × Nat)) : (putWrote s x).regs = s.regs := by cases s; rfl
@[simp] theorem putWrote_snap (x : List (Nat × Nat × Nat)) : (putWrote s x).snap = s.snap := by cases s; rfl
@[simp] theorem putWrote_hw (x : List (Nat × Nat × Nat)) : (putWrote s x).hw = s.hw := by cases s; rfl
@[simp] theorem putWrote_clusters (x : List (Nat × Nat × Nat)) : (putWrote s x).clusters = s.clusters := by cases s; rfl
@[simp] theorem putWrote_sched (x : List (Nat × Nat × Nat)) : (putWrote s x).sched = s.sched := by cases s; rfl
@[simp] theorem putWrote_gener (x : List (Nat × Nat × Nat)) : (putWrote s x).gener = s.gener := by cases s; rfl
@[simp] theorem putWrote_hif (x : List (Nat × Nat × Nat)) : (putWrote s x).hif = s.hif := by cases s; rfl
@[simp] theorem putWrote_azl (x : List (Nat × Nat × Nat)) : (putWrote s x).azl = s.azl := by cases s; rfl
@[simp] theorem putWrote_lock (x : List (Nat × Nat × Nat)) : (putWrote s x).lock = s.lock := by cases s; rfl
@[simp] theorem putWrote_power (x : List (Nat × Nat × Nat)) : (putWrote s x).power = s.power := by cases s; rfl
@[simp] theorem putWrote_boot (x : List (Nat × Nat × Nat)) : (putWrote s x).boot = s.boot := by cases s; rfl
@[simp] theorem putWrote_dbgp (x : List (Nat × Nat × Nat)) : (putWrote s x).dbgp = s.dbgp := by cases s; rfl
@[simp] theorem putWrote_falbo (x : List (Nat × Nat × Nat)) : (putWrote s x).falbo = s.falbo := by cases s; rfl
@[simp] theorem putWrote_host (x : List (Nat × Nat × Nat)) : (putWrote s x).host = s.host := by cases s; rfl

/-! ### Writes of registers -/

@[simp] theorem wrReg_pending (off : Nat) (v : Word) : (wrReg s off v).pending = s.pending := by cases s; rfl
@[simp] theorem wrReg_count (off : Nat) (v : Word) : (wrReg s off v).count = s.count := by cases s; rfl
@[simp] theorem wrReg_draw (off : Nat) (v : Word) : (wrReg s off v).draw = s.draw := by cases s; rfl
@[simp] theorem wrReg_snap (off : Nat) (v : Word) : (wrReg s off v).snap = s.snap := by cases s; rfl
@[simp] theorem wrReg_hw (off : Nat) (v : Word) : (wrReg s off v).hw = s.hw := by cases s; rfl
@[simp] theorem wrReg_clusters (off : Nat) (v : Word) : (wrReg s off v).clusters = s.clusters := by cases s; rfl
@[simp] theorem wrReg_sched (off : Nat) (v : Word) : (wrReg s off v).sched = s.sched := by cases s; rfl
@[simp] theorem wrReg_gener (off : Nat) (v : Word) : (wrReg s off v).gener = s.gener := by cases s; rfl
@[simp] theorem wrReg_hif (off : Nat) (v : Word) : (wrReg s off v).hif = s.hif := by cases s; rfl
@[simp] theorem wrReg_azl (off : Nat) (v : Word) : (wrReg s off v).azl = s.azl := by cases s; rfl
@[simp] theorem wrReg_lock (off : Nat) (v : Word) : (wrReg s off v).lock = s.lock := by cases s; rfl
@[simp] theorem wrReg_power (off : Nat) (v : Word) : (wrReg s off v).power = s.power := by cases s; rfl
@[simp] theorem wrReg_boot (off : Nat) (v : Word) : (wrReg s off v).boot = s.boot := by cases s; rfl
@[simp] theorem wrReg_dbgp (off : Nat) (v : Word) : (wrReg s off v).dbgp = s.dbgp := by cases s; rfl
@[simp] theorem wrReg_falbo (off : Nat) (v : Word) : (wrReg s off v).falbo = s.falbo := by cases s; rfl
@[simp] theorem wrReg_hbm (off : Nat) (v : Word) : (wrReg s off v).hbm = s.hbm := by cases s; rfl
@[simp] theorem wrReg_host (off : Nat) (v : Word) : (wrReg s off v).host = s.host := by cases s; rfl
@[simp] theorem wrReg_wrote (off : Nat) (v : Word) : (wrReg s off v).wrote = s.wrote := by cases s; rfl

@[simp] theorem wrN_pending (off v : Nat) : (wrN s off v).pending = s.pending := by cases s; rfl
@[simp] theorem wrN_count (off v : Nat) : (wrN s off v).count = s.count := by cases s; rfl
@[simp] theorem wrN_draw (off v : Nat) : (wrN s off v).draw = s.draw := by cases s; rfl
@[simp] theorem wrN_snap (off v : Nat) : (wrN s off v).snap = s.snap := by cases s; rfl
@[simp] theorem wrN_hw (off v : Nat) : (wrN s off v).hw = s.hw := by cases s; rfl
@[simp] theorem wrN_clusters (off v : Nat) : (wrN s off v).clusters = s.clusters := by cases s; rfl
@[simp] theorem wrN_sched (off v : Nat) : (wrN s off v).sched = s.sched := by cases s; rfl
@[simp] theorem wrN_gener (off v : Nat) : (wrN s off v).gener = s.gener := by cases s; rfl
@[simp] theorem wrN_hif (off v : Nat) : (wrN s off v).hif = s.hif := by cases s; rfl
@[simp] theorem wrN_azl (off v : Nat) : (wrN s off v).azl = s.azl := by cases s; rfl
@[simp] theorem wrN_lock (off v : Nat) : (wrN s off v).lock = s.lock := by cases s; rfl
@[simp] theorem wrN_power (off v : Nat) : (wrN s off v).power = s.power := by cases s; rfl
@[simp] theorem wrN_boot (off v : Nat) : (wrN s off v).boot = s.boot := by cases s; rfl
@[simp] theorem wrN_dbgp (off v : Nat) : (wrN s off v).dbgp = s.dbgp := by cases s; rfl
@[simp] theorem wrN_falbo (off v : Nat) : (wrN s off v).falbo = s.falbo := by cases s; rfl
@[simp] theorem wrN_hbm (off v : Nat) : (wrN s off v).hbm = s.hbm := by cases s; rfl
@[simp] theorem wrN_host (off v : Nat) : (wrN s off v).host = s.host := by cases s; rfl
@[simp] theorem wrN_wrote (off v : Nat) : (wrN s off v).wrote = s.wrote := by cases s; rfl

@[simp] theorem wrF_pending (off hi lo v : Nat) : (wrF s off hi lo v).pending = s.pending := by cases s; rfl
@[simp] theorem wrF_count (off hi lo v : Nat) : (wrF s off hi lo v).count = s.count := by cases s; rfl
@[simp] theorem wrF_draw (off hi lo v : Nat) : (wrF s off hi lo v).draw = s.draw := by cases s; rfl
@[simp] theorem wrF_snap (off hi lo v : Nat) : (wrF s off hi lo v).snap = s.snap := by cases s; rfl
@[simp] theorem wrF_hw (off hi lo v : Nat) : (wrF s off hi lo v).hw = s.hw := by cases s; rfl
@[simp] theorem wrF_clusters (off hi lo v : Nat) : (wrF s off hi lo v).clusters = s.clusters := by cases s; rfl
@[simp] theorem wrF_sched (off hi lo v : Nat) : (wrF s off hi lo v).sched = s.sched := by cases s; rfl
@[simp] theorem wrF_gener (off hi lo v : Nat) : (wrF s off hi lo v).gener = s.gener := by cases s; rfl
@[simp] theorem wrF_hif (off hi lo v : Nat) : (wrF s off hi lo v).hif = s.hif := by cases s; rfl
@[simp] theorem wrF_azl (off hi lo v : Nat) : (wrF s off hi lo v).azl = s.azl := by cases s; rfl
@[simp] theorem wrF_lock (off hi lo v : Nat) : (wrF s off hi lo v).lock = s.lock := by cases s; rfl
@[simp] theorem wrF_power (off hi lo v : Nat) : (wrF s off hi lo v).power = s.power := by cases s; rfl
@[simp] theorem wrF_boot (off hi lo v : Nat) : (wrF s off hi lo v).boot = s.boot := by cases s; rfl
@[simp] theorem wrF_dbgp (off hi lo v : Nat) : (wrF s off hi lo v).dbgp = s.dbgp := by cases s; rfl
@[simp] theorem wrF_falbo (off hi lo v : Nat) : (wrF s off hi lo v).falbo = s.falbo := by cases s; rfl
@[simp] theorem wrF_hbm (off hi lo v : Nat) : (wrF s off hi lo v).hbm = s.hbm := by cases s; rfl
@[simp] theorem wrF_host (off hi lo v : Nat) : (wrF s off hi lo v).host = s.host := by cases s; rfl
@[simp] theorem wrF_wrote (off hi lo v : Nat) : (wrF s off hi lo v).wrote = s.wrote := by cases s; rfl

@[simp] theorem wrB_pending (off n : Nat) (b : Bool) : (wrB s off n b).pending = s.pending := by cases s; rfl
@[simp] theorem wrB_count (off n : Nat) (b : Bool) : (wrB s off n b).count = s.count := by cases s; rfl
@[simp] theorem wrB_draw (off n : Nat) (b : Bool) : (wrB s off n b).draw = s.draw := by cases s; rfl
@[simp] theorem wrB_snap (off n : Nat) (b : Bool) : (wrB s off n b).snap = s.snap := by cases s; rfl
@[simp] theorem wrB_hw (off n : Nat) (b : Bool) : (wrB s off n b).hw = s.hw := by cases s; rfl
@[simp] theorem wrB_clusters (off n : Nat) (b : Bool) : (wrB s off n b).clusters = s.clusters := by cases s; rfl
@[simp] theorem wrB_sched (off n : Nat) (b : Bool) : (wrB s off n b).sched = s.sched := by cases s; rfl
@[simp] theorem wrB_gener (off n : Nat) (b : Bool) : (wrB s off n b).gener = s.gener := by cases s; rfl
@[simp] theorem wrB_hif (off n : Nat) (b : Bool) : (wrB s off n b).hif = s.hif := by cases s; rfl
@[simp] theorem wrB_azl (off n : Nat) (b : Bool) : (wrB s off n b).azl = s.azl := by cases s; rfl
@[simp] theorem wrB_lock (off n : Nat) (b : Bool) : (wrB s off n b).lock = s.lock := by cases s; rfl
@[simp] theorem wrB_power (off n : Nat) (b : Bool) : (wrB s off n b).power = s.power := by cases s; rfl
@[simp] theorem wrB_boot (off n : Nat) (b : Bool) : (wrB s off n b).boot = s.boot := by cases s; rfl
@[simp] theorem wrB_dbgp (off n : Nat) (b : Bool) : (wrB s off n b).dbgp = s.dbgp := by cases s; rfl
@[simp] theorem wrB_falbo (off n : Nat) (b : Bool) : (wrB s off n b).falbo = s.falbo := by cases s; rfl
@[simp] theorem wrB_hbm (off n : Nat) (b : Bool) : (wrB s off n b).hbm = s.hbm := by cases s; rfl
@[simp] theorem wrB_host (off n : Nat) (b : Bool) : (wrB s off n b).host = s.host := by cases s; rfl
@[simp] theorem wrB_wrote (off n : Nat) (b : Bool) : (wrB s off n b).wrote = s.wrote := by cases s; rfl

@[simp] theorem wr64_pending (off v : Nat) : (wr64 s off v).pending = s.pending := by cases s; rfl
@[simp] theorem wr64_count (off v : Nat) : (wr64 s off v).count = s.count := by cases s; rfl
@[simp] theorem wr64_draw (off v : Nat) : (wr64 s off v).draw = s.draw := by cases s; rfl
@[simp] theorem wr64_snap (off v : Nat) : (wr64 s off v).snap = s.snap := by cases s; rfl
@[simp] theorem wr64_hw (off v : Nat) : (wr64 s off v).hw = s.hw := by cases s; rfl
@[simp] theorem wr64_clusters (off v : Nat) : (wr64 s off v).clusters = s.clusters := by cases s; rfl
@[simp] theorem wr64_sched (off v : Nat) : (wr64 s off v).sched = s.sched := by cases s; rfl
@[simp] theorem wr64_gener (off v : Nat) : (wr64 s off v).gener = s.gener := by cases s; rfl
@[simp] theorem wr64_hif (off v : Nat) : (wr64 s off v).hif = s.hif := by cases s; rfl
@[simp] theorem wr64_azl (off v : Nat) : (wr64 s off v).azl = s.azl := by cases s; rfl
@[simp] theorem wr64_lock (off v : Nat) : (wr64 s off v).lock = s.lock := by cases s; rfl
@[simp] theorem wr64_power (off v : Nat) : (wr64 s off v).power = s.power := by cases s; rfl
@[simp] theorem wr64_boot (off v : Nat) : (wr64 s off v).boot = s.boot := by cases s; rfl
@[simp] theorem wr64_dbgp (off v : Nat) : (wr64 s off v).dbgp = s.dbgp := by cases s; rfl
@[simp] theorem wr64_falbo (off v : Nat) : (wr64 s off v).falbo = s.falbo := by cases s; rfl
@[simp] theorem wr64_hbm (off v : Nat) : (wr64 s off v).hbm = s.hbm := by cases s; rfl
@[simp] theorem wr64_host (off v : Nat) : (wr64 s off v).host = s.host := by cases s; rfl
@[simp] theorem wr64_wrote (off v : Nat) : (wr64 s off v).wrote = s.wrote := by cases s; rfl

@[simp] theorem cntReg_pending (off n : Nat) : (cntReg s off n).pending = s.pending := by cases s; rfl
@[simp] theorem cntReg_count (off n : Nat) : (cntReg s off n).count = s.count := by cases s; rfl
@[simp] theorem cntReg_draw (off n : Nat) : (cntReg s off n).draw = s.draw := by cases s; rfl
@[simp] theorem cntReg_snap (off n : Nat) : (cntReg s off n).snap = s.snap := by cases s; rfl
@[simp] theorem cntReg_hw (off n : Nat) : (cntReg s off n).hw = s.hw := by cases s; rfl
@[simp] theorem cntReg_clusters (off n : Nat) : (cntReg s off n).clusters = s.clusters := by cases s; rfl
@[simp] theorem cntReg_sched (off n : Nat) : (cntReg s off n).sched = s.sched := by cases s; rfl
@[simp] theorem cntReg_gener (off n : Nat) : (cntReg s off n).gener = s.gener := by cases s; rfl
@[simp] theorem cntReg_hif (off n : Nat) : (cntReg s off n).hif = s.hif := by cases s; rfl
@[simp] theorem cntReg_azl (off n : Nat) : (cntReg s off n).azl = s.azl := by cases s; rfl
@[simp] theorem cntReg_lock (off n : Nat) : (cntReg s off n).lock = s.lock := by cases s; rfl
@[simp] theorem cntReg_power (off n : Nat) : (cntReg s off n).power = s.power := by cases s; rfl
@[simp] theorem cntReg_boot (off n : Nat) : (cntReg s off n).boot = s.boot := by cases s; rfl
@[simp] theorem cntReg_dbgp (off n : Nat) : (cntReg s off n).dbgp = s.dbgp := by cases s; rfl
@[simp] theorem cntReg_falbo (off n : Nat) : (cntReg s off n).falbo = s.falbo := by cases s; rfl
@[simp] theorem cntReg_hbm (off n : Nat) : (cntReg s off n).hbm = s.hbm := by cases s; rfl
@[simp] theorem cntReg_host (off n : Nat) : (cntReg s off n).host = s.host := by cases s; rfl
@[simp] theorem cntReg_wrote (off n : Nat) : (cntReg s off n).wrote = s.wrote := by cases s; rfl

@[simp] theorem cntErr_pending (page n : Nat) : (cntErr s page n).pending = s.pending := by cases s; rfl
@[simp] theorem cntErr_count (page n : Nat) : (cntErr s page n).count = s.count := by cases s; rfl
@[simp] theorem cntErr_draw (page n : Nat) : (cntErr s page n).draw = s.draw := by cases s; rfl
@[simp] theorem cntErr_snap (page n : Nat) : (cntErr s page n).snap = s.snap := by cases s; rfl
@[simp] theorem cntErr_hw (page n : Nat) : (cntErr s page n).hw = s.hw := by cases s; rfl
@[simp] theorem cntErr_clusters (page n : Nat) : (cntErr s page n).clusters = s.clusters := by cases s; rfl
@[simp] theorem cntErr_sched (page n : Nat) : (cntErr s page n).sched = s.sched := by cases s; rfl
@[simp] theorem cntErr_gener (page n : Nat) : (cntErr s page n).gener = s.gener := by cases s; rfl
@[simp] theorem cntErr_hif (page n : Nat) : (cntErr s page n).hif = s.hif := by cases s; rfl
@[simp] theorem cntErr_azl (page n : Nat) : (cntErr s page n).azl = s.azl := by cases s; rfl
@[simp] theorem cntErr_lock (page n : Nat) : (cntErr s page n).lock = s.lock := by cases s; rfl
@[simp] theorem cntErr_power (page n : Nat) : (cntErr s page n).power = s.power := by cases s; rfl
@[simp] theorem cntErr_boot (page n : Nat) : (cntErr s page n).boot = s.boot := by cases s; rfl
@[simp] theorem cntErr_dbgp (page n : Nat) : (cntErr s page n).dbgp = s.dbgp := by cases s; rfl
@[simp] theorem cntErr_falbo (page n : Nat) : (cntErr s page n).falbo = s.falbo := by cases s; rfl
@[simp] theorem cntErr_hbm (page n : Nat) : (cntErr s page n).hbm = s.hbm := by cases s; rfl
@[simp] theorem cntErr_host (page n : Nat) : (cntErr s page n).host = s.host := by cases s; rfl
@[simp] theorem cntErr_wrote (page n : Nat) : (cntErr s page n).wrote = s.wrote := by cases s; rfl

@[simp] theorem noteHw_pending (off : Nat) (bits : Word) : (noteHw s off bits).pending = s.pending := by cases s; rfl
@[simp] theorem noteHw_count (off : Nat) (bits : Word) : (noteHw s off bits).count = s.count := by cases s; rfl
@[simp] theorem noteHw_draw (off : Nat) (bits : Word) : (noteHw s off bits).draw = s.draw := by cases s; rfl
@[simp] theorem noteHw_regs (off : Nat) (bits : Word) : (noteHw s off bits).regs = s.regs := by cases s; rfl
@[simp] theorem noteHw_snap (off : Nat) (bits : Word) : (noteHw s off bits).snap = s.snap := by cases s; rfl
@[simp] theorem noteHw_clusters (off : Nat) (bits : Word) : (noteHw s off bits).clusters = s.clusters := by cases s; rfl
@[simp] theorem noteHw_sched (off : Nat) (bits : Word) : (noteHw s off bits).sched = s.sched := by cases s; rfl
@[simp] theorem noteHw_gener (off : Nat) (bits : Word) : (noteHw s off bits).gener = s.gener := by cases s; rfl
@[simp] theorem noteHw_hif (off : Nat) (bits : Word) : (noteHw s off bits).hif = s.hif := by cases s; rfl
@[simp] theorem noteHw_azl (off : Nat) (bits : Word) : (noteHw s off bits).azl = s.azl := by cases s; rfl
@[simp] theorem noteHw_lock (off : Nat) (bits : Word) : (noteHw s off bits).lock = s.lock := by cases s; rfl
@[simp] theorem noteHw_power (off : Nat) (bits : Word) : (noteHw s off bits).power = s.power := by cases s; rfl
@[simp] theorem noteHw_boot (off : Nat) (bits : Word) : (noteHw s off bits).boot = s.boot := by cases s; rfl
@[simp] theorem noteHw_dbgp (off : Nat) (bits : Word) : (noteHw s off bits).dbgp = s.dbgp := by cases s; rfl
@[simp] theorem noteHw_falbo (off : Nat) (bits : Word) : (noteHw s off bits).falbo = s.falbo := by cases s; rfl
@[simp] theorem noteHw_hbm (off : Nat) (bits : Word) : (noteHw s off bits).hbm = s.hbm := by cases s; rfl
@[simp] theorem noteHw_host (off : Nat) (bits : Word) : (noteHw s off bits).host = s.host := by cases s; rfl
@[simp] theorem noteHw_wrote (off : Nat) (bits : Word) : (noteHw s off bits).wrote = s.wrote := by cases s; rfl

@[simp] theorem setEvt_pending (page bits : Nat) : (setEvt s page bits).pending = s.pending := by cases s; rfl
@[simp] theorem setEvt_count (page bits : Nat) : (setEvt s page bits).count = s.count := by cases s; rfl
@[simp] theorem setEvt_draw (page bits : Nat) : (setEvt s page bits).draw = s.draw := by cases s; rfl
@[simp] theorem setEvt_snap (page bits : Nat) : (setEvt s page bits).snap = s.snap := by cases s; rfl
@[simp] theorem setEvt_clusters (page bits : Nat) : (setEvt s page bits).clusters = s.clusters := by cases s; rfl
@[simp] theorem setEvt_sched (page bits : Nat) : (setEvt s page bits).sched = s.sched := by cases s; rfl
@[simp] theorem setEvt_gener (page bits : Nat) : (setEvt s page bits).gener = s.gener := by cases s; rfl
@[simp] theorem setEvt_hif (page bits : Nat) : (setEvt s page bits).hif = s.hif := by cases s; rfl
@[simp] theorem setEvt_azl (page bits : Nat) : (setEvt s page bits).azl = s.azl := by cases s; rfl
@[simp] theorem setEvt_lock (page bits : Nat) : (setEvt s page bits).lock = s.lock := by cases s; rfl
@[simp] theorem setEvt_power (page bits : Nat) : (setEvt s page bits).power = s.power := by cases s; rfl
@[simp] theorem setEvt_boot (page bits : Nat) : (setEvt s page bits).boot = s.boot := by cases s; rfl
@[simp] theorem setEvt_dbgp (page bits : Nat) : (setEvt s page bits).dbgp = s.dbgp := by cases s; rfl
@[simp] theorem setEvt_falbo (page bits : Nat) : (setEvt s page bits).falbo = s.falbo := by cases s; rfl
@[simp] theorem setEvt_hbm (page bits : Nat) : (setEvt s page bits).hbm = s.hbm := by cases s; rfl
@[simp] theorem setEvt_host (page bits : Nat) : (setEvt s page bits).host = s.host := by cases s; rfl
@[simp] theorem setEvt_wrote (page bits : Nat) : (setEvt s page bits).wrote = s.wrote := by cases s; rfl

/-! ### Rings, queues, host memory -/

@[simp] theorem setRing_pending (r : Nat) (x : Ring) : (setRing s r x).pending = s.pending := by cases s; rfl
@[simp] theorem setRing_count (r : Nat) (x : Ring) : (setRing s r x).count = s.count := by cases s; rfl
@[simp] theorem setRing_draw (r : Nat) (x : Ring) : (setRing s r x).draw = s.draw := by cases s; rfl
@[simp] theorem setRing_regs (r : Nat) (x : Ring) : (setRing s r x).regs = s.regs := by cases s; rfl
@[simp] theorem setRing_snap (r : Nat) (x : Ring) : (setRing s r x).snap = s.snap := by cases s; rfl
@[simp] theorem setRing_hw (r : Nat) (x : Ring) : (setRing s r x).hw = s.hw := by cases s; rfl
@[simp] theorem setRing_clusters (r : Nat) (x : Ring) : (setRing s r x).clusters = s.clusters := by cases s; rfl
@[simp] theorem setRing_sched (r : Nat) (x : Ring) : (setRing s r x).sched = s.sched := by cases s; rfl
@[simp] theorem setRing_gener (r : Nat) (x : Ring) : (setRing s r x).gener = s.gener := by cases s; rfl
@[simp] theorem setRing_azl (r : Nat) (x : Ring) : (setRing s r x).azl = s.azl := by cases s; rfl
@[simp] theorem setRing_lock (r : Nat) (x : Ring) : (setRing s r x).lock = s.lock := by cases s; rfl
@[simp] theorem setRing_power (r : Nat) (x : Ring) : (setRing s r x).power = s.power := by cases s; rfl
@[simp] theorem setRing_boot (r : Nat) (x : Ring) : (setRing s r x).boot = s.boot := by cases s; rfl
@[simp] theorem setRing_dbgp (r : Nat) (x : Ring) : (setRing s r x).dbgp = s.dbgp := by cases s; rfl
@[simp] theorem setRing_falbo (r : Nat) (x : Ring) : (setRing s r x).falbo = s.falbo := by cases s; rfl
@[simp] theorem setRing_hbm (r : Nat) (x : Ring) : (setRing s r x).hbm = s.hbm := by cases s; rfl
@[simp] theorem setRing_host (r : Nat) (x : Ring) : (setRing s r x).host = s.host := by cases s; rfl
@[simp] theorem setRing_wrote (r : Nat) (x : Ring) : (setRing s r x).wrote = s.wrote := by cases s; rfl

@[simp] theorem setEvq_pending (q : Nat) (x : EvQueue) : (setEvq s q x).pending = s.pending := by cases s; rfl
@[simp] theorem setEvq_count (q : Nat) (x : EvQueue) : (setEvq s q x).count = s.count := by cases s; rfl
@[simp] theorem setEvq_draw (q : Nat) (x : EvQueue) : (setEvq s q x).draw = s.draw := by cases s; rfl
@[simp] theorem setEvq_regs (q : Nat) (x : EvQueue) : (setEvq s q x).regs = s.regs := by cases s; rfl
@[simp] theorem setEvq_snap (q : Nat) (x : EvQueue) : (setEvq s q x).snap = s.snap := by cases s; rfl
@[simp] theorem setEvq_hw (q : Nat) (x : EvQueue) : (setEvq s q x).hw = s.hw := by cases s; rfl
@[simp] theorem setEvq_clusters (q : Nat) (x : EvQueue) : (setEvq s q x).clusters = s.clusters := by cases s; rfl
@[simp] theorem setEvq_sched (q : Nat) (x : EvQueue) : (setEvq s q x).sched = s.sched := by cases s; rfl
@[simp] theorem setEvq_gener (q : Nat) (x : EvQueue) : (setEvq s q x).gener = s.gener := by cases s; rfl
@[simp] theorem setEvq_azl (q : Nat) (x : EvQueue) : (setEvq s q x).azl = s.azl := by cases s; rfl
@[simp] theorem setEvq_lock (q : Nat) (x : EvQueue) : (setEvq s q x).lock = s.lock := by cases s; rfl
@[simp] theorem setEvq_power (q : Nat) (x : EvQueue) : (setEvq s q x).power = s.power := by cases s; rfl
@[simp] theorem setEvq_boot (q : Nat) (x : EvQueue) : (setEvq s q x).boot = s.boot := by cases s; rfl
@[simp] theorem setEvq_dbgp (q : Nat) (x : EvQueue) : (setEvq s q x).dbgp = s.dbgp := by cases s; rfl
@[simp] theorem setEvq_falbo (q : Nat) (x : EvQueue) : (setEvq s q x).falbo = s.falbo := by cases s; rfl
@[simp] theorem setEvq_hbm (q : Nat) (x : EvQueue) : (setEvq s q x).hbm = s.hbm := by cases s; rfl
@[simp] theorem setEvq_host (q : Nat) (x : EvQueue) : (setEvq s q x).host = s.host := by cases s; rfl
@[simp] theorem setEvq_wrote (q : Nat) (x : EvQueue) : (setEvq s q x).wrote = s.wrote := by cases s; rfl

@[simp] theorem hostWrite_pending (fn addr : Nat) (bs : List Byte) : (hostWrite s fn addr bs).pending = s.pending := by cases s; rfl
@[simp] theorem hostWrite_count (fn addr : Nat) (bs : List Byte) : (hostWrite s fn addr bs).count = s.count := by cases s; rfl
@[simp] theorem hostWrite_draw (fn addr : Nat) (bs : List Byte) : (hostWrite s fn addr bs).draw = s.draw := by cases s; rfl
@[simp] theorem hostWrite_regs (fn addr : Nat) (bs : List Byte) : (hostWrite s fn addr bs).regs = s.regs := by cases s; rfl
@[simp] theorem hostWrite_snap (fn addr : Nat) (bs : List Byte) : (hostWrite s fn addr bs).snap = s.snap := by cases s; rfl
@[simp] theorem hostWrite_hw (fn addr : Nat) (bs : List Byte) : (hostWrite s fn addr bs).hw = s.hw := by cases s; rfl
@[simp] theorem hostWrite_clusters (fn addr : Nat) (bs : List Byte) : (hostWrite s fn addr bs).clusters = s.clusters := by cases s; rfl
@[simp] theorem hostWrite_sched (fn addr : Nat) (bs : List Byte) : (hostWrite s fn addr bs).sched = s.sched := by cases s; rfl
@[simp] theorem hostWrite_gener (fn addr : Nat) (bs : List Byte) : (hostWrite s fn addr bs).gener = s.gener := by cases s; rfl
@[simp] theorem hostWrite_hif (fn addr : Nat) (bs : List Byte) : (hostWrite s fn addr bs).hif = s.hif := by cases s; rfl
@[simp] theorem hostWrite_azl (fn addr : Nat) (bs : List Byte) : (hostWrite s fn addr bs).azl = s.azl := by cases s; rfl
@[simp] theorem hostWrite_lock (fn addr : Nat) (bs : List Byte) : (hostWrite s fn addr bs).lock = s.lock := by cases s; rfl
@[simp] theorem hostWrite_power (fn addr : Nat) (bs : List Byte) : (hostWrite s fn addr bs).power = s.power := by cases s; rfl
@[simp] theorem hostWrite_boot (fn addr : Nat) (bs : List Byte) : (hostWrite s fn addr bs).boot = s.boot := by cases s; rfl
@[simp] theorem hostWrite_dbgp (fn addr : Nat) (bs : List Byte) : (hostWrite s fn addr bs).dbgp = s.dbgp := by cases s; rfl
@[simp] theorem hostWrite_falbo (fn addr : Nat) (bs : List Byte) : (hostWrite s fn addr bs).falbo = s.falbo := by cases s; rfl
@[simp] theorem hostWrite_hbm (fn addr : Nat) (bs : List Byte) : (hostWrite s fn addr bs).hbm = s.hbm := by cases s; rfl

@[simp] theorem hostWrite_host (fn addr : Nat) (bs : List Byte) :
    (hostWrite s fn addr bs).host = memStore s.host (addr % 2 ^ 64) bs := rfl
@[simp] theorem hostWrite_wrote (fn addr : Nat) (bs : List Byte) :
    (hostWrite s fn addr bs).wrote = s.wrote ++ [(fn, addr % 2 ^ 64, bs.length)] := rfl

@[simp] theorem hostWords_pending (fn addr : Nat) (ws : List Nat) : (hostWords s fn addr ws).pending = s.pending := by cases s; rfl
@[simp] theorem hostWords_count (fn addr : Nat) (ws : List Nat) : (hostWords s fn addr ws).count = s.count := by cases s; rfl
@[simp] theorem hostWords_draw (fn addr : Nat) (ws : List Nat) : (hostWords s fn addr ws).draw = s.draw := by cases s; rfl
@[simp] theorem hostWords_regs (fn addr : Nat) (ws : List Nat) : (hostWords s fn addr ws).regs = s.regs := by cases s; rfl
@[simp] theorem hostWords_snap (fn addr : Nat) (ws : List Nat) : (hostWords s fn addr ws).snap = s.snap := by cases s; rfl
@[simp] theorem hostWords_hw (fn addr : Nat) (ws : List Nat) : (hostWords s fn addr ws).hw = s.hw := by cases s; rfl
@[simp] theorem hostWords_clusters (fn addr : Nat) (ws : List Nat) : (hostWords s fn addr ws).clusters = s.clusters := by cases s; rfl
@[simp] theorem hostWords_sched (fn addr : Nat) (ws : List Nat) : (hostWords s fn addr ws).sched = s.sched := by cases s; rfl
@[simp] theorem hostWords_gener (fn addr : Nat) (ws : List Nat) : (hostWords s fn addr ws).gener = s.gener := by cases s; rfl
@[simp] theorem hostWords_hif (fn addr : Nat) (ws : List Nat) : (hostWords s fn addr ws).hif = s.hif := by cases s; rfl
@[simp] theorem hostWords_azl (fn addr : Nat) (ws : List Nat) : (hostWords s fn addr ws).azl = s.azl := by cases s; rfl
@[simp] theorem hostWords_lock (fn addr : Nat) (ws : List Nat) : (hostWords s fn addr ws).lock = s.lock := by cases s; rfl
@[simp] theorem hostWords_power (fn addr : Nat) (ws : List Nat) : (hostWords s fn addr ws).power = s.power := by cases s; rfl
@[simp] theorem hostWords_boot (fn addr : Nat) (ws : List Nat) : (hostWords s fn addr ws).boot = s.boot := by cases s; rfl
@[simp] theorem hostWords_dbgp (fn addr : Nat) (ws : List Nat) : (hostWords s fn addr ws).dbgp = s.dbgp := by cases s; rfl
@[simp] theorem hostWords_falbo (fn addr : Nat) (ws : List Nat) : (hostWords s fn addr ws).falbo = s.falbo := by cases s; rfl
@[simp] theorem hostWords_hbm (fn addr : Nat) (ws : List Nat) : (hostWords s fn addr ws).hbm = s.hbm := by cases s; rfl

@[simp] theorem showEvq_pending (q : Nat) : (showEvq s q).pending = s.pending := by simp [showEvq]
@[simp] theorem showEvq_count (q : Nat) : (showEvq s q).count = s.count := by simp [showEvq]
@[simp] theorem showEvq_draw (q : Nat) : (showEvq s q).draw = s.draw := by simp [showEvq]
@[simp] theorem showEvq_snap (q : Nat) : (showEvq s q).snap = s.snap := by simp [showEvq]
@[simp] theorem showEvq_hw (q : Nat) : (showEvq s q).hw = s.hw := by simp [showEvq]
@[simp] theorem showEvq_clusters (q : Nat) : (showEvq s q).clusters = s.clusters := by simp [showEvq]
@[simp] theorem showEvq_sched (q : Nat) : (showEvq s q).sched = s.sched := by simp [showEvq]
@[simp] theorem showEvq_gener (q : Nat) : (showEvq s q).gener = s.gener := by simp [showEvq]
@[simp] theorem showEvq_azl (q : Nat) : (showEvq s q).azl = s.azl := by simp [showEvq]
@[simp] theorem showEvq_lock (q : Nat) : (showEvq s q).lock = s.lock := by simp [showEvq]
@[simp] theorem showEvq_power (q : Nat) : (showEvq s q).power = s.power := by simp [showEvq]
@[simp] theorem showEvq_boot (q : Nat) : (showEvq s q).boot = s.boot := by simp [showEvq]
@[simp] theorem showEvq_dbgp (q : Nat) : (showEvq s q).dbgp = s.dbgp := by simp [showEvq]
@[simp] theorem showEvq_falbo (q : Nat) : (showEvq s q).falbo = s.falbo := by simp [showEvq]
@[simp] theorem showEvq_hbm (q : Nat) : (showEvq s q).hbm = s.hbm := by simp [showEvq]
@[simp] theorem showEvq_host (q : Nat) : (showEvq s q).host = s.host := by simp [showEvq]
@[simp] theorem showEvq_wrote (q : Nat) : (showEvq s q).wrote = s.wrote := by simp [showEvq]

@[simp] theorem pushRec_pending (q : Nat) (c : Bool) (r : EvRec) : (pushRec s q c r).pending = s.pending := by unfold pushRec; dsimp only; split <;> simp
@[simp] theorem pushRec_count (q : Nat) (c : Bool) (r : EvRec) : (pushRec s q c r).count = s.count := by unfold pushRec; dsimp only; split <;> simp
@[simp] theorem pushRec_draw (q : Nat) (c : Bool) (r : EvRec) : (pushRec s q c r).draw = s.draw := by unfold pushRec; dsimp only; split <;> simp
@[simp] theorem pushRec_snap (q : Nat) (c : Bool) (r : EvRec) : (pushRec s q c r).snap = s.snap := by unfold pushRec; dsimp only; split <;> simp
@[simp] theorem pushRec_clusters (q : Nat) (c : Bool) (r : EvRec) : (pushRec s q c r).clusters = s.clusters := by unfold pushRec; dsimp only; split <;> simp
@[simp] theorem pushRec_sched (q : Nat) (c : Bool) (r : EvRec) : (pushRec s q c r).sched = s.sched := by unfold pushRec; dsimp only; split <;> simp
@[simp] theorem pushRec_gener (q : Nat) (c : Bool) (r : EvRec) : (pushRec s q c r).gener = s.gener := by unfold pushRec; dsimp only; split <;> simp
@[simp] theorem pushRec_azl (q : Nat) (c : Bool) (r : EvRec) : (pushRec s q c r).azl = s.azl := by unfold pushRec; dsimp only; split <;> simp
@[simp] theorem pushRec_lock (q : Nat) (c : Bool) (r : EvRec) : (pushRec s q c r).lock = s.lock := by unfold pushRec; dsimp only; split <;> simp
@[simp] theorem pushRec_power (q : Nat) (c : Bool) (r : EvRec) : (pushRec s q c r).power = s.power := by unfold pushRec; dsimp only; split <;> simp
@[simp] theorem pushRec_boot (q : Nat) (c : Bool) (r : EvRec) : (pushRec s q c r).boot = s.boot := by unfold pushRec; dsimp only; split <;> simp
@[simp] theorem pushRec_dbgp (q : Nat) (c : Bool) (r : EvRec) : (pushRec s q c r).dbgp = s.dbgp := by unfold pushRec; dsimp only; split <;> simp
@[simp] theorem pushRec_falbo (q : Nat) (c : Bool) (r : EvRec) : (pushRec s q c r).falbo = s.falbo := by unfold pushRec; dsimp only; split <;> simp
@[simp] theorem pushRec_hbm (q : Nat) (c : Bool) (r : EvRec) : (pushRec s q c r).hbm = s.hbm := by unfold pushRec; dsimp only; split <;> simp
@[simp] theorem pushRec_host (q : Nat) (c : Bool) (r : EvRec) : (pushRec s q c r).host = s.host := by unfold pushRec; dsimp only; split <;> simp
@[simp] theorem pushRec_wrote (q : Nat) (c : Bool) (r : EvRec) : (pushRec s q c r).wrote = s.wrote := by unfold pushRec; dsimp only; split <;> simp

@[simp] theorem raiseEv_pending (page bits : Nat) (dst : Dest) (type inst code w1 : Nat) (d : List Nat) : (raiseEv s page bits dst type inst code w1 d).pending = s.pending := by unfold raiseEv; by_cases hb : bits = 0 <;> simp only [hb, if_true, if_false] <;> (repeat' split) <;> simp
@[simp] theorem raiseEv_count (page bits : Nat) (dst : Dest) (type inst code w1 : Nat) (d : List Nat) : (raiseEv s page bits dst type inst code w1 d).count = s.count := by unfold raiseEv; by_cases hb : bits = 0 <;> simp only [hb, if_true, if_false] <;> (repeat' split) <;> simp
@[simp] theorem raiseEv_draw (page bits : Nat) (dst : Dest) (type inst code w1 : Nat) (d : List Nat) : (raiseEv s page bits dst type inst code w1 d).draw = s.draw := by unfold raiseEv; by_cases hb : bits = 0 <;> simp only [hb, if_true, if_false] <;> (repeat' split) <;> simp
@[simp] theorem raiseEv_snap (page bits : Nat) (dst : Dest) (type inst code w1 : Nat) (d : List Nat) : (raiseEv s page bits dst type inst code w1 d).snap = s.snap := by unfold raiseEv; by_cases hb : bits = 0 <;> simp only [hb, if_true, if_false] <;> (repeat' split) <;> simp
@[simp] theorem raiseEv_clusters (page bits : Nat) (dst : Dest) (type inst code w1 : Nat) (d : List Nat) : (raiseEv s page bits dst type inst code w1 d).clusters = s.clusters := by unfold raiseEv; by_cases hb : bits = 0 <;> simp only [hb, if_true, if_false] <;> (repeat' split) <;> simp
@[simp] theorem raiseEv_sched (page bits : Nat) (dst : Dest) (type inst code w1 : Nat) (d : List Nat) : (raiseEv s page bits dst type inst code w1 d).sched = s.sched := by unfold raiseEv; by_cases hb : bits = 0 <;> simp only [hb, if_true, if_false] <;> (repeat' split) <;> simp
@[simp] theorem raiseEv_gener (page bits : Nat) (dst : Dest) (type inst code w1 : Nat) (d : List Nat) : (raiseEv s page bits dst type inst code w1 d).gener = s.gener := by unfold raiseEv; by_cases hb : bits = 0 <;> simp only [hb, if_true, if_false] <;> (repeat' split) <;> simp
@[simp] theorem raiseEv_azl (page bits : Nat) (dst : Dest) (type inst code w1 : Nat) (d : List Nat) : (raiseEv s page bits dst type inst code w1 d).azl = s.azl := by unfold raiseEv; by_cases hb : bits = 0 <;> simp only [hb, if_true, if_false] <;> (repeat' split) <;> simp
@[simp] theorem raiseEv_lock (page bits : Nat) (dst : Dest) (type inst code w1 : Nat) (d : List Nat) : (raiseEv s page bits dst type inst code w1 d).lock = s.lock := by unfold raiseEv; by_cases hb : bits = 0 <;> simp only [hb, if_true, if_false] <;> (repeat' split) <;> simp
@[simp] theorem raiseEv_power (page bits : Nat) (dst : Dest) (type inst code w1 : Nat) (d : List Nat) : (raiseEv s page bits dst type inst code w1 d).power = s.power := by unfold raiseEv; by_cases hb : bits = 0 <;> simp only [hb, if_true, if_false] <;> (repeat' split) <;> simp
@[simp] theorem raiseEv_boot (page bits : Nat) (dst : Dest) (type inst code w1 : Nat) (d : List Nat) : (raiseEv s page bits dst type inst code w1 d).boot = s.boot := by unfold raiseEv; by_cases hb : bits = 0 <;> simp only [hb, if_true, if_false] <;> (repeat' split) <;> simp
@[simp] theorem raiseEv_dbgp (page bits : Nat) (dst : Dest) (type inst code w1 : Nat) (d : List Nat) : (raiseEv s page bits dst type inst code w1 d).dbgp = s.dbgp := by unfold raiseEv; by_cases hb : bits = 0 <;> simp only [hb, if_true, if_false] <;> (repeat' split) <;> simp
@[simp] theorem raiseEv_falbo (page bits : Nat) (dst : Dest) (type inst code w1 : Nat) (d : List Nat) : (raiseEv s page bits dst type inst code w1 d).falbo = s.falbo := by unfold raiseEv; by_cases hb : bits = 0 <;> simp only [hb, if_true, if_false] <;> (repeat' split) <;> simp
@[simp] theorem raiseEv_hbm (page bits : Nat) (dst : Dest) (type inst code w1 : Nat) (d : List Nat) : (raiseEv s page bits dst type inst code w1 d).hbm = s.hbm := by unfold raiseEv; by_cases hb : bits = 0 <;> simp only [hb, if_true, if_false] <;> (repeat' split) <;> simp
@[simp] theorem raiseEv_host (page bits : Nat) (dst : Dest) (type inst code w1 : Nat) (d : List Nat) : (raiseEv s page bits dst type inst code w1 d).host = s.host := by unfold raiseEv; by_cases hb : bits = 0 <;> simp only [hb, if_true, if_false] <;> (repeat' split) <;> simp
@[simp] theorem raiseEv_wrote (page bits : Nat) (dst : Dest) (type inst code w1 : Nat) (d : List Nat) : (raiseEv s page bits dst type inst code w1 d).wrote = s.wrote := by unfold raiseEv; by_cases hb : bits = 0 <;> simp only [hb, if_true, if_false] <;> (repeat' split) <;> simp

@[simp] theorem freeSlot_pending (q : Nat) : (freeSlot s q).pending = s.pending := by simp [freeSlot]
@[simp] theorem freeSlot_count (q : Nat) : (freeSlot s q).count = s.count := by simp [freeSlot]
@[simp] theorem freeSlot_draw (q : Nat) : (freeSlot s q).draw = s.draw := by simp [freeSlot]
@[simp] theorem freeSlot_snap (q : Nat) : (freeSlot s q).snap = s.snap := by simp [freeSlot]
@[simp] theorem freeSlot_hw (q : Nat) : (freeSlot s q).hw = s.hw := by simp [freeSlot]
@[simp] theorem freeSlot_clusters (q : Nat) : (freeSlot s q).clusters = s.clusters := by simp [freeSlot]
@[simp] theorem freeSlot_sched (q : Nat) : (freeSlot s q).sched = s.sched := by simp [freeSlot]
@[simp] theorem freeSlot_gener (q : Nat) : (freeSlot s q).gener = s.gener := by simp [freeSlot]
@[simp] theorem freeSlot_azl (q : Nat) : (freeSlot s q).azl = s.azl := by simp [freeSlot]
@[simp] theorem freeSlot_lock (q : Nat) : (freeSlot s q).lock = s.lock := by simp [freeSlot]
@[simp] theorem freeSlot_power (q : Nat) : (freeSlot s q).power = s.power := by simp [freeSlot]
@[simp] theorem freeSlot_boot (q : Nat) : (freeSlot s q).boot = s.boot := by simp [freeSlot]
@[simp] theorem freeSlot_dbgp (q : Nat) : (freeSlot s q).dbgp = s.dbgp := by simp [freeSlot]
@[simp] theorem freeSlot_falbo (q : Nat) : (freeSlot s q).falbo = s.falbo := by simp [freeSlot]
@[simp] theorem freeSlot_hbm (q : Nat) : (freeSlot s q).hbm = s.hbm := by simp [freeSlot]
@[simp] theorem freeSlot_host (q : Nat) : (freeSlot s q).host = s.host := by simp [freeSlot]
@[simp] theorem freeSlot_wrote (q : Nat) : (freeSlot s q).wrote = s.wrote := by simp [freeSlot]

@[simp] theorem complete1_pending (c : CmdRef) (status w6 w7 : Nat) : (complete1 s c status w6 w7).pending = s.pending := by unfold complete1; dsimp only; split <;> simp
@[simp] theorem complete1_count (c : CmdRef) (status w6 w7 : Nat) : (complete1 s c status w6 w7).count = s.count := by unfold complete1; dsimp only; split <;> simp
@[simp] theorem complete1_draw (c : CmdRef) (status w6 w7 : Nat) : (complete1 s c status w6 w7).draw = s.draw := by unfold complete1; dsimp only; split <;> simp
@[simp] theorem complete1_snap (c : CmdRef) (status w6 w7 : Nat) : (complete1 s c status w6 w7).snap = s.snap := by unfold complete1; dsimp only; split <;> simp
@[simp] theorem complete1_clusters (c : CmdRef) (status w6 w7 : Nat) : (complete1 s c status w6 w7).clusters = s.clusters := by unfold complete1; dsimp only; split <;> simp
@[simp] theorem complete1_sched (c : CmdRef) (status w6 w7 : Nat) : (complete1 s c status w6 w7).sched = s.sched := by unfold complete1; dsimp only; split <;> simp
@[simp] theorem complete1_gener (c : CmdRef) (status w6 w7 : Nat) : (complete1 s c status w6 w7).gener = s.gener := by unfold complete1; dsimp only; split <;> simp
@[simp] theorem complete1_azl (c : CmdRef) (status w6 w7 : Nat) : (complete1 s c status w6 w7).azl = s.azl := by unfold complete1; dsimp only; split <;> simp
@[simp] theorem complete1_lock (c : CmdRef) (status w6 w7 : Nat) : (complete1 s c status w6 w7).lock = s.lock := by unfold complete1; dsimp only; split <;> simp
@[simp] theorem complete1_power (c : CmdRef) (status w6 w7 : Nat) : (complete1 s c status w6 w7).power = s.power := by unfold complete1; dsimp only; split <;> simp
@[simp] theorem complete1_boot (c : CmdRef) (status w6 w7 : Nat) : (complete1 s c status w6 w7).boot = s.boot := by unfold complete1; dsimp only; split <;> simp
@[simp] theorem complete1_dbgp (c : CmdRef) (status w6 w7 : Nat) : (complete1 s c status w6 w7).dbgp = s.dbgp := by unfold complete1; dsimp only; split <;> simp
@[simp] theorem complete1_falbo (c : CmdRef) (status w6 w7 : Nat) : (complete1 s c status w6 w7).falbo = s.falbo := by unfold complete1; dsimp only; split <;> simp
@[simp] theorem complete1_hbm (c : CmdRef) (status w6 w7 : Nat) : (complete1 s c status w6 w7).hbm = s.hbm := by unfold complete1; dsimp only; split <;> simp
@[simp] theorem complete1_host (c : CmdRef) (status w6 w7 : Nat) : (complete1 s c status w6 w7).host = s.host := by unfold complete1; dsimp only; split <;> simp
@[simp] theorem complete1_wrote (c : CmdRef) (status w6 w7 : Nat) : (complete1 s c status w6 w7).wrote = s.wrote := by unfold complete1; dsimp only; split <;> simp

@[simp] theorem complete_pending (c : CmdRef) (status w6 w7 : Nat) : (complete s c status w6 w7).pending = s.pending := by unfold complete; dsimp only; split <;> simp
@[simp] theorem complete_count (c : CmdRef) (status w6 w7 : Nat) : (complete s c status w6 w7).count = s.count := by unfold complete; dsimp only; split <;> simp
@[simp] theorem complete_draw (c : CmdRef) (status w6 w7 : Nat) : (complete s c status w6 w7).draw = s.draw := by unfold complete; dsimp only; split <;> simp
@[simp] theorem complete_snap (c : CmdRef) (status w6 w7 : Nat) : (complete s c status w6 w7).snap = s.snap := by unfold complete; dsimp only; split <;> simp
@[simp] theorem complete_clusters (c : CmdRef) (status w6 w7 : Nat) : (complete s c status w6 w7).clusters = s.clusters := by unfold complete; dsimp only; split <;> simp
@[simp] theorem complete_sched (c : CmdRef) (status w6 w7 : Nat) : (complete s c status w6 w7).sched = s.sched := by unfold complete; dsimp only; split <;> simp
@[simp] theorem complete_gener (c : CmdRef) (status w6 w7 : Nat) : (complete s c status w6 w7).gener = s.gener := by unfold complete; dsimp only; split <;> simp
@[simp] theorem complete_azl (c : CmdRef) (status w6 w7 : Nat) : (complete s c status w6 w7).azl = s.azl := by unfold complete; dsimp only; split <;> simp
@[simp] theorem complete_lock (c : CmdRef) (status w6 w7 : Nat) : (complete s c status w6 w7).lock = s.lock := by unfold complete; dsimp only; split <;> simp
@[simp] theorem complete_power (c : CmdRef) (status w6 w7 : Nat) : (complete s c status w6 w7).power = s.power := by unfold complete; dsimp only; split <;> simp
@[simp] theorem complete_boot (c : CmdRef) (status w6 w7 : Nat) : (complete s c status w6 w7).boot = s.boot := by unfold complete; dsimp only; split <;> simp
@[simp] theorem complete_dbgp (c : CmdRef) (status w6 w7 : Nat) : (complete s c status w6 w7).dbgp = s.dbgp := by unfold complete; dsimp only; split <;> simp
@[simp] theorem complete_falbo (c : CmdRef) (status w6 w7 : Nat) : (complete s c status w6 w7).falbo = s.falbo := by unfold complete; dsimp only; split <;> simp
@[simp] theorem complete_hbm (c : CmdRef) (status w6 w7 : Nat) : (complete s c status w6 w7).hbm = s.hbm := by unfold complete; dsimp only; split <;> simp
@[simp] theorem complete_host (c : CmdRef) (status w6 w7 : Nat) : (complete s c status w6 w7).host = s.host := by unfold complete; dsimp only; split <;> simp
@[simp] theorem complete_wrote (c : CmdRef) (status w6 w7 : Nat) : (complete s c status w6 w7).wrote = s.wrote := by unfold complete; dsimp only; split <;> simp

/-! ### Clusters, contexts and the execution -/

@[simp] theorem setCl_pending (p : Nat) (c : Cluster) : (setCl s p c).pending = s.pending := by cases s; rfl
@[simp] theorem setCl_count (p : Nat) (c : Cluster) : (setCl s p c).count = s.count := by cases s; rfl
@[simp] theorem setCl_draw (p : Nat) (c : Cluster) : (setCl s p c).draw = s.draw := by cases s; rfl
@[simp] theorem setCl_regs (p : Nat) (c : Cluster) : (setCl s p c).regs = s.regs := by cases s; rfl
@[simp] theorem setCl_snap (p : Nat) (c : Cluster) : (setCl s p c).snap = s.snap := by cases s; rfl
@[simp] theorem setCl_hw (p : Nat) (c : Cluster) : (setCl s p c).hw = s.hw := by cases s; rfl
@[simp] theorem setCl_sched (p : Nat) (c : Cluster) : (setCl s p c).sched = s.sched := by cases s; rfl
@[simp] theorem setCl_gener (p : Nat) (c : Cluster) : (setCl s p c).gener = s.gener := by cases s; rfl
@[simp] theorem setCl_hif (p : Nat) (c : Cluster) : (setCl s p c).hif = s.hif := by cases s; rfl
@[simp] theorem setCl_azl (p : Nat) (c : Cluster) : (setCl s p c).azl = s.azl := by cases s; rfl
@[simp] theorem setCl_lock (p : Nat) (c : Cluster) : (setCl s p c).lock = s.lock := by cases s; rfl
@[simp] theorem setCl_power (p : Nat) (c : Cluster) : (setCl s p c).power = s.power := by cases s; rfl
@[simp] theorem setCl_boot (p : Nat) (c : Cluster) : (setCl s p c).boot = s.boot := by cases s; rfl
@[simp] theorem setCl_dbgp (p : Nat) (c : Cluster) : (setCl s p c).dbgp = s.dbgp := by cases s; rfl
@[simp] theorem setCl_falbo (p : Nat) (c : Cluster) : (setCl s p c).falbo = s.falbo := by cases s; rfl
@[simp] theorem setCl_hbm (p : Nat) (c : Cluster) : (setCl s p c).hbm = s.hbm := by cases s; rfl
@[simp] theorem setCl_host (p : Nat) (c : Cluster) : (setCl s p c).host = s.host := by cases s; rfl
@[simp] theorem setCl_wrote (p : Nat) (c : Cluster) : (setCl s p c).wrote = s.wrote := by cases s; rfl

@[simp] theorem modCl_pending (p : Nat) (f : Cluster → Cluster) : (modCl s p f).pending = s.pending := by cases s; rfl
@[simp] theorem modCl_count (p : Nat) (f : Cluster → Cluster) : (modCl s p f).count = s.count := by cases s; rfl
@[simp] theorem modCl_draw (p : Nat) (f : Cluster → Cluster) : (modCl s p f).draw = s.draw := by cases s; rfl
@[simp] theorem modCl_regs (p : Nat) (f : Cluster → Cluster) : (modCl s p f).regs = s.regs := by cases s; rfl
@[simp] theorem modCl_snap (p : Nat) (f : Cluster → Cluster) : (modCl s p f).snap = s.snap := by cases s; rfl
@[simp] theorem modCl_hw (p : Nat) (f : Cluster → Cluster) : (modCl s p f).hw = s.hw := by cases s; rfl
@[simp] theorem modCl_sched (p : Nat) (f : Cluster → Cluster) : (modCl s p f).sched = s.sched := by cases s; rfl
@[simp] theorem modCl_gener (p : Nat) (f : Cluster → Cluster) : (modCl s p f).gener = s.gener := by cases s; rfl
@[simp] theorem modCl_hif (p : Nat) (f : Cluster → Cluster) : (modCl s p f).hif = s.hif := by cases s; rfl
@[simp] theorem modCl_azl (p : Nat) (f : Cluster → Cluster) : (modCl s p f).azl = s.azl := by cases s; rfl
@[simp] theorem modCl_lock (p : Nat) (f : Cluster → Cluster) : (modCl s p f).lock = s.lock := by cases s; rfl
@[simp] theorem modCl_power (p : Nat) (f : Cluster → Cluster) : (modCl s p f).power = s.power := by cases s; rfl
@[simp] theorem modCl_boot (p : Nat) (f : Cluster → Cluster) : (modCl s p f).boot = s.boot := by cases s; rfl
@[simp] theorem modCl_dbgp (p : Nat) (f : Cluster → Cluster) : (modCl s p f).dbgp = s.dbgp := by cases s; rfl
@[simp] theorem modCl_falbo (p : Nat) (f : Cluster → Cluster) : (modCl s p f).falbo = s.falbo := by cases s; rfl
@[simp] theorem modCl_hbm (p : Nat) (f : Cluster → Cluster) : (modCl s p f).hbm = s.hbm := by cases s; rfl
@[simp] theorem modCl_host (p : Nat) (f : Cluster → Cluster) : (modCl s p f).host = s.host := by cases s; rfl
@[simp] theorem modCl_wrote (p : Nat) (f : Cluster → Cluster) : (modCl s p f).wrote = s.wrote := by cases s; rfl

@[simp] theorem modExec_pending (f : Exec → Exec) : (modExec s f).pending = s.pending := by cases s; rfl
@[simp] theorem modExec_count (f : Exec → Exec) : (modExec s f).count = s.count := by cases s; rfl
@[simp] theorem modExec_draw (f : Exec → Exec) : (modExec s f).draw = s.draw := by cases s; rfl
@[simp] theorem modExec_regs (f : Exec → Exec) : (modExec s f).regs = s.regs := by cases s; rfl
@[simp] theorem modExec_snap (f : Exec → Exec) : (modExec s f).snap = s.snap := by cases s; rfl
@[simp] theorem modExec_hw (f : Exec → Exec) : (modExec s f).hw = s.hw := by cases s; rfl
@[simp] theorem modExec_clusters (f : Exec → Exec) : (modExec s f).clusters = s.clusters := by cases s; rfl
@[simp] theorem modExec_gener (f : Exec → Exec) : (modExec s f).gener = s.gener := by cases s; rfl
@[simp] theorem modExec_hif (f : Exec → Exec) : (modExec s f).hif = s.hif := by cases s; rfl
@[simp] theorem modExec_azl (f : Exec → Exec) : (modExec s f).azl = s.azl := by cases s; rfl
@[simp] theorem modExec_lock (f : Exec → Exec) : (modExec s f).lock = s.lock := by cases s; rfl
@[simp] theorem modExec_power (f : Exec → Exec) : (modExec s f).power = s.power := by cases s; rfl
@[simp] theorem modExec_boot (f : Exec → Exec) : (modExec s f).boot = s.boot := by cases s; rfl
@[simp] theorem modExec_dbgp (f : Exec → Exec) : (modExec s f).dbgp = s.dbgp := by cases s; rfl
@[simp] theorem modExec_falbo (f : Exec → Exec) : (modExec s f).falbo = s.falbo := by cases s; rfl
@[simp] theorem modExec_hbm (f : Exec → Exec) : (modExec s f).hbm = s.hbm := by cases s; rfl
@[simp] theorem modExec_host (f : Exec → Exec) : (modExec s f).host = s.host := by cases s; rfl
@[simp] theorem modExec_wrote (f : Exec → Exec) : (modExec s f).wrote = s.wrote := by cases s; rfl

@[simp] theorem modLed_pending (f : Ledger → Ledger) : (modLed s f).pending = s.pending := by cases s; rfl
@[simp] theorem modLed_count (f : Ledger → Ledger) : (modLed s f).count = s.count := by cases s; rfl
@[simp] theorem modLed_draw (f : Ledger → Ledger) : (modLed s f).draw = s.draw := by cases s; rfl
@[simp] theorem modLed_regs (f : Ledger → Ledger) : (modLed s f).regs = s.regs := by cases s; rfl
@[simp] theorem modLed_snap (f : Ledger → Ledger) : (modLed s f).snap = s.snap := by cases s; rfl
@[simp] theorem modLed_hw (f : Ledger → Ledger) : (modLed s f).hw = s.hw := by cases s; rfl
@[simp] theorem modLed_clusters (f : Ledger → Ledger) : (modLed s f).clusters = s.clusters := by cases s; rfl
@[simp] theorem modLed_gener (f : Ledger → Ledger) : (modLed s f).gener = s.gener := by cases s; rfl
@[simp] theorem modLed_hif (f : Ledger → Ledger) : (modLed s f).hif = s.hif := by cases s; rfl
@[simp] theorem modLed_azl (f : Ledger → Ledger) : (modLed s f).azl = s.azl := by cases s; rfl
@[simp] theorem modLed_lock (f : Ledger → Ledger) : (modLed s f).lock = s.lock := by cases s; rfl
@[simp] theorem modLed_power (f : Ledger → Ledger) : (modLed s f).power = s.power := by cases s; rfl
@[simp] theorem modLed_boot (f : Ledger → Ledger) : (modLed s f).boot = s.boot := by cases s; rfl
@[simp] theorem modLed_dbgp (f : Ledger → Ledger) : (modLed s f).dbgp = s.dbgp := by cases s; rfl
@[simp] theorem modLed_falbo (f : Ledger → Ledger) : (modLed s f).falbo = s.falbo := by cases s; rfl
@[simp] theorem modLed_hbm (f : Ledger → Ledger) : (modLed s f).hbm = s.hbm := by cases s; rfl
@[simp] theorem modLed_host (f : Ledger → Ledger) : (modLed s f).host = s.host := by cases s; rfl
@[simp] theorem modLed_wrote (f : Ledger → Ledger) : (modLed s f).wrote = s.wrote := by cases s; rfl

@[simp] theorem setCtx_pending (c : Nat) (x : Context) : (setCtx s c x).pending = s.pending := by cases s; rfl
@[simp] theorem setCtx_count (c : Nat) (x : Context) : (setCtx s c x).count = s.count := by cases s; rfl
@[simp] theorem setCtx_draw (c : Nat) (x : Context) : (setCtx s c x).draw = s.draw := by cases s; rfl
@[simp] theorem setCtx_regs (c : Nat) (x : Context) : (setCtx s c x).regs = s.regs := by cases s; rfl
@[simp] theorem setCtx_snap (c : Nat) (x : Context) : (setCtx s c x).snap = s.snap := by cases s; rfl
@[simp] theorem setCtx_hw (c : Nat) (x : Context) : (setCtx s c x).hw = s.hw := by cases s; rfl
@[simp] theorem setCtx_clusters (c : Nat) (x : Context) : (setCtx s c x).clusters = s.clusters := by cases s; rfl
@[simp] theorem setCtx_sched (c : Nat) (x : Context) : (setCtx s c x).sched = s.sched := by cases s; rfl
@[simp] theorem setCtx_hif (c : Nat) (x : Context) : (setCtx s c x).hif = s.hif := by cases s; rfl
@[simp] theorem setCtx_azl (c : Nat) (x : Context) : (setCtx s c x).azl = s.azl := by cases s; rfl
@[simp] theorem setCtx_lock (c : Nat) (x : Context) : (setCtx s c x).lock = s.lock := by cases s; rfl
@[simp] theorem setCtx_power (c : Nat) (x : Context) : (setCtx s c x).power = s.power := by cases s; rfl
@[simp] theorem setCtx_boot (c : Nat) (x : Context) : (setCtx s c x).boot = s.boot := by cases s; rfl
@[simp] theorem setCtx_dbgp (c : Nat) (x : Context) : (setCtx s c x).dbgp = s.dbgp := by cases s; rfl
@[simp] theorem setCtx_falbo (c : Nat) (x : Context) : (setCtx s c x).falbo = s.falbo := by cases s; rfl
@[simp] theorem setCtx_hbm (c : Nat) (x : Context) : (setCtx s c x).hbm = s.hbm := by cases s; rfl
@[simp] theorem setCtx_host (c : Nat) (x : Context) : (setCtx s c x).host = s.host := by cases s; rfl
@[simp] theorem setCtx_wrote (c : Nat) (x : Context) : (setCtx s c x).wrote = s.wrote := by cases s; rfl

@[simp] theorem modCtx_pending (c : Nat) (f : Context → Context) : (modCtx s c f).pending = s.pending := by cases s; rfl
@[simp] theorem modCtx_count (c : Nat) (f : Context → Context) : (modCtx s c f).count = s.count := by cases s; rfl
@[simp] theorem modCtx_draw (c : Nat) (f : Context → Context) : (modCtx s c f).draw = s.draw := by cases s; rfl
@[simp] theorem modCtx_regs (c : Nat) (f : Context → Context) : (modCtx s c f).regs = s.regs := by cases s; rfl
@[simp] theorem modCtx_snap (c : Nat) (f : Context → Context) : (modCtx s c f).snap = s.snap := by cases s; rfl
@[simp] theorem modCtx_hw (c : Nat) (f : Context → Context) : (modCtx s c f).hw = s.hw := by cases s; rfl
@[simp] theorem modCtx_clusters (c : Nat) (f : Context → Context) : (modCtx s c f).clusters = s.clusters := by cases s; rfl
@[simp] theorem modCtx_sched (c : Nat) (f : Context → Context) : (modCtx s c f).sched = s.sched := by cases s; rfl
@[simp] theorem modCtx_hif (c : Nat) (f : Context → Context) : (modCtx s c f).hif = s.hif := by cases s; rfl
@[simp] theorem modCtx_azl (c : Nat) (f : Context → Context) : (modCtx s c f).azl = s.azl := by cases s; rfl
@[simp] theorem modCtx_lock (c : Nat) (f : Context → Context) : (modCtx s c f).lock = s.lock := by cases s; rfl
@[simp] theorem modCtx_power (c : Nat) (f : Context → Context) : (modCtx s c f).power = s.power := by cases s; rfl
@[simp] theorem modCtx_boot (c : Nat) (f : Context → Context) : (modCtx s c f).boot = s.boot := by cases s; rfl
@[simp] theorem modCtx_dbgp (c : Nat) (f : Context → Context) : (modCtx s c f).dbgp = s.dbgp := by cases s; rfl
@[simp] theorem modCtx_falbo (c : Nat) (f : Context → Context) : (modCtx s c f).falbo = s.falbo := by cases s; rfl
@[simp] theorem modCtx_hbm (c : Nat) (f : Context → Context) : (modCtx s c f).hbm = s.hbm := by cases s; rfl
@[simp] theorem modCtx_host (c : Nat) (f : Context → Context) : (modCtx s c f).host = s.host := by cases s; rfl
@[simp] theorem modCtx_wrote (c : Nat) (f : Context → Context) : (modCtx s c f).wrote = s.wrote := by cases s; rfl

/-! ### What a read gives after a write -/

@[simp] theorem rdReg_wrReg (off o : Nat) (v : Word) : rdReg (wrReg s off v) o = if o = off then v else rdReg s o := by
  simp [rdReg, wrReg, smGet_smSet]

@[simp] theorem clOf_setCl (p q : Nat) (c : Cluster) : clOf (setCl s p c) q = if q = p then c else clOf s q := by
  simp [clOf, setCl, smGet_smSet]

@[simp] theorem clOf_modCl (p q : Nat) (f : Cluster → Cluster) :
    clOf (modCl s p f) q = if q = p then f (clOf s p) else clOf s q := by
  simp [modCl]

@[simp] theorem ctxOf_setCtx (c k : Nat) (x : Context) : ctxOf (setCtx s c x) k = if k = c then x else ctxOf s k := by
  simp [ctxOf, setCtx, smGet_smSet]

@[simp] theorem ctxOf_modCtx (c k : Nat) (f : Context → Context) :
    ctxOf (modCtx s c f) k = if k = c then f (ctxOf s c) else ctxOf s k := by
  simp [modCtx]

@[simp] theorem ringOf_setRing (r k : Nat) (x : Ring) : ringOf (setRing s r x) k = if k = r then x else ringOf s k := by
  simp [ringOf, setRing, smGet_smSet]

@[simp] theorem evqOf_setEvq (q k : Nat) (x : EvQueue) : evqOf (setEvq s q x) k = if k = q then x else evqOf s k := by
  simp [evqOf, setEvq, smGet_smSet]

/-- A read of clusters sees only the clusters. -/
theorem clOf_congr {s t : State} (h : t.clusters = s.clusters) (p : Nat) : clOf t p = clOf s p := by rw [clOf, clOf, h]

/-- A read of a register sees only the registers. -/
theorem rdReg_congr {s t : State} (h : t.regs = s.regs) (o : Nat) : rdReg t o = rdReg s o := by rw [rdReg, rdReg, h]

end Sys2Proof.Machine
end

