-- ==== Sys2Proof/Laws/Issue.lean ====
section
/-!
SUPPORT. What halts, faults and an instruction's issue leave alone, and what an issue does when nothing holds it back.
-/
namespace Sys2Proof.Machine

variable (s : State)

/-- A fold keeps what each of its steps keeps. -/
theorem each_keeps {σ α β : Type} (g : σ → β) (f : α → σ → σ) (h : ∀ a t, g (f a t) = g t) (xs' : List α) (s' : σ) :
    g (each xs' f s') = g s' := by
  unfold each
  induction xs' generalizing s' with
  | nil => rfl
  | cons x xs ih => rw [List.foldl_cons, ih, h]

@[simp] theorem showHalt_pending (r : HaltRec) : (showHalt s r).pending = s.pending := by unfold showHalt; dsimp only; split <;> simp
@[simp] theorem showHalt_count (r : HaltRec) : (showHalt s r).count = s.count := by unfold showHalt; dsimp only; split <;> simp
@[simp] theorem showHalt_draw (r : HaltRec) : (showHalt s r).draw = s.draw := by unfold showHalt; dsimp only; split <;> simp
@[simp] theorem showHalt_snap (r : HaltRec) : (showHalt s r).snap = s.snap := by unfold showHalt; dsimp only; split <;> simp
theorem showHalt_hw (r : HaltRec) (hr : r.cause ≠ 2) : (showHalt s r).hw = s.hw := by simp [showHalt, hr]
@[simp] theorem showHalt_clusters (r : HaltRec) : (showHalt s r).clusters = s.clusters := by unfold showHalt; dsimp only; split <;> simp
@[simp] theorem showHalt_sched (r : HaltRec) : (showHalt s r).sched = s.sched := by unfold showHalt; dsimp only; split <;> simp
@[simp] theorem showHalt_gener (r : HaltRec) : (showHalt s r).gener = s.gener := by unfold showHalt; dsimp only; split <;> simp
@[simp] theorem showHalt_hif (r : HaltRec) : (showHalt s r).hif = s.hif := by unfold showHalt; dsimp only; split <;> simp
@[simp] theorem showHalt_azl (r : HaltRec) : (showHalt s r).azl = s.azl := by unfold showHalt; dsimp only; split <;> simp
@[simp] theorem showHalt_lock (r : HaltRec) : (showHalt s r).lock = s.lock := by unfold showHalt; dsimp only; split <;> simp
@[simp] theorem showHalt_power (r : HaltRec) : (showHalt s r).power = s.power := by unfold showHalt; dsimp only; split <;> simp
@[simp] theorem showHalt_boot (r : HaltRec) : (showHalt s r).boot = s.boot := by unfold showHalt; dsimp only; split <;> simp
@[simp] theorem showHalt_dbgp (r : HaltRec) : (showHalt s r).dbgp = s.dbgp := by unfold showHalt; dsimp only; split <;> simp
@[simp] theorem showHalt_falbo (r : HaltRec) : (showHalt s r).falbo = s.falbo := by unfold showHalt; dsimp only; split <;> simp
@[simp] theorem showHalt_hbm (r : HaltRec) : (showHalt s r).hbm = s.hbm := by unfold showHalt; dsimp only; split <;> simp
@[simp] theorem showHalt_host (r : HaltRec) : (showHalt s r).host = s.host := by unfold showHalt; dsimp only; split <;> simp
@[simp] theorem showHalt_wrote (r : HaltRec) : (showHalt s r).wrote = s.wrote := by unfold showHalt; dsimp only; split <;> simp

@[simp] theorem takeHalt_pending (r : HaltRec) : (takeHalt s r).pending = s.pending := by simp [takeHalt]
@[simp] theorem takeHalt_count (r : HaltRec) : (takeHalt s r).count = s.count := by simp [takeHalt]
@[simp] theorem takeHalt_draw (r : HaltRec) : (takeHalt s r).draw = s.draw := by simp [takeHalt]
@[simp] theorem takeHalt_snap (r : HaltRec) : (takeHalt s r).snap = s.snap := by simp [takeHalt]
@[simp] theorem takeHalt_clusters (r : HaltRec) : (takeHalt s r).clusters = s.clusters := by simp [takeHalt]
@[simp] theorem takeHalt_gener (r : HaltRec) : (takeHalt s r).gener = s.gener := by simp [takeHalt]
@[simp] theorem takeHalt_azl (r : HaltRec) : (takeHalt s r).azl = s.azl := by simp [takeHalt]
@[simp] theorem takeHalt_lock (r : HaltRec) : (takeHalt s r).lock = s.lock := by simp [takeHalt]
@[simp] theorem takeHalt_power (r : HaltRec) : (takeHalt s r).power = s.power := by simp [takeHalt]
@[simp] theorem takeHalt_boot (r : HaltRec) : (takeHalt s r).boot = s.boot := by simp [takeHalt]
@[simp] theorem takeHalt_falbo (r : HaltRec) : (takeHalt s r).falbo = s.falbo := by simp [takeHalt]
@[simp] theorem takeHalt_hbm (r : HaltRec) : (takeHalt s r).hbm = s.hbm := by simp [takeHalt]
@[simp] theorem takeHalt_host (r : HaltRec) : (takeHalt s r).host = s.host := by simp [takeHalt]
@[simp] theorem takeHalt_wrote (r : HaltRec) : (takeHalt s r).wrote = s.wrote := by simp [takeHalt]

@[simp] theorem fireHalt_pending (r : HaltRec) : (fireHalt s r).pending = s.pending := by unfold fireHalt; (repeat' split) <;> simp
@[simp] theorem fireHalt_count (r : HaltRec) : (fireHalt s r).count = s.count := by unfold fireHalt; (repeat' split) <;> simp
@[simp] theorem fireHalt_draw (r : HaltRec) : (fireHalt s r).draw = s.draw := by unfold fireHalt; (repeat' split) <;> simp
@[simp] theorem fireHalt_snap (r : HaltRec) : (fireHalt s r).snap = s.snap := by unfold fireHalt; (repeat' split) <;> simp
@[simp] theorem fireHalt_clusters (r : HaltRec) : (fireHalt s r).clusters = s.clusters := by unfold fireHalt; (repeat' split) <;> simp
@[simp] theorem fireHalt_gener (r : HaltRec) : (fireHalt s r).gener = s.gener := by unfold fireHalt; (repeat' split) <;> simp
@[simp] theorem fireHalt_azl (r : HaltRec) : (fireHalt s r).azl = s.azl := by unfold fireHalt; (repeat' split) <;> simp
@[simp] theorem fireHalt_lock (r : HaltRec) : (fireHalt s r).lock = s.lock := by unfold fireHalt; (repeat' split) <;> simp
@[simp] theorem fireHalt_power (r : HaltRec) : (fireHalt s r).power = s.power := by unfold fireHalt; (repeat' split) <;> simp
@[simp] theorem fireHalt_boot (r : HaltRec) : (fireHalt s r).boot = s.boot := by unfold fireHalt; (repeat' split) <;> simp
@[simp] theorem fireHalt_falbo (r : HaltRec) : (fireHalt s r).falbo = s.falbo := by unfold fireHalt; (repeat' split) <;> simp
@[simp] theorem fireHalt_hbm (r : HaltRec) : (fireHalt s r).hbm = s.hbm := by unfold fireHalt; (repeat' split) <;> simp
@[simp] theorem fireHalt_host (r : HaltRec) : (fireHalt s r).host = s.host := by unfold fireHalt; (repeat' split) <;> simp
@[simp] theorem fireHalt_wrote (r : HaltRec) : (fireHalt s r).wrote = s.wrote := by unfold fireHalt; (repeat' split) <;> simp

@[simp] theorem haltDue_pending  : (haltDue s ).pending = s.pending := by unfold haltDue; (repeat' split) <;> simp
@[simp] theorem haltDue_count  : (haltDue s ).count = s.count := by unfold haltDue; (repeat' split) <;> simp
@[simp] theorem haltDue_draw  : (haltDue s ).draw = s.draw := by unfold haltDue; (repeat' split) <;> simp
@[simp] theorem haltDue_snap  : (haltDue s ).snap = s.snap := by unfold haltDue; (repeat' split) <;> simp
@[simp] theorem haltDue_clusters  : (haltDue s ).clusters = s.clusters := by unfold haltDue; (repeat' split) <;> simp
@[simp] theorem haltDue_gener  : (haltDue s ).gener = s.gener := by unfold haltDue; (repeat' split) <;> simp
@[simp] theorem haltDue_azl  : (haltDue s ).azl = s.azl := by unfold haltDue; (repeat' split) <;> simp
@[simp] theorem haltDue_lock  : (haltDue s ).lock = s.lock := by unfold haltDue; (repeat' split) <;> simp
@[simp] theorem haltDue_power  : (haltDue s ).power = s.power := by unfold haltDue; (repeat' split) <;> simp
@[simp] theorem haltDue_boot  : (haltDue s ).boot = s.boot := by unfold haltDue; (repeat' split) <;> simp
@[simp] theorem haltDue_falbo  : (haltDue s ).falbo = s.falbo := by unfold haltDue; (repeat' split) <;> simp
@[simp] theorem haltDue_hbm  : (haltDue s ).hbm = s.hbm := by unfold haltDue; (repeat' split) <;> simp
@[simp] theorem haltDue_host  : (haltDue s ).host = s.host := by unfold haltDue; (repeat' split) <;> simp
@[simp] theorem haltDue_wrote  : (haltDue s ).wrote = s.wrote := by unfold haltDue; (repeat' split) <;> simp

@[simp] theorem watch_pending (l g pc source : Nat) (ts : List (Nat × Nat × Nat)) : (watch s l g pc source ts).pending = s.pending := by unfold watch; exact each_keeps State.pending _ (fun w t => by split <;> simp) _ _
@[simp] theorem watch_count (l g pc source : Nat) (ts : List (Nat × Nat × Nat)) : (watch s l g pc source ts).count = s.count := by unfold watch; exact each_keeps State.count _ (fun w t => by split <;> simp) _ _
@[simp] theorem watch_draw (l g pc source : Nat) (ts : List (Nat × Nat × Nat)) : (watch s l g pc source ts).draw = s.draw := by unfold watch; exact each_keeps State.draw _ (fun w t => by split <;> simp) _ _
@[simp] theorem watch_snap (l g pc source : Nat) (ts : List (Nat × Nat × Nat)) : (watch s l g pc source ts).snap = s.snap := by unfold watch; exact each_keeps State.snap _ (fun w t => by split <;> simp) _ _
@[simp] theorem watch_clusters (l g pc source : Nat) (ts : List (Nat × Nat × Nat)) : (watch s l g pc source ts).clusters = s.clusters := by unfold watch; exact each_keeps State.clusters _ (fun w t => by split <;> simp) _ _
@[simp] theorem watch_gener (l g pc source : Nat) (ts : List (Nat × Nat × Nat)) : (watch s l g pc source ts).gener = s.gener := by unfold watch; exact each_keeps State.gener _ (fun w t => by split <;> simp) _ _
@[simp] theorem watch_azl (l g pc source : Nat) (ts : List (Nat × Nat × Nat)) : (watch s l g pc source ts).azl = s.azl := by unfold watch; exact each_keeps State.azl _ (fun w t => by split <;> simp) _ _
@[simp] theorem watch_lock (l g pc source : Nat) (ts : List (Nat × Nat × Nat)) : (watch s l g pc source ts).lock = s.lock := by unfold watch; exact each_keeps State.lock _ (fun w t => by split <;> simp) _ _
@[simp] theorem watch_power (l g pc source : Nat) (ts : List (Nat × Nat × Nat)) : (watch s l g pc source ts).power = s.power := by unfold watch; exact each_keeps State.power _ (fun w t => by split <;> simp) _ _
@[simp] theorem watch_boot (l g pc source : Nat) (ts : List (Nat × Nat × Nat)) : (watch s l g pc source ts).boot = s.boot := by unfold watch; exact each_keeps State.boot _ (fun w t => by split <;> simp) _ _
@[simp] theorem watch_falbo (l g pc source : Nat) (ts : List (Nat × Nat × Nat)) : (watch s l g pc source ts).falbo = s.falbo := by unfold watch; exact each_keeps State.falbo _ (fun w t => by split <;> simp) _ _
@[simp] theorem watch_hbm (l g pc source : Nat) (ts : List (Nat × Nat × Nat)) : (watch s l g pc source ts).hbm = s.hbm := by unfold watch; exact each_keeps State.hbm _ (fun w t => by split <;> simp) _ _
@[simp] theorem watch_host (l g pc source : Nat) (ts : List (Nat × Nat × Nat)) : (watch s l g pc source ts).host = s.host := by unfold watch; exact each_keeps State.host _ (fun w t => by split <;> simp) _ _
@[simp] theorem watch_wrote (l g pc source : Nat) (ts : List (Nat × Nat × Nat)) : (watch s l g pc source ts).wrote = s.wrote := by unfold watch; exact each_keeps State.wrote _ (fun w t => by split <;> simp) _ _

@[simp] theorem breakAt_pending (l : Nat) (b : Option (Nat × Nat × Nat)) : (breakAt s l b).pending = s.pending := by unfold breakAt; (repeat' split) <;> simp
@[simp] theorem breakAt_count (l : Nat) (b : Option (Nat × Nat × Nat)) : (breakAt s l b).count = s.count := by unfold breakAt; (repeat' split) <;> simp
@[simp] theorem breakAt_draw (l : Nat) (b : Option (Nat × Nat × Nat)) : (breakAt s l b).draw = s.draw := by unfold breakAt; (repeat' split) <;> simp
@[simp] theorem breakAt_snap (l : Nat) (b : Option (Nat × Nat × Nat)) : (breakAt s l b).snap = s.snap := by unfold breakAt; (repeat' split) <;> simp
@[simp] theorem breakAt_clusters (l : Nat) (b : Option (Nat × Nat × Nat)) : (breakAt s l b).clusters = s.clusters := by unfold breakAt; (repeat' split) <;> simp
@[simp] theorem breakAt_gener (l : Nat) (b : Option (Nat × Nat × Nat)) : (breakAt s l b).gener = s.gener := by unfold breakAt; (repeat' split) <;> simp
@[simp] theorem breakAt_azl (l : Nat) (b : Option (Nat × Nat × Nat)) : (breakAt s l b).azl = s.azl := by unfold breakAt; (repeat' split) <;> simp
@[simp] theorem breakAt_lock (l : Nat) (b : Option (Nat × Nat × Nat)) : (breakAt s l b).lock = s.lock := by unfold breakAt; (repeat' split) <;> simp
@[simp] theorem breakAt_power (l : Nat) (b : Option (Nat × Nat × Nat)) : (breakAt s l b).power = s.power := by unfold breakAt; (repeat' split) <;> simp
@[simp] theorem breakAt_boot (l : Nat) (b : Option (Nat × Nat × Nat)) : (breakAt s l b).boot = s.boot := by unfold breakAt; (repeat' split) <;> simp
@[simp] theorem breakAt_falbo (l : Nat) (b : Option (Nat × Nat × Nat)) : (breakAt s l b).falbo = s.falbo := by unfold breakAt; (repeat' split) <;> simp
@[simp] theorem breakAt_hbm (l : Nat) (b : Option (Nat × Nat × Nat)) : (breakAt s l b).hbm = s.hbm := by unfold breakAt; (repeat' split) <;> simp
@[simp] theorem breakAt_host (l : Nat) (b : Option (Nat × Nat × Nat)) : (breakAt s l b).host = s.host := by unfold breakAt; (repeat' split) <;> simp
@[simp] theorem breakAt_wrote (l : Nat) (b : Option (Nat × Nat × Nat)) : (breakAt s l b).wrote = s.wrote := by unfold breakAt; (repeat' split) <;> simp

@[simp] theorem stepIssue_pending (l g : Nat) (b : Bool) : (stepIssue s l g b).pending = s.pending := by unfold stepIssue; (repeat' split) <;> simp
@[simp] theorem stepIssue_count (l g : Nat) (b : Bool) : (stepIssue s l g b).count = s.count := by unfold stepIssue; (repeat' split) <;> simp
@[simp] theorem stepIssue_draw (l g : Nat) (b : Bool) : (stepIssue s l g b).draw = s.draw := by unfold stepIssue; (repeat' split) <;> simp
@[simp] theorem stepIssue_snap (l g : Nat) (b : Bool) : (stepIssue s l g b).snap = s.snap := by unfold stepIssue; (repeat' split) <;> simp
@[simp] theorem stepIssue_clusters (l g : Nat) (b : Bool) : (stepIssue s l g b).clusters = s.clusters := by unfold stepIssue; (repeat' split) <;> simp
@[simp] theorem stepIssue_gener (l g : Nat) (b : Bool) : (stepIssue s l g b).gener = s.gener := by unfold stepIssue; (repeat' split) <;> simp
@[simp] theorem stepIssue_azl (l g : Nat) (b : Bool) : (stepIssue s l g b).azl = s.azl := by unfold stepIssue; (repeat' split) <;> simp
@[simp] theorem stepIssue_lock (l g : Nat) (b : Bool) : (stepIssue s l g b).lock = s.lock := by unfold stepIssue; (repeat' split) <;> simp
@[simp] theorem stepIssue_power (l g : Nat) (b : Bool) : (stepIssue s l g b).power = s.power := by unfold stepIssue; (repeat' split) <;> simp
@[simp] theorem stepIssue_boot (l g : Nat) (b : Bool) : (stepIssue s l g b).boot = s.boot := by unfold stepIssue; (repeat' split) <;> simp
@[simp] theorem stepIssue_falbo (l g : Nat) (b : Bool) : (stepIssue s l g b).falbo = s.falbo := by unfold stepIssue; (repeat' split) <;> simp
@[simp] theorem stepIssue_hbm (l g : Nat) (b : Bool) : (stepIssue s l g b).hbm = s.hbm := by unfold stepIssue; (repeat' split) <;> simp
@[simp] theorem stepIssue_host (l g : Nat) (b : Bool) : (stepIssue s l g b).host = s.host := by unfold stepIssue; (repeat' split) <;> simp
@[simp] theorem stepIssue_wrote (l g : Nat) (b : Bool) : (stepIssue s l g b).wrote = s.wrote := by unfold stepIssue; (repeat' split) <;> simp

/-- A change of every cluster keeps what it keeps of each. -/
theorem clOf_allCl_keeps {β : Type} (g : Cluster → β) (f : Cluster → Cluster) (h : ∀ c, g (f c) = g c) (q : Nat) :
    g (clOf (allCl s f) q) = g (clOf s q) := by
  unfold allCl
  exact each_keeps (fun t => g (clOf t q)) _ (fun p t => by simp only [clOf_modCl]; split <;> simp_all) _ _

/-- Stopping the execution changes no cluster: they go idle after the cycle. -/
@[simp] theorem stopExec_clusters (cause cl : Nat) : (stopExec s cause cl).clusters = s.clusters := by
  unfold stopExec; dsimp only; split <;> simp

/-- A cluster fault changes no more than the state and the fault record of its cluster. -/
theorem clOf_clusterFault_keeps {β : Type} (g : Cluster → β)
    (h' : ∀ c st flt, g { c with st := st, flt := flt } = g c) (p : Nat) (f : ClFault) (q : Nat) :
    g (clOf (clusterFault s p f) q) = g (clOf s q) := by
  unfold clusterFault
  dsimp only
  split
  · rfl
  · rw [clOf_congr (stopExec_clusters _ _ _), clOf_congr (modExec_clusters _ _), clOf_congr (setEvt_clusters _ _ _), clOf_setCl]
    split
    · next hq => subst hq; exact h' _ _ _
    · rfl

/-- What an action's effects keep of every cluster: all but its state, its fault record and its error counts. -/
theorem clOf_applyEff_keeps {β : Type} (g : Cluster → β)
    (h' : ∀ c st flt, g { c with st := st, flt := flt } = g c) (hu : ∀ c b, g { c with ueThis := b } = g c)
    (hc : ∀ c n, g { c with ceCount := n } = g c) (p : Nat) (e : CEff) (q : Nat) :
    g (clOf (applyEff s p e) q) = g (clOf s q) := by
  have h1 : ∀ t : State, g (clOf (effFault p e t) q) = g (clOf t q) := by
    intro t; unfold effFault; split
    · exact clOf_clusterFault_keeps _ g h' _ _ _
    · rfl
  have h2 : ∀ (t : State) l, g (clOf (effHalts l e t) q) = g (clOf t q) := by
    intro t l; unfold effHalts; dsimp only; split <;> exact congrArg g (clOf_congr (by simp) q)
  have h3 : ∀ t : State, g (clOf (effSampled e t) q) = g (clOf t q) := by
    intro t; unfold effSampled; split <;> exact congrArg g (clOf_congr (by simp) q)
  have h4 : ∀ t : State, g (clOf (effVary e t) q) = g (clOf t q) := by
    intro t; unfold effVary; split <;> exact congrArg g (clOf_congr (by simp) q)
  have h5 : ∀ t : State, g (clOf (effCe p e t) q) = g (clOf t q) := by
    intro t; unfold effCe; split
    · rfl
    · rw [clOf_modCl]; split
      · next hq => subst hq; rw [hc]; exact congrArg g (clOf_congr (by simp) q)
      · exact congrArg g (clOf_congr (by simp) q)
  have h6 : ∀ (t : State) l, g (clOf (effUe p l e t) q) = g (clOf t q) := by
    intro t l; unfold effUe; split
    · rw [clOf_modCl]; split
      · next hq => subst hq; rw [hu]; exact congrArg g (clOf_congr (by simp) q)
      · exact congrArg g (clOf_congr (by simp) q)
    · rfl
  unfold applyEff
  dsimp only
  rw [h1, h2, clOf_congr (putDraw_clusters _ _), h3, h4, h5, h6]
  exact congrArg g (clOf_congr (by unfold effCounts; split <;> simp) q)

/-- Settling waits changes only the groups of a cluster. -/
theorem settleWaits_groups (c : Cluster) : ∃ gs, (settleWaits c).1 = { c with groups := gs } := by
  unfold settleWaits settleBarrier
  dsimp only
  split
  · exact ⟨_, rfl⟩
  · split <;> exact ⟨_, rfl⟩

/-- What an issue without a fault does to its cluster: one flight more when one is kept, and changes to groups, caches, fills, the
digest, the stationary formats and counters that hold no register. -/
theorem issueIns_keeps {β : Type} (g : Cluster → β) (c : Cluster) (st : Site) (i : Instr) (a : Act)
    (h : issuable c st i a = true)
    (hf : (if (grp c st.g.val).active ≠ 0 ∨ a.emptyFaults = true then pickFault a.faults else none) = none)
    (hgr : ∀ c x, g { c with groups := x } = g c) (hfi : ∀ c x y z, g { c with fills := x, oc := y, ic := z } = g c)
    (hd : ∀ c x, g { c with digest := x } = g c) (hb : ∀ c x, g { c with sbufs := x } = g c)
    (hl : ∀ c x, g { c with leanIdx := x } = g c) (hm : ∀ c x, g { c with ocMiss := x } = g c)
    (hi : ∀ c x, g { c with issuedAt := x } = g c) :
    g (issueIns c st i a).1
      = g (if keepsFlight a then { c with flights := c.flights ++ [mkFlight c st.g.val a] } else c) := by
  have e : ∀ c k, g (applyAct c k a) = g c := by
    intro c k
    unfold applyAct modGrp
    rw [hgr]
    have h5 : ∀ c, g (actMiss a c) = g c := by
      intro c; unfold actMiss; split
      · exact hm _ _
      · rfl
    have h4 : ∀ c, g (actLean a c) = g c := by
      intro c; unfold actLean; split
      · exact hl _ _
      · rfl
    have h3 : ∀ c, g (actBuf a c) = g c := by
      intro c; unfold actBuf; split
      · exact hb _ _
      · rfl
    have h2 : ∀ c, g (actDigest a c) = g c := by
      intro c; unfold actDigest; split
      · exact hd _ _
      · rfl
    have h1 : ∀ c, g (actFill a c) = g c := by
      intro c; unfold actFill; split
      · exact hfi { c with ocMiss := c.ocMiss } _ _ _
      · rfl
    rw [h5, h4, h3, h2, h1]
  obtain ⟨gs, hs⟩ := settleWaits_groups (modGrp (applyAct (if keepsFlight a then
    { c with flights := c.flights ++ [mkFlight c st.g.val a] } else c) st.g.val a) st.g.val fun gr => advance gr a.jump)
  unfold issueIns
  simp only [h, if_true, hf]
  rw [hi, hs, hgr]
  unfold modGrp
  rw [hgr, e]

/-- An instruction whose registers read without an error acts as its meaning says. -/
@[simp] theorem actAt_clean (mk : Ctx → Act) (x : Ctx) (h : (grp x.c x.g).regEcc = .clean) : actAt mk x = mk x := by
  simp [actAt, h]

/-- An issue that nothing holds back and that does not fault answers a state whose cluster holds one flight more. -/
theorem issue_flight (st : Site) (i : Instr) (mk : Ctx → Act)
    (he : (grp (clOf s st.cl.val) st.g.val).regEcc = .clean) (h1 : dieFrozen s = false) (h2 : s.sched.exec.draining = false)
    (h : issuable (clOf s st.cl.val) st i (mk ⟨clOf s st.cl.val, st.g.val, mkEnv s st.cl.val⟩) = true)
    (hf : (if (grp (clOf s st.cl.val) st.g.val).active ≠ 0
        ∨ (mk ⟨clOf s st.cl.val, st.g.val, mkEnv s st.cl.val⟩).emptyFaults = true
      then pickFault (mk ⟨clOf s st.cl.val, st.g.val, mkEnv s st.cl.val⟩).faults else none) = none)
    (hk : keepsFlight (mk ⟨clOf s st.cl.val, st.g.val, mkEnv s st.cl.val⟩) = true) :
    ∃ t, issue s st i mk = .next t ∧ (clOf t st.cl.val).flights = (clOf s st.cl.val).flights
      ++ [mkFlight (clOf s st.cl.val) st.g.val (mk ⟨clOf s st.cl.val, st.g.val, mkEnv s st.cl.val⟩)] := by
  refine ⟨_, rfl, ?_⟩
  rw [clOf_congr (stepIssue_clusters _ _ _ _)]
  unfold actOn
  simp only [h1, h2, Bool.false_eq_true, if_false, actAt_clean _ ⟨clOf s st.cl.val, st.g.val, mkEnv s st.cl.val⟩ he]
  rw [clOf_applyEff_keeps _ (fun c => c.flights) (fun _ _ _ => rfl) (fun _ _ => rfl) (fun _ _ => rfl)]
  rw [clOf_setCl, if_pos rfl]
  rw [issueIns_keeps (fun c => c.flights) _ _ _ _ h hf (fun _ _ => rfl) (fun _ _ _ _ => rfl) (fun _ _ => rfl) (fun _ _ => rfl)
    (fun _ _ => rfl) (fun _ _ => rfl) (fun _ _ => rfl)]
  simp [hk]

/-- What `issuable` asks, from its parts. -/
theorem issuable_of {c : Cluster} {st : Site} {i : Instr} {a : Act} (h1 : atSlot c st (some i) = true)
    (h2 : regsReady c st.g.val (a.srcs ++ a.dsts) = true) (h3 : unitReady c st.g.val a.use = true) :
    issuable c st i a = true := by simp [issuable, h1, h2, h3]

/-- An instruction that meets its conditions and finds no fault issues: its flight is the one `mkFlight` makes. -/
theorem issues_of {st : Site} {i : Instr} {mk : Ctx → Act} (hx : exec i s = issue s st i mk) {rs : List RegId} {u : UnitUse}
    (h : AtIssue s st i rs u)
    (hr : rs = (mk ⟨siteCl s st, st.g.val, mkEnv s st.cl.val⟩).srcs ++ (mk ⟨siteCl s st, st.g.val, mkEnv s st.cl.val⟩).dsts)
    (hu : (mk ⟨siteCl s st, st.g.val, mkEnv s st.cl.val⟩).use = u)
    (hf : (if (grp (siteCl s st) st.g.val).active ≠ 0
        ∨ (mk ⟨siteCl s st, st.g.val, mkEnv s st.cl.val⟩).emptyFaults = true
      then pickFault (mk ⟨siteCl s st, st.g.val, mkEnv s st.cl.val⟩).faults else none) = none)
    (hk : keepsFlight (mk ⟨siteCl s st, st.g.val, mkEnv s st.cl.val⟩) = true) {P : Flight → Prop}
    (hP : P (mkFlight (siteCl s st) st.g.val (mk ⟨siteCl s st, st.g.val, mkEnv s st.cl.val⟩))) :
    Issues i s st P := by
  obtain ⟨h1, h2, h3, h4, h5, he⟩ := h
  subst hr hu
  obtain ⟨t, ht, hfl⟩ := issue_flight s st i mk he h1 h2 (issuable_of h3 h4 h5) hf hk
  exact ⟨t, _, hx.trans ht, hfl, rfl, hP⟩

end Sys2Proof.Machine
end

