-- ==== Sys2Proof/Laws/Ports.lean ====
section
/-!
SUPPORT. One lemma for each operation on a port, a function, a pseudo-channel, a plan instance and the Falbo die, and each field of State
it leaves alone, and what is read after a write.
-/
namespace Sys2Proof.Machine

variable (s : State)

@[simp] theorem modPort_pending (k : Nat) (f : Port → Port) : (modPort s k f).pending = s.pending := by cases s; rfl
@[simp] theorem modPort_count (k : Nat) (f : Port → Port) : (modPort s k f).count = s.count := by cases s; rfl
@[simp] theorem modPort_draw (k : Nat) (f : Port → Port) : (modPort s k f).draw = s.draw := by cases s; rfl
@[simp] theorem modPort_regs (k : Nat) (f : Port → Port) : (modPort s k f).regs = s.regs := by cases s; rfl
@[simp] theorem modPort_snap (k : Nat) (f : Port → Port) : (modPort s k f).snap = s.snap := by cases s; rfl
@[simp] theorem modPort_hw (k : Nat) (f : Port → Port) : (modPort s k f).hw = s.hw := by cases s; rfl
@[simp] theorem modPort_clusters (k : Nat) (f : Port → Port) : (modPort s k f).clusters = s.clusters := by cases s; rfl
@[simp] theorem modPort_sched (k : Nat) (f : Port → Port) : (modPort s k f).sched = s.sched := by cases s; rfl
@[simp] theorem modPort_gener (k : Nat) (f : Port → Port) : (modPort s k f).gener = s.gener := by cases s; rfl
@[simp] theorem modPort_hif (k : Nat) (f : Port → Port) : (modPort s k f).hif = s.hif := by cases s; rfl
@[simp] theorem modPort_lock (k : Nat) (f : Port → Port) : (modPort s k f).lock = s.lock := by cases s; rfl
@[simp] theorem modPort_power (k : Nat) (f : Port → Port) : (modPort s k f).power = s.power := by cases s; rfl
@[simp] theorem modPort_boot (k : Nat) (f : Port → Port) : (modPort s k f).boot = s.boot := by cases s; rfl
@[simp] theorem modPort_dbgp (k : Nat) (f : Port → Port) : (modPort s k f).dbgp = s.dbgp := by cases s; rfl
@[simp] theorem modPort_falbo (k : Nat) (f : Port → Port) : (modPort s k f).falbo = s.falbo := by cases s; rfl
@[simp] theorem modPort_hbm (k : Nat) (f : Port → Port) : (modPort s k f).hbm = s.hbm := by cases s; rfl
@[simp] theorem modPort_host (k : Nat) (f : Port → Port) : (modPort s k f).host = s.host := by cases s; rfl
@[simp] theorem modPort_wrote (k : Nat) (f : Port → Port) : (modPort s k f).wrote = s.wrote := by cases s; rfl

@[simp] theorem modPcie_pending (k : Nat) (f : PcieFn → PcieFn) : (modPcie s k f).pending = s.pending := by cases s; rfl
@[simp] theorem modPcie_count (k : Nat) (f : PcieFn → PcieFn) : (modPcie s k f).count = s.count := by cases s; rfl
@[simp] theorem modPcie_draw (k : Nat) (f : PcieFn → PcieFn) : (modPcie s k f).draw = s.draw := by cases s; rfl
@[simp] theorem modPcie_regs (k : Nat) (f : PcieFn → PcieFn) : (modPcie s k f).regs = s.regs := by cases s; rfl
@[simp] theorem modPcie_snap (k : Nat) (f : PcieFn → PcieFn) : (modPcie s k f).snap = s.snap := by cases s; rfl
@[simp] theorem modPcie_hw (k : Nat) (f : PcieFn → PcieFn) : (modPcie s k f).hw = s.hw := by cases s; rfl
@[simp] theorem modPcie_clusters (k : Nat) (f : PcieFn → PcieFn) : (modPcie s k f).clusters = s.clusters := by cases s; rfl
@[simp] theorem modPcie_sched (k : Nat) (f : PcieFn → PcieFn) : (modPcie s k f).sched = s.sched := by cases s; rfl
@[simp] theorem modPcie_gener (k : Nat) (f : PcieFn → PcieFn) : (modPcie s k f).gener = s.gener := by cases s; rfl
@[simp] theorem modPcie_azl (k : Nat) (f : PcieFn → PcieFn) : (modPcie s k f).azl = s.azl := by cases s; rfl
@[simp] theorem modPcie_lock (k : Nat) (f : PcieFn → PcieFn) : (modPcie s k f).lock = s.lock := by cases s; rfl
@[simp] theorem modPcie_power (k : Nat) (f : PcieFn → PcieFn) : (modPcie s k f).power = s.power := by cases s; rfl
@[simp] theorem modPcie_boot (k : Nat) (f : PcieFn → PcieFn) : (modPcie s k f).boot = s.boot := by cases s; rfl
@[simp] theorem modPcie_dbgp (k : Nat) (f : PcieFn → PcieFn) : (modPcie s k f).dbgp = s.dbgp := by cases s; rfl
@[simp] theorem modPcie_falbo (k : Nat) (f : PcieFn → PcieFn) : (modPcie s k f).falbo = s.falbo := by cases s; rfl
@[simp] theorem modPcie_hbm (k : Nat) (f : PcieFn → PcieFn) : (modPcie s k f).hbm = s.hbm := by cases s; rfl
@[simp] theorem modPcie_host (k : Nat) (f : PcieFn → PcieFn) : (modPcie s k f).host = s.host := by cases s; rfl
@[simp] theorem modPcie_wrote (k : Nat) (f : PcieFn → PcieFn) : (modPcie s k f).wrote = s.wrote := by cases s; rfl

@[simp] theorem setChan_pending (k : Nat) (c : HbmChan) : (setChan s k c).pending = s.pending := by cases s; rfl
@[simp] theorem setChan_count (k : Nat) (c : HbmChan) : (setChan s k c).count = s.count := by cases s; rfl
@[simp] theorem setChan_draw (k : Nat) (c : HbmChan) : (setChan s k c).draw = s.draw := by cases s; rfl
@[simp] theorem setChan_regs (k : Nat) (c : HbmChan) : (setChan s k c).regs = s.regs := by cases s; rfl
@[simp] theorem setChan_snap (k : Nat) (c : HbmChan) : (setChan s k c).snap = s.snap := by cases s; rfl
@[simp] theorem setChan_hw (k : Nat) (c : HbmChan) : (setChan s k c).hw = s.hw := by cases s; rfl
@[simp] theorem setChan_clusters (k : Nat) (c : HbmChan) : (setChan s k c).clusters = s.clusters := by cases s; rfl
@[simp] theorem setChan_gener (k : Nat) (c : HbmChan) : (setChan s k c).gener = s.gener := by cases s; rfl
@[simp] theorem setChan_hif (k : Nat) (c : HbmChan) : (setChan s k c).hif = s.hif := by cases s; rfl
@[simp] theorem setChan_azl (k : Nat) (c : HbmChan) : (setChan s k c).azl = s.azl := by cases s; rfl
@[simp] theorem setChan_lock (k : Nat) (c : HbmChan) : (setChan s k c).lock = s.lock := by cases s; rfl
@[simp] theorem setChan_power (k : Nat) (c : HbmChan) : (setChan s k c).power = s.power := by cases s; rfl
@[simp] theorem setChan_boot (k : Nat) (c : HbmChan) : (setChan s k c).boot = s.boot := by cases s; rfl
@[simp] theorem setChan_dbgp (k : Nat) (c : HbmChan) : (setChan s k c).dbgp = s.dbgp := by cases s; rfl
@[simp] theorem setChan_falbo (k : Nat) (c : HbmChan) : (setChan s k c).falbo = s.falbo := by cases s; rfl
@[simp] theorem setChan_hbm (k : Nat) (c : HbmChan) : (setChan s k c).hbm = s.hbm := by cases s; rfl
@[simp] theorem setChan_host (k : Nat) (c : HbmChan) : (setChan s k c).host = s.host := by cases s; rfl
@[simp] theorem setChan_wrote (k : Nat) (c : HbmChan) : (setChan s k c).wrote = s.wrote := by cases s; rfl

@[simp] theorem putInst_pending (n : Nat) (i : PlanInst) : (putInst s n i).pending = s.pending := by cases s; rfl
@[simp] theorem putInst_count (n : Nat) (i : PlanInst) : (putInst s n i).count = s.count := by cases s; rfl
@[simp] theorem putInst_draw (n : Nat) (i : PlanInst) : (putInst s n i).draw = s.draw := by cases s; rfl
@[simp] theorem putInst_regs (n : Nat) (i : PlanInst) : (putInst s n i).regs = s.regs := by cases s; rfl
@[simp] theorem putInst_snap (n : Nat) (i : PlanInst) : (putInst s n i).snap = s.snap := by cases s; rfl
@[simp] theorem putInst_hw (n : Nat) (i : PlanInst) : (putInst s n i).hw = s.hw := by cases s; rfl
@[simp] theorem putInst_clusters (n : Nat) (i : PlanInst) : (putInst s n i).clusters = s.clusters := by cases s; rfl
@[simp] theorem putInst_gener (n : Nat) (i : PlanInst) : (putInst s n i).gener = s.gener := by cases s; rfl
@[simp] theorem putInst_hif (n : Nat) (i : PlanInst) : (putInst s n i).hif = s.hif := by cases s; rfl
@[simp] theorem putInst_azl (n : Nat) (i : PlanInst) : (putInst s n i).azl = s.azl := by cases s; rfl
@[simp] theorem putInst_lock (n : Nat) (i : PlanInst) : (putInst s n i).lock = s.lock := by cases s; rfl
@[simp] theorem putInst_power (n : Nat) (i : PlanInst) : (putInst s n i).power = s.power := by cases s; rfl
@[simp] theorem putInst_boot (n : Nat) (i : PlanInst) : (putInst s n i).boot = s.boot := by cases s; rfl
@[simp] theorem putInst_dbgp (n : Nat) (i : PlanInst) : (putInst s n i).dbgp = s.dbgp := by cases s; rfl
@[simp] theorem putInst_falbo (n : Nat) (i : PlanInst) : (putInst s n i).falbo = s.falbo := by cases s; rfl
@[simp] theorem putInst_hbm (n : Nat) (i : PlanInst) : (putInst s n i).hbm = s.hbm := by cases s; rfl
@[simp] theorem putInst_host (n : Nat) (i : PlanInst) : (putInst s n i).host = s.host := by cases s; rfl
@[simp] theorem putInst_wrote (n : Nat) (i : PlanInst) : (putInst s n i).wrote = s.wrote := by cases s; rfl

@[simp] theorem setFalbo_pending (f : Falbo) : (setFalbo s f).pending = s.pending := by cases s; rfl
@[simp] theorem setFalbo_count (f : Falbo) : (setFalbo s f).count = s.count := by cases s; rfl
@[simp] theorem setFalbo_draw (f : Falbo) : (setFalbo s f).draw = s.draw := by cases s; rfl
@[simp] theorem setFalbo_regs (f : Falbo) : (setFalbo s f).regs = s.regs := by cases s; rfl
@[simp] theorem setFalbo_snap (f : Falbo) : (setFalbo s f).snap = s.snap := by cases s; rfl
@[simp] theorem setFalbo_hw (f : Falbo) : (setFalbo s f).hw = s.hw := by cases s; rfl
@[simp] theorem setFalbo_clusters (f : Falbo) : (setFalbo s f).clusters = s.clusters := by cases s; rfl
@[simp] theorem setFalbo_sched (f : Falbo) : (setFalbo s f).sched = s.sched := by cases s; rfl
@[simp] theorem setFalbo_gener (f : Falbo) : (setFalbo s f).gener = s.gener := by cases s; rfl
@[simp] theorem setFalbo_hif (f : Falbo) : (setFalbo s f).hif = s.hif := by cases s; rfl
@[simp] theorem setFalbo_azl (f : Falbo) : (setFalbo s f).azl = s.azl := by cases s; rfl
@[simp] theorem setFalbo_lock (f : Falbo) : (setFalbo s f).lock = s.lock := by cases s; rfl
@[simp] theorem setFalbo_power (f : Falbo) : (setFalbo s f).power = s.power := by cases s; rfl
@[simp] theorem setFalbo_boot (f : Falbo) : (setFalbo s f).boot = s.boot := by cases s; rfl
@[simp] theorem setFalbo_dbgp (f : Falbo) : (setFalbo s f).dbgp = s.dbgp := by cases s; rfl
@[simp] theorem setFalbo_hbm (f : Falbo) : (setFalbo s f).hbm = s.hbm := by cases s; rfl
@[simp] theorem setFalbo_host (f : Falbo) : (setFalbo s f).host = s.host := by cases s; rfl
@[simp] theorem setFalbo_wrote (f : Falbo) : (setFalbo s f).wrote = s.wrote := by cases s; rfl

@[simp] theorem setWeir_pending (k : Nat) (x : Weir) : (setWeir s k x).pending = s.pending := by cases s; rfl
@[simp] theorem setWeir_count (k : Nat) (x : Weir) : (setWeir s k x).count = s.count := by cases s; rfl
@[simp] theorem setWeir_draw (k : Nat) (x : Weir) : (setWeir s k x).draw = s.draw := by cases s; rfl
@[simp] theorem setWeir_regs (k : Nat) (x : Weir) : (setWeir s k x).regs = s.regs := by cases s; rfl
@[simp] theorem setWeir_snap (k : Nat) (x : Weir) : (setWeir s k x).snap = s.snap := by cases s; rfl
@[simp] theorem setWeir_hw (k : Nat) (x : Weir) : (setWeir s k x).hw = s.hw := by cases s; rfl
@[simp] theorem setWeir_clusters (k : Nat) (x : Weir) : (setWeir s k x).clusters = s.clusters := by cases s; rfl
@[simp] theorem setWeir_sched (k : Nat) (x : Weir) : (setWeir s k x).sched = s.sched := by cases s; rfl
@[simp] theorem setWeir_gener (k : Nat) (x : Weir) : (setWeir s k x).gener = s.gener := by cases s; rfl
@[simp] theorem setWeir_hif (k : Nat) (x : Weir) : (setWeir s k x).hif = s.hif := by cases s; rfl
@[simp] theorem setWeir_azl (k : Nat) (x : Weir) : (setWeir s k x).azl = s.azl := by cases s; rfl
@[simp] theorem setWeir_lock (k : Nat) (x : Weir) : (setWeir s k x).lock = s.lock := by cases s; rfl
@[simp] theorem setWeir_power (k : Nat) (x : Weir) : (setWeir s k x).power = s.power := by cases s; rfl
@[simp] theorem setWeir_boot (k : Nat) (x : Weir) : (setWeir s k x).boot = s.boot := by cases s; rfl
@[simp] theorem setWeir_dbgp (k : Nat) (x : Weir) : (setWeir s k x).dbgp = s.dbgp := by cases s; rfl
@[simp] theorem setWeir_hbm (k : Nat) (x : Weir) : (setWeir s k x).hbm = s.hbm := by cases s; rfl
@[simp] theorem setWeir_host (k : Nat) (x : Weir) : (setWeir s k x).host = s.host := by cases s; rfl
@[simp] theorem setWeir_wrote (k : Nat) (x : Weir) : (setWeir s k x).wrote = s.wrote := by cases s; rfl

@[simp] theorem setPulse_pending (k : Nat) (x : Pulse) : (setPulse s k x).pending = s.pending := by cases s; rfl
@[simp] theorem setPulse_count (k : Nat) (x : Pulse) : (setPulse s k x).count = s.count := by cases s; rfl
@[simp] theorem setPulse_draw (k : Nat) (x : Pulse) : (setPulse s k x).draw = s.draw := by cases s; rfl
@[simp] theorem setPulse_regs (k : Nat) (x : Pulse) : (setPulse s k x).regs = s.regs := by cases s; rfl
@[simp] theorem setPulse_snap (k : Nat) (x : Pulse) : (setPulse s k x).snap = s.snap := by cases s; rfl
@[simp] theorem setPulse_hw (k : Nat) (x : Pulse) : (setPulse s k x).hw = s.hw := by cases s; rfl
@[simp] theorem setPulse_clusters (k : Nat) (x : Pulse) : (setPulse s k x).clusters = s.clusters := by cases s; rfl
@[simp] theorem setPulse_sched (k : Nat) (x : Pulse) : (setPulse s k x).sched = s.sched := by cases s; rfl
@[simp] theorem setPulse_gener (k : Nat) (x : Pulse) : (setPulse s k x).gener = s.gener := by cases s; rfl
@[simp] theorem setPulse_hif (k : Nat) (x : Pulse) : (setPulse s k x).hif = s.hif := by cases s; rfl
@[simp] theorem setPulse_azl (k : Nat) (x : Pulse) : (setPulse s k x).azl = s.azl := by cases s; rfl
@[simp] theorem setPulse_lock (k : Nat) (x : Pulse) : (setPulse s k x).lock = s.lock := by cases s; rfl
@[simp] theorem setPulse_power (k : Nat) (x : Pulse) : (setPulse s k x).power = s.power := by cases s; rfl
@[simp] theorem setPulse_boot (k : Nat) (x : Pulse) : (setPulse s k x).boot = s.boot := by cases s; rfl
@[simp] theorem setPulse_dbgp (k : Nat) (x : Pulse) : (setPulse s k x).dbgp = s.dbgp := by cases s; rfl
@[simp] theorem setPulse_hbm (k : Nat) (x : Pulse) : (setPulse s k x).hbm = s.hbm := by cases s; rfl
@[simp] theorem setPulse_host (k : Nat) (x : Pulse) : (setPulse s k x).host = s.host := by cases s; rfl
@[simp] theorem setPulse_wrote (k : Nat) (x : Pulse) : (setPulse s k x).wrote = s.wrote := by cases s; rfl

@[simp] theorem setDecChan_pending (k : Nat) (x : DecChan) : (setDecChan s k x).pending = s.pending := by cases s; rfl
@[simp] theorem setDecChan_count (k : Nat) (x : DecChan) : (setDecChan s k x).count = s.count := by cases s; rfl
@[simp] theorem setDecChan_draw (k : Nat) (x : DecChan) : (setDecChan s k x).draw = s.draw := by cases s; rfl
@[simp] theorem setDecChan_regs (k : Nat) (x : DecChan) : (setDecChan s k x).regs = s.regs := by cases s; rfl
@[simp] theorem setDecChan_snap (k : Nat) (x : DecChan) : (setDecChan s k x).snap = s.snap := by cases s; rfl
@[simp] theorem setDecChan_hw (k : Nat) (x : DecChan) : (setDecChan s k x).hw = s.hw := by cases s; rfl
@[simp] theorem setDecChan_clusters (k : Nat) (x : DecChan) : (setDecChan s k x).clusters = s.clusters := by cases s; rfl
@[simp] theorem setDecChan_sched (k : Nat) (x : DecChan) : (setDecChan s k x).sched = s.sched := by cases s; rfl
@[simp] theorem setDecChan_gener (k : Nat) (x : DecChan) : (setDecChan s k x).gener = s.gener := by cases s; rfl
@[simp] theorem setDecChan_hif (k : Nat) (x : DecChan) : (setDecChan s k x).hif = s.hif := by cases s; rfl
@[simp] theorem setDecChan_azl (k : Nat) (x : DecChan) : (setDecChan s k x).azl = s.azl := by cases s; rfl
@[simp] theorem setDecChan_lock (k : Nat) (x : DecChan) : (setDecChan s k x).lock = s.lock := by cases s; rfl
@[simp] theorem setDecChan_power (k : Nat) (x : DecChan) : (setDecChan s k x).power = s.power := by cases s; rfl
@[simp] theorem setDecChan_boot (k : Nat) (x : DecChan) : (setDecChan s k x).boot = s.boot := by cases s; rfl
@[simp] theorem setDecChan_dbgp (k : Nat) (x : DecChan) : (setDecChan s k x).dbgp = s.dbgp := by cases s; rfl
@[simp] theorem setDecChan_hbm (k : Nat) (x : DecChan) : (setDecChan s k x).hbm = s.hbm := by cases s; rfl
@[simp] theorem setDecChan_host (k : Nat) (x : DecChan) : (setDecChan s k x).host = s.host := by cases s; rfl
@[simp] theorem setDecChan_wrote (k : Nat) (x : DecChan) : (setDecChan s k x).wrote = s.wrote := by cases s; rfl

@[simp] theorem setFrames_pending (f : Frames) : (setFrames s f).pending = s.pending := by cases s; rfl
@[simp] theorem setFrames_count (f : Frames) : (setFrames s f).count = s.count := by cases s; rfl
@[simp] theorem setFrames_draw (f : Frames) : (setFrames s f).draw = s.draw := by cases s; rfl
@[simp] theorem setFrames_regs (f : Frames) : (setFrames s f).regs = s.regs := by cases s; rfl
@[simp] theorem setFrames_snap (f : Frames) : (setFrames s f).snap = s.snap := by cases s; rfl
@[simp] theorem setFrames_hw (f : Frames) : (setFrames s f).hw = s.hw := by cases s; rfl
@[simp] theorem setFrames_clusters (f : Frames) : (setFrames s f).clusters = s.clusters := by cases s; rfl
@[simp] theorem setFrames_sched (f : Frames) : (setFrames s f).sched = s.sched := by cases s; rfl
@[simp] theorem setFrames_gener (f : Frames) : (setFrames s f).gener = s.gener := by cases s; rfl
@[simp] theorem setFrames_hif (f : Frames) : (setFrames s f).hif = s.hif := by cases s; rfl
@[simp] theorem setFrames_azl (f : Frames) : (setFrames s f).azl = s.azl := by cases s; rfl
@[simp] theorem setFrames_lock (f : Frames) : (setFrames s f).lock = s.lock := by cases s; rfl
@[simp] theorem setFrames_power (f : Frames) : (setFrames s f).power = s.power := by cases s; rfl
@[simp] theorem setFrames_boot (f : Frames) : (setFrames s f).boot = s.boot := by cases s; rfl
@[simp] theorem setFrames_dbgp (f : Frames) : (setFrames s f).dbgp = s.dbgp := by cases s; rfl
@[simp] theorem setFrames_hbm (f : Frames) : (setFrames s f).hbm = s.hbm := by cases s; rfl
@[simp] theorem setFrames_host (f : Frames) : (setFrames s f).host = s.host := by cases s; rfl
@[simp] theorem setFrames_wrote (f : Frames) : (setFrames s f).wrote = s.wrote := by cases s; rfl

@[simp] theorem setFcl_pending (f : Classifier) : (setFcl s f).pending = s.pending := by cases s; rfl
@[simp] theorem setFcl_count (f : Classifier) : (setFcl s f).count = s.count := by cases s; rfl
@[simp] theorem setFcl_draw (f : Classifier) : (setFcl s f).draw = s.draw := by cases s; rfl
@[simp] theorem setFcl_regs (f : Classifier) : (setFcl s f).regs = s.regs := by cases s; rfl
@[simp] theorem setFcl_snap (f : Classifier) : (setFcl s f).snap = s.snap := by cases s; rfl
@[simp] theorem setFcl_hw (f : Classifier) : (setFcl s f).hw = s.hw := by cases s; rfl
@[simp] theorem setFcl_clusters (f : Classifier) : (setFcl s f).clusters = s.clusters := by cases s; rfl
@[simp] theorem setFcl_sched (f : Classifier) : (setFcl s f).sched = s.sched := by cases s; rfl
@[simp] theorem setFcl_gener (f : Classifier) : (setFcl s f).gener = s.gener := by cases s; rfl
@[simp] theorem setFcl_hif (f : Classifier) : (setFcl s f).hif = s.hif := by cases s; rfl
@[simp] theorem setFcl_azl (f : Classifier) : (setFcl s f).azl = s.azl := by cases s; rfl
@[simp] theorem setFcl_lock (f : Classifier) : (setFcl s f).lock = s.lock := by cases s; rfl
@[simp] theorem setFcl_power (f : Classifier) : (setFcl s f).power = s.power := by cases s; rfl
@[simp] theorem setFcl_boot (f : Classifier) : (setFcl s f).boot = s.boot := by cases s; rfl
@[simp] theorem setFcl_dbgp (f : Classifier) : (setFcl s f).dbgp = s.dbgp := by cases s; rfl
@[simp] theorem setFcl_hbm (f : Classifier) : (setFcl s f).hbm = s.hbm := by cases s; rfl
@[simp] theorem setFcl_host (f : Classifier) : (setFcl s f).host = s.host := by cases s; rfl
@[simp] theorem setFcl_wrote (f : Classifier) : (setFcl s f).wrote = s.wrote := by cases s; rfl

/-! ### Reading after a write -/

@[simp] theorem setFalbo_falbo (f : Falbo) : (setFalbo s f).falbo = f := rfl
@[simp] theorem setFrames_frames (f : Frames) : (setFrames s f).falbo.frames = f := rfl
@[simp] theorem setFcl_fcl (f : Classifier) : (setFcl s f).falbo.fcl = f := rfl

@[simp] theorem weirOf_setWeir (k j : Nat) (x : Weir) : weirOf (setWeir s k x) j = if j = k then x else weirOf s j := by
  simp [weirOf, setWeir, smGet_smSet]

@[simp] theorem pulseOf_setPulse (k j : Nat) (x : Pulse) : pulseOf (setPulse s k x) j = if j = k then x else pulseOf s j := by
  simp [pulseOf, setPulse, smGet_smSet]

@[simp] theorem decChan_setDecChan (k j : Nat) (x : DecChan) :
    decChan (setDecChan s k x) j = if j = k then x else decChan s j := by
  simp [decChan, setDecChan, smGet_smSet]

@[simp] theorem chanOf_setChan (k j : Nat) (c : HbmChan) : chanOf (setChan s k c) j = if j = k then c else chanOf s j := by
  simp [chanOf, setChan, smGet_smSet]

/-- What a function's configuration reads after a change. -/
theorem pcie_modPcie (k j : Nat) (f : PcieFn → PcieFn) : smGet (dflt ({} : PcieFn)) (modPcie s k f).hif.pcie j
    = if j = k then f (smGet (dflt ({} : PcieFn)) s.hif.pcie k) else smGet (dflt ({} : PcieFn)) s.hif.pcie j := by
  simp [modPcie, smGet_smSet]

/-- A changed list reads the changed element at its place. -/
theorem nth_listMod {α : Type} (f : α → α) (xs : List α) (k j : Nat) (d : α) :
    nth (listMod f xs k) j d = if j = k ∧ k < xs.length then f (nth xs k d) else nth xs j d := by
  induction xs generalizing k j with
  | nil => simp [listMod, nth]
  | cons x xs ih =>
    cases k <;> cases j <;> simp [listMod, nth]
    simpa [nth] using ih _ _

@[simp] theorem portOf_modPort (k j : Nat) (f : Port → Port) :
    portOf (modPort s k f) j = if j = k ∧ k < s.azl.ports.length then f (portOf s k) else portOf s j := by
  simp [portOf, modPort, nth_listMod]

end Sys2Proof.Machine
end

