-- ==== Sys2Proof/Tests/Slice0.lean ====
section
/-!
SUPPORT. Tests: words written out from the spec's encodings, an ill-formed term for each check, and for every statement concrete
states that meet its hypotheses.
-/
namespace Sys2Proof.Machine
set_option Elab.async false

/-! ### Helper states -/

/-- Group 0 of cluster 0. -/
def st0 : Site := ⟨0, 0⟩

/-- No guard. -/
def g0 : Guard := ⟨0, false⟩

/-- The state with cluster 0 replaced. -/
def onCl (c : Cluster) : State := setCl State.reset 0 c

/-- Cluster 0 running, logical cluster 0, with group 0 at its slot holding a word. -/
def clWord (w : Option Nat) (act : BitVec 32) (stack : List DivEntry) : Cluster :=
  { logical := some 0, st := .running, ngroups := 1,
    groups := { started := true, pc := 64, active := act, held := w, stack := stack } :: List.replicate 7 {} }

/-- The state in which group 0 of cluster 0 holds the word of an instruction at its slot. -/
def heldSt (i : Instr) : State := onCl (clWord (encodeWord i) allLanes [])

/-- As `heldSt`, on a path without lanes. -/
def emptySt (i : Instr) : State := onCl (clWord (encodeWord i) 0 [])

/-- A divergence entry. -/
def entry0 : DivEntry := ⟨128, 256, 1, 3, true, false⟩

/-- As `heldSt`, with a full divergence stack. -/
def fullSt (i : Instr) : State := onCl (clWord (encodeWord i) allLanes (List.replicate 16 entry0))

/-- Write registers. -/
def regsOf (s : State) (xs : List (Nat × Nat)) : State := xs.foldl (fun t x => wrN t x.1 x.2) s

/-- The reset state with some registers written. -/
def regSt (xs : List (Nat × Nat)) : State := regsOf State.reset xs

/-! ### Words written out from the spec's encodings -/

/-- The worked example of 03: MMA.B8.L S1, v32, v48, 1280. -/
theorem test_decode_mma : decodeWord st0 0x3022003203000500 = some (.mma st0 g0 .b8b8 1 true 32 48 1280) := by decide +kernel

/-- The worked example of 03: LD.32 v5, [v8 + 0x40]. -/
theorem test_decode_ld : decodeWord st0 0x3804005080000040 = some (.ld st0 ⟨g0, .w32, false, 5, 8, 0x40⟩) := by decide +kernel

/-- The worked example of 03: BRA.P !p2, 0x0_1200, 0x0_1280. -/
theorem test_decode_braP : decodeWord st0 0x0420500120001280 = some (.braP st0 ⟨2, true⟩ 0x1200 0x1280) := by decide +kernel

/-- IADD v1, v2, v3: MAJOR 0x02, MINOR 0, D 1, A 2, B 3. -/
theorem test_decode_iadd : decodeWord st0 0x0800001020300000 = some (.iadd st0 (.lane g0 1 2 (.reg 3))) := by decide +kernel

/-- Words put together field by field from the tables of 03 (R138, R139), one or two for each class. -/
theorem test_decode_words_1 :     ∀ p ∈ ([(0x0440000120000009, .loop st0 9 0x1200),
      (0x0811701020300000, .isub st0 (.lane ⟨3, true⟩ 1 2 (.uni 3))),
      (0x1480001020000007, .xor st0 (.uni 1 2 (.imm 7))),
      (0x10A0001020300000, .shr st0 (.uni 1 2 (.reg 3))),
      (0x08B0701020300000, .sra st0 (.lane ⟨3, true⟩ 1 2 (.reg 3))),
      (0x0CF070102FFFFFFB, .umax st0 (.lane ⟨3, true⟩ 1 2 (.imm 0xFFFFFFB))),
      (0x0850701020304000, .imad st0 ⟨3, true⟩ 1 2 (.reg 3) 4),
      (0x0920701020304000, .sel st0 ⟨3, true⟩ 1 2 (.reg 3) 4)] : List (Nat × Instr)), decodeWord st0 p.1 = some p.2 := by decide +kernel

/-- Words put together field by field from the tables of 03 (R138, R139), one or two for each class. -/
theorem test_decode_words_2 :     ∀ p ∈ ([(0x18107010DEADBEEF, .movi st0 ⟨3, true⟩ 1 0xDEADBEEF),
      (0x184000102000001F, .laneRd st0 1 2 31),
      (0x1850702080000000, .s2r st0 ⟨3, true⟩ 2 .count),
      (0x1C23701020401000, .fsetp st0 ⟨3, true⟩ .le .s32 1 1 2 4),
      (0x1C1870102FFFFFFF, .isetp st0 ⟨3, true⟩ .gtu 1 2 (.imm 0xFFFFFFF)),
      (0x1C43701020500000, .plop st0 ⟨3, true⟩ .andn 1 2 5),
      (0x2030702040608000, .ffma st0 ⟨⟨3, true⟩, .s32, 2, 4, 6⟩ 8),
      (0x2430702040608000, .ffma st0 ⟨⟨3, true⟩, .h16, 2, 4, 6⟩ 8)] : List (Nat × Instr)), decodeWord st0 p.1 = some p.2 := by decide +kernel

/-- Words put together field by field from the tables of 03 (R138, R139), one or two for each class. -/
theorem test_decode_words_3 :     ∀ p ∈ ([(0x2820702040000000, .cvtF8S32 st0 ⟨⟨3, true⟩, 2, 4⟩),
      (0x2C30702040000000, .rsq st0 .s32 ⟨⟨3, true⟩, 2, 4⟩),
      (0x2C31702040000000, .rsq st0 .h16 ⟨⟨3, true⟩, 2, 4⟩),
      (0x4C00704080C00000, .kcg st0 ⟨3, true⟩ 4 8 12),
      (0x3011701020304005, .mld st0 ⟨3, true⟩ .b8 1 2 3 4 5),
      (0x3024700200000500, .mma st0 ⟨3, true⟩ .h16h16 0 false 32 0 0x500),
      (0x3410700040000123, .pacc st0 ⟨3, true⟩ .s32 0x123 4),
      (0x3478700040000123, .pext st0 ⟨⟨3, true⟩, true, 0x123, 4⟩)] : List (Nat × Instr)), decodeWord st0 p.1 = some p.2 := by decide +kernel

/-- Words put together field by field from the tables of 03 (R138, R139), one or two for each class. -/
theorem test_decode_words_4 :     ∀ p ∈ ([(0x34B0704000700123, .pcvtB8 st0 ⟨3, true⟩ 4 7 0x123),
      (0x381E70409FFFFFF0, .st st0 ⟨⟨3, true⟩, .w128, true, 4, 9, 0xFFFFFF0⟩),
      (0x3C0D00209000000C, .uldc st0 g0 true true 2 9 12),
      (0x4099702090406000, .atomCas st0 ⟨⟨3, true⟩, true, true, 2, 9, 4⟩ 6),
      (0x4410000000001234, .nsync st0 0x1234),
      (0x4810700000000002, .barc st0 ⟨3, true⟩ 2),
      (0x5010700090000000, .digest st0 ⟨3, true⟩ 9)] : List (Nat × Instr)), decodeWord st0 p.1 = some p.2 := by decide +kernel

/-- The all-zero word is illegal (03 R143). -/
theorem test_zero_word : decodeWord st0 0 = none := by decide +kernel

/-- A major opcode that is not assigned. -/
theorem test_reserved_major : decodeWord st0 (0x15 * 2 ^ 58) = none := by decide +kernel

/-- An unused field that is not zero (03 R140). -/
theorem test_unused_field : decodeWord st0 (0x0420500120001280 + 2 ^ 40) = none := by decide +kernel

/-- BRA takes no guard (03 R147). -/
theorem test_guard_not_allowed : decodeWord st0 (0x0410000120000000 + 2 ^ 45) = none := by decide +kernel

/-- Lane 3 of v2 and v3 hold 0x80000005 and 33, u2 and u3 hold 7 and 3. -/
def valSt (i : Instr) : State :=
  modCl (heldSt i) 0 fun c => wrUni (wrUni (wrLane (wrLane c 0 2 3 0x80000005) 0 3 3 33) 0 2 7) 0 3 3

/-- 1.5 in both elements of v4 and 2.25 in those of v6 and v8, in one format. -/
def vecSt (fmt : VFmt) (i : Instr) : State :=
  modCl (heldSt i) 0 fun c => (List.range 32).foldl (fun c l => match fmt with
    | .s32 => [4, 5].foldl (fun c r => wrLane c 0 r l 0x3FC00000) ([6, 7, 8, 9].foldl (fun c r => wrLane c 0 r l 0x40100000) c)
    | .h16 => wrLane (wrLane (wrLane c 0 4 l 0x3E003E00) 0 6 l 0x40804080) 0 8 l 0x40804080) c

/-- Both stationary buffers hold a format. -/
def bufSt (fmt : MFmt) (i : Instr) : State := modCl (heldSt i) 0 fun c => { c with sbufs := List.replicate 2 { fmt := some fmt } }

/-- A lane address at the top of the scratchpad. -/
def topSt (a : Nat) (i : Instr) : State := modCl (heldSt i) 0 fun c => wrLane c 0 8 31 (w32 a)

/-- Every lane of v8 holds the last 16-byte address plus 16. -/
def lastSt (i : Instr) : State := modCl (heldSt i) 0 fun c => (List.range 32).foldl (fun c l => wrLane c 0 8 l 0x100000) c

/-- Predicate 1 holds in some lanes. -/
def predSt (m : BitVec 32) (stack : List DivEntry) (i : Instr) : State :=
  modCl (onCl (clWord (encodeWord i) 0xFF stack)) 0 fun c => { c with preds := [(1, m)] }

/-- A group at a branch. -/
def grB : Group := { started := true, pc := 64, active := 0xFF, stack := [entry0] }

/-- An instance of a plan. -/
def inst0 : PlanInst :=
  { cl := 0, net := false, k := 0, kernel := 0, start := 40, kind := 0, lane := 0, order := 0, port := 0, sadr := 0, units := 1, hops := 3,
    route := .nothing }

/-- Kernel 0 runs with one instance in each plan, on cluster 0 as given. -/
def planSt (c : Cluster) : State :=
  modExec (onCl c) fun e => { e with running := true, kind := .step, cur := some 0, insts := [inst0, { inst0 with net := true }] }

/-- As `planSt`, an instruction held, a second group open. -/
def waitSt (i : Instr) : State :=
  planSt { clWord (encodeWord i) allLanes [] with groups :=
    [{ started := true, pc := 64, active := allLanes, held := encodeWord i }, { started := true, pc := 128, active := 1 }] ++ List.replicate 6 {} }

/-- As `waitSt`, unlocked, with a comparator of every cluster on number 7. -/
def bkptSt : State := regsOf (waitSt (.bkpt st0 7)) [(Reg.dbgLock, 1), (0x005270, 7 + 2 ^ 25 + 2 ^ 24)]

/-- Line 16383 of the scratchpad is cached or not; u2 holds 1,048,568. -/
def constSt (i : Instr) (hit : Bool) : State :=
  modCl (heldSt i) 0 fun c => { wrUni c 0 2 1048568 with oc := if hit then [(16383 % 256, some ⟨16383, List.replicate 64 7⟩)] else [] }

/-- The line of `constSt` is being filled. -/
def pendSt (_ : Instr) : State := modCl (constSt (.uldc st0 g0 true true 2 2 0) false) 0 fun c => { c with fills := [⟨true, 16383, List.replicate 64 9, 20, true⟩] }

/-- Lane 3 of v8 holds an address. -/
def lane3St (a : Nat) (i : Instr) : State := modCl (heldSt i) 0 fun c => wrLane c 0 8 3 (w32 a)

/-- Group 0 may fetch; a line of the instruction cache as given. -/
def fetchSt (line : List (Nat × Option CLine)) : State := onCl { clWord none allLanes [] with ic := line }

/-- A flight of group 0 that waits. -/
def flight0 (job : Job) (use : UnitUse) : Flight :=
  { g := 0, pc := 64, job := job, use := use, issueAt := 0, started := false, startAt := 0, readyAt := 0, occ := 1, mask := 3, dsts := [],
    writes := [], addrs := [(0, 16), (1, 20)], vals := [0x11223344, 0x55667788], reads := [], ranges := [], frag := [], acc := [], stores := [],
    live := true }

/-- Cluster 0 runs at kernel cycle 10 with one flight. -/
def flySt (f : Flight) : State := onCl { clWord none allLanes [] with kcyc := 10, flights := [f] }

/-- A started access of one lane in its first cycle. -/
def onePort (job : Job) : Cluster :=
  let f := { flight0 job .gport with started := true, addrs := [(31, 0xFFFFF)], vals := [0x1A5] }
  { spad := [(0xFFFFF, 3)], flights := [{ f with plan := lanePieces f 1 }] }

/-- An MMA.H16 whose streamed elements are all 1.0. -/
def mma0 : Flight := { flight0 (.mma .h16h16 1 false) .mma with frag := List.replicate 32 (List.replicate 8 0x3C003C00 ++ [0]), ranges := [(0, 1280)] }

/-- A flight whose results are due. -/
def due0 : Flight := { flight0 .value .free with started := true, readyAt := 10, writes := [(.lane 255 31, 9), (.uni 63, 8), (.pred 7 31, 1)] }

/-- An image of no kernel. -/
def img0 : Image := {}

/-- A model image is resident, the package alone at level 4, its firmware runs and the Sluice is enabled; the pool holds 64 pages. -/
def imgSt : State :=
  let s := regsOf State.reset [(Reg.glbServiceLevel, 4), (Reg.sluCtl, 1), (Reg.kvpPages, 64), (Reg.kvpFree, 64), (Reg.kvpCtxMax, 1024), (Reg.sluVocab, 100)]
  putBoot (putGener s { s.gener with image := some img0, hdr := { ident := 77 } }) { s.boot with mapped := true, fwRunning := true, pstLoaded := true }

/-- The record of step 1. -/
def rec1 : StepRec := { step := 1, s := 2, f := 3, planDur := 500, launch := 0, batch := [⟨0, 1, true, false, 0⟩] }

/-- A kernel of two groups that starts at cycle 16. -/
def run0 : KRun := ⟨0, 16, 100, [2 * 2 ^ 20 + 0x400, 0, 11, 12, 13, 14, 15, 16, 17, 18, 100], [], 0⟩

/-- A step at cycle 16 or later with `run0`, logical clusters 0 and 127 in place. -/
def stepSt (cyc : Nat) (cur : Option Nat) (c : Cluster) : State :=
  let s := regsOf (setCl (setCl State.reset 0 c) 143 { logical := some 127 }) [(Reg.glbIdent, 128 * 2 ^ 8)]
  modExec s fun e => { e with running := true, kind := .step, cyc := cyc, runs := [run0], cur := cur, planDur := 116, launch := 5 }

/-- A step at cycle 40 with an instance of cluster 127. -/
def instSt (i : PlanInst) (cyc : Nat) : State :=
  modExec (stepSt cyc (some 0) {}) fun e => { e with insts := [{ i with cl := 127 }] }

/-- An access planned at cycle 40. -/
def acc0 : HbmAcc := { planned := 40, cl := 127, net := false, k := 0, kernel := 0, unit := 0, addr := 0x1000, wdata := none }

/-- A step at a cycle, the last pseudo-channel of stack 5 with one access. -/
def hbmSt (cyc : Nat) (x : HbmAcc) : State := setChan (putCount (stepSt cyc (some 0) {}) 4096) (chanKey 5 31) { q := [x] }

/-- A step of `rec1` whose last window has ended. -/
def endSt : State := modExec (stepSt 116 (some 0) { logical := some 0, st := .running }) fun e => { e with ended := true, sRec := rec1, frozen := 3, led := { step := 1 } }

/-- An auxiliary kernel of one group without a plan. -/
def rk0 : RunK :=
  { ref := { ring := 3, idx := 5, op := 0x20, era := 1 }, preempt := true, saveAddr := 0x10000, liveSp := 64, livePeat := 1, preload := 0, preLen := 0,
    preSp := 0, hostSrc := false, desc := [2 ^ 20], layer := [], dma := [], net := [] }

/-- It runs and has nothing more to do, on no mapped cluster. -/
def auxSt : State :=
  modExec imgSt fun e => { e with running := true, kind := .runk, rk := some rk0, cur := some 0, cyc := 40 }

/-- A freeze at count 4096. -/
def frzSt (a : Bool) (n : Nat) : State := putSched (putCount State.reset n) { State.reset.sched with freezes := [⟨4000, 200, .thermal, true⟩, ⟨4096, 10, .group, a⟩] }

/-- Numbers written to host memory: address, bytes, value. -/
def hostOf (s : State) (xs : List (Nat × Nat × Nat)) : State := putHost s (xs.foldl (fun m x => memPutNat m x.1 x.2.1 x.2.2) s.host)

/-- Ring 3 holds one read descriptor, tag 21, of an opcode with flags, and its other words. -/
def ringSt (s : State) (op flags : Nat) (ws : List Nat) : State :=
  let ref : CmdRef := { ring := 3, idx := 5, tag := 21, op := op, era := 1 }
  let d : Desc := ⟨ref, (op * 2 ^ 24 + flags * 2 ^ 17 + 21) :: ws ++ List.replicate (15 - ws.length) 0⟩
  setRing (putBoot s { s.boot with fwRunning := true }) 3 { era := 1, fifo := [d], out := [ref] }

/-- The state in which the command of ring 3 is under way, and that command. -/
def s3 (s : State) : State := ((popDesc s 3 fun _ => true).getD (s, ⟨{}, [], 0⟩)).1
def c3 (s : State) : Cmd := ((popDesc s 3 fun _ => true).getD (s, ⟨{}, [], 0⟩)).2

/-- A session of the PF in context 2. -/
def sess0 : Context := { st := .opened, sid := 7, ring := 3, limit := 64, deadline := 900 }

/-- The image with one session. -/
def sessSt0 (x : Context) : State := hostOf (setCtx imgSt 2 x) [(0x1000, 4, 99), (0x1004, 4, 5)]

/-- A park block of session 7, of five tokens, in host memory. -/
def blockSt : State :=
  let s := hostOf imgSt [(0x8000, 4, 0x4B524150), (0x8004, 4, 1), (0x8008, 8, 77), (0x8012, 2, 7), (0x8018, 6, 5), (0x8020, 4, 64), (0x8028, 4, 900)]
  hostOf s [(0x80F8, 8, parkDigest s 0x8000 5)]

/-- As `ringSt`, with an earlier descriptor still out. -/
def fenceSt : State := let s := ringSt imgSt 0x30 0 []; setRing s 3 { ringOf s 3 with out := { ring := 3, idx := 4, era := 1 } :: (ringOf s 3).out }

/-- A suspended execution. -/
def susp0 : Suspended :=
  { rk := rk0, cyc := 40, exec := { kind := .runk, cyc := 40, frozen := 3, cur := some 0, rk := some rk0 }, live := 192, resuming := none }

/-- It is suspended in the package. -/
def suspSt : State := putSched imgSt { imgSt.sched with susp := some susp0 }

/-- A started transfer of a kind. -/
def xferSt (s : State) (k : XferKind) : State := putGener s { s.gener with xfers := [⟨k, true, 0⟩] }

/-- The reference of a command of ring 3. -/
def ref3 : CmdRef := { ring := 3, idx := 5, tag := 21, op := 0x21, era := 1 }

/-- An image in host memory: its header alone, of 256 bytes. -/
def imageSt : State :=
  let s := hostOf (putGener imgSt { imgSt.gener with image := none }) [(0x4000, 4, 0x4D495A47), (0x4004, 4, 1), (0x4008, 8, 256), (0x4010, 8, 77)]
  hostOf s [(0x40F8, 8, byteDigest (memRange s.host 0x4000 0xF8))]

/-- The load is under way. -/
def load0 : Loading := ⟨ref3, 0x4000, 256, 0, readHdr imageSt 0x4000⟩
def loadSt : State := regsOf (putGener imageSt { imageSt.gener with loading := some load0 }) [(Reg.glbIdent, 128 * 2 ^ 8)]
def img128 : Image := { group := [1 * 2 ^ 8, 128], ctxMax := 512, pages := 9 }

/-- A kernel block at a host or HBM address: one group, a layer descriptor and 128 plan records of nothing. -/
def blockMem0 : Mem := [(0x10000, 4, 2 ^ 20), (0x10000 + 44, 4, 96), (0x10000 + 64 + 4, 4, 0xFFFF)].foldl (fun m x => memPutNat m x.1 x.2.1 x.2.2) []

/-- The package at a level with the block and its clusters mapped. -/
def runSt (lvl : Nat) : State :=
  let s := regsOf (setCl imgSt 0 { logical := some 0 }) [(Reg.glbIdent, 128 * 2 ^ 8), (Reg.glbServiceLevel, lvl)]
  if lvl = 4 then putHbm s blockMem0 else putHost s blockMem0

/-- A public key and two signatures under it, made with OpenSSL: of a slot image of 256 zero bytes, and of a nonce of 1 to 48 with serial number 0. -/
def keyBytes : List Byte := beBytes 96 0x04be0f817742f988ffc6f0447832c929a1b37f57baae7ae9f69327f2843998786623ef52943506e1d58cc2414cb9383f6668778f6cff52629214f5e164e49ac786e6e4e5534ec622d2a5a5c348050388c35b8e1aad92b891eff3d78d59ec79b5
def fwSig : List Byte := beBytes 96 0x5ec21c03a5f237e84df0210629fc3577c655a9b796ee48177ab68d0ecd3830d3bdaa8b28d8396d11edcbe80708469241675b16204ec9090d38532597f6c2ff41ba0cc7a421c19cc3fab17f5ef2f0b992e48b98d0e236954c2c233a87099429e5
def nonceSig : List Byte := beBytes 96 0x9c47c5a2883b81d8f3fc6f19b00847449394d018f849ab2852342b72efb8ab1e2cf348c3d86b9194ab471383f9d040d1b6ba09a193b1e301158befbb1b86d31daabf50af6d9839175cf36917c0c92aa5164603311b631aa868f4e1be27e526ae

/-- A slot image of epoch 3 and its body of zeros. -/
def fwBytes : List Byte :=
  leBytes 4 0x57465A47 ++ leBytes 4 1 ++ leBytes 4 3 ++ leBytes 4 9 ++ leBytes 4 256 ++ leBytes 12 0 ++ keyBytes ++ fwSig
    ++ List.replicate 0x220 0

/-- The store holds the hash of that key for both uses. -/
def keySt (s : State) : State :=
  let h : List Nat := [0xC443A803, 0xB77D70BD, 0x179A586C, 0x440FA52C, 0x08C456D5, 0x7A0F44A3, 0xA4568E1E, 0xBD61825F, 0xB3E245D0, 0x4665CA04, 0xFCE630C0, 0x9A1758CA]
  putBoot s { s.boot with store := (List.range 24).map fun i => (0x20 + i, w32 (nthN h (i % 12))) }

/-- The listed cells of bytes from an address on. -/
def cellsOf : Nat → List Byte → Mem
  | _, [] => []
  | a, b :: bs => if b = 0 then cellsOf (a + 1) bs else (a, b) :: cellsOf (a + 1) bs

theorem memByte_cellsOf_low (a j : Nat) (bs : List Byte) (h : j < a) : memByte (cellsOf a bs) j = 0 := by
  induction bs generalizing a with
  | nil => rfl
  | cons b bs ih =>
    simp only [cellsOf]
    split
    · exact ih (a + 1) (by omega)
    · have := ih (a + 1) (by omega)
      simp only [memByte, smGet] at this ⊢
      rw [if_neg (by omega)]; exact this

theorem memByte_cellsOf (a i : Nat) (bs : List Byte) (h : i < bs.length) : memByte (cellsOf a bs) (a + i) = bs[i] := by
  induction bs generalizing a i with
  | nil => simp at h
  | cons b bs ih =>
    cases i with
    | zero =>
      simp only [cellsOf]
      split
      · next hb => simp [memByte_cellsOf_low, hb]
      · simp [memByte, smGet]
    | succ i =>
      have := ih (a + 1) i (by simpa using h)
      rw [show a + 1 + i = a + (i + 1) by omega] at this
      simp only [cellsOf]
      split
      · simpa using this
      · simp only [memByte, smGet] at this ⊢
        rw [if_neg (by omega)]; simpa using this

theorem memRange_cellsOf (a : Nat) (bs : List Byte) : memRange (cellsOf a bs) a bs.length = bs := by
  apply List.ext_getElem
  · simp [memRange]
  · intro i h1 h2
    simp [memRange, memByte_cellsOf a i bs h2]

theorem fwStatus_store (s t : State) (b : List Byte) (h : s.boot.store = t.boot.store) : fwStatus s b = fwStatus t b := by
  have hv : storeVal s = storeVal t := funext fun n => by unfold storeVal; rw [h]
  unfold fwStatus fwHeaderOk fwSigned keyOk; rw [hv]

theorem fwBytes_length : fwBytes.length = 768 := by decide +kernel

theorem memRange_fw (a : Nat) : memRange (cellsOf a fwBytes) a 768 = fwBytes := by
  have h := memRange_cellsOf a fwBytes
  rwa [fwBytes_length] at h

/-- The image is sound under that key. -/
theorem fwBytes_valid : fwStatus (keySt imgSt) fwBytes = 1 := by decide +kernel

/-- A slot that the image is programmed into is valid. -/
theorem slot_valid (s : State) (m : Mem) (slot : Nat) (hs : s.boot.store = (keySt imgSt).boot.store)
    (hm : s.boot.flash = flashStore m (slotBase slot) fwBytes) : slotStatus s slot = 1 := by
  have hn : leNat ((fwBytes.drop 0x10).take 4) = 256 := by decide +kernel
  have h1 := flashRange_flashStore (m := m) (a := slotBase slot) (i := 0x10) (n := 4) (bs := fwBytes) (by rw [fwBytes_length]; decide)
  have h2 := flashRange_flashStore (m := m) (a := slotBase slot) (i := 0) (n := 768) (bs := fwBytes) (by rw [fwBytes_length])
  rw [Nat.add_zero, List.drop_zero, List.take_of_length_le (by rw [fwBytes_length])] at h2
  have hb : slotBytes s slot = fwBytes := by
    unfold slotBytes
    rw [hm, h1, hn]
    exact h2
  unfold slotStatus; rw [hb, fwStatus_store s (keySt imgSt) _ hs]; exact fwBytes_valid

/-- The image in host memory. -/
def stageSt : State := let s := keySt imgSt; putHost s (cellsOf 0x20000 fwBytes)

/-- The image in a slot. -/
def slotSt (s : State) (slot : Nat) : State :=
  let t := keySt s
  putBoot t { t.boot with flash := flashStore [] (slotBase slot) fwBytes }

/-- The boundary of an image with times of its plans, three sessions in DECODE and other registers set. -/
def agreeSt (dl : Nat) (rs : List (Nat × Nat)) : State :=
  let d : Context := { sess0 with st := .decode, budget := 1, len := 5, pages := [0], hist := [(9, false, 0)], deadline := 2000 }
  let s := regsOf (putGener imgSt { imgSt.gener with atBoundary := true, gap := 40 }) ([(Reg.dlmFullD0, 100), (Reg.dlmFullSa, 7), (Reg.dlmFullFc, 3), (Reg.dlmExitD0, 50), (Reg.dlmExitSa, 2), (Reg.dlmExitFc, 1)] ++ rs)
  setCtx (setCtx (setCtx s 2 { d with accrued := 1000 }) 4 { d with sid := 8, pages := [1], deadline := dl }) 5 { d with sid := 9, pages := [2] }

/-- The boundary with one session, 64 pages of which all or none are free, and a test that admits one. -/
def oneSt (x : Context) (free : Nat) (rs : List (Nat × Nat)) (at_ : Bool) : State :=
  let s := regsOf (putGener imgSt { imgSt.gener with atBoundary := at_, again := true }) ([(Reg.kvpPages, free), (Reg.kvpFree, free), (Reg.sluImage, 4), (Reg.tilLimits, 0xFFFFFFFF)] ++ rs)
  setCtx s 2 x
def join3 : Join := ⟨ref3, false, 0, 0, false, false, 0⟩

/-- Port 2 is up and its peer accepted; registers beside. -/
def linkSt (xs : List (Nat × Nat)) : State := regsOf imgSt ([(onPage Reg.portCtl 2, 1), (onPage Reg.portStatus 2, 3 + 2 * 2 ^ 2)] ++ xs)

/-- The state in which a frame of port k is noted as accepted. -/
def notedOf (s : State) (k : Nat) (f : Frame) : State :=
  modPort (takeAck (noteRx s k f) k f) k (fun p => { p with rxSeq := f.seq, ackAt := some (p.ackAt.getD (s.count + 1250)) })

theorem accepted_of {s : State} {k kind : Nat} {f : Frame}
    (h : (portUp s k && frameFor s k f && hsOf s k == 2 && f.kind == kind && f.version == 1
      && f.seq == ((portOf (takeAck (noteRx s k f) k f) k).rxSeq + 1) % 2 ^ 16 && kindAllowed s k kind) = true) :
    Accepted s k kind f (notedOf s k f) := by
  simp only [Bool.and_eq_true, beq_iff_eq] at h
  exact ⟨h.1.1.1.1.1.1, h.1.1.1.1.1.2, h.1.1.1.1.2, h.1.1.1.2, h.1.1.2, h.1.2, rfl, h.2⟩

/-- The first frame of a peer, of a kind, with words 4 to 7 and a payload. -/
def frm (kind src w4 w5 w6 w7 : Nat) (pl : List Nat) : Frame := { kind := kind, seq := 1, dst := 2, src := src, w4 := w4, w5 := w5, w6 := w6, w7 := w7, payload := pl }

/-- An entry or a member of a group of n in a state of AZL.STATE, at position pos of entry 0, reached through port 2. -/
def grpSt (pos n az : Nat) (s : State) : State :=
  regsOf s [(Reg.azlCtl, 1), (Reg.azlMember, pos + n * 2 ^ 8), (Reg.azlState, az), (Reg.azlCtrl, 2), (onPage Reg.portCtl 2, 1),
    (onPage Reg.portStatus 2, 3 + 2 * 2 ^ 2)]

/-- The entry of a group of two, three or more, step 1 under way. -/
def entSt (n az : Nat) : State := modExec (grpSt 0 n az imgSt) fun e => { e with kind := .step, sRec := rec1 }

/-- Step 1 is done here. -/
def done1 : DoneStep := ⟨rec1, true, { step := 1 }, 0, true⟩

/-- Step 1 with one decode row. -/
def rec1b : StepRec := { rec1 with batch := [{ ctx := 2, rows := 1, decode := true }] }

/-- A HELLO of the same image and epoch, from port 6 of member 0; the port is up, its handshake not begun. -/
def helloFrm (w6 epoch : Nat) : Frame := { kind := 1, seq := 0, dst := 0x0180C200000E, epoch := epoch, group := 0, src := 0, w4 := 77, w5 := 0, w6 := w6 }
def upSt : State := regsOf imgSt [(onPage Reg.portCtl 2, 1), (onPage Reg.portStatus 2, 3), (Reg.dbgLsCtl, 1 + 2 * 2)]

/-- A reduction of layer 0, slot 1. -/
def red0 : Reduction := { slot := 1, layer := 0, width := 48, record := [0, 192] }

/-- An alternate group record and no shard map. -/
def alt0 : AltRoute := ⟨5, 3, 1, 2, [1 + 2 * 2 ^ 8], []⟩

/-- A damaged region of a section of 64 bytes. -/
def relSt (dg : Nat) : State :=
  let s := putGener imgSt { imgSt.gener with image := some { img0 with sections := [⟨0, 0x10000, 64, dg, []⟩] }, hdr := { host := 0x4000 } }
  putSched s { s.sched with reloads := [⟨0x10000, none, false⟩] }

/-- A state with the counter and the power state given. -/
def pwSt (xs : List (Nat × Nat)) (n : Nat) (p : Power) : State := putCount (putPower (regsOf imgSt xs) p) n

/-- Port 2 exchanges IEEE 1588; its side of the exchange is given. -/
def ptpSt (tol : Nat) (x : PtpSide) : State :=
  modPort (putCount (linkSt [(onPage Reg.portCtl 2, 9), (Reg.azlSyncTol, tol)]) 100) 2 fun p => { p with ptp := x }

/-- Temperature registers: HOLD_T 90.0 with hysteresis 2.0, HBM_HOLD_T 95.0, one period of 1,000 counts due. -/
def thmSt (xs : List (Nat × Nat)) (p : Power) : State :=
  putCount (putPower (regsOf imgSt ([(Reg.thmCtl, 1), (Reg.thmHoldT, 1440 + 32 * 2 ^ 16), (Reg.thmHbmHoldT, 1520), (Reg.thmStep, 10), (Reg.thmMaxLen, 25)] ++ xs)) p) 5003

/-- The Falbo die at a tick. -/
def fbSt (s : State) (ticks : Nat) (f : Frames) : State := setFalbo s { s.falbo with ticks := ticks, frames := f }

/-- Channel 3 of the wideband chain runs: order 3, R 4, no resampler. -/
def decSt (xs : List (Nat × Nat)) (ticks : Nat) (x : DecChan) : State :=
  setDecChan (fbSt (regsOf imgSt ([(Reg.snsStatus, 4), (decReg Reg.decActCfg 3, 3 + 4 * 16)] ++ xs)) ticks {}) 3 x

/-- The Falbo die works with AVDD in range; Weir 31 as given. -/
def wrSt (ticks : Nat) (x : Weir) : State := setWeir (fbSt (regsOf imgSt [(Reg.snsStatus, 5)]) ticks {}) 31 x

/-- Pulse generator 15 with its CTL, and registers beside. -/
def pgSt (ctl : Nat) (xs : List (Nat × Nat)) (p : Pulse) : State := putCount (setPulse (regsOf (wrSt 50 {}) ([(pgReg Reg.pgCtl 15, ctl)] ++ xs)) 15 p) 1000

/-- Ring 127 runs on queue 7 of the PF, and the link is up. -/
def rgSt (xs : List (Nat × Nat)) (g : Ring) : State :=
  setRing (regsOf imgSt ([(Reg.hifStatus, 1 + 2 ^ 9), (onPage Reg.cmqCtl 127, 1 + 7 * 2), (onPage Reg.cmqStatus 127, 1), (onPage Reg.cmqSize 127, 16),
    (onPage Reg.evqCtl 7, 1), (onPage Reg.evqSize 7, 16)] ++ xs)) 127 g

/-- With MSI-X of the PF enabled. -/
def msx (s : State) : State := modPcie s 0 fun c => { c with msixEn := true }

/-- A held token record of the PF. -/
def tok1 : TokRec := { ctx := 2, sid := 7, ring := 3, fn := 0, idx := 0, value := 9, exited := false, stop := false, limit := false, addr := some 0x1000, fin := none }

/-! ### Bring-up, the mailbox, registers and the debug port -/

/-- A state for `wit_BringUpRuns_drop`. -/
def wBringUpRuns_drop : State := regsOf (putPower imgSt { resetN := true }) [(Reg.glbResetCause, 3)]

theorem wit_BringUpRuns_drop : wBringUpRuns_drop.power.resetN = true ∧ wBringUpRuns_drop.boot.queue = [] := by decide +kernel

/-- A state for `wit_BringUpRuns_pll`. -/
def wBringUpRuns_pll : State := putPower State.reset { resetN := true }

theorem wit_BringUpRuns_pll : wBringUpRuns_pll.power.resetN = true ∧ wBringUpRuns_pll.power.pll = false := by decide +kernel

/-- The store with some registers set, before they are loaded. -/
def rawSt (xs : List (Nat × Word)) : State := let s := putPower State.reset { resetN := true, pll := true }; putBoot s { s.boot with store := xs }

/-- A state for `wit_BringUpRuns_load`. -/
def wBringUpRuns_load : State := rawSt [(0, 0x00018001), (0x44, 0x8000)]

theorem wit_BringUpRuns_load : wBringUpRuns_load.power.pll = true ∧ wBringUpRuns_load.boot.pstLoaded = false ∧ rbit (storeVal wBringUpRuns_load (0x40 + 143 / 32)) (143 % 32) = true := by decide +kernel

/-- A state for `wit_BringUpRuns_guard`. -/
def wBringUpRuns_guard : State := let s := rawSt [(0x50 + 62, 1), (0x51 + 62, 0x1000200), (0x90 + 30, 1), (0x91 + 30, 0x80000000)]; putBoot s { s.boot with pstLoaded := true }

theorem wit_BringUpRuns_guard : wBringUpRuns_guard.boot.pstLoaded = true ∧ svcLevel wBringUpRuns_guard = 0 ∧ bitN (storeVal wBringUpRuns_guard (0x50 + 2 * 31)).toNat 0 = true ∧ bitN (storeVal wBringUpRuns_guard (0x90 + 2 * 15)).toNat 0 = true := by decide +kernel

/-- A state for `wit_BringUpRuns_train`. -/
def wBringUpRuns_train : State := rawSt []

theorem wit_BringUpRuns_train : wBringUpRuns_train.power.pll = true := by decide +kernel

/-- Service level n. -/
def lvSt (s : State) (n : Nat) : State := regsOf s [(Reg.glbServiceLevel, n)]

/-- Flash whose slot 0 has a header with LENGTH 0. -/
def emptyFw : Mem := flashStore [] (slotBase 0 + 0x10) [0, 0, 0, 0]

/-- A slot of the flash whose header has LENGTH 0. -/
def noFw (s : State) (slots : List Nat) : State :=
  putBoot s { s.boot with flash := slots.foldl (fun m i => flashStore m (slotBase i + 0x10) [0, 0, 0, 0]) s.boot.flash }

/-- A state for `wit_BringUpRuns_boot_active`. -/
def wBringUpRuns_boot_active : State := slotSt (lvSt State.reset 1) 0

theorem wit_BringUpRuns_boot_active : svcLevel wBringUpRuns_boot_active = 1 ∧ activeSlot wBringUpRuns_boot_active = 0 ∧ slotStatus wBringUpRuns_boot_active (activeSlot wBringUpRuns_boot_active) = 1 := by
  have ha : activeSlot wBringUpRuns_boot_active = 0 := by decide +kernel
  rw [ha]; exact ⟨by decide +kernel, rfl, slot_valid _ [] _ (by decide +kernel) (by simp only [wBringUpRuns_boot_active, slotSt, putBoot_boot])⟩

/-- A state for `wit_BringUpRuns_boot_other`. -/
def wBringUpRuns_boot_other : State := let s := slotSt (lvSt State.reset 1) 1; putBoot s { s.boot with flash := flashStore emptyFw (slotBase 1) fwBytes }

theorem wit_BringUpRuns_boot_other : svcLevel wBringUpRuns_boot_other = 1 ∧ slotStatus wBringUpRuns_boot_other (activeSlot wBringUpRuns_boot_other) ≠ 1 ∧ slotStatus wBringUpRuns_boot_other (1 - activeSlot wBringUpRuns_boot_other) = 1 := by
  have ha : activeSlot wBringUpRuns_boot_other = 0 := by decide +kernel
  have hm : wBringUpRuns_boot_other.boot.flash = flashStore emptyFw (slotBase 1) fwBytes := by simp only [wBringUpRuns_boot_other, putBoot_boot]
  have hs : wBringUpRuns_boot_other.boot.store = (keySt imgSt).boot.store := by decide +kernel
  have hb : slotBytes wBringUpRuns_boot_other 0 = slotBytes (putBoot imgSt { imgSt.boot with flash := emptyFw }) 0 := by
    unfold slotBytes
    rw [hm, putBoot_boot, flashRange_flashStore_other (.inl (by simp only [slotBase]; omega)), flashRange_flashStore_other (.inl (by simp only [slotBase]; omega))]
  have h0 : slotStatus wBringUpRuns_boot_other 0 ≠ 1 := by
    unfold slotStatus; rw [hb, fwStatus_store _ (keySt imgSt) _ hs]; decide +kernel
  rw [ha]; exact ⟨by decide +kernel, h0, slot_valid _ emptyFw _ hs hm⟩

/-- A state for `wit_BringUpRuns_boot_recovery`. -/
def wBringUpRuns_boot_recovery : State := noFw (lvSt State.reset 1) [0, 1]

theorem wit_BringUpRuns_boot_recovery : svcLevel wBringUpRuns_boot_recovery = 1 ∧ slotStatus wBringUpRuns_boot_recovery (activeSlot wBringUpRuns_boot_recovery) ≠ 1 ∧ slotStatus wBringUpRuns_boot_recovery (1 - activeSlot wBringUpRuns_boot_recovery) ≠ 1 := by decide +kernel

/-- A state for `wit_BringUpRuns_narrow`. -/
def wBringUpRuns_narrow : State := let s := lvSt State.reset 2; putBoot s { s.boot with fwRunning := true }

theorem wit_BringUpRuns_narrow : svcLevel wBringUpRuns_narrow = 2 ∧ wBringUpRuns_narrow.boot.recovery = false ∧ wBringUpRuns_narrow.boot.fwRunning = true := by decide +kernel

/-- A state for `wit_BringUpRuns_full`. -/
def wBringUpRuns_full : State := lvSt State.reset 3

theorem wit_BringUpRuns_full : svcLevel wBringUpRuns_full = 3 ∧ bitN 0x1F 5 = false ∧ bitN 0x7F 7 = false := by decide +kernel

/-- A state for `wit_BringUpRuns_restart`. -/
def wBringUpRuns_restart : State := let s := slotSt (regsOf State.reset [(Reg.azlEpoch, 3 * 2 ^ 16)]) 1; putAzl s { s.azl with restarting := true }

theorem wit_BringUpRuns_restart : wBringUpRuns_restart.azl.restarting = true ∧ wBringUpRuns_restart.boot.fwRunning = false ∧ slotStatus wBringUpRuns_restart (inactiveSlot wBringUpRuns_restart) = 1 := by
  have ha : inactiveSlot wBringUpRuns_restart = 1 := by decide +kernel
  rw [ha]; exact ⟨rfl, rfl, slot_valid _ [] _ (by decide +kernel) (by simp only [wBringUpRuns_restart, slotSt, putAzl_boot, putBoot_boot])⟩

/-- A state for `wit_BringUpRuns_restart_old`. -/
def wBringUpRuns_restart_old : State := noFw (putAzl State.reset { restarting := true }) [0, 1]

theorem wit_BringUpRuns_restart_old : wBringUpRuns_restart_old.azl.restarting = true ∧ wBringUpRuns_restart_old.boot.fwRunning = false ∧ slotStatus wBringUpRuns_restart_old (inactiveSlot wBringUpRuns_restart_old) ≠ 1 := by decide +kernel

/-- A state for `wit_BringUpRuns_warm_5`. -/
def wBringUpRuns_warm_5 : State := let s := putCount (lvSt State.reset 5) 7; let s1 := putHif (putAzl (putPower s { s.power with leanEn := true }) { restarting := true }) { s.hif with held := [⟨0, 1, 3, 0, 0, 5, false, false, false, none, some (ref3, 0, 0, 0), true⟩, ⟨0, 1, 3, 0, 0, 6, false, false, false, none, some (ref3, 0, 0, 0), false⟩] }; putBoot s1 { s1.boot with staging := [(ref3, [])] }

theorem wit_BringUpRuns_warm_5 : smWf coldReg wBringUpRuns_warm_5.regs = true ∧ svcLevel wBringUpRuns_warm_5 = 5 := by decide +kernel

/-- A state for `wit_BringUpRuns_warm_2`. -/
def wBringUpRuns_warm_2 : State := let s := putCount (lvSt State.reset 2) 7; let s1 := putHif (putAzl (putPower s { s.power with leanEn := true }) { restarting := true }) { s.hif with held := [⟨0, 1, 3, 0, 0, 5, false, false, false, none, some (ref3, 0, 0, 0), true⟩, ⟨0, 1, 3, 0, 0, 6, false, false, false, none, some (ref3, 0, 0, 0), false⟩] }; putBoot s1 { s1.boot with staging := [(ref3, [])] }

theorem wit_BringUpRuns_warm_2 : smWf coldReg wBringUpRuns_warm_2.regs = true ∧ svcLevel wBringUpRuns_warm_2 = 2 := by decide +kernel

/-- A state for `wit_RegistersMailboxAndStoreRun_start_info`. -/
def wRegistersMailboxAndStoreRun_start_info : State := imgSt

theorem wit_RegistersMailboxAndStoreRun_start_info : 2 ≤ svcLevel wRegistersMailboxAndStoreRun_start_info ∧ wRegistersMailboxAndStoreRun_start_info.boot.mbox = none := by decide +kernel

/-- A state for `wit_RegistersMailboxAndStoreRun_start_flashRead`. -/
def wRegistersMailboxAndStoreRun_start_flashRead : State := imgSt

theorem wit_RegistersMailboxAndStoreRun_start_flashRead : 2 ≤ svcLevel wRegistersMailboxAndStoreRun_start_flashRead ∧ wRegistersMailboxAndStoreRun_start_flashRead.boot.mbox = none := by decide +kernel

/-- A state for `wit_RegistersMailboxAndStoreRun_start_flashProgram`. -/
def wRegistersMailboxAndStoreRun_start_flashProgram : State := imgSt

theorem wit_RegistersMailboxAndStoreRun_start_flashProgram : 2 ≤ svcLevel wRegistersMailboxAndStoreRun_start_flashProgram ∧ wRegistersMailboxAndStoreRun_start_flashProgram.boot.mbox = none := by decide +kernel

/-- A state for `wit_RegistersMailboxAndStoreRun_start_selectSlot`. -/
def wRegistersMailboxAndStoreRun_start_selectSlot : State := imgSt

theorem wit_RegistersMailboxAndStoreRun_start_selectSlot : 2 ≤ svcLevel wRegistersMailboxAndStoreRun_start_selectSlot ∧ wRegistersMailboxAndStoreRun_start_selectSlot.boot.mbox = none := by decide +kernel

/-- A state for `wit_RegistersMailboxAndStoreRun_early_cmds`. -/
def wRegistersMailboxAndStoreRun_early_cmds : State := lvSt State.reset 1

theorem wit_RegistersMailboxAndStoreRun_early_cmds : svcLevel wRegistersMailboxAndStoreRun_early_cmds < 2 := by decide +kernel

/-- A state for `wit_RegistersMailboxAndStoreRun_early_done`. -/
def wRegistersMailboxAndStoreRun_early_done : State := let s := lvSt State.reset 1; putBoot s { s.boot with mbox := some (1, 9) }

theorem wit_RegistersMailboxAndStoreRun_early_done : svcLevel wRegistersMailboxAndStoreRun_early_done < 2 := by decide +kernel

/-- A state for `wit_RegistersMailboxAndStoreRun_busy`. -/
def wRegistersMailboxAndStoreRun_busy : State := putBoot imgSt { imgSt.boot with mbox := some (1, 5) }

theorem wit_RegistersMailboxAndStoreRun_busy : wRegistersMailboxAndStoreRun_busy.boot.mbox ≠ none := by decide +kernel

/-- A state for `wit_RegistersMailboxAndStoreRun_info`. -/
def wRegistersMailboxAndStoreRun_info : State := regsOf (putBoot imgSt { imgSt.boot with mbox := some (1, 9), staging := [], flash := flashStore [] 0x200000 [5] }) [(Reg.mgtArg0, 0), (Reg.mgtArg1, 0)]

theorem wit_RegistersMailboxAndStoreRun_info : 2 ≤ svcLevel wRegistersMailboxAndStoreRun_info ∧ wRegistersMailboxAndStoreRun_info.boot.mbox = some (1, 9) := by decide +kernel

/-- A state for `wit_RegistersMailboxAndStoreRun_read`. -/
def wRegistersMailboxAndStoreRun_read : State := regsOf (putBoot imgSt { imgSt.boot with mbox := some (2, 9), staging := [], flash := flashStore [] 0x3FFFFD [5, 6, 7] }) [(Reg.mgtArg0, 0x3FFFFD), (Reg.mgtArg1, 3)]

theorem wit_RegistersMailboxAndStoreRun_read : 2 ≤ svcLevel wRegistersMailboxAndStoreRun_read ∧ wRegistersMailboxAndStoreRun_read.boot.mbox = some (2, 9) ∧ 0 < rdN wRegistersMailboxAndStoreRun_read Reg.mgtArg1 ∧ rdN wRegistersMailboxAndStoreRun_read Reg.mgtArg1 ≤ 2048 ∧ rdN wRegistersMailboxAndStoreRun_read Reg.mgtArg0 + rdN wRegistersMailboxAndStoreRun_read Reg.mgtArg1 ≤ 0x400000 := by decide +kernel

/-- A state for `wit_RegistersMailboxAndStoreRun_read_fails`. -/
def wRegistersMailboxAndStoreRun_read_fails : State := regsOf (putBoot imgSt { imgSt.boot with mbox := some (2, 9), staging := [], flash := [] }) [(Reg.mgtArg0, 0), (Reg.mgtArg1, 2048)]

theorem wit_RegistersMailboxAndStoreRun_read_fails : 2 ≤ svcLevel wRegistersMailboxAndStoreRun_read_fails ∧ wRegistersMailboxAndStoreRun_read_fails.boot.mbox = some (2, 9) ∧ 0 < rdN wRegistersMailboxAndStoreRun_read_fails Reg.mgtArg1 ∧ rdN wRegistersMailboxAndStoreRun_read_fails Reg.mgtArg1 ≤ 2048 ∧ rdN wRegistersMailboxAndStoreRun_read_fails Reg.mgtArg0 + rdN wRegistersMailboxAndStoreRun_read_fails Reg.mgtArg1 ≤ 0x400000 := by decide +kernel

/-- A state for `wit_RegistersMailboxAndStoreRun_program`. -/
def wRegistersMailboxAndStoreRun_program : State := regsOf (putBoot imgSt { imgSt.boot with mbox := some (3, 9), staging := [], flash := flashStore [] 0x3FFFFE [5, 6] }) [(Reg.mgtArg0, 0x3FFFFE), (Reg.mgtArg1, 2)]

theorem wit_RegistersMailboxAndStoreRun_program : 2 ≤ svcLevel wRegistersMailboxAndStoreRun_program ∧ wRegistersMailboxAndStoreRun_program.boot.mbox = some (3, 9) ∧ 0 < rdN wRegistersMailboxAndStoreRun_program Reg.mgtArg1 ∧ rdN wRegistersMailboxAndStoreRun_program Reg.mgtArg1 ≤ 2048 ∧ rdN wRegistersMailboxAndStoreRun_program Reg.mgtArg0 + rdN wRegistersMailboxAndStoreRun_program Reg.mgtArg1 ≤ 0x400000 ∧ wRegistersMailboxAndStoreRun_program.boot.recovery = false ∧ inSlot (rdN wRegistersMailboxAndStoreRun_program Reg.mgtArg0) (rdN wRegistersMailboxAndStoreRun_program Reg.mgtArg1) (inactiveSlot wRegistersMailboxAndStoreRun_program) = true ∧ wRegistersMailboxAndStoreRun_program.boot.staging = [] := by decide +kernel

/-- A state for `wit_RegistersMailboxAndStoreRun_program_staging`. -/
def wRegistersMailboxAndStoreRun_program_staging : State := regsOf (putBoot imgSt { imgSt.boot with mbox := some (3, 9), staging := [(ref3, [])], flash := [] }) [(Reg.mgtArg0, 0x3FFFFE), (Reg.mgtArg1, 2)]

theorem wit_RegistersMailboxAndStoreRun_program_staging : 2 ≤ svcLevel wRegistersMailboxAndStoreRun_program_staging ∧ wRegistersMailboxAndStoreRun_program_staging.boot.mbox = some (3, 9) ∧ 0 < rdN wRegistersMailboxAndStoreRun_program_staging Reg.mgtArg1 ∧ rdN wRegistersMailboxAndStoreRun_program_staging Reg.mgtArg1 ≤ 2048 ∧ rdN wRegistersMailboxAndStoreRun_program_staging Reg.mgtArg0 + rdN wRegistersMailboxAndStoreRun_program_staging Reg.mgtArg1 ≤ 0x400000 ∧ wRegistersMailboxAndStoreRun_program_staging.boot.recovery = false ∧ wRegistersMailboxAndStoreRun_program_staging.boot.staging ≠ [] := by decide +kernel

/-- A state for `wit_RegistersMailboxAndStoreRun_program_denied`. -/
def wRegistersMailboxAndStoreRun_program_denied : State := regsOf (putBoot imgSt { imgSt.boot with mbox := some (3, 9), staging := [], flash := [] }) [(Reg.mgtArg0, 0x1FFFFF), (Reg.mgtArg1, 2)]

theorem wit_RegistersMailboxAndStoreRun_program_denied : 2 ≤ svcLevel wRegistersMailboxAndStoreRun_program_denied ∧ wRegistersMailboxAndStoreRun_program_denied.boot.mbox = some (3, 9) ∧ 0 < rdN wRegistersMailboxAndStoreRun_program_denied Reg.mgtArg1 ∧ rdN wRegistersMailboxAndStoreRun_program_denied Reg.mgtArg1 ≤ 2048 ∧ rdN wRegistersMailboxAndStoreRun_program_denied Reg.mgtArg0 + rdN wRegistersMailboxAndStoreRun_program_denied Reg.mgtArg1 ≤ 0x400000 ∧ wRegistersMailboxAndStoreRun_program_denied.boot.recovery = false ∧ inSlot (rdN wRegistersMailboxAndStoreRun_program_denied Reg.mgtArg0) (rdN wRegistersMailboxAndStoreRun_program_denied Reg.mgtArg1) (inactiveSlot wRegistersMailboxAndStoreRun_program_denied) = false := by decide +kernel

/-- A state for `wit_RegistersMailboxAndStoreRun_range_none`. -/
def wRegistersMailboxAndStoreRun_range_none : State := regsOf (putBoot imgSt { imgSt.boot with mbox := some (2, 9), staging := [], flash := [] }) [(Reg.mgtArg0, 0), (Reg.mgtArg1, 0)]

theorem wit_RegistersMailboxAndStoreRun_range_none : 2 ≤ svcLevel wRegistersMailboxAndStoreRun_range_none ∧ wRegistersMailboxAndStoreRun_range_none.boot.mbox = some (2, 9) ∧ ¬ (0 < rdN wRegistersMailboxAndStoreRun_range_none Reg.mgtArg1 ∧ rdN wRegistersMailboxAndStoreRun_range_none Reg.mgtArg1 ≤ 2048 ∧ rdN wRegistersMailboxAndStoreRun_range_none Reg.mgtArg0 + rdN wRegistersMailboxAndStoreRun_range_none Reg.mgtArg1 ≤ 0x400000) := by decide +kernel

/-- A state for `wit_RegistersMailboxAndStoreRun_range_long`. -/
def wRegistersMailboxAndStoreRun_range_long : State := regsOf (putBoot imgSt { imgSt.boot with mbox := some (2, 9), staging := [], flash := [] }) [(Reg.mgtArg0, 0), (Reg.mgtArg1, 2049)]

theorem wit_RegistersMailboxAndStoreRun_range_long : 2 ≤ svcLevel wRegistersMailboxAndStoreRun_range_long ∧ wRegistersMailboxAndStoreRun_range_long.boot.mbox = some (2, 9) ∧ ¬ (0 < rdN wRegistersMailboxAndStoreRun_range_long Reg.mgtArg1 ∧ rdN wRegistersMailboxAndStoreRun_range_long Reg.mgtArg1 ≤ 2048 ∧ rdN wRegistersMailboxAndStoreRun_range_long Reg.mgtArg0 + rdN wRegistersMailboxAndStoreRun_range_long Reg.mgtArg1 ≤ 0x400000) := by decide +kernel

/-- A state for `wit_RegistersMailboxAndStoreRun_range_end`. -/
def wRegistersMailboxAndStoreRun_range_end : State := regsOf (putBoot imgSt { imgSt.boot with mbox := some (2, 9), staging := [], flash := [] }) [(Reg.mgtArg0, 0x3FFFFE), (Reg.mgtArg1, 3)]

theorem wit_RegistersMailboxAndStoreRun_range_end : 2 ≤ svcLevel wRegistersMailboxAndStoreRun_range_end ∧ wRegistersMailboxAndStoreRun_range_end.boot.mbox = some (2, 9) ∧ ¬ (0 < rdN wRegistersMailboxAndStoreRun_range_end Reg.mgtArg1 ∧ rdN wRegistersMailboxAndStoreRun_range_end Reg.mgtArg1 ≤ 2048 ∧ rdN wRegistersMailboxAndStoreRun_range_end Reg.mgtArg0 + rdN wRegistersMailboxAndStoreRun_range_end Reg.mgtArg1 ≤ 0x400000) := by decide +kernel

/-- A state for `wit_RegistersMailboxAndStoreRun_select_bad`. -/
def wRegistersMailboxAndStoreRun_select_bad : State := regsOf (putBoot imgSt { imgSt.boot with mbox := some (4, 9), staging := [], flash := flashStore [] 0x200010 [0, 0, 0, 0] }) [(Reg.mgtArg0, 1), (Reg.mgtArg1, 0)]

theorem wit_RegistersMailboxAndStoreRun_select_bad : 2 ≤ svcLevel wRegistersMailboxAndStoreRun_select_bad ∧ wRegistersMailboxAndStoreRun_select_bad.boot.mbox = some (4, 9) ∧ slotStatus wRegistersMailboxAndStoreRun_select_bad (rdN wRegistersMailboxAndStoreRun_select_bad Reg.mgtArg0 % 2) ≠ 1 := by decide +kernel

/-- A state for `wit_RegistersMailboxAndStoreRun_select`. -/
def wRegistersMailboxAndStoreRun_select : State := let s := slotSt (regsOf imgSt [(Reg.mgtArg0, 1)]) 1; putBoot s { s.boot with mbox := some (4, 9) }

theorem wit_RegistersMailboxAndStoreRun_select : 2 ≤ svcLevel wRegistersMailboxAndStoreRun_select ∧ wRegistersMailboxAndStoreRun_select.boot.mbox = some (4, 9) ∧ wRegistersMailboxAndStoreRun_select.boot.queue.length < 8 ∧ slotStatus wRegistersMailboxAndStoreRun_select (rdN wRegistersMailboxAndStoreRun_select Reg.mgtArg0 % 2) = 1 := by
  have ha : rdN wRegistersMailboxAndStoreRun_select Reg.mgtArg0 % 2 = 1 := by decide +kernel
  rw [ha]; exact ⟨by decide +kernel, rfl, by decide +kernel, slot_valid _ [] _ (by decide +kernel) (by simp only [wRegistersMailboxAndStoreRun_select, slotSt, putBoot_boot])⟩

/-- A state for `wit_RegistersMailboxAndStoreRun_store_denied`. -/
def wRegistersMailboxAndStoreRun_store_denied : State := imgSt

theorem wit_RegistersMailboxAndStoreRun_store_denied : storeDenied wRegistersMailboxAndStoreRun_store_denied 0x3F ((5 : Word) &&& storeMask 0x3F) = true := by decide +kernel

/-- A state for `wit_RegistersMailboxAndStoreRun_store_full`. -/
def wRegistersMailboxAndStoreRun_store_full : State := putBoot imgSt { imgSt.boot with queue := [⟨0x60, 0, true⟩, ⟨0x60, 1, true⟩, ⟨0x60, 2, true⟩, ⟨0x60, 3, true⟩, ⟨0x60, 4, true⟩, ⟨0x60, 5, true⟩, ⟨0x60, 6, true⟩, ⟨0x60, 7, true⟩] }

theorem wit_RegistersMailboxAndStoreRun_store_full : storeDenied wRegistersMailboxAndStoreRun_store_full 0xFF ((5 : Word) &&& storeMask 0xFF) = false ∧ 8 ≤ wRegistersMailboxAndStoreRun_store_full.boot.queue.length := by decide +kernel

/-- A state for `wit_RegistersMailboxAndStoreRun_store_queued`. -/
def wRegistersMailboxAndStoreRun_store_queued : State := putBoot imgSt { imgSt.boot with queue := [⟨0x60, 0, true⟩, ⟨0x60, 1, true⟩, ⟨0x60, 2, true⟩, ⟨0x60, 3, true⟩, ⟨0x60, 4, true⟩, ⟨0x60, 5, true⟩, ⟨0x60, 6, true⟩] }

theorem wit_RegistersMailboxAndStoreRun_store_queued : storeDenied wRegistersMailboxAndStoreRun_store_queued 0x4D ((0x10005 : Word) &&& storeMask 0x4D) = false ∧ wRegistersMailboxAndStoreRun_store_queued.boot.queue.length < 8 := by decide +kernel

/-- A state for `wit_RegistersMailboxAndStoreRun_done_same`. -/
def wRegistersMailboxAndStoreRun_done_same : State := putBoot imgSt { imgSt.boot with queue := [⟨0x60, 0, true⟩, ⟨0x61, 1, true⟩] }

theorem wit_RegistersMailboxAndStoreRun_done_same : wRegistersMailboxAndStoreRun_done_same.boot.queue = ⟨0x60, 0, true⟩ :: [⟨0x61, 1, true⟩] ∧ storeVal wRegistersMailboxAndStoreRun_done_same 0x60 = 0 := by decide +kernel

/-- A state for `wit_RegistersMailboxAndStoreRun_done_done`. -/
def wRegistersMailboxAndStoreRun_done_done : State := putBoot imgSt { imgSt.boot with queue := [⟨0x60, 5, true⟩, ⟨0x61, 1, true⟩] }

theorem wit_RegistersMailboxAndStoreRun_done_done : wRegistersMailboxAndStoreRun_done_done.boot.queue = ⟨0x60, 5, true⟩ :: [⟨0x61, 1, true⟩] ∧ storeVal wRegistersMailboxAndStoreRun_done_done 0x60 ≠ 5 := by decide +kernel

/-- A state for `wit_RegistersMailboxAndStoreRun_done_fails`. -/
def wRegistersMailboxAndStoreRun_done_fails : State := putBoot imgSt { imgSt.boot with queue := [⟨0x60, 5, true⟩, ⟨0x61, 1, true⟩] }

theorem wit_RegistersMailboxAndStoreRun_done_fails : wRegistersMailboxAndStoreRun_done_fails.boot.queue = ⟨0x60, 5, true⟩ :: [⟨0x61, 1, true⟩] ∧ storeVal wRegistersMailboxAndStoreRun_done_fails 0x60 ≠ 5 := by decide +kernel

/-- A state for `wit_RegistersMailboxAndStoreRun_count`. -/
def wRegistersMailboxAndStoreRun_count : State := putCount (lvSt imgSt 2) 0x1234567890ABCDEF

theorem wit_RegistersMailboxAndStoreRun_count : 2 ≤ svcLevel wRegistersMailboxAndStoreRun_count ∧ fnAsleep wRegistersMailboxAndStoreRun_count 0 = false := by decide +kernel

/-- A state for `wit_RegistersMailboxAndStoreRun_readReg`. -/
def wRegistersMailboxAndStoreRun_readReg : State := regsOf imgSt [(Reg.pageSch + 0x1C, 4)]

theorem wit_RegistersMailboxAndStoreRun_readReg : 2 ≤ svcLevel wRegistersMailboxAndStoreRun_readReg ∧ fnAsleep wRegistersMailboxAndStoreRun_readReg 0 = false ∧ (Reg.pageSch + 0x1C) % 4 = 0 ∧ target wRegistersMailboxAndStoreRun_readReg 0 (Reg.pageSch + 0x1C) = .reg (Reg.pageSch + 0x1C) := by decide +kernel

/-- A state for `wit_RegistersMailboxAndStoreRun_readBad`. -/
def wRegistersMailboxAndStoreRun_readBad : State := imgSt

theorem wit_RegistersMailboxAndStoreRun_readBad : 2 ≤ svcLevel wRegistersMailboxAndStoreRun_readBad ∧ fnAsleep wRegistersMailboxAndStoreRun_readBad 0 = false ∧ 4 % (if true = true then 8 else 4) ≠ 0 := by decide +kernel

/-- A state for `wit_RegistersMailboxAndStoreRun_readEarly`. -/
def wRegistersMailboxAndStoreRun_readEarly : State := lvSt State.reset 1

theorem wit_RegistersMailboxAndStoreRun_readEarly : svcLevel wRegistersMailboxAndStoreRun_readEarly < 2 := by decide +kernel

/-- A state for `wit_RegistersMailboxAndStoreRun_softReset`. -/
def wRegistersMailboxAndStoreRun_softReset : State := regsOf imgSt [(Reg.pageSch + 0x14, 3), (Reg.pageSch + 0x1C, 4)]

theorem wit_RegistersMailboxAndStoreRun_softReset : 2 ≤ svcLevel wRegistersMailboxAndStoreRun_softReset ∧ fnAsleep wRegistersMailboxAndStoreRun_softReset 0 = false ∧ target wRegistersMailboxAndStoreRun_softReset 0 (pageBase Reg.pageSch) = .reg Reg.pageSch ∧ (pageOf Reg.pageSch).isSome = true ∧ pageBase Reg.pageSch = Reg.pageSch ∧ smGet (dflt 0) wRegistersMailboxAndStoreRun_softReset.hw (Reg.pageSch + 0x14) = 0 := by decide +kernel

/-- A state for `wit_RegistersMailboxAndStoreRun_freeze_true`. -/
def wRegistersMailboxAndStoreRun_freeze_true : State := regsOf imgSt [(Reg.pageSch + 0x1C, 4), (Reg.pageSch + 8, 0)]

theorem wit_RegistersMailboxAndStoreRun_freeze_true : 2 ≤ svcLevel wRegistersMailboxAndStoreRun_freeze_true ∧ fnAsleep wRegistersMailboxAndStoreRun_freeze_true 0 = false ∧ target wRegistersMailboxAndStoreRun_freeze_true 0 (pageBase Reg.pageSch) = .reg Reg.pageSch ∧ (pageOf Reg.pageSch).isSome = true ∧ pageBase Reg.pageSch = Reg.pageSch ∧ rdB wRegistersMailboxAndStoreRun_freeze_true (Reg.pageSch + 8) 2 = false := by decide +kernel

/-- A state for `wit_RegistersMailboxAndStoreRun_freeze_false`. -/
def wRegistersMailboxAndStoreRun_freeze_false : State := regsOf imgSt [(Reg.pageSch + 0x1C, 4), (Reg.pageSch + 8, 4)]

theorem wit_RegistersMailboxAndStoreRun_freeze_false : 2 ≤ svcLevel wRegistersMailboxAndStoreRun_freeze_false ∧ fnAsleep wRegistersMailboxAndStoreRun_freeze_false 0 = false ∧ target wRegistersMailboxAndStoreRun_freeze_false 0 (pageBase Reg.pageSch) = .reg Reg.pageSch ∧ (pageOf Reg.pageSch).isSome = true ∧ pageBase Reg.pageSch = Reg.pageSch ∧ rdB wRegistersMailboxAndStoreRun_freeze_false (Reg.pageSch + 8) 2 = true := by decide +kernel

/-- A state for `wit_RegistersMailboxAndStoreRun_evtset`. -/
def wRegistersMailboxAndStoreRun_evtset : State := imgSt

theorem wit_RegistersMailboxAndStoreRun_evtset : 2 ≤ svcLevel wRegistersMailboxAndStoreRun_evtset ∧ fnAsleep wRegistersMailboxAndStoreRun_evtset 0 = false ∧ target wRegistersMailboxAndStoreRun_evtset 0 (pageBase Reg.pageSch) = .reg Reg.pageSch ∧ (pageOf Reg.pageSch).isSome = true ∧ pageBase Reg.pageSch = Reg.pageSch ∧ ((pageOf Reg.pageSch).map fun p => bitN p.evt 0) = some true ∧ rbit (1 : Word) 0 = true := by decide +kernel

/-- A state for `wit_RegistersMailboxAndStoreRun_write_evten`. -/
def wRegistersMailboxAndStoreRun_write_evten : State := regsOf imgSt [(Reg.pageSch + 0x14, 3)]

theorem wit_RegistersMailboxAndStoreRun_write_evten : 2 ≤ svcLevel wRegistersMailboxAndStoreRun_write_evten ∧ fnAsleep wRegistersMailboxAndStoreRun_write_evten 0 = false ∧ (Reg.pageSch + 0x10) % 4 = 0 ∧ target wRegistersMailboxAndStoreRun_write_evten 0 (Reg.pageSch + 0x10) = .reg (Reg.pageSch + 0x10) ∧ (pageOf (Reg.pageSch + 0x10)).isSome = true ∧ (Reg.pageSch + 0x10) % 0x1000 = 0x010 ∧ smGet (dflt 0) wRegistersMailboxAndStoreRun_write_evten.hw (Reg.pageSch + 0x10) = 0 := by decide +kernel

/-- A state for `wit_RegistersMailboxAndStoreRun_write_evtsta`. -/
def wRegistersMailboxAndStoreRun_write_evtsta : State := regsOf imgSt [(Reg.pageSch + 0x14, 3)]

theorem wit_RegistersMailboxAndStoreRun_write_evtsta : 2 ≤ svcLevel wRegistersMailboxAndStoreRun_write_evtsta ∧ fnAsleep wRegistersMailboxAndStoreRun_write_evtsta 0 = false ∧ (Reg.pageSch + 0x14) % 4 = 0 ∧ target wRegistersMailboxAndStoreRun_write_evtsta 0 (Reg.pageSch + 0x14) = .reg (Reg.pageSch + 0x14) ∧ (pageOf (Reg.pageSch + 0x14)).isSome = true ∧ (Reg.pageSch + 0x14) % 0x1000 = 0x014 ∧ smGet (dflt 0) wRegistersMailboxAndStoreRun_write_evtsta.hw (Reg.pageSch + 0x14) = 0 := by decide +kernel

/-- A state for `wit_RegistersMailboxAndStoreRun_unsupported_narrow`. -/
def wRegistersMailboxAndStoreRun_unsupported_narrow : State := imgSt

theorem wit_RegistersMailboxAndStoreRun_unsupported_narrow : 2 ≤ svcLevel wRegistersMailboxAndStoreRun_unsupported_narrow ∧ fnAsleep wRegistersMailboxAndStoreRun_unsupported_narrow 0 = false ∧ 2 % (if false = true then 8 else 4) ≠ 0 := by decide +kernel

/-- A state for `wit_RegistersMailboxAndStoreRun_unsupported_wide`. -/
def wRegistersMailboxAndStoreRun_unsupported_wide : State := imgSt

theorem wit_RegistersMailboxAndStoreRun_unsupported_wide : 2 ≤ svcLevel wRegistersMailboxAndStoreRun_unsupported_wide ∧ fnAsleep wRegistersMailboxAndStoreRun_unsupported_wide 0 = false ∧ 4 % (if true = true then 8 else 4) ≠ 0 := by decide +kernel

/-- A state for `wit_RegistersMailboxAndStoreRun_early`. -/
def wRegistersMailboxAndStoreRun_early : State := lvSt State.reset 1

theorem wit_RegistersMailboxAndStoreRun_early : svcLevel wRegistersMailboxAndStoreRun_early < 2 := by decide +kernel

/-- The package is unlocked at count 50. -/
def dbSt (xs : List (Nat × Nat)) (p : Debug) (h : Bool) : State := let s := putCount (putDbgp (regsOf imgSt ([(Reg.dbgLock, 1)] ++ xs)) p) 50; putSched s { s.sched with halted := h }

/-- A state for `wit_DebugHaltsRun_locked`. -/
def wDebugHaltsRun_locked : State := imgSt

theorem wit_DebugHaltsRun_locked : unlocked wDebugHaltsRun_locked = false := by decide +kernel

/-- A state for `wit_DebugHaltsRun_now`. -/
def wDebugHaltsRun_now : State := dbSt [] {} false

theorem wit_DebugHaltsRun_now : unlocked wDebugHaltsRun_now = true ∧ wDebugHaltsRun_now.sched.halted = false ∧ wDebugHaltsRun_now.dbgp.halt = none := by decide +kernel

/-- A state for `wit_DebugHaltsRun_at_due`. -/
def wDebugHaltsRun_at_due : State := dbSt [(Reg.dbgHaltCtl, 4), (Reg.dbgHaltAtLo, 50)] {} false

theorem wit_DebugHaltsRun_at_due : unlocked wDebugHaltsRun_at_due = true ∧ rdB wDebugHaltsRun_at_due Reg.dbgHaltCtl 2 = true ∧ wDebugHaltsRun_at_due.sched.halted = false ∧ rd64 wDebugHaltsRun_at_due Reg.dbgHaltAtLo = wDebugHaltsRun_at_due.count := by decide +kernel

/-- A state for `wit_DebugHaltsRun_at_ahead`. -/
def wDebugHaltsRun_at_ahead : State := dbSt [(Reg.dbgHaltCtl, 4), (Reg.dbgHaltAtLo, 51)] {} false

theorem wit_DebugHaltsRun_at_ahead : unlocked wDebugHaltsRun_at_ahead = true ∧ rdB wDebugHaltsRun_at_ahead Reg.dbgHaltCtl 2 = true ∧ wDebugHaltsRun_at_ahead.sched.halted = false ∧ wDebugHaltsRun_at_ahead.count < rd64 wDebugHaltsRun_at_ahead Reg.dbgHaltAtLo := by decide +kernel

/-- A state for `wit_DebugHaltsRun_at_passed`. -/
def wDebugHaltsRun_at_passed : State := dbSt [(Reg.dbgHaltCtl, 4), (Reg.dbgHaltAtLo, 49)] {} false

theorem wit_DebugHaltsRun_at_passed : unlocked wDebugHaltsRun_at_passed = true ∧ rdB wDebugHaltsRun_at_passed Reg.dbgHaltCtl 2 = true ∧ wDebugHaltsRun_at_passed.sched.halted = false ∧ rd64 wDebugHaltsRun_at_passed Reg.dbgHaltAtLo < wDebugHaltsRun_at_passed.count ∧ wDebugHaltsRun_at_passed.dbgp.halt = none := by decide +kernel

/-- A state for `wit_DebugHaltsRun_noResume`. -/
def wDebugHaltsRun_noResume : State := dbSt [(Reg.dbgLsStatus, 2)] {} true

theorem wit_DebugHaltsRun_noResume : mayResume wDebugHaltsRun_noResume = false := by decide +kernel

/-- A state for `wit_DebugHaltsRun_resume`. -/
def wDebugHaltsRun_resume : State := dbSt [] { halt := some { h := 40, cause := 1 }, stepMode := some 0, stepHaltAt := some 3 } true

theorem wit_DebugHaltsRun_resume : mayResume wDebugHaltsRun_resume = true ∧ rdB wDebugHaltsRun_resume Reg.dbgHaltCtl 3 = false := by decide +kernel

/-- A state for `wit_DebugHaltsRun_resumeAt`. -/
def wDebugHaltsRun_resumeAt : State := dbSt [(Reg.dbgHaltCtl, 8), (Reg.dbgResumeAtLo, 50), (Reg.dbgHaltStatus, 3)] { halt := some { h := 40, cause := 1 } } true

theorem wit_DebugHaltsRun_resumeAt : mayResume wDebugHaltsRun_resumeAt = true ∧ rdB wDebugHaltsRun_resumeAt Reg.dbgHaltCtl 3 = true ∧ rd64 wDebugHaltsRun_resumeAt Reg.dbgResumeAtLo ≤ wDebugHaltsRun_resumeAt.count ∧ wDebugHaltsRun_resumeAt.dbgp.halt = some { h := 40, cause := 1 } ∧ wDebugHaltsRun_resumeAt.lock.rewindStep = none := by decide +kernel

/-- A state for `wit_DebugHaltsRun_step_0_3`. -/
def wDebugHaltsRun_step_0_3 : State := dbSt [(Reg.dbgStep, 0), (Reg.dbgStepN, 3)] { halt := some { h := 40, cause := 1 } } true

theorem wit_DebugHaltsRun_step_0_3 : unlocked wDebugHaltsRun_step_0_3 = true ∧ wDebugHaltsRun_step_0_3.sched.halted = true ∧ rdN wDebugHaltsRun_step_0_3 Reg.dbgStepN = 3 ∧ rdF wDebugHaltsRun_step_0_3 Reg.dbgStep 1 0 = 0 := by decide +kernel

/-- A state for `wit_DebugHaltsRun_step_1_3`. -/
def wDebugHaltsRun_step_1_3 : State := dbSt [(Reg.dbgStep, 1), (Reg.dbgStepN, 3)] { halt := some { h := 40, cause := 1 } } true

theorem wit_DebugHaltsRun_step_1_3 : unlocked wDebugHaltsRun_step_1_3 = true ∧ wDebugHaltsRun_step_1_3.sched.halted = true ∧ rdN wDebugHaltsRun_step_1_3 Reg.dbgStepN = 3 ∧ rdF wDebugHaltsRun_step_1_3 Reg.dbgStep 1 0 = 1 := by decide +kernel

/-- A state for `wit_DebugHaltsRun_step_1_0`. -/
def wDebugHaltsRun_step_1_0 : State := dbSt [(Reg.dbgStep, 1), (Reg.dbgStepN, 0)] { halt := some { h := 40, cause := 1 } } true

theorem wit_DebugHaltsRun_step_1_0 : unlocked wDebugHaltsRun_step_1_0 = true ∧ wDebugHaltsRun_step_1_0.sched.halted = true ∧ rdN wDebugHaltsRun_step_1_0 Reg.dbgStepN = 0 ∧ rdF wDebugHaltsRun_step_1_0 Reg.dbgStep 1 0 = 1 := by decide +kernel

/-- A state for `wit_DebugHaltsRun_step_2_0`. -/
def wDebugHaltsRun_step_2_0 : State := dbSt [(Reg.dbgStep, 2), (Reg.dbgStepN, 0)] { halt := some { h := 40, cause := 1 } } true

theorem wit_DebugHaltsRun_step_2_0 : unlocked wDebugHaltsRun_step_2_0 = true ∧ wDebugHaltsRun_step_2_0.sched.halted = true ∧ rdN wDebugHaltsRun_step_2_0 Reg.dbgStepN = 0 ∧ rdF wDebugHaltsRun_step_2_0 Reg.dbgStep 1 0 = 2 := by decide +kernel

/-- A state for `wit_DebugHaltsRun_step_3_0`. -/
def wDebugHaltsRun_step_3_0 : State := dbSt [(Reg.dbgStep, 3), (Reg.dbgStepN, 0)] { halt := some { h := 40, cause := 1 } } true

theorem wit_DebugHaltsRun_step_3_0 : unlocked wDebugHaltsRun_step_3_0 = true ∧ wDebugHaltsRun_step_3_0.sched.halted = true ∧ rdN wDebugHaltsRun_step_3_0 Reg.dbgStepN = 0 ∧ rdF wDebugHaltsRun_step_3_0 Reg.dbgStep 1 0 = 3 := by decide +kernel

/-- A state for `wit_DebugHaltsRun_stepDone`. -/
def wDebugHaltsRun_stepDone : State := dbSt [] { stepHaltAt := some 50 } false

theorem wit_DebugHaltsRun_stepDone : wDebugHaltsRun_stepDone.dbgp.stepHaltAt = some 50 ∧ wDebugHaltsRun_stepDone.sched.halted = false ∧ 50 ≤ wDebugHaltsRun_stepDone.count := by decide +kernel

/-- A state for `wit_DebugHaltsRun_acc_locked`. -/
def wDebugHaltsRun_acc_locked : State := regsOf imgSt [(Reg.dbgAccCmd, 5 * 4)]

theorem wit_DebugHaltsRun_acc_locked : rfld (rdReg wDebugHaltsRun_acc_locked Reg.dbgAccCmd) 4 2 ≤ 5 ∧ unlocked wDebugHaltsRun_acc_locked = false := by decide +kernel

/-- A state for `wit_DebugHaltsRun_acc_running`. -/
def wDebugHaltsRun_acc_running : State := dbSt [(Reg.dbgAccCmd, 4 * 4)] {} false

theorem wit_DebugHaltsRun_acc_running : rfld (rdReg wDebugHaltsRun_acc_running Reg.dbgAccCmd) 4 2 ≤ 4 ∧ unlocked wDebugHaltsRun_acc_running = true ∧ wDebugHaltsRun_acc_running.sched.halted = false ∧ rbit (rdReg wDebugHaltsRun_acc_running Reg.dbgAccCmd) 1 = false := by decide +kernel

/-- A state for `wit_DebugHaltsRun_acc_running_write`. -/
def wDebugHaltsRun_acc_running_write : State := dbSt [(Reg.dbgAccCmd, 4 * 4 + 2)] {} false

theorem wit_DebugHaltsRun_acc_running_write : rfld (rdReg wDebugHaltsRun_acc_running_write Reg.dbgAccCmd) 4 2 ≤ 4 ∧ unlocked wDebugHaltsRun_acc_running_write = true ∧ wDebugHaltsRun_acc_running_write.sched.halted = false ∧ stepRuns wDebugHaltsRun_acc_running_write = false := by decide +kernel

/-- A state for `wit_DebugHaltsRun_acc_step_true`. -/
def wDebugHaltsRun_acc_step_true : State := modExec (dbSt [(Reg.dbgAccCmd, 5 * 4 + 2)] {} true) fun e => { e with running := true, kind := .step }

theorem wit_DebugHaltsRun_acc_step_true : rfld (rdReg wDebugHaltsRun_acc_step_true Reg.dbgAccCmd) 4 2 ≤ 5 ∧ unlocked wDebugHaltsRun_acc_step_true = true ∧ rbit (rdReg wDebugHaltsRun_acc_step_true Reg.dbgAccCmd) 1 = true ∧ stepRuns wDebugHaltsRun_acc_step_true = true := by decide +kernel

/-- A state for `wit_DebugHaltsRun_acc_step_false`. -/
def wDebugHaltsRun_acc_step_false : State := modExec (dbSt [(Reg.dbgAccCmd, 5 * 4 + 2)] {} false) fun e => { e with running := true, kind := .step }

theorem wit_DebugHaltsRun_acc_step_false : rfld (rdReg wDebugHaltsRun_acc_step_false Reg.dbgAccCmd) 4 2 ≤ 5 ∧ unlocked wDebugHaltsRun_acc_step_false = true ∧ rbit (rdReg wDebugHaltsRun_acc_step_false Reg.dbgAccCmd) 1 = true ∧ stepRuns wDebugHaltsRun_acc_step_false = true := by decide +kernel

/-- Logical cluster 0 at physical cluster 143, and a debug access prepared. -/
def acSt (cmd sel lo hi data : Nat) (c : Cluster) : State := setCl (dbSt [(Reg.glbIdent, 0x8000), (Reg.dbgAccCmd, cmd), (Reg.dbgAccSel, sel), (Reg.dbgAddrLo, lo), (Reg.dbgAddrHi, hi), (Reg.dbgAccData, data)] {} true) 143 { c with logical := some 0 }

/-- A state for `wit_DebugHaltsRun_acc_read_reg`. -/
def wDebugHaltsRun_acc_read_reg : State := let s := acSt 0 65280 255 0 0 (wrLane {} 7 255 31 77); putHbm s (memStore [] 0x23FFFFFFFC [0x55])

theorem wit_DebugHaltsRun_acc_read_reg : accCluster wDebugHaltsRun_acc_read_reg = some 143 ∧ unlocked wDebugHaltsRun_acc_read_reg = true ∧ wDebugHaltsRun_acc_read_reg.sched.halted = true ∧ accFits wDebugHaltsRun_acc_read_reg (rfld (rdReg wDebugHaltsRun_acc_read_reg Reg.dbgAccCmd) 4 2) (rfld (rdReg wDebugHaltsRun_acc_read_reg Reg.dbgAccCmd) 6 5) (rdN wDebugHaltsRun_acc_read_reg Reg.dbgAddrLo + rdF wDebugHaltsRun_acc_read_reg Reg.dbgAddrHi 5 0 * 2 ^ 32) = true ∧ rbit (rdReg wDebugHaltsRun_acc_read_reg Reg.dbgAccCmd) 1 = false := by decide +kernel

/-- A state for `wit_DebugHaltsRun_acc_read_hbm`. -/
def wDebugHaltsRun_acc_read_hbm : State := let s := acSt 20 65280 0xFFFFFFFC 35 0 (wrLane {} 7 255 31 77); putHbm s (memStore [] 0x23FFFFFFFC [0x55])

theorem wit_DebugHaltsRun_acc_read_hbm : accCluster wDebugHaltsRun_acc_read_hbm = some 143 ∧ unlocked wDebugHaltsRun_acc_read_hbm = true ∧ wDebugHaltsRun_acc_read_hbm.sched.halted = true ∧ accFits wDebugHaltsRun_acc_read_hbm (rfld (rdReg wDebugHaltsRun_acc_read_hbm Reg.dbgAccCmd) 4 2) (rfld (rdReg wDebugHaltsRun_acc_read_hbm Reg.dbgAccCmd) 6 5) (rdN wDebugHaltsRun_acc_read_hbm Reg.dbgAddrLo + rdF wDebugHaltsRun_acc_read_hbm Reg.dbgAddrHi 5 0 * 2 ^ 32) = true ∧ rbit (rdReg wDebugHaltsRun_acc_read_hbm Reg.dbgAccCmd) 1 = false := by decide +kernel

/-- A state for `wit_DebugHaltsRun_acc_write_reg`. -/
def wDebugHaltsRun_acc_write_reg : State := acSt 2 65280 255 0 99 {}

theorem wit_DebugHaltsRun_acc_write_reg : accCluster wDebugHaltsRun_acc_write_reg = some 143 ∧ unlocked wDebugHaltsRun_acc_write_reg = true ∧ wDebugHaltsRun_acc_write_reg.sched.halted = true ∧ accFits wDebugHaltsRun_acc_write_reg (rfld (rdReg wDebugHaltsRun_acc_write_reg Reg.dbgAccCmd) 4 2) (rfld (rdReg wDebugHaltsRun_acc_write_reg Reg.dbgAccCmd) 6 5) (rdN wDebugHaltsRun_acc_write_reg Reg.dbgAddrLo + rdF wDebugHaltsRun_acc_write_reg Reg.dbgAddrHi 5 0 * 2 ^ 32) = true ∧ rbit (rdReg wDebugHaltsRun_acc_write_reg Reg.dbgAccCmd) 1 = true ∧ stepRuns wDebugHaltsRun_acc_write_reg = false := by decide +kernel

/-- A state for `wit_DebugHaltsRun_acc_write_peat`. -/
def wDebugHaltsRun_acc_write_peat : State := acSt 82 65280 4095 0 99 {}

theorem wit_DebugHaltsRun_acc_write_peat : accCluster wDebugHaltsRun_acc_write_peat = some 143 ∧ unlocked wDebugHaltsRun_acc_write_peat = true ∧ wDebugHaltsRun_acc_write_peat.sched.halted = true ∧ accFits wDebugHaltsRun_acc_write_peat (rfld (rdReg wDebugHaltsRun_acc_write_peat Reg.dbgAccCmd) 4 2) (rfld (rdReg wDebugHaltsRun_acc_write_peat Reg.dbgAccCmd) 6 5) (rdN wDebugHaltsRun_acc_write_peat Reg.dbgAddrLo + rdF wDebugHaltsRun_acc_write_peat Reg.dbgAddrHi 5 0 * 2 ^ 32) = true ∧ rbit (rdReg wDebugHaltsRun_acc_write_peat Reg.dbgAccCmd) 1 = true ∧ stepRuns wDebugHaltsRun_acc_write_peat = false := by decide +kernel

/-- A state for `wit_DebugHaltsRun_acc_write_hbm`. -/
def wDebugHaltsRun_acc_write_hbm : State := acSt 22 65280 0xFFFFFFFC 35 99 {}

theorem wit_DebugHaltsRun_acc_write_hbm : accCluster wDebugHaltsRun_acc_write_hbm = some 143 ∧ unlocked wDebugHaltsRun_acc_write_hbm = true ∧ wDebugHaltsRun_acc_write_hbm.sched.halted = true ∧ accFits wDebugHaltsRun_acc_write_hbm (rfld (rdReg wDebugHaltsRun_acc_write_hbm Reg.dbgAccCmd) 4 2) (rfld (rdReg wDebugHaltsRun_acc_write_hbm Reg.dbgAccCmd) 6 5) (rdN wDebugHaltsRun_acc_write_hbm Reg.dbgAddrLo + rdF wDebugHaltsRun_acc_write_hbm Reg.dbgAddrHi 5 0 * 2 ^ 32) = true ∧ rbit (rdReg wDebugHaltsRun_acc_write_hbm Reg.dbgAccCmd) 1 = true ∧ stepRuns wDebugHaltsRun_acc_write_hbm = false := by decide +kernel

/-- A state for `wit_DebugHaltsRun_acc_write_depth_5`. -/
def wDebugHaltsRun_acc_write_depth_5 : State := modExec (acSt 10 65280 3 0 5 {}) fun e => { e with running := true, kind := .runk }

theorem wit_DebugHaltsRun_acc_write_depth_5 : accCluster wDebugHaltsRun_acc_write_depth_5 = some 143 ∧ unlocked wDebugHaltsRun_acc_write_depth_5 = true ∧ wDebugHaltsRun_acc_write_depth_5.sched.halted = true ∧ accFits wDebugHaltsRun_acc_write_depth_5 (rfld (rdReg wDebugHaltsRun_acc_write_depth_5 Reg.dbgAccCmd) 4 2) (rfld (rdReg wDebugHaltsRun_acc_write_depth_5 Reg.dbgAccCmd) 6 5) (rdN wDebugHaltsRun_acc_write_depth_5 Reg.dbgAddrLo + rdF wDebugHaltsRun_acc_write_depth_5 Reg.dbgAddrHi 5 0 * 2 ^ 32) = true ∧ rbit (rdReg wDebugHaltsRun_acc_write_depth_5 Reg.dbgAccCmd) 1 = true ∧ stepRuns wDebugHaltsRun_acc_write_depth_5 = false ∧ wDebugHaltsRun_acc_write_depth_5.sched.exec.running = true := by decide +kernel

/-- A state for `wit_DebugHaltsRun_acc_write_depth_17`. -/
def wDebugHaltsRun_acc_write_depth_17 : State := modExec (acSt 10 65280 3 0 17 {}) fun e => { e with running := true, kind := .runk }

theorem wit_DebugHaltsRun_acc_write_depth_17 : accCluster wDebugHaltsRun_acc_write_depth_17 = some 143 ∧ unlocked wDebugHaltsRun_acc_write_depth_17 = true ∧ wDebugHaltsRun_acc_write_depth_17.sched.halted = true ∧ accFits wDebugHaltsRun_acc_write_depth_17 (rfld (rdReg wDebugHaltsRun_acc_write_depth_17 Reg.dbgAccCmd) 4 2) (rfld (rdReg wDebugHaltsRun_acc_write_depth_17 Reg.dbgAccCmd) 6 5) (rdN wDebugHaltsRun_acc_write_depth_17 Reg.dbgAddrLo + rdF wDebugHaltsRun_acc_write_depth_17 Reg.dbgAddrHi 5 0 * 2 ^ 32) = true ∧ rbit (rdReg wDebugHaltsRun_acc_write_depth_17 Reg.dbgAccCmd) 1 = true ∧ stepRuns wDebugHaltsRun_acc_write_depth_17 = false ∧ wDebugHaltsRun_acc_write_depth_17.sched.exec.running = true := by decide +kernel

/-- A state for `wit_DebugHaltsRun_acc_corrected`. -/
def wDebugHaltsRun_acc_corrected : State := let s := acSt 20 65280 0xFFFFFFFC 0x23 0 {}; putHbm s (memStore [] 0x23FFFFFFFC [0x55])

theorem wit_DebugHaltsRun_acc_corrected : accCluster wDebugHaltsRun_acc_corrected = some 143 ∧ unlocked wDebugHaltsRun_acc_corrected = true ∧ wDebugHaltsRun_acc_corrected.sched.halted = true ∧ accFits wDebugHaltsRun_acc_corrected (rfld (rdReg wDebugHaltsRun_acc_corrected Reg.dbgAccCmd) 4 2) (rfld (rdReg wDebugHaltsRun_acc_corrected Reg.dbgAccCmd) 6 5) (rdN wDebugHaltsRun_acc_corrected Reg.dbgAddrLo + rdF wDebugHaltsRun_acc_corrected Reg.dbgAddrHi 5 0 * 2 ^ 32) = true ∧ rbit (rdReg wDebugHaltsRun_acc_corrected Reg.dbgAccCmd) 1 = false := by decide +kernel

/-- A state for `wit_DebugHaltsRun_acc_uncorrectable`. -/
def wDebugHaltsRun_acc_uncorrectable : State := acSt 0 65280 255 0 0 (wrLane {} 7 255 31 77)

theorem wit_DebugHaltsRun_acc_uncorrectable : accCluster wDebugHaltsRun_acc_uncorrectable = some 143 ∧ unlocked wDebugHaltsRun_acc_uncorrectable = true ∧ wDebugHaltsRun_acc_uncorrectable.sched.halted = true ∧ accFits wDebugHaltsRun_acc_uncorrectable (rfld (rdReg wDebugHaltsRun_acc_uncorrectable Reg.dbgAccCmd) 4 2) (rfld (rdReg wDebugHaltsRun_acc_uncorrectable Reg.dbgAccCmd) 6 5) (rdN wDebugHaltsRun_acc_uncorrectable Reg.dbgAddrLo + rdF wDebugHaltsRun_acc_uncorrectable Reg.dbgAddrHi 5 0 * 2 ^ 32) = true ∧ rbit (rdReg wDebugHaltsRun_acc_uncorrectable Reg.dbgAccCmd) 1 = false := by decide +kernel

/-- A state for `wit_DebugHaltsRun_noRewind`. -/
def wDebugHaltsRun_noRewind : State := imgSt

theorem wit_DebugHaltsRun_noRewind : mayRewind wDebugHaltsRun_noRewind = false := by decide +kernel

/-- A state for `wit_DebugHaltsRun_rewind`. -/
def wDebugHaltsRun_rewind : State := let s := dbSt [(Reg.dbgLsStatus, 2), (Reg.dbgLsSeq, 3)] {} true; putGener s { s.gener with saves := [{ n := 3, record := rec1, ctxs := [] }] }

theorem wit_DebugHaltsRun_rewind : wDebugHaltsRun_rewind.sched.halted = true ∧ rdB wDebugHaltsRun_rewind Reg.dbgLsStatus 1 = true ∧ rewindTarget wDebugHaltsRun_rewind = some { n := 3, record := rec1, ctxs := [] } := by decide +kernel

/-- A state for `wit_DebugHaltsRun_noAbandon`. -/
def wDebugHaltsRun_noAbandon : State := imgSt

theorem wit_DebugHaltsRun_noAbandon : rdB wDebugHaltsRun_noAbandon Reg.dbgLsStatus 1 = false := by decide +kernel

/-- A state for `wit_DebugHaltsRun_abandon`. -/
def wDebugHaltsRun_abandon : State := dbSt [(Reg.dbgLsStatus, 3), (Reg.dbgLsCtl, 1)] {} true

theorem wit_DebugHaltsRun_abandon : rdB wDebugHaltsRun_abandon Reg.dbgLsStatus 1 = true := by decide +kernel

/-- A state for `wit_UnlockAndTapRun_barred`. -/
def wUnlockAndTapRun_barred : State := regsOf imgSt [(Reg.dbgLock, 2 ^ 5)]

theorem wit_UnlockAndTapRun_barred : barred wUnlockAndTapRun_barred = true := by decide +kernel

/-- A state for `wit_UnlockAndTapRun_start`. -/
def wUnlockAndTapRun_start : State := imgSt

theorem wit_UnlockAndTapRun_start : barred wUnlockAndTapRun_start = false := by decide +kernel

/-- A state for `wit_UnlockAndTapRun_nonce`. -/
def wUnlockAndTapRun_nonce : State := putDbgp imgSt { nonceReq := true }

theorem wit_UnlockAndTapRun_nonce : wUnlockAndTapRun_nonce.dbgp.nonceReq = true := by decide +kernel

/-- A state for `wit_UnlockAndTapRun_noNonce`. -/
def wUnlockAndTapRun_noNonce : State := imgSt

theorem wit_UnlockAndTapRun_noNonce : wUnlockAndTapRun_noNonce.dbgp.nonceReq = false := by decide +kernel

/-- A state for `wit_UnlockAndTapRun_submit`. -/
def wUnlockAndTapRun_submit : State := regsOf imgSt [(Reg.dbgLock, 2 ^ 6), (Reg.dbgResponse + 188, 5)]

theorem wit_UnlockAndTapRun_submit : barred wUnlockAndTapRun_submit = false ∧ rdB wUnlockAndTapRun_submit Reg.dbgLock 6 = true := by decide +kernel

/-- A state for `wit_UnlockAndTapRun_submit_fails_0`. -/
def wUnlockAndTapRun_submit_fails_0 : State := regsOf imgSt [(Reg.dbgLock, 0)]

theorem wit_UnlockAndTapRun_submit_fails_0 : barred wUnlockAndTapRun_submit_fails_0 = false ∧ rdB wUnlockAndTapRun_submit_fails_0 Reg.dbgLock 6 = false ∧ rdF wUnlockAndTapRun_submit_fails_0 Reg.dbgLock 4 1 = 0 := by decide +kernel

/-- A state for `wit_UnlockAndTapRun_submit_fails_7`. -/
def wUnlockAndTapRun_submit_fails_7 : State := regsOf imgSt [(Reg.dbgLock, 14)]

theorem wit_UnlockAndTapRun_submit_fails_7 : barred wUnlockAndTapRun_submit_fails_7 = false ∧ rdB wUnlockAndTapRun_submit_fails_7 Reg.dbgLock 6 = false ∧ rdF wUnlockAndTapRun_submit_fails_7 Reg.dbgLock 4 1 = 7 := by decide +kernel

/-- The words of a SUBMIT: nonce, key, signature. -/
def unlockWords : List Word := (toWords (((List.range 48).map fun i => BitVec.ofNat 8 (i + 1)) ++ keyBytes ++ nonceSig)).map w32

/-- A state for `wit_UnlockAndTapRun_check`. -/
def wUnlockAndTapRun_check : State := let s := keySt imgSt; putDbgp s { submit := some unlockWords }

theorem wit_UnlockAndTapRun_check : wUnlockAndTapRun_check.dbgp.submit = some unlockWords ∧ unlockOk wUnlockAndTapRun_check unlockWords = true := by decide +kernel

/-- A state for `wit_UnlockAndTapRun_check_fails`. -/
def wUnlockAndTapRun_check_fails : State := putDbgp imgSt { submit := some unlockWords }

theorem wit_UnlockAndTapRun_check_fails : wUnlockAndTapRun_check_fails.dbgp.submit = some unlockWords ∧ unlockOk wUnlockAndTapRun_check_fails unlockWords = false := by decide +kernel

/-- A state for `wit_UnlockAndTapRun_extest`. -/
def wUnlockAndTapRun_extest : State := dbSt [] { held := false } false

theorem wit_UnlockAndTapRun_extest : wUnlockAndTapRun_extest.dbgp.held = false ∧ unlocked wUnlockAndTapRun_extest = true := by decide +kernel

/-- A state for `wit_UnlockAndTapRun_clamp`. -/
def wUnlockAndTapRun_clamp : State := dbSt [] { held := false } false

theorem wit_UnlockAndTapRun_clamp : wUnlockAndTapRun_clamp.dbgp.held = false ∧ unlocked wUnlockAndTapRun_clamp = true := by decide +kernel

/-- A state for `wit_UnlockAndTapRun_highz`. -/
def wUnlockAndTapRun_highz : State := dbSt [] { held := false } false

theorem wit_UnlockAndTapRun_highz : wUnlockAndTapRun_highz.dbgp.held = false ∧ unlocked wUnlockAndTapRun_highz = true := by decide +kernel

/-- A state for `wit_UnlockAndTapRun_idcode`. -/
def wUnlockAndTapRun_idcode : State := dbSt [] { held := false } false

theorem wit_UnlockAndTapRun_idcode : wUnlockAndTapRun_idcode.dbgp.held = false ∧ unlocked wUnlockAndTapRun_idcode = true := by decide +kernel

/-- A state for `wit_UnlockAndTapRun_bypass`. -/
def wUnlockAndTapRun_bypass : State := dbSt [] { held := false } false

theorem wit_UnlockAndTapRun_bypass : wUnlockAndTapRun_bypass.dbgp.held = false ∧ unlocked wUnlockAndTapRun_bypass = true := by decide +kernel

/-- A state for `wit_UnlockAndTapRun_bypass_other`. -/
def wUnlockAndTapRun_bypass_other : State := dbSt [] { held := false } false

theorem wit_UnlockAndTapRun_bypass_other : wUnlockAndTapRun_bypass_other.dbgp.held = false ∧ unlocked wUnlockAndTapRun_bypass_other = true := by decide +kernel

/-- A state for `wit_UnlockAndTapRun_extest_scan`. -/
def wUnlockAndTapRun_extest_scan : State := dbSt [] { held := false } false

theorem wit_UnlockAndTapRun_extest_scan : wUnlockAndTapRun_extest_scan.dbgp.held = false ∧ unlocked wUnlockAndTapRun_extest_scan = true := by decide +kernel

/-- A state for `wit_UnlockAndTapRun_clamp_scanned`. -/
def wUnlockAndTapRun_clamp_scanned : State := dbSt [] { held := false, boundary := 492593020403712 } false

theorem wit_UnlockAndTapRun_clamp_scanned : wUnlockAndTapRun_clamp_scanned.dbgp.held = false ∧ unlocked wUnlockAndTapRun_clamp_scanned = true ∧ wUnlockAndTapRun_clamp_scanned.dbgp.boundary = 492593020403712 := by decide +kernel

/-- A state for `wit_UnlockAndTapRun_extest_locked`. -/
def wUnlockAndTapRun_extest_locked : State := setPulse (putDbgp imgSt { held := false }) 15 { pin := .low }

theorem wit_UnlockAndTapRun_extest_locked : wUnlockAndTapRun_extest_locked.dbgp.held = false ∧ unlocked wUnlockAndTapRun_extest_locked = false := by decide +kernel

/-- A state for `wit_UnlockAndTapRun_held`. -/
def wUnlockAndTapRun_held : State := State.reset

theorem wit_UnlockAndTapRun_held : wUnlockAndTapRun_held.dbgp.held = true := by decide +kernel

/-- A state for `wit_UnlockAndTapRun_preload`. -/
def wUnlockAndTapRun_preload : State := putDbgp imgSt { held := false }

theorem wit_UnlockAndTapRun_preload : wUnlockAndTapRun_preload.dbgp.held = false := by decide +kernel

/-- A state for `wit_UnlockAndTapRun_sample`. -/
def wUnlockAndTapRun_sample : State := setPulse (putDbgp imgSt { held := false }) 15 { pin := .high }

theorem wit_UnlockAndTapRun_sample : wUnlockAndTapRun_sample.dbgp.held = false ∧ padPin wUnlockAndTapRun_sample 15 = .high ∧ padPin wUnlockAndTapRun_sample 14 = .off := by decide +kernel

/-- A state for `wit_UnlockAndTapRun_trst_low`. -/
def wUnlockAndTapRun_trst_low : State := putDbgp imgSt { held := false, ir := 0x04 }

theorem wit_UnlockAndTapRun_trst_low : wUnlockAndTapRun_trst_low.dbgp.held = false := by decide +kernel

/-- A state for `wit_UnlockAndTapRun_trst_high`. -/
def wUnlockAndTapRun_trst_high : State := putDbgp imgSt { held := false, ir := 0x04 }

theorem wit_UnlockAndTapRun_trst_high : wUnlockAndTapRun_trst_high.dbgp.held = false := by decide +kernel

/-- A state for `wit_UnlockAndTapRun_dbgReg`. -/
def wUnlockAndTapRun_dbgReg : State := putDbgp imgSt { held := false }

theorem wit_UnlockAndTapRun_dbgReg : wUnlockAndTapRun_dbgReg.dbgp.held = false := by decide +kernel

/-- A state for `wit_UnlockAndTapRun_dbgReg_locked`. -/
def wUnlockAndTapRun_dbgReg_locked : State := putDbgp imgSt { held := false }

theorem wit_UnlockAndTapRun_dbgReg_locked : wUnlockAndTapRun_dbgReg_locked.dbgp.held = false ∧ unlocked wUnlockAndTapRun_dbgReg_locked = false ∧ Reg.pageSch % 4 = 0 ∧ 0x1000 ≤ Reg.pageSch ∧ Reg.pageSch < 2 ^ 25 ∧ pageBase Reg.pageSch ≠ Reg.pageDbg := by decide +kernel

/-! ### The whole machine -/

/-- A state for `wit_EmptyQueueIsOneCount_noPll`. -/
def wEmptyQueueIsOneCount_noPll : State := State.reset

theorem wit_EmptyQueueIsOneCount_noPll : wEmptyQueueIsOneCount_noPll.pending = [] ∧ wEmptyQueueIsOneCount_noPll.power.pll = false := by decide +kernel

/-- A state for `wit_EmptyQueueIsOneCount_counts`. -/
def wEmptyQueueIsOneCount_counts : State := putCount (rawSt []) 0xFFFFFFFFFFFFFFFF

theorem wit_EmptyQueueIsOneCount_counts : wEmptyQueueIsOneCount_counts.pending = [] ∧ wEmptyQueueIsOneCount_counts.power.pll = true := by decide +kernel

/-- A state for `wit_EmptyQueueIsOneCount_frozen`. -/
def wEmptyQueueIsOneCount_frozen : State := let s := modExec (rawSt []) fun e => { e with running := true }; putSched s { s.sched with halted := true }

theorem wit_EmptyQueueIsOneCount_frozen : wEmptyQueueIsOneCount_frozen.pending = [] ∧ wEmptyQueueIsOneCount_frozen.power.pll = true ∧ dieFrozen wEmptyQueueIsOneCount_frozen = true ∧ wEmptyQueueIsOneCount_frozen.dbgp.resumeAt = none ∧ wEmptyQueueIsOneCount_frozen.sched.exec.running = true := by decide +kernel

/-- A state for `wit_EmptyQueueIsOneCount_runs`. -/
def wEmptyQueueIsOneCount_runs : State := setCl (modExec (rawSt []) fun e => { e with running := true }) 143 { st := .running }

theorem wit_EmptyQueueIsOneCount_runs : wEmptyQueueIsOneCount_runs.pending = [] ∧ wEmptyQueueIsOneCount_runs.power.pll = true ∧ dieFrozen wEmptyQueueIsOneCount_runs = false ∧ wEmptyQueueIsOneCount_runs.dbgp.resumeAt = none ∧ wEmptyQueueIsOneCount_runs.sched.exec.running = true ∧ wEmptyQueueIsOneCount_runs.sched.exec.stopped = false
    ∧ wEmptyQueueIsOneCount_runs.sched.exec.insts = [] ∧ wEmptyQueueIsOneCount_runs.sched.exec.transit = [] ∧ (clOf wEmptyQueueIsOneCount_runs 143).st = .running := by decide +kernel

/-- What a step answers, as a next state. -/
def nextOf (s : State) : State := match step s with | .next t => t | _ => s

/-- A state for `wit_CanonicalIsKept`. -/
def wCanonicalIsKept : State := putPending (hostOf imgSt [(0x1000, 4, 5)]) [.bar2Write 9 [1, 2]]

theorem wit_CanonicalIsKept : Canonical wCanonicalIsKept ∧ step wCanonicalIsKept = .next (nextOf wCanonicalIsKept) := ⟨by unfold Canonical; decide +kernel, rfl⟩

/-- A state for `wit_ServiceLevelMoves_up`. -/
def wServiceLevelMoves_up : State := putPending (lvSt State.reset 3) [.levelFull 63 255]

theorem wit_ServiceLevelMoves_up : svcLevel wServiceLevelMoves_up ≤ 5 ∧ smWf coldReg wServiceLevelMoves_up.regs = true ∧ step wServiceLevelMoves_up = .next (nextOf wServiceLevelMoves_up) := ⟨by decide +kernel, by decide +kernel, rfl⟩

/-- A state for `wit_ServiceLevelMoves_down`. -/
def wServiceLevelMoves_down : State := putPending (lvSt State.reset 5) [.glbWarmReset 0xD7A5]

theorem wit_ServiceLevelMoves_down : svcLevel wServiceLevelMoves_down ≤ 5 ∧ smWf coldReg wServiceLevelMoves_down.regs = true ∧ step wServiceLevelMoves_down = .next (nextOf wServiceLevelMoves_down) := ⟨by decide +kernel, by decide +kernel, rfl⟩

/-- A state for `wit_ServiceLevelMoves_cold`. -/
def wServiceLevelMoves_cold : State := putPending (lvSt State.reset 4) [.coldReset .powerOn]

theorem wit_ServiceLevelMoves_cold : svcLevel wServiceLevelMoves_cold ≤ 5 ∧ smWf coldReg wServiceLevelMoves_cold.regs = true ∧ step wServiceLevelMoves_cold = .next (nextOf wServiceLevelMoves_cold) := ⟨by decide +kernel, by decide +kernel, rfl⟩

/-- A command of each group answers a next state. -/
theorem wit_CommandFrames : ∀ i ∈ ([.weirCrossing 31 9, .doorbell 127 9, .heldRecordsFlush, .bar2Read 0 4 [(0, .corrected)], .bar2Write 9 [1, 2], .pstWrite 0x60 5, .trstN false, .ppsOutFall] : List Instr), ∃ t, exec i imgSt = .next t := by
  intro i hi
  fin_cases hi <;> exact ⟨_, rfl⟩

end Sys2Proof.Machine
end

/-!
SUPPORT. What the passage of a count keeps: the folds over clusters, the group ports, the stream traffic, the Falbo die, the
debug port and the rings (00 R4, 02 R74, 04 R211, 15 R692; log 1).
-/
namespace Sys2Proof.Machine

variable (s : State)

/-! ### Folds over the clusters -/

/-- A change of each of some different clusters changes those and no other. -/
theorem clOf_each_modCl (f : Cluster → Cluster) (p : Nat) (ps : List Nat) (hps : ps.Nodup) (t : State) :
    clOf (each ps (fun q u => modCl u q f) t) p = if p ∈ ps then f (clOf t p) else clOf t p := by
  induction ps generalizing t with
  | nil => rfl
  | cons q qs ih =>
    obtain ⟨hq, hqs⟩ := List.nodup_cons.mp hps
    have step : each (q :: qs) (fun q u => modCl u q f) t = each qs (fun q u => modCl u q f) (modCl t q f) := rfl
    rw [step, ih hqs, clOf_modCl]
    by_cases h : p = q
    · subst h; simp [hq]
    · simp [h]

/-- A change of every cluster changes each of the 144 once. -/
theorem clOf_allCl (f : Cluster → Cluster) {p : Nat} (hp : p < 144) : clOf (allCl s f) p = f (clOf s p) := by
  unfold allCl
  rw [clOf_each_modCl f p _ List.nodup_range, if_pos (List.mem_range.mpr hp)]

/-- A change of every cluster keeps what a change of one keeps. -/
theorem allCl_keeps {β : Type} (g : State → β) (f : Cluster → Cluster) (h : ∀ t p, g (modCl t p f) = g t) :
    g (allCl s f) = g s := each_keeps g _ (fun p t => h t p) _ _

@[simp] theorem allCl_count (f : Cluster → Cluster) : (allCl s f).count = s.count :=
  allCl_keeps s State.count f fun _ _ => modCl_count _ _ _

@[simp] theorem allCl_sched (f : Cluster → Cluster) : (allCl s f).sched = s.sched :=
  allCl_keeps s State.sched f fun _ _ => modCl_sched _ _ _

@[simp] theorem allCl_dbgp (f : Cluster → Cluster) : (allCl s f).dbgp = s.dbgp :=
  allCl_keeps s State.dbgp f fun _ _ => modCl_dbgp _ _ _

/-! ### One cluster in one cycle -/

section Ports
variable {β : Type} (g : Cluster → β)

/-- One part of an access writes nothing of its cluster but the scratchpad. -/
theorem servePiece_keeps (hs : ∀ c x, g { c with spad := x } = g c) (r : Cluster × Flight) (x : Piece) :
    g (servePiece r x).1 = g r.1 := by
  unfold servePiece
  split
  · unfold writePiece; split
    · exact hs _ _
    · rfl
  · unfold atomPiece; split
    · exact hs _ _
    · rfl
  · rfl
  · rfl
  · rfl

/-- A flight's cycle writes nothing of its cluster but the scratchpad, the stationary buffers and the row count. -/
theorem flightCycle_keeps (hs : ∀ c x, g { c with spad := x } = g c) (hb : ∀ c x, g { c with sbufs := x } = g c)
    (hm : ∀ c x, g { c with mtxRows := x } = g c) (c : Cluster) (f : Flight) : g (flightCycle c f).1 = g c := by
  have pieces : ∀ (xs : List Piece) (r : Cluster × Flight), g (xs.foldl servePiece r).1 = g r.1 := by
    intro xs
    induction xs with
    | nil => intro r; rfl
    | cons x xs ih => intro r; rw [List.foldl_cons, ih, servePiece_keeps g hs]
  have fill : ∀ c f, g (fillBuf c f) = g c := by
    intro c f; unfold fillBuf; split
    · split
      · exact hb _ _
      · rfl
    · rfl
  have row : ∀ c f, g (streamRow c f) = g c := by
    intro c f; unfold streamRow; split
    · exact hm _ _
    · rfl
  unfold flightCycle
  split
  · dsimp only; rw [row, fill, pieces]
  · rfl

/-- A cluster's port cycle keeps all but its scratchpad, stationary buffers, row count and flights. -/
theorem portCycle_keeps (hs : ∀ c x, g { c with spad := x } = g c) (hb : ∀ c x, g { c with sbufs := x } = g c)
    (hm : ∀ c x, g { c with mtxRows := x } = g c) (hf : ∀ c x, g { c with flights := x } = g c) (c : Cluster) :
    g (portCycle c) = g c := by
  have flights : ∀ (fs : List Flight) (r : Cluster × List Flight),
      g (fs.foldl (fun r f => let x := flightCycle r.1 f; (x.1, r.2 ++ [x.2])) r).1 = g r.1 := by
    intro fs
    induction fs with
    | nil => intro r; rfl
    | cons f fs ih => intro r; rw [List.foldl_cons, ih]; exact flightCycle_keeps g hs hb hm _ _
  unfold portCycle
  dsimp only
  rw [hf, flights]

/-- A cluster's fills keep all but its fills and flights. -/
theorem refill_keeps (h : ∀ c x y, g { c with fills := x, flights := y } = g c) (c : Cluster) : g (refill c) = g c := by
  unfold refill
  dsimp only
  split
  · rfl
  · exact h _ _ _

end Ports

/-! ### Halts -/

/-- A halt that takes effect stops no execution: it halts the die. -/
@[simp] theorem takeHalt_exec (r : HaltRec) : (takeHalt s r).sched.exec = s.sched.exec := by simp [takeHalt]

@[simp] theorem takeHalt_resumeAt (r : HaltRec) : (takeHalt s r).dbgp.resumeAt = s.dbgp.resumeAt := by simp [takeHalt]

@[simp] theorem fireHalt_exec (r : HaltRec) : (fireHalt s r).sched.exec = s.sched.exec := by
  unfold fireHalt; (repeat' split) <;> simp

@[simp] theorem fireHalt_resumeAt (r : HaltRec) : (fireHalt s r).dbgp.resumeAt = s.dbgp.resumeAt := by
  unfold fireHalt; (repeat' split) <;> simp

@[simp] theorem haltDue_exec : (haltDue s).sched.exec = s.sched.exec := by unfold haltDue; (repeat' split) <;> simp

/-- Watchpoints keep what a halt that fires keeps. -/
theorem watch_keeps {β : Type} (g : State → β) (h : ∀ t r, g (fireHalt t r) = g t) (l n pc source : Nat)
    (ts : List (Nat × Nat × Nat)) : g (watch s l n pc source ts) = g s := by
  unfold watch
  refine each_keeps g _ (fun w t => ?_) _ _
  split
  · exact h _ _
  · rfl

@[simp] theorem stepNone_count : (stepNone s).count = s.count := by unfold stepNone; split <;> simp

/-! ### The ports and the stream traffic -/

/-- The group port of a cluster keeps what watchpoints and a port cycle keep. -/
theorem tickPort_keeps {β : Type} (g : State → β) (hw : ∀ t r, g (fireHalt t r) = g t)
    (hc : ∀ t p, g (modCl t p portCycle) = g t) (p : Nat) : g (tickPort s p) = g s := by
  unfold tickPort
  dsimp only
  split
  · rfl
  · rw [hc]
    refine each_keeps g _ (fun f t => ?_) _ _
    split
    · rfl
    · exact watch_keeps t g hw _ _ _ _ _

@[simp] theorem tickPort_exec (p : Nat) : (tickPort s p).sched.exec = s.sched.exec :=
  tickPort_keeps s (fun t => t.sched.exec) fireHalt_exec (fun _ _ => by rw [modCl_sched]) p

/-- The ports keep what watchpoints, a port cycle, a fill and the stream traffic keep; the traffic meets the execution as it stood. -/
theorem tickPorts_keeps {β : Type} (g : State → β) (hw : ∀ t r, g (fireHalt t r) = g t)
    (hc : ∀ t p, g (modCl t p portCycle) = g t) (hr : ∀ t p, g (modCl t p refill) = g t)
    (hm : ∀ t, t.sched.exec = s.sched.exec → g (moveCycle t) = g t) : g (tickPorts s) = g s := by
  have he : (each s.clusters (fun e t => tickPort t e.1) s).sched.exec = s.sched.exec :=
    each_keeps (fun t => t.sched.exec) _ (fun (e : Nat × Cluster) t => tickPort_exec t e.1) _ s
  have hg : g (each s.clusters (fun e t => tickPort t e.1) s) = g s :=
    each_keeps g _ (fun (e : Nat × Cluster) t => tickPort_keeps t g hw hc e.1) _ s
  unfold tickPorts
  dsimp only
  rw [allCl_keeps _ g refill hr]
  split
  · rw [hm _ he, hg]
  · exact hg

/-- With no plan traffic started and no unit on its way the stream traffic of a cycle changes nothing. -/
theorem moveCycle_idle (hi : s.sched.exec.insts = []) (ht : s.sched.exec.transit = []) : moveCycle s = s := by
  have hx : modExec s (fun e => { e with transit := e.transit.filter fun t => !decide (t.due ≤ e.cyc) }) = s := by
    unfold modExec putSched
    dsimp only
    rw [ht, List.filter_nil, ← ht]
  have hc : collisionAt (ncl s) [] s.sched.exec.cyc = none := rfl
  unfold moveCycle
  dsimp only
  rw [hx, hi, ht, List.filter_nil, hc]
  rfl

/-! ### The global counter: nothing within a count moves it (00 R4) -/

@[simp] theorem stopExec_count (cause cl : Nat) : (stopExec s cause cl).count = s.count := by
  unfold stopExec; dsimp only; split <;> simp

@[simp] theorem clusterFault_count (p : Nat) (f : ClFault) : (clusterFault s p f).count = s.count := by
  unfold clusterFault; dsimp only; split <;> simp

/-- No effect of an action moves the counter. -/
@[simp] theorem applyEff_count (p : Nat) (e : CEff) : (applyEff s p e).count = s.count := by
  have counts : ∀ t, (effCounts e t).count = t.count := by intro t; unfold effCounts; split <;> simp
  have ue : ∀ l t, (effUe p l e t).count = t.count := by intro l t; unfold effUe; split <;> simp
  have ce : ∀ t, (effCe p e t).count = t.count := by intro t; unfold effCe; split <;> simp
  have vary : ∀ t, (effVary e t).count = t.count := by intro t; unfold effVary; split <;> simp
  have sampled : ∀ t, (effSampled e t).count = t.count := by intro t; unfold effSampled; split <;> simp
  have halts : ∀ l t, (effHalts l e t).count = t.count := by intro l t; unfold effHalts; dsimp only; split <;> simp
  have fault : ∀ t, (effFault p e t).count = t.count := by intro t; unfold effFault; split <;> simp
  unfold applyEff
  simp [counts, ue, ce, vary, sampled, halts, fault]

@[simp] theorem bufferEcc_count (page : Nat) (e : Ecc) : (bufferEcc s page e).count = s.count := by
  cases e <;> simp [bufferEcc]

@[simp] theorem portRead_count (l a : Nat) (e : Ecc) : (portRead s l a e).1.count = s.count := by
  unfold portRead; split <;> simp

@[simp] theorem portWatch_count (l sort a : Nat) : (portWatch s l sort a).count = s.count := by simp [portWatch]

@[simp] theorem putRed_count (r : Reduction) : (putRed s r).count = s.count := by simp [putRed]

@[simp] theorem putOut_count (k : Nat) (f : Frame) : (putOut s k f).count = s.count := by simp [putOut]

@[simp] theorem sendSeq_count (k : Nat) (f : Frame) : (sendSeq s k f).count = s.count := by
  unfold sendSeq
  dsimp only
  split
  · rfl
  · split <;> simp

@[simp] theorem sendPartial_count (r : Reduction) (k : Nat) (down : Bool) (f : RedFrame) (us : List (List Byte)) :
    (sendPartial s r k down f us).count = s.count := by simp [sendPartial]

@[simp] theorem notePartials_count (r : Reduction) (f : RedFrame) : (notePartials r f s).count = s.count :=
  each_keeps State.count _ (fun _ _ => bufferEcc_count _ _ _) _ _

@[simp] theorem forwardSum_count (r : Reduction) (i : Nat) (f : RedFrame) (us : List (List Byte)) :
    (forwardSum s r i f us).count = s.count := by
  have sent : ∀ ks t, (each ks (fun k u => sendPartial u r k true f us) t).count = t.count := fun ks t =>
    each_keeps State.count _ (fun k u => sendPartial_count u r k true f us) ks t
  unfold forwardSum
  dsimp only
  (repeat' split) <;> simp [sent]

@[simp] theorem advanceRed_count (layer slot : Nat) : (advanceRed s layer slot).count = s.count := by
  unfold advanceRed
  split
  · rfl
  · refine each_keeps State.count _ (fun x t => ?_) _ _
    (repeat' split) <;> simp

@[simp] theorem engineIn_count (layer slot u : Nat) (bs : List Byte) (e : Ecc) : (engineIn s layer slot u bs e).count = s.count := by
  unfold engineIn; split <;> simp

@[simp] theorem landUnit_count (t : Transit) : (landUnit s t).count = s.count := by
  unfold landUnit; dsimp only; (repeat' split) <;> simp

@[simp] theorem sendUnit_count (t : Transit) : (sendUnit s t).count = s.count := by simp [sendUnit]

@[simp] theorem planAcc_count (x : HbmAcc) : (planAcc s x).count = s.count := by simp [planAcc]

@[simp] theorem dropAcc_count (a : HbmAcc) : (dropAcc s a).count = s.count := by simp [dropAcc]

@[simp] theorem countRead_count (n : Nat) : (countRead s n).count = s.count := by simp [countRead]

@[simp] theorem spillUnit_count (off : Nat) (e : Ecc) : (spillUnit s off e).1.count = s.count := by
  unfold spillUnit; dsimp only; split <;> simp

@[simp] theorem startUnitMove_count (n : Nat) (i : PlanInst) (u : Nat) : (startUnitMove s n i u).count = s.count := by
  unfold startUnitMove; dsimp only; split <;> simp

@[simp] theorem deliverUnit_count (n : Nat) (i : PlanInst) (cyc : Nat) : (deliverUnit s n i cyc).count = s.count := by
  unfold deliverUnit; dsimp only; (repeat' split) <;> simp

@[simp] theorem moveInst_count (cyc n : Nat) : (moveInst cyc n s).count = s.count := by
  unfold moveInst
  split
  · rfl
  · rw [deliverUnit_count]; (repeat' split) <;> simp

@[simp] theorem collide_count (c : Nat × Nat × Nat) : (collide s c).count = s.count := by
  unfold collide; dsimp only; split <;> simp

@[simp] theorem moveCycle_count : (moveCycle s).count = s.count := by
  unfold moveCycle
  dsimp only
  split
  · simp
  · rw [each_keeps State.count _ fun _ _ => moveInst_count _ _ _, each_keeps State.count _ fun _ _ => landUnit_count _ _,
      modExec_count]

@[simp] theorem tickPorts_count : (tickPorts s).count = s.count :=
  tickPorts_keeps s State.count fireHalt_count (fun _ _ => by simp) (fun _ _ => by simp) fun t _ => moveCycle_count t

@[simp] theorem idleStopped_count : (idleStopped s).count = s.count := by
  unfold idleStopped idleClusters; split <;> simp

@[simp] theorem tickClusters_count : (tickClusters s).count = s.count := by simp [tickClusters]

@[simp] theorem tickFrozen_count : (tickFrozen s).count = s.count := by
  unfold tickFrozen; dsimp only; (repeat' split) <;> simp

@[simp] theorem tickSchedule_count : (tickSchedule s).count = s.count := by
  unfold tickSchedule; dsimp only; (repeat' split) <;> simp

@[simp] theorem stretchDue_count (start len : Nat) : (stretchDue s start len).count = s.count :=
  each_keeps State.count _ (fun _ _ => modPort_count _ _ _) _ _

@[simp] theorem resumeDie_count : (resumeDie s).count = s.count := by
  unfold resumeDie; dsimp only; (repeat' split) <;> simp

@[simp] theorem writeTables_count (im : Image) (b : List BatchEntry) : (writeTables s im b).count = s.count :=
  each_keeps State.count _ (fun _ _ => putHbm_count _ _) _ _

@[simp] theorem sendLaunch_count (r : StepRec) : (sendLaunch s r).count = s.count := by
  unfold sendLaunch
  split
  · exact each_keeps State.count _ (fun _ _ => sendSeq_count _ _ _) _ _
  · rfl

@[simp] theorem relaunch_count : (relaunch s).count = s.count := by
  unfold relaunch; dsimp only; (repeat' split) <;> simp

@[simp] theorem resumeDue_count : (resumeDue s).count = s.count := by
  unfold resumeDue; (repeat' split) <;> simp

/-! ### The rest of a count -/

/-- The spill stream keeps what a change of its offset and its buffer keeps (08 R432). -/
theorem spillStream_keeps {β : Type} (g : State → β)
    (h : ∀ (t : State) (n : Exec → Nat) (b : Exec → SMap (List Byte)),
      g (modExec t fun x => { x with spillNext := n x, spillBuf := b x }) = g t) :
    g (spillStream s) = g s := by
  have read : ∀ t, g (spillRead1 t) = g t := by
    intro t; unfold spillRead1; dsimp only; split
    · exact h _ _ _
    · rfl
  unfold spillStream
  split
  · exact each_keeps g _ (fun _ t => read t) _ _
  · rfl

/-- What the steps of a count after its schedule cycle leave alone: the counter, the clusters, the schedule and the debug port. -/
def dieView (s : State) : Nat × SMap Cluster × Sched × Debug := (s.count, s.clusters, s.sched, s.dbgp)

theorem dieView_tickSteer : dieView (tickSteer s) = dieView s := by
  unfold tickSteer; dsimp only; split <;> simp [dieView]

theorem dieView_tickSense : dieView (tickSense s) = dieView s := by
  unfold tickSense; split <;> simp [dieView]

theorem dieView_tickFalbo : dieView (tickFalbo s) = dieView s := by
  have weir : ∀ w t, dieView (tickWeir w t) = dieView t := by intro w t; simp [tickWeir, dieView]
  have trip : ∀ j t, dieView (reportTrip j t) = dieView t := by
    intro j t; unfold reportTrip; split <;> simp [dieView]
  have ticks : ∀ f, dieView (setFalbo s f) = dieView s := by intro f; simp [dieView]
  unfold tickFalbo
  dsimp only
  (repeat' split) <;> simp only [each_keeps dieView _ weir, each_keeps dieView _ trip, ticks]

/-- The rings keep what a descriptor taken and a command completed keep (13 R603, R614). -/
theorem tickRings_keeps {β : Type} (g : State → β) (hr : ∀ t r x, g (setRing t r x) = g t)
    (hc : ∀ t c a b d, g (complete t c a b d) = g t) : g (tickRings s) = g s := by
  have pop : ∀ t r pick t' c, popDesc t r pick = some (t', c) → g t' = g t := by
    intro t r pick t' c h
    unfold popDesc at h
    dsimp only at h
    (repeat' split at h) <;> simp at h
    rw [← h.1, hr]
  have skip : ∀ n t r, g (skipBad n t r) = g t := by
    intro n
    induction n with
    | zero => intro t r; rfl
    | succ n ih =>
      intro t r
      unfold skipBad
      split
      · rfl
      · next t' c h => rw [ih, hc, pop _ _ _ _ _ h]
  unfold tickRings
  refine each_keeps g _ (fun e t => ?_) _ _
  split
  · rfl
  · exact skip _ _ _

@[simp] theorem tickRings_count : (tickRings s).count = s.count := tickRings_keeps s _ setRing_count complete_count
@[simp] theorem tickRings_clusters : (tickRings s).clusters = s.clusters := tickRings_keeps s _ setRing_clusters complete_clusters
@[simp] theorem tickRings_sched : (tickRings s).sched = s.sched := tickRings_keeps s _ setRing_sched complete_sched
@[simp] theorem tickRings_falbo : (tickRings s).falbo = s.falbo := tickRings_keeps s _ setRing_falbo complete_falbo

/-! ### The count as a whole -/

/-- Without the PLL only the rings go on. -/
theorem tick_of_pll_off (h : s.power.pll = false) :
    (tick s).count = s.count ∧ (tick s).clusters = s.clusters ∧ (tick s).sched = s.sched ∧ (tick s).falbo = s.falbo := by
  simp [tick, h]

/-- The part of a count that follows its schedule cycle up to the debug port: the counter takes its value, and the clocks run. -/
def tickClocks (s : State) (n : Nat) : State := tickFalbo (tickSense (tickSteer (putHw (putCount s n) [])))

theorem dieView_tickClocks (n : Nat) : dieView (tickClocks s n) = (n, s.clusters, s.sched, s.dbgp) := by
  rw [tickClocks, dieView_tickFalbo, dieView_tickSense, dieView_tickSteer]
  simp [dieView]

theorem tickClocks_count (n : Nat) : (tickClocks s n).count = n := congrArg Prod.fst (dieView_tickClocks s n)

theorem tickClocks_clusters (n : Nat) : (tickClocks s n).clusters = s.clusters :=
  congrArg (fun v => v.2.1) (dieView_tickClocks s n)

theorem tickClocks_sched (n : Nat) : (tickClocks s n).sched = s.sched := congrArg (fun v => v.2.2.1) (dieView_tickClocks s n)

theorem tickClocks_dbgp (n : Nat) : (tickClocks s n).dbgp = s.dbgp := congrArg (fun v => v.2.2.2) (dieView_tickClocks s n)

/-- The state after the schedule cycle of a count. -/
def afterSchedule (s : State) : State := tickSchedule (spillStream (putWrote s []))

/-- With the PLL a count is its schedule cycle, the counter's step, then the clocks, the debug port and the rings. -/
theorem tick_of_pll_on (h : s.power.pll = true) :
    tick s = tickRings (haltDue (resumeDue (tickClocks (afterSchedule s) (((afterSchedule s).count + 1) % 2 ^ 64)))) := by
  simp [tick, h, afterSchedule, tickClocks]

/-- What the spill stream changes of the execution is its own part: the schedule cycle meets the rest as it was. -/
theorem spillStream_putWrote_keeps {β : Type} (g : State → β) (hw : g (putWrote s []) = g s)
    (h : ∀ (t : State) (n : Exec → Nat) (b : Exec → SMap (List Byte)),
      g (modExec t fun x => { x with spillNext := n x, spillBuf := b x }) = g t) :
    g (spillStream (putWrote s [])) = g s := by rw [spillStream_keeps _ g h, hw]

/-- With the PLL locked the counter takes its next value, modulo 2^64 (00 R4, 15 R692). -/
theorem tick_count_of_pll_on (h : s.power.pll = true) : (tick s).count = (s.count + 1) % 2 ^ 64 := by
  have hs : (afterSchedule s).count = s.count := by
    rw [afterSchedule, tickSchedule_count]
    exact spillStream_putWrote_keeps s State.count rfl fun _ _ _ => rfl
  rw [tick_of_pll_on s h, tickRings_count, haltDue_count, resumeDue_count, tickClocks_count, hs]

/-- With no resume pending the clusters and the execution are at the end of the count as its schedule cycle left them. -/
theorem tick_of_no_resume (h : s.power.pll = true) (hr : (afterSchedule s).dbgp.resumeAt = none) :
    (tick s).clusters = (afterSchedule s).clusters ∧ (tick s).sched.exec = (afterSchedule s).sched.exec := by
  have hd : ∀ n, resumeDue (tickClocks (afterSchedule s) n) = tickClocks (afterSchedule s) n := by
    intro n; simp [resumeDue, tickClocks_dbgp, hr]
  rw [tick_of_pll_on s h, tickRings_clusters, tickRings_sched, haltDue_clusters, haltDue_exec, hd, tickClocks_clusters,
    tickClocks_sched]
  exact ⟨rfl, rfl⟩

/-! ### The schedule cycle of a frozen die (04 R211) -/

@[simp] theorem tickFrozen_clusters : (tickFrozen s).clusters = s.clusters := by
  unfold tickFrozen; dsimp only; (repeat' split) <;> simp

@[simp] theorem tickFrozen_dbgp : (tickFrozen s).dbgp = s.dbgp := by
  unfold tickFrozen; dsimp only; (repeat' split) <;> simp

/-- A frozen cycle counts in the running execution and changes nothing else of it. -/
theorem tickFrozen_exec : (tickFrozen s).sched.exec
    = if s.sched.exec.running then { s.sched.exec with frozen := s.sched.exec.frozen + 1 } else s.sched.exec := by
  have hs : (if s.sched.exec.running then modExec s fun e => { e with frozen := e.frozen + 1 } else s).sched.exec
      = if s.sched.exec.running then { s.sched.exec with frozen := s.sched.exec.frozen + 1 } else s.sched.exec := by
    split <;> rfl
  unfold tickFrozen
  dsimp only
  split
  · rw [wr64_sched, hs]
  · exact hs

/-- With the PLL a frozen die keeps its clusters and its schedule cycle; the running execution counts a frozen cycle. -/
theorem tick_of_frozen (h : s.power.pll = true) (hf : dieFrozen s = true) (hr : s.dbgp.resumeAt = none) :
    (tick s).clusters = s.clusters ∧ (tick s).sched.exec.cyc = s.sched.exec.cyc
    ∧ (tick s).sched.exec.frozen = if s.sched.exec.running then s.sched.exec.frozen + 1 else s.sched.exec.frozen := by
  have keeps {β : Type} (g : State → β) := spillStream_putWrote_keeps s g
  have ha : afterSchedule s = tickFrozen (spillStream (putWrote s [])) := by
    have hx := (keeps dieFrozen rfl fun _ _ _ => rfl).trans hf
    rw [afterSchedule, tickSchedule, if_pos hx]
  have hd : (afterSchedule s).dbgp = s.dbgp := by
    rw [ha, tickFrozen_dbgp]; exact keeps State.dbgp rfl fun _ _ _ => rfl
  obtain ⟨hcl, hex⟩ := tick_of_no_resume s h (by rw [hd, hr])
  have hrun : (spillStream (putWrote s [])).sched.exec.running = s.sched.exec.running :=
    keeps (fun t => t.sched.exec.running) rfl fun _ _ _ => rfl
  have hcyc : (spillStream (putWrote s [])).sched.exec.cyc = s.sched.exec.cyc :=
    keeps (fun t => t.sched.exec.cyc) rfl fun _ _ _ => rfl
  have hfr : (spillStream (putWrote s [])).sched.exec.frozen = s.sched.exec.frozen :=
    keeps (fun t => t.sched.exec.frozen) rfl fun _ _ _ => rfl
  rw [hcl, hex, ha, tickFrozen_clusters, tickFrozen_exec, hrun]
  refine ⟨keeps State.clusters rfl fun _ _ _ => rfl, ?_⟩
  split <;> simp [hcyc, hfr]

/-! ### The schedule cycle of a running execution without plan traffic (02 R74, 04 R206) -/

/-- The state and the kernel cycle of a cluster, which its ports do not change. -/
def stCyc (p : Nat) (s : State) : ClSt × Nat := ((clOf s p).st, (clOf s p).kcyc)

/-- A change of a cluster that keeps its state and kernel cycle keeps those of all. -/
theorem stCyc_modCl (f : Cluster → Cluster) (h : ∀ c, (f c).st = c.st ∧ (f c).kcyc = c.kcyc) (p q : Nat) :
    stCyc p (modCl s q f) = stCyc p s := by
  unfold stCyc
  rw [clOf_modCl]
  split
  · next hq => subst hq; rw [(h _).1, (h _).2]
  · rfl

theorem portCycle_st_kcyc (c : Cluster) : (portCycle c).st = c.st ∧ (portCycle c).kcyc = c.kcyc :=
  ⟨portCycle_keeps (fun c => c.st) (fun _ _ => rfl) (fun _ _ => rfl) (fun _ _ => rfl) (fun _ _ => rfl) c,
    portCycle_keeps (fun c => c.kcyc) (fun _ _ => rfl) (fun _ _ => rfl) (fun _ _ => rfl) (fun _ _ => rfl) c⟩

theorem refill_st_kcyc (c : Cluster) : (refill c).st = c.st ∧ (refill c).kcyc = c.kcyc :=
  ⟨refill_keeps (fun c => c.st) (fun _ _ _ => rfl) c, refill_keeps (fun c => c.kcyc) (fun _ _ _ => rfl) c⟩

section Idle
variable (hi : s.sched.exec.insts = []) (ht : s.sched.exec.transit = [])
include hi ht

/-- Without plan traffic the ports keep what watchpoints, a port cycle and a fill keep. -/
theorem tickPorts_idle_keeps {β : Type} (g : State → β) (hw : ∀ t r, g (fireHalt t r) = g t)
    (hc : ∀ t p, g (modCl t p portCycle) = g t) (hr : ∀ t p, g (modCl t p refill) = g t) : g (tickPorts s) = g s :=
  tickPorts_keeps s g hw hc hr fun t he => by rw [moveCycle_idle t (by rw [he, hi]) (by rw [he, ht])]

theorem tickPorts_idle_exec : (tickPorts s).sched.exec = s.sched.exec :=
  tickPorts_idle_keeps s hi ht (fun t => t.sched.exec) fireHalt_exec (fun _ _ => by rw [modCl_sched]) fun _ _ => by rw [modCl_sched]

theorem tickPorts_idle_resumeAt : (tickPorts s).dbgp.resumeAt = s.dbgp.resumeAt :=
  tickPorts_idle_keeps s hi ht (fun t => t.dbgp.resumeAt) fireHalt_resumeAt (fun _ _ => by rw [modCl_dbgp])
    fun _ _ => by rw [modCl_dbgp]

theorem tickPorts_idle_stCyc (p : Nat) : stCyc p (tickPorts s) = stCyc p s :=
  tickPorts_idle_keeps s hi ht (stCyc p) (fun t r => by unfold stCyc; rw [clOf_congr (fireHalt_clusters t r)])
    (fun t q => stCyc_modCl t portCycle portCycle_st_kcyc p q) fun t q => stCyc_modCl t refill refill_st_kcyc p q

/-- Without plan traffic the schedule cycle is the ports', the execution's next cycle and the clusters' next kernel cycle. -/
theorem tickSchedule_idle (hf : dieFrozen s = false) (hr : s.sched.exec.running = true) (hs : s.sched.exec.stopped = false) :
    tickSchedule s = tickClusters (modExec (tickPorts s) fun e => { e with cyc := e.cyc + 1 }) := by
  have hi : idleStopped (tickPorts s) = tickPorts s := by simp [idleStopped, tickPorts_idle_exec s hi ht, hs]
  simp [tickSchedule, hf, hr, hi]

end Idle

/-- The kernel cycle of a running cluster moves on by one. -/
theorem kcyc_tickClusters {p : Nat} (hp : p < 144) (h : (clOf s p).st = .running) :
    (clOf (tickClusters s) p).kcyc = (clOf s p).kcyc + 1 := by
  rw [tickClusters, clOf_allCl s _ hp, if_pos h]

/-- With the PLL a running execution without plan traffic moves on by one cycle, and with it each running cluster. -/
theorem tick_of_running (h : s.power.pll = true) (hf : dieFrozen s = false) (hr : s.dbgp.resumeAt = none)
    (hrun : s.sched.exec.running = true) (hst : s.sched.exec.stopped = false) (hi : s.sched.exec.insts = [])
    (ht : s.sched.exec.transit = []) :
    (tick s).sched.exec.cyc = s.sched.exec.cyc + 1
    ∧ ∀ p < 144, (clOf s p).st = .running → (clOf (tick s) p).kcyc = (clOf s p).kcyc + 1 := by
  have keeps {β : Type} (g : State → β) := spillStream_putWrote_keeps s g
  have hcyc : (spillStream (putWrote s [])).sched.exec.cyc = s.sched.exec.cyc :=
    keeps (fun t => t.sched.exec.cyc) rfl fun _ _ _ => rfl
  have hres : (spillStream (putWrote s [])).dbgp.resumeAt = s.dbgp.resumeAt :=
    keeps (fun t => t.dbgp.resumeAt) rfl fun _ _ _ => rfl
  have hcl : ∀ p, stCyc p (spillStream (putWrote s [])) = stCyc p s := fun p => keeps (stCyc p) rfl fun _ _ _ => rfl
  have hi' := (keeps (fun t => t.sched.exec.insts) rfl fun _ _ _ => rfl).trans hi
  have ht' := (keeps (fun t => t.sched.exec.transit) rfl fun _ _ _ => rfl).trans ht
  have ha := tickSchedule_idle _ hi' ht' ((keeps dieFrozen rfl fun _ _ _ => rfl).trans hf)
    ((keeps (fun t => t.sched.exec.running) rfl fun _ _ _ => rfl).trans hrun)
    ((keeps (fun t => t.sched.exec.stopped) rfl fun _ _ _ => rfl).trans hst)
  change afterSchedule s = _ at ha
  have hd : (afterSchedule s).dbgp.resumeAt = none := by
    rw [ha, tickClusters, allCl_dbgp, modExec_dbgp, tickPorts_idle_resumeAt _ hi' ht', hres, hr]
  obtain ⟨hclusters, hexec⟩ := tick_of_no_resume s h hd
  constructor
  · have hx := tickPorts_idle_exec _ hi' ht'
    rw [hexec, ha, tickClusters, allCl_sched, modExec, putSched_sched, hx, hcyc]
  · intro p hp hrp
    have hp' := (tickPorts_idle_stCyc _ hi' ht' p).trans (hcl p)
    simp only [stCyc, Prod.mk.injEq] at hp'
    obtain ⟨hst', hk'⟩ := hp'
    have hm := clOf_congr (modExec_clusters (tickPorts (spillStream (putWrote s []))) fun e => { e with cyc := e.cyc + 1 }) p
    rw [clOf_congr hclusters, ha, kcyc_tickClusters _ hp (by rw [hm, hst', hrp]), hm, hk']

/-- Settles O56: a step on an empty queue is one `tick`; each clause is one of the four cases of a tick (no PLL, the counter, a frozen
die, a running execution). -/
theorem emptyQueueIsOneCount : Obligations.EmptyQueueIsOneCount := by
  unfold Obligations.EmptyQueueIsOneCount
  intro s hq
  have hstep : step s = .next (tick s) := by simp [step, hq]
  exact ⟨tick s, hstep, tick_of_pll_off s, tick_count_of_pll_on s, tick_of_frozen s, tick_of_running s⟩

end Sys2Proof.Machine

/-!
SUPPORT. What a unit's start does to its cluster's flights, and the products that an MMA's start forms (01 R30 to R33, R40; 02 R88, R101,
R102).
-/
namespace Sys2Proof.Machine

/-! ### Bytes and lists -/

/-- The element at an index within a list. -/
theorem nth_of_lt {α : Type} {xs : List α} {i : Nat} (d : α) (h : i < xs.length) : nth xs i d = xs[i] := by
  rw [nth, List.getElem?_eq_getElem h, Option.getD_some]

/-- Writing the number that some bytes spell gives the bytes again. -/
theorem leBytes_leNat (bs : List Byte) : leBytes bs.length (leNat bs) = bs := by
  induction bs with
  | nil => rfl
  | cons b bs ih =>
    have hlow : BitVec.ofNat 8 (b.toNat + 256 * leNat bs) = b := by
      apply BitVec.eq_of_toNat_eq
      rw [BitVec.toNat_ofNat]
      omega
    have hhigh : (b.toNat + 256 * leNat bs) / 256 = leNat bs := by omega
    rw [List.length_cons, leNat, leBytes, hlow, hhigh, ih]

@[simp] theorem flipBytes_zero (bs : List Byte) : flipBytes 0#32 bs = bs := by simp [flipBytes, leBytes_leNat]

@[simp] theorem flipCols_zero (ws : List (List Byte × List Byte)) : flipCols 0#32 ws = ws := by
  cases ws <;> simp [flipCols]

@[simp] theorem startEcc_clean (f : Flight) : startEcc f .clean = .clean := ite_self _

/-! ### The start of a unit's head (02 R88) -/

/-- The head that waits for a unit is one of the flights. -/
theorem unitHead_mem {u : UnitUse} {pre pre' fs : List Flight} {f : Flight} (h : unitHead u pre fs = some (pre', f)) : f ∈ fs := by
  induction fs generalizing pre with
  | nil => simp [unitHead] at h
  | cons x xs ih =>
    rw [unitHead] at h
    split at h
    · simp_all
    · exact List.mem_cons_of_mem _ (ih h)

/-- A flight that replaces one of some flights is among them. -/
theorem mem_putFlight {f f' : Flight} {fs : List Flight} (h : f ∈ fs) : f' ∈ putFlight f f' fs := by
  induction fs with
  | nil => simp at h
  | cons x xs ih =>
    rw [putFlight]
    split
    · simp
    · next hx => exact List.mem_cons_of_mem _ (ih ((List.mem_cons.mp h).resolve_left (Ne.symm hx)))

@[simp] theorem occupy_flights (c : Cluster) (u : UnitUse) (n : Nat) : (occupy c u n).flights = c.flights := by
  cases u <;> rfl

@[simp] theorem autoFold_flights (c : Cluster) (live : Bool) (vs : List Nat) : (autoFold c live vs).flights = c.flights := by
  unfold autoFold; split <;> rfl

/-- A job's start cycle leaves the flights of its cluster to the start. -/
@[simp] theorem runJob_flights (env : CEnv) (c : Cluster) (f : Flight) (e : Ecc) : (runJob env c f e).c.flights = c.flights := by
  unfold runJob
  cases f.job with
  | mma p b lean => dsimp only; split <;> rfl
  | pcvtH16 d => exact autoFold_flights _ _ _
  | pcvtF8 d => exact autoFold_flights _ _ _
  | pcvtB8 d u => exact autoFold_flights _ _ _
  | _ => rfl

/-- The flight of a start: what its job's start cycle gave it, under way from this cycle until its occupancy and its landing. -/
def startedFlight (env : CEnv) (c : Cluster) (f : Flight) (e : Ecc) : Flight :=
  let r := runJob env c f (startEcc f e)
  { r.f with started := true, startAt := c.kcyc, occ := r.occ, readyAt := c.kcyc + r.land }

/-- The start of a unit's head puts the started flight in its place. -/
theorem startUnit_flights {env : CEnv} {c : Cluster} {u : UnitId} {e : Ecc} {pre : List Flight} {f : Flight} (hrun : c.st = .running)
    (hh : unitHead (unitOf u) [] c.flights = some (pre, f)) (hok : startOk c pre f = true) :
    (startUnit env c u e).1.flights = putFlight f (startedFlight env c f e) c.flights := by
  simp [startUnit, startedFlight, hh, hrun, hok]

/-- A unit's start on a die that is not frozen leaves its cluster the flights of `startUnit`. -/
theorem exec_unitStart_flights {s : State} {cl : Fin 144} {u : UnitId} {e : Ecc} (hd : dieFrozen s = false) :
    ∃ t, exec (.unitStart cl u e) s = .next t
      ∧ (clOf t cl.val).flights = (startUnit (mkEnv s cl.val) (clOf s cl.val) u e).1.flights := by
  refine ⟨_, rfl, ?_⟩
  simp only [actOn, hd, Bool.false_eq_true, if_false]
  rw [clOf_applyEff_keeps _ (fun c => c.flights) (fun _ _ _ => rfl) (fun _ _ => rfl) (fun _ _ => rfl), clOf_setCl, if_pos rfl]

/-! ### The products of an MMA (01 R30 to R33, R40; 02 R102) -/

/-- Away from the lean point an output of an MMA is the sum of its floored exact products. -/
theorem mmaOut_exact (draw base : Nat) (g : Int) (k : Nat) (as bs : List (Option (Int × Int))) :
    (mmaOut false draw base g k as bs).1 = sumProducts g as bs := by
  induction as generalizing k bs with
  | nil => simp [mmaOut, sumProducts]
  | cons a as ih =>
    cases bs with
    | nil => cases a <;> simp [mmaOut, sumProducts]
    | cons b bs => cases a <;> cases b <;> simp [mmaOut, sumProducts, formProduct, ih]

/-- Row r and column n of an MMA give an addition to register 40r + n of its range. -/
theorem mem_mmaRun {draw pb : Nat} {g : Int} {rows cols : List (List (Option (Int × Int)))} {r n : Nat}
    (hr : r < rows.length) (hn : n < cols.length) :
    (pb + 40 * r + n, sumProducts g (nth rows r []) (nth cols n [])) ∈ (mmaRun false draw pb g rows cols).1 := by
  have hrow : (nth rows r [], r) ∈ rows.zipIdx := by
    rw [nth_of_lt [] hr]; exact List.mem_zipIdx_iff_getElem?.mpr (List.getElem?_eq_getElem hr)
  have hcol : (nth cols n [], n) ∈ cols.zipIdx := by
    rw [nth_of_lt [] hn]; exact List.mem_zipIdx_iff_getElem?.mpr (List.getElem?_eq_getElem hn)
  simp only [mmaRun, List.mem_map, List.mem_flatMap]
  exact ⟨_, ⟨_, hrow, _, hcol, rfl⟩, by rw [mmaOut_exact]⟩

theorem mmaElems_rows_length (p : Pair) (frag : List (List Nat)) (cols : List (List Byte × List Byte)) :
    (mmaElems p frag cols).1.length = frag.length := List.length_map _

theorem mmaElems_cols_length (p : Pair) (frag : List (List Nat)) (cols : List (List Byte × List Byte)) :
    (mmaElems p frag cols).2.length = 40 := by simp [mmaElems]

/-- The start of a live MMA at the nominal point, its buffer read without an error: it lands 39 cycles on with the additions of exact
products. -/
theorem startedFlight_mma {env : CEnv} {c : Cluster} {f : Flight} {p : Pair} {b : Nat} {lean : Bool} (hj : f.job = .mma p b lean)
    (hl : f.live = true) (he : env.lean = false) :
    (startedFlight env c f .clean).readyAt = c.kcyc + 39
    ∧ (startedFlight env c f .clean).acc = (mmaRun false env.draw (flightBase f) c.gExp
        (mmaElems p f.frag (nth c.sbufs b {}).cols).1 (mmaElems p f.frag (nth c.sbufs b {}).cols).2).1 := by
  simp [startedFlight, runJob, hj, hl, he, eccMask]

/-- Settles O19: the MMA starts as the head of its unit does, its elements are those of the stored columns since no bit flips, and at the
nominal point each of its outputs is the sum of the floored exact products. -/
theorem matrixProductsAccumulate : Obligations.MatrixProductsAccumulate := by
  unfold Obligations.MatrixProductsAccumulate
  intro s cl pre f pair b lean c es hd hrun hh hok _ hj hl he hfr
  obtain ⟨t, ht, hfl⟩ := exec_unitStart_flights (cl := cl) (u := .mma) (e := .clean) hd
  rw [startUnit_flights (u := .mma) hrun hh hok] at hfl
  obtain ⟨hready, hacc⟩ := startedFlight_mma (env := mkEnv s cl.val) (c := c) hj hl he
  refine ⟨t, _, ht, hfl ▸ mem_putFlight (unitHead_mem hh), rfl, hready, fun r hr n hn => ?_⟩
  have hrow : r < es.1.length := by rw [mmaElems_rows_length, hfr]; exact hr
  have hcol : n < es.2.length := by rw [mmaElems_cols_length]; exact hn
  rw [hacc]
  exact mem_mmaRun hrow hcol

/-- An MMA.H16 of all lanes on buffer 1 that waits, its streamed elements 1.0. -/
def onesMma : Flight :=
  { g := 0, pc := 64, job := .mma .h16h16 1 false, use := .mma, issueAt := 0, started := false, startAt := 0, readyAt := 0, occ := 1,
    mask := BitVec.allOnes 32, dsts := [], writes := [], addrs := [], vals := [], reads := [], ranges := [(0, 1280)],
    frag := List.replicate 32 (List.replicate 8 0x3C003C00), acc := [], stores := [], live := true }

/-- Cluster 0 runs with `onesMma` as its only flight; the elements of buffer 1 are 2.0. -/
def onesMmaSt : State :=
  setCl State.reset 0
    { st := .running, kcyc := 10, flights := [onesMma],
      sbufs := [{}, { cols := List.replicate 40 ((List.replicate 16 [0x00, 0x40]).flatten, []) }] }

/-- The sixteen products of 1.0 and 2.0 add 32 to the last register of the range. -/
theorem onesMmaSt_adds_products : ∃ t g, exec (.unitStart 0 .mma .clean) onesMmaSt = .next t ∧ g ∈ (clOf t 0).flights
    ∧ ((1279, 32) : Nat × Peat) ∈ g.acc := by
  let es := mmaElems .h16h16 onesMma.frag (nth (clOf onesMmaSt 0).sbufs 1 {}).cols
  have hsum : sumProducts (clOf onesMmaSt 0).gExp (nth es.1 31 []) (nth es.2 39 []) = 32 := by decide +kernel
  obtain ⟨t, g, ht, hg, -, -, hacc⟩ := matrixProductsAccumulate onesMmaSt 0 [] onesMma .h16h16 1 false (by decide +kernel) rfl rfl
    (by decide +kernel) rfl rfl rfl rfl rfl
  exact ⟨t, g, ht, hg, hsum ▸ hacc 31 (by decide) 39 (by decide)⟩

end Sys2Proof.Machine

/-!
SUPPORT. What an instruction does that nothing holds back and that finds no fault: it sends its results or waits for its unit (02 R84 to R88);
the vector instructions (01 R55 to R58, 03 R167).
-/
namespace Sys2Proof.Machine

variable {s : State} {st : Site} {i : Instr} {mk : Ctx → Act} {rs : List RegId} {u : UnitUse}

/-- What an instruction's meaning sees at its site. -/
abbrev siteCtx (s : State) (st : Site) : Ctx := ⟨siteCl s st, st.g.val, mkEnv s st.cl.val⟩

/-- The fault that an act finds at its issue (02 R131, 03 R155, R204). -/
abbrev faultOf (c : Cluster) (g : Nat) (a : Act) : Option (Nat × Nat × Nat) :=
  if (grp c g).active ≠ 0 ∨ a.emptyFaults = true then pickFault a.faults else none

theorem faultOf_of_no_faults {c : Cluster} {g : Nat} {a : Act} (h : a.faults = []) : faultOf c g a = none := by
  simp [faultOf, h, pickFault]

/-- An act that acts on no path without lanes finds no fault when it has none on a path with lanes (03 R155). -/
theorem faultOf_of_live {c : Cluster} {g : Nat} {a : Act} (he : a.emptyFaults = false) (h : (grp c g).active ≠ 0 → a.faults = []) :
    faultOf c g a = none := by
  by_cases h0 : (grp c g).active = 0
  · simp [faultOf, he, h0]
  · exact faultOf_of_no_faults (h h0)

/-- An instruction without faults whose results are known sends them. -/
theorem sends_of (hx : exec i s = issue s st i mk) (h : AtIssue s st i rs .free)
    (hr : (mk (siteCtx s st)).srcs ++ (mk (siteCtx s st)).dsts = rs) (hu : (mk (siteCtx s st)).use = .free)
    (hf : faultOf (siteCl s st) st.g.val (mk (siteCtx s st)) = none) (hd : (mk (siteCtx s st)).dsts ≠ []) :
    Sends i s st (mk (siteCtx s st)).lat (mk (siteCtx s st)).dsts (mk (siteCtx s st)).writes :=
  issues_of s hx h hr.symm hu hf (by simp [keepsFlight, hd]) ⟨by simp [mkFlight, hu], rfl, rfl, rfl⟩

/-- An instruction without faults that uses a unit waits for it with its work. -/
theorem waits_of (hx : exec i s = issue s st i mk) (h : AtIssue s st i rs u)
    (hr : (mk (siteCtx s st)).srcs ++ (mk (siteCtx s st)).dsts = rs) (hu : (mk (siteCtx s st)).use = u) (hn : u ≠ .free)
    (hf : faultOf (siteCl s st) st.g.val (mk (siteCtx s st)) = none) {P : Flight → Prop}
    (hP : P (mkFlight (siteCl s st) st.g.val (mk (siteCtx s st)))) :
    Waits i s st u (mk (siteCtx s st)).job P := by
  subst hu
  exact issues_of s hx h hr.symm rfl hf (by simp [keepsFlight, hn]) ⟨by simp [mkFlight, hn], rfl, rfl, hP⟩

/-! ### Vector instructions -/

/-- Element h of a vector operand is a register of its pair or a half of its register (02 R113). -/
theorem elemVal_eq_elemOf (fmt : VFmt) (r h l : Nat) : elemVal (siteCtx s st) fmt r h l = elemOf s st fmt r h l := by
  cases fmt with
  | s32 => rfl
  | h16 =>
    have hw : 16 * h + 15 - 16 * h + 1 = 16 := by omega
    simp only [elemVal, elemOf, fld, hw, Nat.shiftRight_eq_div_pow]
    rfl

theorem vecRun_ne_nil (fmt : VFmt) (r : Nat) : vecRun fmt r ≠ [] := by
  cases fmt <;> simp [vecRun, vRun]

/-- A vector act sends its elements 16 cycles later (02 R115). -/
theorem sends_of_vecAct {gd : Guard} {srcs dsts : List RegId} {fd : VFmt} {d : Nat} {f f' : Nat → Nat → Nat}
    (hx : exec i s = issue s st i mk) (hm : mk (siteCtx s st) = vecAct (siteCtx s st) gd srcs dsts fd d f) (hf : f = f') (hd : dsts ≠ [])
    (h : AtIssue s st i (guardSrc gd ++ srcs ++ dsts) .free) :
    Sends i s st 16 dsts (elemWrites (lanesOf s st gd) fd d f') := by
  subst hf
  have := sends_of hx h (by rw [hm]; rfl) (by rw [hm]; rfl) (faultOf_of_no_faults (by rw [hm]; rfl)) (by rw [hm]; exact hd)
  rw [hm] at this
  exact this

theorem vec2_sends (f : FpFmt → Nat → Nat → Nat) (o : Vec2) (hx : exec i s = issue s st i (vec2Act f o))
    (h : AtIssue s st i (guardSrc o.gd ++ (vecRun o.fmt o.a.val ++ vecRun o.fmt o.b.val) ++ vecRun o.fmt o.d.val) .free) :
    Sends i s st 16 (vecRun o.fmt o.d.val) (elemWrites (lanesOf s st o.gd) o.fmt o.d.val fun h l =>
        f (vfp o.fmt) (elemOf s st o.fmt o.a.val h l) (elemOf s st o.fmt o.b.val h l)) :=
  sends_of_vecAct hx rfl (by simp only [elemVal_eq_elemOf]) (vecRun_ne_nil _ _) h

theorem vec1_sends (f : FpFmt → Nat → Nat) (fmt : VFmt) (v : Vec1) (hx : exec i s = issue s st i (vec1Act f fmt v))
    (h : AtIssue s st i (guardSrc v.gd ++ vecRun fmt v.a.val ++ vecRun fmt v.d.val) .free) :
    Sends i s st 16 (vecRun fmt v.d.val) (elemWrites (lanesOf s st v.gd) fmt v.d.val fun h l =>
        f (vfp fmt) (elemOf s st fmt v.a.val h l)) :=
  sends_of_vecAct hx rfl (by simp only [elemVal_eq_elemOf]) (vecRun_ne_nil _ _) h

/-- Settles O6: every vector instruction is one act that sends its operation on the elements of each lane. -/
theorem vectorResults : Obligations.VectorResults := by
  unfold Obligations.VectorResults
  intro s st o c fmt v el
  refine ⟨fun p hp h => ?_, fun p hp h => ?_, fun h => ?_⟩
  · simp only [vec2Table, List.mem_cons, List.not_mem_nil, or_false] at hp
    rcases hp with rfl | rfl | rfl | rfl | rfl <;> exact vec2_sends _ o rfl h
  · simp only [vec1Table, List.mem_cons, List.not_mem_nil, or_false] at hp
    rcases hp with rfl | rfl <;> exact vec1_sends _ fmt v rfl h
  · exact sends_of_vecAct rfl rfl (by simp only [elemVal_eq_elemOf, el]) (vecRun_ne_nil _ _) h

end Sys2Proof.Machine

/-!
SUPPORT. The conversions, the special functions and KCG at their issue (02 R116, 03 R169 to R174).
-/
namespace Sys2Proof.Machine

variable {s : State} {st : Site} {i : Instr} {mk : Ctx → Act} {rs : List RegId} {u : UnitUse}

/-! ### Conversions and special functions -/

theorem cvt_sends (f : Nat → Nat) (src dst : VFmt) (v : Vec1) (hx : exec i s = issue s st i (cvtAct f src dst v))
    (h : AtIssue s st i (guardSrc v.gd ++ vecRun src v.a.val ++ vecRun dst v.d.val) .free) :
    Sends i s st 16 (vecRun dst v.d.val)
      (elemWrites (lanesOf s st v.gd) dst v.d.val fun h l => f (elemOf s st src v.a.val h l)) :=
  sends_of_vecAct hx rfl (by simp only [elemVal_eq_elemOf]) (vecRun_ne_nil _ _) h

/-- A conversion to F8 sends both elements in the low half of one register (03 R169). -/
theorem cvtToF8_sends (f : Nat → Nat) (src : VFmt) (v : Vec1) (hx : exec i s = issue s st i (cvtToF8Act f src v))
    (h : AtIssue s st i (guardSrc v.gd ++ vecRun src v.a.val ++ [.v v.d.val]) .free) :
    Sends i s st 16 [.v v.d.val] ((lanesOf s st v.gd).map fun l =>
      (.lane v.d.val l, w32 (f (elemOf s st src v.a.val 0 l) + f (elemOf s st src v.a.val 1 l) * 256))) := by
  simp only [← elemVal_eq_elemOf]
  exact sends_of hx h rfl rfl (faultOf_of_no_faults rfl) (List.cons_ne_nil _ _)

/-- A conversion from F8 sends the elements in bytes 0 and 1 of its register (03 R169). -/
theorem cvtFromF8_sends (f : Nat → Nat) (v : Vec1) (hx : exec i s = issue s st i (cvtFromF8Act f v))
    (h : AtIssue s st i (guardSrc v.gd ++ [.v v.a.val] ++ [.v v.d.val]) .free) :
    Sends i s st 16 [.v v.d.val] (elemWrites (lanesOf s st v.gd) .h16 v.d.val fun h l =>
      f ((laneVal s st v.a.val l).toNat / 2 ^ (8 * h) % 2 ^ 8)) := by
  refine sends_of_vecAct hx rfl (funext₂ fun h l => ?_) (List.cons_ne_nil _ _) h
  have hw : 8 * h + 7 - 8 * h + 1 = 8 := by omega
  rw [fld, hw, Nat.shiftRight_eq_div_pow]
  rfl

/-- A special function waits for the SFU with its results (02 R116, 03 R172). -/
theorem sfu_waits (f : Nat → Nat) (fmt : VFmt) (v : Vec1) (hx : exec i s = issue s st i (sfuAct f fmt v))
    (h : AtIssue s st i (guardSrc v.gd ++ vecRun fmt v.a.val ++ vecRun fmt v.d.val) .sfu) :
    Waits i s st .sfu .value fun x => x.writes = elemWrites (lanesOf s st v.gd) fmt v.d.val fun h l =>
      (match fmt with | .s32 => f | .h16 => sfuH16 f) (elemOf s st fmt v.a.val h l) := by
  simp only [← elemVal_eq_elemOf]
  exact waits_of hx h rfl rfl (by decide) (faultOf_of_no_faults rfl) rfl

theorem sumN_map_range_four (v : Nat → Nat) : sumN ((List.range 4).map v) = v 0 + v 1 + v 2 + v 3 := by
  simp [sumN, List.range_succ]

/-- Four registers spell a 128-bit value, word 0 least significant (03 R173). -/
theorem quadVal_eq_runVal (r l : Nat) : quadVal (siteCtx s st) r l = BitVec.ofNat 128 (runVal s st r 4 l) := by
  rw [runVal, sumN_map_range_four, Nat.mul_zero, Nat.pow_zero, Nat.mul_one, Nat.add_zero, quadVal]
  rfl

/-- KCG waits for the SFU with its four words (03 R173, R174). -/
theorem kcg_waits (gd : Guard) (d a b : Nat) (hx : exec i s = issue s st i (kcgAct gd d a b))
    (h : AtIssue s st i (guardSrc gd ++ vRun a 4 ++ vRun b 4 ++ vRun d 4) .sfu) :
    Waits i s st .sfu .value fun x => x.writes = (lanesOf s st gd).flatMap fun l => (List.range 4).map fun j => (.lane (d + j) l,
      w32 ((kcg (BitVec.ofNat 128 (runVal s st a 4 l)) (BitVec.ofNat 128 (runVal s st b 4 l))).toNat / 2 ^ (32 * j))) := by
  simp only [← quadVal_eq_runVal]
  exact waits_of hx h rfl rfl (by decide) (faultOf_of_no_faults rfl) rfl

/-- Settles O7: a conversion sends as a vector instruction does; a special function and KCG wait for the SFU with their results. -/
theorem conversionAndSpecialResults : Obligations.ConversionAndSpecialResults := by
  unfold Obligations.ConversionAndSpecialResults
  intro s st v fmt gd d a b ls
  refine ⟨fun p hp h => ?_, cvtToF8_sends _ .s32 v rfl, cvtToF8_sends _ .h16 v rfl, cvtFromF8_sends _ v rfl, fun p hp h => ?_,
    kcg_waits gd d.val a.val b.val rfl⟩
  · simp only [cvtTable, List.mem_cons, List.not_mem_nil, or_false] at hp
    rcases hp with rfl | rfl | rfl | rfl <;> exact cvt_sends _ _ _ v rfl h
  · simp only [sfuTable, List.mem_cons, List.not_mem_nil, or_false] at hp
    rcases hp with rfl | rfl | rfl | rfl | rfl | rfl <;> exact sfu_waits _ fmt v rfl h

end Sys2Proof.Machine

/-!
SUPPORT. Matrix, Peat and memory instructions at their issue: when they find no fault, and what their flights hold (02 R91, R104, R108, R112;
03 R175 to R196).
-/
namespace Sys2Proof.Machine

variable {s : State} {st : Site} {i : Instr} {mk : Ctx → Act} {rs : List RegId} {u : UnitUse}

/-! ### Matrix instructions -/

/-- The slices that an MLD reads are those of its columns (02 R108, 03 R175). -/
theorem mldSlices_eq_slicesOf (fmt : MFmt) (a b c e : Nat) : mldSlices (siteCtx s st) fmt a b c e = slicesOf s st fmt a b c e := by
  cases fmt <;> rfl

theorem sliceFault_eq_nil {code : Nat} {bad : Nat × Nat → Bool} {sl : List (Nat × Nat)} (h : ∀ x ∈ sl, bad x = false) :
    sliceFault code bad sl = [] := by
  have : sl.find? bad = none := by simpa using h
  rw [sliceFault, this]

/-- MLD finds no fault when all lanes take part and every slice lies in the scratchpad, aligned to its size, nor on a path without lanes
(02 R104, R108, 03 R155). -/
theorem mld_no_fault {gd : Guard} {fmt : MFmt} {buf a b c e : Nat}
    (hl : (siteGrp s st).active = 0 ∨ guardLanes (siteCl s st) st.g.val gd = allLanes)
    (hs : (siteGrp s st).active = 0 ∨ ∀ x ∈ slicesOf s st fmt a b c e, x.1 + x.2 ≤ 2 ^ 20 ∧ x.1 % x.2 = 0) :
    faultOf (siteCl s st) st.g.val (mldAct gd fmt buf a b c e (siteCtx s st)) = none := by
  refine faultOf_of_live rfl fun h0 => ?_
  have hm : (siteCtx s st).lanes gd = allLanes := hl.resolve_left h0
  have hs := hs.resolve_left h0
  have hrange : sliceFault 2 (fun x => decide (x.1 + x.2 > 0x100000)) (slicesOf s st fmt a b c e) = [] :=
    sliceFault_eq_nil fun x hx => decide_eq_false (Nat.not_lt.mpr (hs x hx).1)
  have halign : sliceFault 3 (fun x => x.1 % x.2 != 0) (slicesOf s st fmt a b c e) = [] :=
    sliceFault_eq_nil fun x hx => by simp [(hs x hx).2]
  simp only [mldAct, mldSlices_eq_slicesOf, hm, hrange, halign, if_true, List.append_nil]

/-- MMA finds no fault when all lanes take part, its Peat range exists and its buffer has the format of the pair, nor on a path without
lanes (02 R104, R112, 03 R155, R178). -/
theorem mma_no_fault {gd : Guard} {pair : Pair} {buf : Nat} {lean : Bool} {va vs pb : Nat}
    (hl : (siteGrp s st).active = 0 ∨ guardLanes (siteCl s st) st.g.val gd = allLanes)
    (hp : (siteGrp s st).active = 0 ∨ pb ≤ 2816 ∧ (nth (siteCl s st).sbufs buf {}).fmt = some (pairStat pair)) :
    faultOf (siteCl s st) st.g.val (mmaAct gd pair buf lean va vs pb (siteCtx s st)) = none := by
  refine faultOf_of_live rfl fun h0 => ?_
  have hm : (siteCtx s st).lanes gd = allLanes := hl.resolve_left h0
  obtain ⟨hpb, hfmt⟩ := hp.resolve_left h0
  simp [mmaAct, hm, hfmt, Nat.not_lt.mpr hpb]

/-- Settles O8: with its lanes, addresses, ranges and formats right, or on a path without lanes, neither act finds a fault. -/
theorem matrixIssue : Obligations.MatrixIssue := by
  unfold Obligations.MatrixIssue
  intro s st gd fmt buf a b c e pair lean va vs p idle hl
  refine ⟨fun hs h => ?_, fun hp h => ?_⟩
  · refine waits_of rfl h ?_ rfl (by decide) (mld_no_fault hl hs) (mldSlices_eq_slicesOf fmt a.val b.val c.val e.val)
    cases fmt <;> simp [mldAct, mldScale]
  · exact waits_of rfl h (List.append_nil _) rfl (by decide) (mma_no_fault hl hp) ⟨rfl, rfl⟩

/-! ### Peat instructions -/

theorem peatRangeOk_of {rs : List (Nat × Nat)} (h : ∀ r ∈ rs, r.1 + r.2 ≤ 4096) : peatRangeOk rs = true := by
  simpa [peatRangeOk] using h

/-- A Peat act whose ranges exist, or on a path without lanes, waits for the Peat unit (02 R111, R112). -/
theorem waits_of_peatAct {job : Job} {m : BitVec 32} {srcs dsts : List RegId} {ranges : List (Nat × Nat)} {vals : List Nat}
    (hx : exec i s = issue s st i mk) (hm : mk (siteCtx s st) = peatAct job m srcs dsts ranges vals)
    (hr : (siteGrp s st).active = 0 ∨ ∀ r ∈ ranges, r.1 + r.2 ≤ 4096) (h : AtIssue s st i rs .peat) (hrs : srcs ++ dsts = rs)
    {P : Flight → Prop} (hP : ∀ f : Flight, f.ranges = ranges → f.vals = vals → P f) : Waits i s st .peat job P := by
  have hf : faultOf (siteCl s st) st.g.val (mk (siteCtx s st)) = none := by
    rw [hm]
    exact faultOf_of_live rfl fun h0 => by rw [peatAct, peatRangeOk_of (hr.resolve_left h0), if_pos rfl]
  have hw := waits_of (P := P) hx h (by rw [hm]; exact hrs) (by rw [hm]; rfl) (by decide) hf (by rw [hm]; exact hP _ rfl rfl)
  rwa [hm] at hw

/-! ### Lane accesses -/

theorem accFaults_eq_nil {n al lane a : Nat} (hr : a + n ≤ 2 ^ 20) (ha : a % al = 0) : accFaults n al lane a = [] := by
  simpa [accFaults, ha] using hr

/-- Accesses in range and aligned have no fault (02 R91). -/
theorem laneFaults_eq_nil {gd : Guard} {a : Nat} {off : Word} {n al : Nat} (h : AccessOk s st gd a off n al) :
    laneFaults n al (laneAddrs (siteCtx s st) ((siteCtx s st).lanes gd) a off) = [] :=
  List.flatMap_eq_nil_iff.mpr fun p hp => accFaults_eq_nil (h p hp).1 (h p hp).2

/-- A Peat transfer whose accesses are in order and whose range exists waits for the group port and the Peat unit (02 R112, 03 R184). -/
theorem waits_of_peatMemAct {job : Job} {o : PeatMem} {n al : Nat} (hx : exec i s = issue s st i mk)
    (hm : mk (siteCtx s st) = peatMemAct job o n al (siteCtx s st)) (hp : (siteGrp s st).active = 0 ∨ o.p.val + 32 ≤ 4096)
    (ha : AccessOk s st o.gd o.a.val 0 n al) (h : AtIssue s st i (guardSrc o.gd ++ [.v o.a.val]) .both) :
    Waits i s st .both job fun f => f.ranges = [(o.p.val, 32)] ∧ f.addrs = addrsOf s st o.gd o.a.val 0 := by
  have hf : faultOf (siteCl s st) st.g.val (mk (siteCtx s st)) = none := by
    rw [hm]
    refine faultOf_of_live rfl fun h0 => ?_
    have hok : peatRangeOk [(o.p.val, 32)] = true := peatRangeOk_of (List.forall_mem_singleton.mpr (hp.resolve_left h0))
    rw [peatMemAct, laneFaults_eq_nil ha, hok, if_pos rfl, List.append_nil]
  have := waits_of (P := fun f => f.ranges = [(o.p.val, 32)] ∧ f.addrs = addrsOf s st o.gd o.a.val 0) hx h
    (by rw [hm]; exact List.append_nil _) (by rw [hm]; rfl) (by decide) hf (by rw [hm]; exact ⟨rfl, rfl⟩)
  rwa [hm] at this

/-- Settles O9: an act on Peat ranges inside the file finds no fault, and a transfer's lane accesses add none. -/
theorem peatIssue : Obligations.PeatIssue := by
  unfold Obligations.PeatIssue
  intro s st gd p fmt a d u o src idle
  refine ⟨fun hp => ?_, fun hp h => ?_, fun q hq hp ha h => ?_⟩
  · have hr : idle ∨ ∀ r ∈ [(p.val, 32)], r.1 + r.2 ≤ 4096 := hp.imp_right List.forall_mem_singleton.mpr
    refine ⟨fun h => ?_, fun h => ?_, fun h => ?_, fun h => ?_, fun hs h => ?_⟩
    · exact waits_of_peatAct rfl rfl hr h (List.append_nil _) fun f hf _ => hf
    · exact waits_of_peatAct rfl rfl hr h rfl fun f hf _ => hf
    · exact waits_of_peatAct rfl rfl hr h rfl fun f hf _ => hf
    · exact waits_of_peatAct rfl rfl hr h rfl fun f hf _ => hf
    · have hr2 : idle ∨ ∀ r ∈ [(p.val, 32), (src, 32)], r.1 + r.2 ≤ 4096 :=
        or_iff_not_imp_left.mpr fun h0 =>
          List.forall_mem_cons.mpr ⟨hp.resolve_left h0, List.forall_mem_singleton.mpr (hs.resolve_left h0)⟩
      exact waits_of_peatAct rfl rfl hr2 h (List.append_nil _) fun f hf _ => hf
  · have hr : idle ∨ ∀ r ∈ [(p.val, 64)], r.1 + r.2 ≤ 4096 := hp.imp_right List.forall_mem_singleton.mpr
    exact waits_of_peatAct rfl rfl hr h (List.append_nil _) fun f hf hv => ⟨hf, by simp only [hv, elemVal_eq_elemOf]⟩
  · simp only [peatMemTable, List.mem_cons, List.not_mem_nil, or_false] at hq
    rcases hq with rfl | rfl | rfl | rfl | rfl <;> exact waits_of_peatMemAct rfl rfl hp ha h

/-! ### Loads, stores and atomics -/

/-- The number of some bytes and more is that of the first plus that of the rest. -/
theorem leNat_append (xs ys : List Byte) : leNat (xs ++ ys) = leNat xs + 256 ^ xs.length * leNat ys := by
  induction xs with
  | nil => simp [leNat]
  | cons x xs ih =>
    rw [List.cons_append, leNat, leNat, ih, List.length_cons, Nat.pow_succ]
    ring

theorem leNat_take (n : Nat) (bs : List Byte) : leNat (bs.take n) = leNat bs % 256 ^ n := by
  induction bs generalizing n with
  | nil => simp [leNat]
  | cons b bs ih =>
    cases n with
    | zero => simp [leNat, Nat.mod_one]
    | succ n =>
      have hb : b.toNat < 256 := b.isLt
      have hlow : (b.toNat + 256 * leNat bs) % 256 = b.toNat := by omega
      have hhigh : (b.toNat + 256 * leNat bs) / 256 = leNat bs := by omega
      rw [List.take_succ_cons, leNat, leNat, ih, Nat.pow_succ', Nat.mod_mul, hlow, hhigh]

@[simp] theorem length_leBytes (n v : Nat) : (leBytes n v).length = n := by
  induction n generalizing v with
  | zero => rfl
  | succ n ih => rw [leBytes, List.length_cons, ih]

theorem leNat_leBytes (n v : Nat) : leNat (leBytes n v) = v % 256 ^ n := by
  induction n generalizing v with
  | zero => simp [leBytes, leNat, Nat.mod_one]
  | succ n ih => rw [leBytes, leNat, ih, Nat.pow_succ', Nat.mod_mul, BitVec.toNat_ofNat]

theorem sumN_append_singleton (xs : List Nat) (x : Nat) : sumN (xs ++ [x]) = sumN xs + x := by simp [sumN]

/-- The bytes of a run of registers spell its number. -/
theorem leNat_runBytes (s : State) (st : Site) (r k l : Nat) :
    leNat ((List.range k).flatMap fun i => leBytes 4 (laneVal s st (r + i) l).toNat) = runVal s st r k l := by
  have hlen : ∀ k, ((List.range k).flatMap fun i => leBytes 4 (laneVal s st (r + i) l).toNat).length = 4 * k := by
    intro k; simp [List.length_flatMap, Nat.mul_comm]
  induction k with
  | zero => rfl
  | succ k ih =>
    have hw : (laneVal s st (r + k) l).toNat % 256 ^ 4 = (laneVal s st (r + k) l).toNat :=
      Nat.mod_eq_of_lt (laneVal s st (r + k) l).isLt
    have hp : 256 ^ (4 * k) = 2 ^ (32 * k) := by rw [show 256 = 2 ^ 8 from rfl, ← Nat.pow_mul]; congr 1; omega
    rw [List.range_succ, List.flatMap_append, leNat_append, ih, hlen, List.flatMap_singleton, leNat_leBytes, hw, hp, runVal, runVal,
      List.range_succ, List.map_append, List.map_singleton, sumN_append_singleton, Nat.mul_comm]

/-- The bytes a lane stores spell the low bits of its source registers (03 R187). -/
theorem leNat_stBytes (sz : Sz) (d l : Nat) :
    leNat (stBytes (siteCtx s st) sz d l) = runVal s st d (szRegs sz) l % 2 ^ (8 * szBytes sz) := by
  rw [Nat.pow_mul, ← leNat_runBytes, ← leNat_take]
  rfl

/-- LD waits for the group port with its addresses (03 R185, R188). -/
theorem ld_waits {o : MemOp} (ha : AccessOk s st o.gd o.a.val (o.imm.signExtend 32) (szBytes o.sz) (szBytes o.sz))
    (h : AtIssue s st (.ld st o) (guardSrc o.gd ++ [.v o.a.val] ++ vRun o.d.val (szRegs o.sz)) .gport) :
    Waits (.ld st o) s st .gport (.ld o.sz o.t o.d.val) fun f => f.addrs = addrsOf s st o.gd o.a.val (o.imm.signExtend 32) := by
  refine waits_of rfl h rfl rfl (by decide) (faultOf_of_no_faults (laneFaults_eq_nil ha)) ?_
  rfl

/-- ST waits for the group port with its addresses and the low bytes of its source registers (03 R185, R187, R188). -/
theorem st_waits {o : MemOp} (ha : AccessOk s st o.gd o.a.val (o.imm.signExtend 32) (szBytes o.sz) (szBytes o.sz))
    (h : AtIssue s st (.st st o) (guardSrc o.gd ++ [.v o.a.val] ++ vRun o.d.val (szRegs o.sz)) .gport) :
    Waits (.st st o) s st .gport (.st o.sz o.t) fun f => f.addrs = addrsOf s st o.gd o.a.val (o.imm.signExtend 32)
      ∧ f.vals = (lanesOf s st o.gd).map fun l => runVal s st o.d.val (szRegs o.sz) l % 2 ^ (8 * szBytes o.sz) := by
  refine waits_of rfl h (List.append_nil _) rfl (by decide) (faultOf_of_no_faults (laneFaults_eq_nil ha)) ?_
  simp only [← leNat_stBytes]
  exact ⟨rfl, List.map_map⟩

theorem sumN_map_range_one (v : Nat → Nat) : sumN ((List.range 1).map v) = v 0 := by simp [sumN]

theorem sumN_map_range_two (v : Nat → Nat) : sumN ((List.range 2).map v) = v 0 + v 1 := by simp [sumN, List.range_succ]

/-- The operand of an atomic, of one register or two (03 R196). -/
theorem runVal_one_or_two (x64 : Bool) (r l : Nat) : runVal s st r (if x64 then 2 else 1) l
    = (laneVal s st r l).toNat + (if x64 then (laneVal s st (r + 1) l).toNat * 2 ^ 32 else 0) := by
  cases x64 with
  | false =>
    rw [runVal, if_neg Bool.false_ne_true, if_neg Bool.false_ne_true, sumN_map_range_one, Nat.mul_zero, Nat.pow_zero, Nat.mul_one]
    rfl
  | true => rw [runVal, if_pos rfl, if_pos rfl, sumN_map_range_two, Nat.mul_zero, Nat.pow_zero, Nat.mul_one, Nat.mul_one, Nat.add_zero]

/-- An atomic waits for the group port with its addresses and operands, the compare value above the other (03 R195, R196). -/
theorem atom_waits {fn : AtomFn} {o : AtomOp} {c : Option Nat} (hx : exec i s = issue s st i (atomAct fn o c))
    (ha : AccessOk s st o.gd o.a.val 0 (4 * if o.x64 then 2 else 1) (4 * if o.x64 then 2 else 1))
    (h : AtIssue s st i (guardSrc o.gd ++ [.v o.a.val] ++ vRun o.b.val (if o.x64 then 2 else 1)
      ++ (match c with | some r => vRun r (if o.x64 then 2 else 1) | none => []) ++ vRun o.d.val (if o.x64 then 2 else 1)) .gport) :
    Waits i s st .gport (.atom fn o.x64 o.t o.d.val) fun f => f.addrs = addrsOf s st o.gd o.a.val 0
      ∧ f.vals = (lanesOf s st o.gd).map fun l => runVal s st o.b.val (if o.x64 then 2 else 1) l
        + match c with | some r => runVal s st r (if o.x64 then 2 else 1) l * 2 ^ 64 | none => 0 := by
  simp only [runVal_one_or_two]
  exact waits_of hx h rfl rfl (by decide) (faultOf_of_no_faults (laneFaults_eq_nil ha)) ⟨rfl, List.map_map⟩

/-- Settles O10: accesses in range and aligned find no fault, so each instruction waits with the addresses and values of its act. -/
theorem memoryIssue : Obligations.MemoryIssue := by
  unfold Obligations.MemoryIssue
  intro s st m o c off k
  refine ⟨fun ha => ⟨ld_waits ha, st_waits ha⟩, fun ha => ⟨fun p hp h => ?_, fun h => atom_waits (c := some c.val) rfl ha h⟩⟩
  have h : AtIssue s st (p.1 st o) (guardSrc o.gd ++ [.v o.a.val] ++ vRun o.b.val k ++ [] ++ vRun o.d.val k) .gport := by
    rwa [List.append_nil]
  simp only [atomTable, List.mem_cons, List.not_mem_nil, or_false] at hp
  rcases hp with rfl | rfl | rfl | rfl | rfl | rfl | rfl | rfl | rfl | rfl | rfl <;> exact atom_waits (c := none) rfl ha h

end Sys2Proof.Machine

/-!
SUPPORT. What an instruction does that finds a fault at its issue, and a branch that diverges on a full stack (02 R81, R131, R132).
-/
namespace Sys2Proof.Machine

variable {s : State} {st : Site} {i : Instr} {mk : Ctx → Act} {rs : List RegId} {u : UnitUse}

/-! ### Faults at issue -/

/-- At its slot a group runs: its cluster runs, and it has started and not finished (02 R86). -/
theorem atSlot_runs {c : Cluster} {w : Option Instr} (h : atSlot c st w = true) :
    c.st = .running ∧ (grp c st.g.val).started = true ∧ (grp c st.g.val).finished = false := by
  simp only [atSlot, Bool.and_eq_true, beq_iff_eq, Bool.not_eq_true'] at h
  obtain ⟨⟨⟨⟨⟨⟨hrun, -⟩, -⟩, hstart⟩, hfin⟩, -⟩, -⟩ := h
  exact ⟨hrun, hstart, hfin⟩

/-- An issue that finds a fault leaves its cluster to the fault (02 R131). -/
theorem issueIns_of_fault {c : Cluster} {a : Act} {code lane addr : Nat} (h : issuable c st i a = true)
    (hf : faultOf c st.g.val a = some (code, lane, addr)) :
    issueIns c st i a = (c, { fault := some ⟨code, st.g.val, lane, (grp c st.g.val).pc, addr, c.kcyc⟩, ce := a.eff.ce, ue := a.eff.ue }) := by
  simp only [issueIns, h, if_true, hf]

/-- A fault of an action without another effect is its cluster's fault. -/
theorem applyEff_of_fault (s : State) (p : Nat) (f : ClFault) :
    applyEff s p { fault := some f } = clusterFault (putDraw s (s.draw + 0)) p f := by
  simp [applyEff, effCounts, effUe, effCe, effVary, effSampled, effHalts, breakAt, effFault]

/-- A cluster that has not faulted records its fault (02 R131, R132). -/
theorem clOf_clusterFault {s : State} {p : Nat} (f : ClFault) (h : (clOf s p).st ≠ .faulted) :
    clOf (clusterFault s p f) p = { clOf s p with st := .faulted, flt := { f with kcyc := f.kcyc % 2 ^ 32 } } := by
  unfold clusterFault
  dsimp only
  rw [if_neg h, clOf_congr (stopExec_clusters _ _ _), clOf_congr (modExec_clusters _ _), clOf_congr (setEvt_clusters _ _ _), clOf_setCl,
    if_pos rfl]

/-- The package after a site's cluster has acted: what the action does to the cluster and beyond it. -/
def afterAct (s : State) (st : Site) (r : Cluster × CEff) : State := applyEff (setCl s st.cl.val r.1) st.cl.val r.2

/-- On a running die, with registers that read without an error, an issue is its cluster's action and its count in a halt's steps. -/
theorem issue_of_clean (hfrozen : dieFrozen s = false) (hdrain : s.sched.exec.draining = false)
    (hclean : (grp (siteCl s st) st.g.val).regEcc = .clean) :
    issue s st i mk = .next (stepIssue (afterAct s st (issueIns (siteCl s st) st i (mk (siteCtx s st))))
      ((siteCl s st).logical.getD 256) st.g.val (issuable (siteCl s st) st i (mk (siteCtx s st)))) := by
  have ha : actAt mk ⟨clOf s st.cl.val, st.g.val, mkEnv s st.cl.val⟩ = mk (siteCtx s st) := actAt_clean mk (siteCtx s st) hclean
  simp only [issue, hdrain, actOn, hfrozen, Bool.false_eq_true, if_false, ha, Bool.not_false, Bool.true_and]
  rfl

/-- Counting its issue in a halt's steps changes no cluster. -/
theorem siteCl_stepIssue (l g : Nat) (b : Bool) : siteCl (stepIssue s l g b) st = siteCl s st :=
  clOf_congr (stepIssue_clusters s l g b) _

/-- The cluster as an instruction leaves it that finds a fault at its issue (02 R131, R132). -/
def faultedAt (c : Cluster) (g code lane addr : Nat) : Cluster :=
  { c with st := .faulted, flt := ⟨code, g, lane, (grp c g).pc, addr, c.kcyc % 2 ^ 32⟩ }

/-- An instruction that may issue and finds a fault leaves its cluster faulted and otherwise as it was. -/
theorem faults_of (hx : exec i s = issue s st i mk) (h : AtIssue s st i rs u)
    (hr : (mk (siteCtx s st)).srcs ++ (mk (siteCtx s st)).dsts = rs) (hu : (mk (siteCtx s st)).use = u)
    (he : (mk (siteCtx s st)).eff = {}) {code lane addr : Nat}
    (hf : faultOf (siteCl s st) st.g.val (mk (siteCtx s st)) = some (code, lane, addr)) :
    ∃ t, exec i s = .next t ∧ siteCl t st = faultedAt (siteCl s st) st.g.val code lane addr := by
  obtain ⟨hfrozen, hdrain, hslot, hready, hunit, hclean⟩ := h
  subst hr hu
  have hi := issueIns_of_fault (issuable_of hslot hready hunit) hf
  simp only [he] at hi
  have hsame : clOf (putDraw (setCl s st.cl.val (siteCl s st)) ((setCl s st.cl.val (siteCl s st)).draw + 0)) st.cl.val = siteCl s st := by
    rw [clOf_congr (putDraw_clusters _ _), clOf_setCl, if_pos rfl]
  refine ⟨_, hx.trans (issue_of_clean hfrozen hdrain hclean), ?_⟩
  rw [siteCl_stepIssue, afterAct, hi, applyEff_of_fault, siteCl, clOf_clusterFault, hsame]
  · rfl
  · rw [hsame, (atSlot_runs hslot).1]
    decide

theorem faultsWith_of {code lane addr : Nat} (h : ∃ t, exec i s = .next t ∧ siteCl t st = faultedAt (siteCl s st) st.g.val code lane addr) :
    FaultsWith i s st code := by
  obtain ⟨t, ht, hc⟩ := h
  exact ⟨t, ht, by rw [hc]; rfl, by rw [hc]; rfl, by rw [hc]; rfl, by rw [hc]; rfl, by rw [siteGrp, hc]; rfl, by rw [hc]; rfl⟩

theorem faultsAt_of {code lane addr : Nat} (h : ∃ t, exec i s = .next t ∧ siteCl t st = faultedAt (siteCl s st) st.g.val code lane addr) :
    FaultsAt i s st code lane addr := by
  obtain ⟨t, ht, hc⟩ := h
  exact ⟨t, ht, by rw [hc]; rfl, by rw [hc]; rfl, by rw [hc]; rfl, by rw [hc]; rfl, by rw [siteGrp, hc]; rfl, by rw [hc]; rfl⟩

/-! ### Divergence on a full stack -/

/-- A branch that diverges on a full stack finds fault 4 (02 R81). -/
theorem faultOf_branchAct_full {fixed : Bool} {gd : Guard} {target reconv : Nat} {x : Ctx} {taken : BitVec 32}
    (hj : branchJump fixed gd target reconv x = .diverge fixed taken target reconv) (hfull : 16 ≤ (grp x.c x.g).stack.length) :
    faultOf x.c x.g (branchAct fixed gd target reconv x) = some (4, 0, 0) := by
  simp [faultOf, branchAct, hj, depthFaults, hfull, pickFault]

/-- The ordinary form diverges when some active lanes take it and some do not (02 R80). -/
theorem branchJump_of_differ {gd : Guard} {target reconv : Nat} {x : Ctx} (h0 : x.lanes gd ≠ 0) (h1 : x.lanes gd ≠ (grp x.c x.g).active) :
    branchJump false gd target reconv x = .diverge false (x.lanes gd) target reconv := by
  rw [branchJump, if_neg Bool.false_ne_true, if_neg h0, if_neg h1]

/-- Settles O13: a branch that diverges on a full stack finds fault 4, and a fault leaves its group where it was. -/
theorem branchesFault : Obligations.BranchesFault := by
  unfold Obligations.BranchesFault
  intro s st gd target reconv taken hfull
  refine ⟨fun h h0 h1 => ?_, fun h => ?_⟩
  · have hj := branchJump_of_differ (x := siteCtx s st) (target := target) (reconv := reconv) h0 h1
    exact faultsWith_of (faults_of rfl h (List.append_nil _) rfl rfl (faultOf_branchAct_full hj hfull))
  · have hj : branchJump true gd target reconv (siteCtx s st) = .diverge true taken target reconv := rfl
    exact faultsWith_of (faults_of rfl h (List.append_nil _) rfl rfl (faultOf_branchAct_full hj hfull))

end Sys2Proof.Machine

/-!
SUPPORT. Which fault of several is recorded, and the faults of lane accesses (02 R91, 03 R203, R204).
-/
namespace Sys2Proof.Machine

variable {s : State} {st : Site} {i : Instr} {mk : Ctx → Act} {rs : List RegId} {u : UnitUse}

/-! ### Faults of lane accesses -/

/-- A fault is recorded before another when its code is lower, or its code the same and its lane lower (03 R204). -/
def recordedBefore (x y : Nat × Nat × Nat) : Prop := x.1 < y.1 ∨ (x.1 = y.1 ∧ x.2.1 < y.2.1)

theorem pickFault_mem {xs : List (Nat × Nat × Nat)} {x : Nat × Nat × Nat} (h : pickFault xs = some x) : x ∈ xs := by
  induction xs generalizing x with
  | nil => simp [pickFault] at h
  | cons y ys ih =>
    rw [pickFault] at h
    split at h
    · simp_all
    · next z hz =>
      have := ih hz
      split at h <;> simp_all

/-- Of several faults that which comes before every other is recorded. -/
theorem pickFault_eq_some {xs : List (Nat × Nat × Nat)} {x : Nat × Nat × Nat} (hx : x ∈ xs)
    (h : ∀ y ∈ xs, y ≠ x → recordedBefore x y) : pickFault xs = some x := by
  unfold recordedBefore at h
  induction xs with
  | nil => simp at hx
  | cons y ys ih =>
    have htail : x ∈ ys → pickFault ys = some x := fun hm => ih hm fun z hz => h z (List.mem_cons_of_mem _ hz)
    rw [pickFault]
    split
    · next hnone =>
      rcases List.mem_cons.mp hx with rfl | hm
      · rfl
      · simp [htail hm] at hnone
    · next z hz =>
      by_cases hzx : z = x
      · subst hzx
        by_cases hy : y = z
        · simp [hy]
        · rw [if_pos (h y List.mem_cons_self hy)]
      · have hxy : x = y := (List.mem_cons.mp hx).resolve_right fun hm => hzx (Option.some.inj (hz.symm.trans (htail hm)))
        have hb := h z (List.mem_cons_of_mem _ (pickFault_mem hz)) hzx
        subst hxy
        rw [if_neg (by omega)]

theorem mem_accFaults {n al lane a : Nat} {y : Nat × Nat × Nat} :
    y ∈ accFaults n al lane a ↔ (y = (2, lane, a) ∧ 2 ^ 20 < a + n) ∨ (y = (3, lane, a) ∧ a % al ≠ 0) := by
  unfold accFaults
  split <;> split <;> simp_all

section Lanes
variable {gd : Guard} {a n al : Nat} {off : Word} {l : Nat} {extra : List (Nat × Nat × Nat)}

theorem mem_laneFaults {y : Nat × Nat × Nat} : y ∈ laneFaults n al (addrsOf s st gd a off)
    ↔ ∃ j ∈ lanesOf s st gd, y ∈ accFaults n al j (laneVal s st a j + off).toNat := by
  simp only [laneFaults, addrsOf, List.mem_flatMap, List.mem_map, exists_exists_and_eq_and]

/-- The lowest lane out of range is recorded before every other fault of the lanes (02 R91, 03 R203, R204). -/
theorem pickFault_of_range (hextra : ∀ y ∈ extra, 3 < y.1) (hl : l ∈ lanesOf s st gd)
    (hout : 2 ^ 20 < (laneVal s st a l + off).toNat + n)
    (hlow : ∀ j ∈ lanesOf s st gd, j < l → (laneVal s st a j + off).toNat + n ≤ 2 ^ 20) :
    pickFault (laneFaults n al (addrsOf s st gd a off) ++ extra) = some (2, l, (laneVal s st a l + off).toNat) := by
  refine pickFault_eq_some (List.mem_append_left _ (mem_laneFaults.mpr ⟨l, hl, mem_accFaults.mpr (.inl ⟨rfl, hout⟩)⟩)) fun y hy hne => ?_
  rcases List.mem_append.mp hy with hy | hy
  · obtain ⟨j, hj, hf⟩ := mem_laneFaults.mp hy
    rcases mem_accFaults.mp hf with ⟨rfl, hjout⟩ | ⟨rfl, -⟩
    · have hjl : j ≠ l := fun h => hne (by rw [h])
      have hnlt : ¬ j < l := fun h => Nat.not_lt.mpr (hlow j hj h) hjout
      exact .inr ⟨rfl, Nat.lt_of_le_of_ne (Nat.not_lt.mp hnlt) (Ne.symm hjl)⟩
    · exact .inl (Nat.lt_succ_self 2)
  · exact .inl (Nat.lt_trans (Nat.lt_succ_self 2) (hextra y hy))

/-- With every lane in range the lowest misaligned lane is recorded before every other fault of the lanes. -/
theorem pickFault_of_align (hextra : ∀ y ∈ extra, 3 < y.1) (hl : l ∈ lanesOf s st gd)
    (hin : ∀ j ∈ lanesOf s st gd, (laneVal s st a j + off).toNat + n ≤ 2 ^ 20) (hmis : (laneVal s st a l + off).toNat % al ≠ 0)
    (hlow : ∀ j ∈ lanesOf s st gd, j < l → (laneVal s st a j + off).toNat % al = 0) :
    pickFault (laneFaults n al (addrsOf s st gd a off) ++ extra) = some (3, l, (laneVal s st a l + off).toNat) := by
  refine pickFault_eq_some (List.mem_append_left _ (mem_laneFaults.mpr ⟨l, hl, mem_accFaults.mpr (.inr ⟨rfl, hmis⟩)⟩)) fun y hy hne => ?_
  rcases List.mem_append.mp hy with hy | hy
  · obtain ⟨j, hj, hf⟩ := mem_laneFaults.mp hy
    rcases mem_accFaults.mp hf with ⟨-, hjout⟩ | ⟨rfl, hjmis⟩
    · exact absurd hjout (Nat.not_lt.mpr (hin j hj))
    · have hjl : j ≠ l := fun h => hne (by rw [h])
      have hnlt : ¬ j < l := fun h => hjmis (hlow j hj h)
      exact .inr ⟨rfl, Nat.lt_of_le_of_ne (Nat.not_lt.mp hnlt) (Ne.symm hjl)⟩
  · exact .inl (hextra y hy)

/-- A lane takes part only on a path with lanes. -/
theorem active_ne_zero_of_mem (hl : l ∈ lanesOf s st gd) : (siteGrp s st).active ≠ 0 := by
  intro h0
  have : (grp (siteCl s st) st.g.val).active = 0 := h0
  simp [lanesOf, maskLanes, guardLanes, this] at hl

/-- An access of some lane out of range faults with the lowest such lane; with every lane in range a misaligned one does (02 R91, 03 R203,
R204). -/
theorem accessFaults_of (hx : exec i s = issue s st i mk)
    (hr : (mk (siteCtx s st)).srcs ++ (mk (siteCtx s st)).dsts = rs) (hu : (mk (siteCtx s st)).use = u)
    (he : (mk (siteCtx s st)).eff = {}) (hf : (mk (siteCtx s st)).faults = laneFaults n al (addrsOf s st gd a off) ++ extra)
    (hextra : ∀ y ∈ extra, 3 < y.1) (h : AtIssue s st i rs u) (hl : l ∈ lanesOf s st gd) :
    ((laneVal s st a l + off).toNat + n > 2 ^ 20 →
      (∀ j ∈ lanesOf s st gd, j < l → (laneVal s st a j + off).toNat + n ≤ 2 ^ 20) →
      FaultsAt i s st 2 l (laneVal s st a l + off).toNat)
    ∧ ((∀ j ∈ lanesOf s st gd, (laneVal s st a j + off).toNat + n ≤ 2 ^ 20) → (laneVal s st a l + off).toNat % al ≠ 0 →
      (∀ j ∈ lanesOf s st gd, j < l → (laneVal s st a j + off).toNat % al = 0) →
      FaultsAt i s st 3 l (laneVal s st a l + off).toNat) := by
  have hfault : faultOf (siteCl s st) st.g.val (mk (siteCtx s st)) = pickFault (laneFaults n al (addrsOf s st gd a off) ++ extra) := by
    rw [faultOf, if_pos (.inl (active_ne_zero_of_mem hl)), hf]
  exact ⟨fun hout hlow => faultsAt_of (faults_of hx h hr hu he (hfault.trans (pickFault_of_range hextra hl hout hlow))),
    fun hin hmis hlow => faultsAt_of (faults_of hx h hr hu he (hfault.trans (pickFault_of_align hextra hl hin hmis hlow)))⟩

end Lanes

/-- A range of Peat registers that does not exist is a fault of code 5. -/
theorem peatRange_fault_code {o : PeatMem} :
    ∀ y ∈ (if peatRangeOk [(o.p.val, 32)] then [] else [(5, 0, 0)] : List (Nat × Nat × Nat)), 3 < y.1 := by
  split <;> simp

/-- Settles O16: the faults of an access are those of its lanes, and those of a Peat range, whose code is higher. -/
theorem accessFaultsRaise : Obligations.AccessFaultsRaise := by
  unfold Obligations.AccessFaultsRaise
  intro s st m o c q l k raises
  have none_extra : ∀ y ∈ ([] : List (Nat × Nat × Nat)), 3 < y.1 := List.forall_mem_nil _
  refine ⟨fun i hi h => ?_, fun p hp h => ?_, fun h => ?_, fun p hp h => ?_⟩
  · simp only [List.mem_cons, List.not_mem_nil, or_false] at hi
    rcases hi with rfl | rfl
    · exact accessFaults_of rfl rfl rfl rfl (List.append_nil _).symm none_extra h
    · exact accessFaults_of rfl (List.append_nil _) rfl rfl (List.append_nil _).symm none_extra h
  · simp only [atomTable, List.mem_cons, List.not_mem_nil, or_false] at hp
    rcases hp with rfl | rfl | rfl | rfl | rfl | rfl | rfl | rfl | rfl | rfl | rfl <;>
      exact accessFaults_of rfl (by simp [atomAct, k]) rfl rfl (List.append_nil _).symm none_extra h
  · exact accessFaults_of rfl rfl rfl rfl (List.append_nil _).symm none_extra h
  · simp only [peatMemTable, List.mem_cons, List.not_mem_nil, or_false] at hp
    rcases hp with rfl | rfl | rfl | rfl | rfl <;>
      exact accessFaults_of rfl (List.append_nil _) rfl rfl rfl peatRange_fault_code h

end Sys2Proof.Machine

/-!
SUPPORT. Where an issue leaves its group: the paths of a divergence (02 R80 to R85), the cluster of an issue, control flow (03 R152 to R154).
-/
namespace Sys2Proof.Machine

variable {s : State} {st : Site} {i : Instr} {mk : Ctx → Act} {rs : List RegId} {u : UnitUse}

/-! ### Groups: where an issue leaves them -/

/-- Where a group is: its word, its address, its lanes, those that have exited and its divergence stack (02 R76, R80, R84). -/
def pathOf (gr : Group) : Option Nat × Nat × BitVec 32 × BitVec 32 × List DivEntry :=
  (gr.held, gr.pc, gr.active, gr.exited, gr.stack)

/-- A group with another wait. -/
def setWait (gr : Group) (w : Wait) : Group := { gr with wait := w }

theorem path_setWait (gr : Group) (w : Wait) : pathOf (setWait gr w) = pathOf gr := rfl

/-- A path ends at its reconvergence address, an ordinary one also when no lane of it is left (02 R80, R84, R85). -/
def pathEnds (gr : Group) (e : DivEntry) : Prop := gr.pc = e.reconv ∨ (gr.active = 0 ∧ e.fixed = false)

/-- The group on the lanes that took a branch, the others waiting where the paths meet. -/
def toTaken (gr : Group) (e : DivEntry) (rest : List DivEntry) : Group :=
  { gr with stack := { e with onTaken := true, joined := gr.active } :: rest, pc := e.takenPc, active := e.taken }

/-- The group where the paths of a branch meet, on the lanes of both. -/
def toJoin (gr : Group) (e : DivEntry) (rest : List DivEntry) : Group :=
  { gr with stack := rest, pc := e.reconv, active := gr.active ||| e.joined }

section Settle
variable {n : Nat} {gr : Group} {e : DivEntry} {rest : List DivEntry}

theorem settle_of_no_stack (h : gr.stack = []) : settle n gr = gr := by
  cases n <;> simp [settle, h]

theorem settle_of_not_ends (h : gr.stack = e :: rest) (he : ¬ pathEnds gr e) : settle n gr = gr := by
  cases n with
  | zero => rfl
  | succ n => simp only [settle, h, if_neg (show ¬ (gr.pc = e.reconv ∨ (gr.active = 0 ∧ e.fixed = false)) from he)]

theorem settle_of_first_ends (h : gr.stack = e :: rest) (he : pathEnds gr e) (ht : e.onTaken = false) :
    settle (n + 1) gr = settle n (toTaken gr e rest) := by
  simp only [settle, h, if_pos (show gr.pc = e.reconv ∨ (gr.active = 0 ∧ e.fixed = false) from he), ht, Bool.false_eq_true, if_false, toTaken]

theorem settle_of_both_end (h : gr.stack = e :: rest) (he : pathEnds gr e) (ht : e.onTaken = true) :
    settle (n + 1) gr = settle n (toJoin gr e rest) := by
  simp only [settle, h, if_pos (show gr.pc = e.reconv ∨ (gr.active = 0 ∧ e.fixed = false) from he), ht, if_true, toJoin]

end Settle

/-- Leaving finished paths moves a group only: its address, its lanes and its stack (02 R80). -/
theorem settle_keeps {β : Type} (g : Group → β) (h : ∀ gr k p a, g { gr with stack := k, pc := p, active := a } = g gr) (n : Nat)
    (gr : Group) : g (settle n gr) = g gr := by
  induction n generalizing gr with
  | zero => rfl
  | succ n ih =>
    cases hs : gr.stack with
    | nil => rw [settle_of_no_stack hs]
    | cons e rest =>
      by_cases he : pathEnds gr e
      · cases ht : e.onTaken with
        | false => rw [settle_of_first_ends hs he ht, ih]; exact h _ _ _ _
        | true => rw [settle_of_both_end hs he ht, ih]; exact h _ _ _ _
      · rw [settle_of_not_ends hs he]

/-- An issue keeps what a group is apart from where it goes: that it has started, that it has not finished, its wait. -/
theorem advance_keeps {β : Type} (g : Group → β)
    (h : ∀ gr k p a hd lp re ex, g { gr with stack := k, pc := p, active := a, held := hd, lastPc := lp, regEcc := re, exited := ex } = g gr)
    (gr : Group) (j : Jump) : g (advance gr j) = g gr := by
  cases j <;> exact (settle_keeps g (fun x k p a => h x k p a x.held x.lastPc x.regEcc x.exited) _ _).trans (h gr _ _ _ _ _ _ _)

theorem advance_started (gr : Group) (j : Jump) : (advance gr j).started = gr.started :=
  advance_keeps (fun x => x.started) (fun _ _ _ _ _ _ _ _ => rfl) gr j

theorem advance_waits (gr : Group) (j : Jump) : (advance gr j).wait = gr.wait :=
  advance_keeps (fun x => x.wait) (fun _ _ _ _ _ _ _ _ => rfl) gr j

/-- An issue consumes its word (02 R98). -/
theorem advance_held (gr : Group) (j : Jump) : (advance gr j).held = none := by
  cases j <;> exact settle_keeps (fun x => x.held) (fun _ _ _ _ => rfl) _ _

/-- Leaving finished paths goes the same way whatever the group waits for. -/
theorem settle_setWait (n : Nat) (gr : Group) (w : Wait) : settle n (setWait gr w) = setWait (settle n gr) w := by
  induction n generalizing gr with
  | zero => rfl
  | succ n ih =>
    cases hs : gr.stack with
    | nil => rw [settle_of_no_stack hs, settle_of_no_stack (gr := setWait gr w) hs]
    | cons e rest =>
      by_cases he : pathEnds gr e
      · cases ht : e.onTaken with
        | false => rw [settle_of_first_ends hs he ht, settle_of_first_ends (gr := setWait gr w) hs he ht, ← ih]; rfl
        | true => rw [settle_of_both_end hs he ht, settle_of_both_end (gr := setWait gr w) hs he ht, ← ih]; rfl
      · rw [settle_of_not_ends hs he, settle_of_not_ends (gr := setWait gr w) hs he]

/-- An issue moves its group the same way whatever the group then waits for. -/
theorem advance_setWait (gr : Group) (w : Wait) (j : Jump) : advance (setWait gr w) j = setWait (advance gr j) w := by
  unfold advance
  dsimp only
  rw [← settle_setWait]
  cases j <;> rfl

theorem path_ripen (c : Cluster) (g : Nat) (gr : Group) : pathOf (ripen c g gr) = pathOf gr := by
  unfold ripen
  split
  · split
    · rfl
    · rfl
    · split <;> rfl
  · rfl

theorem grp_map {c : Cluster} {f : Group → Group} {g : Nat} (hg : g < c.groups.length) :
    grp { c with groups := c.groups.map f } g = f (grp c g) := by
  simp [grp, nth, hg]

/-- A cluster whose groups' waits have been looked at again, but for a barrier that completes. -/
def ripened (c : Cluster) : Cluster :=
  { c with groups := c.groups.zipIdx.map fun x => if x.1.started then ripen c x.2 x.1 else x.1 }

theorem settleWaits_eq (c : Cluster) : settleWaits c = settleBarrier (ripened c) := rfl

theorem length_ripened (c : Cluster) : (ripened c).groups.length = c.groups.length := by simp [ripened]

theorem grp_ripened {c : Cluster} {g : Nat} (hg : g < c.groups.length) :
    grp (ripened c) g = if (grp c g).started then ripen c g (grp c g) else grp c g := by
  simp [ripened, grp, nth, hg]

/-- A cluster barrier changes no more of a group than its wait, and that only of a group that has arrived. -/
theorem grp_settleBarrier {c : Cluster} {g : Nat} (hg : g < c.groups.length) :
    ∃ w, grp (settleBarrier c).1 g = setWait (grp c g) w
      ∧ ((∀ id t k, (grp c g).wait ≠ .barc id t (some k)) → w = (grp c g).wait) := by
  unfold settleBarrier
  dsimp only
  split
  · exact ⟨_, rfl, fun _ => rfl⟩
  · split
    · rw [grp_map hg]
      split
      · next id t k hw => exact ⟨_, rfl, fun h => absurd hw (h id t k)⟩
      · exact ⟨_, rfl, fun _ => rfl⟩
    · exact ⟨_, rfl, fun _ => rfl⟩


/-! ### The cluster of an issue -/

/-- A cluster as an act leaves it before waits are looked at again: its flight, its effects, its group gone on. -/
def issued (c : Cluster) (g : Nat) (a : Act) : Cluster :=
  modGrp (applyAct (if keepsFlight a then { c with flights := c.flights ++ [mkFlight c g a] } else c) g a) g fun gr => advance gr a.jump

/-- An issue without a fault: the act's effects, and what waited for them goes on (02 R84, R87, R124). -/
theorem issueIns_of_no_fault {c : Cluster} {a : Act} (h : issuable c st i a = true) (hf : faultOf c st.g.val a = none) :
    issueIns c st i a = ({ (settleWaits (issued c st.g.val a)).1 with issuedAt := some c.kcyc },
      { a.eff with fault := (settleWaits (issued c st.g.val a)).2, issued := true }) := by
  simp only [issueIns, h, if_true, hf]
  rfl

theorem applyAct_groups (c : Cluster) (g : Nat) (a : Act) :
    (applyAct c g a).groups = listMod (fun gr => setWait gr a.wait) c.groups g := by
  have h1 : ∀ c, (actFill a c).groups = c.groups := by intro c; unfold actFill startFill; (repeat' split) <;> rfl
  have h2 : ∀ c, (actDigest a c).groups = c.groups := by intro c; unfold actDigest; split <;> rfl
  have h3 : ∀ c, (actBuf a c).groups = c.groups := by intro c; unfold actBuf; split <;> rfl
  have h4 : ∀ c, (actLean a c).groups = c.groups := by intro c; unfold actLean; split <;> rfl
  have h5 : ∀ c, (actMiss a c).groups = c.groups := by intro c; unfold actMiss; split <;> rfl
  unfold applyAct modGrp
  dsimp only
  rw [h5, h4, h3, h2, h1]
  rfl

theorem length_listMod {α : Type} (f : α → α) (xs : List α) (k : Nat) : (listMod f xs k).length = xs.length := by
  induction xs generalizing k with
  | nil => rfl
  | cons x xs ih => cases k <;> simp [listMod, ih]

theorem issued_groups (c : Cluster) (g : Nat) (a : Act) :
    (issued c g a).groups = listMod (fun gr => advance gr a.jump) (listMod (fun gr => setWait gr a.wait) c.groups g) g := by
  unfold issued modGrp
  dsimp only
  rw [applyAct_groups]
  split <;> rfl

theorem length_issued_groups (c : Cluster) (g : Nat) (a : Act) : (issued c g a).groups.length = c.groups.length := by
  rw [issued_groups, length_listMod, length_listMod]

/-- The group of an issue goes on and waits as its act says. -/
theorem grp_issued {c : Cluster} {g : Nat} {a : Act} (hg : g < c.groups.length) :
    grp (issued c g a) g = setWait (advance (grp c g) a.jump) a.wait := by
  rw [grp, issued_groups, nth_listMod, if_pos ⟨rfl, by rwa [length_listMod]⟩, nth_listMod, if_pos ⟨rfl, hg⟩, advance_setWait]
  rfl

/-- The other groups stay where they are. -/
theorem grp_issued_other {c : Cluster} {g j : Nat} {a : Act} (h : j ≠ g) : grp (issued c g a) j = grp c j := by
  rw [grp, issued_groups, nth_listMod, if_neg fun h' => h h'.1, nth_listMod, if_neg fun h' => h h'.1]
  rfl

/-- A started group has a record. -/
theorem lt_length_of_started {c : Cluster} {g : Nat} (h : (grp c g).started = true) : g < c.groups.length := by
  by_contra hg
  rw [grp, nth, List.getElem?_eq_none (Nat.not_lt.mp hg)] at h
  exact absurd h (by decide)

/-- Looking at waits again leaves a group where it is. -/
theorem path_settleWaits {c : Cluster} {g : Nat} (hg : g < c.groups.length) : pathOf (grp (settleWaits c).1 g) = pathOf (grp c g) := by
  obtain ⟨w, hw, -⟩ := grp_settleBarrier (c := ripened c) (g := g) (by rwa [length_ripened])
  rw [settleWaits_eq, hw, path_setWait, grp_ripened hg]
  split
  · exact path_ripen c g _
  · rfl

section Issued
variable (hx : exec i s = issue s st i mk) (h : AtIssue s st i rs u)
  (hr : (mk (siteCtx s st)).srcs ++ (mk (siteCtx s st)).dsts = rs) (hu : (mk (siteCtx s st)).use = u)
  (hf : faultOf (siteCl s st) st.g.val (mk (siteCtx s st)) = none)
include hx h hr hu hf

/-- The state after an instruction that issues: its cluster as the act leaves it, the act's effects, its count in a halt's steps. -/
theorem exec_of_issue : exec i s = .next (stepIssue (afterAct s st
    ({ (settleWaits (issued (siteCl s st) st.g.val (mk (siteCtx s st)))).1 with issuedAt := some (siteCl s st).kcyc },
      { (mk (siteCtx s st)).eff with fault := (settleWaits (issued (siteCl s st) st.g.val (mk (siteCtx s st)))).2, issued := true }))
    ((siteCl s st).logical.getD 256) st.g.val true) := by
  obtain ⟨hfrozen, hdrain, hslot, hready, hunit, hclean⟩ := h
  subst hr hu
  have hok := issuable_of hslot hready hunit
  rw [hx, issue_of_clean hfrozen hdrain hclean, issueIns_of_no_fault hok hf, hok]

/-- What an instruction that issues leaves of its cluster, but for the cluster's state, its fault record and its error counts. -/
theorem siteCl_of_issue {t : State} (ht : exec i s = .next t) {β : Type} (g : Cluster → β)
    (h' : ∀ c st flt, g { c with st := st, flt := flt } = g c) (hue : ∀ c b, g { c with ueThis := b } = g c)
    (hce : ∀ c n, g { c with ceCount := n } = g c) :
    g (siteCl t st) = g { (settleWaits (issued (siteCl s st) st.g.val (mk (siteCtx s st)))).1 with issuedAt := some (siteCl s st).kcyc } := by
  obtain rfl := Host.Outcome.next.inj (ht.symm.trans (exec_of_issue hx h hr hu hf))
  rw [siteCl_stepIssue, afterAct, siteCl, clOf_applyEff_keeps _ g h' hue hce, clOf_setCl, if_pos rfl]

theorem siteGrp_of_issue {t : State} (ht : exec i s = .next t) :
    siteGrp t st = grp (settleWaits (issued (siteCl s st) st.g.val (mk (siteCtx s st)))).1 st.g.val :=
  siteCl_of_issue hx h hr hu hf ht (fun c => grp c st.g.val) (fun _ _ _ => rfl) (fun _ _ => rfl) (fun _ _ => rfl)

/-- An instruction that issues goes on as its act's jump says. -/
theorem goesOn_of {j : Jump} (hj : (mk (siteCtx s st)).jump = j) {P : State → Prop} (hP : ∀ t, exec i s = .next t → P t) :
    GoesOn i s st j P := by
  have hstart : (siteGrp s st).started = true := (atSlot_runs h.2.2.1).2.1
  have hlen := lt_length_of_started hstart
  refine ⟨_, exec_of_issue hx h hr hu hf, ?_⟩
  have hpath := congrArg pathOf (siteGrp_of_issue hx h hr hu hf (exec_of_issue hx h hr hu hf))
  rw [path_settleWaits (by rwa [length_issued_groups]), grp_issued hlen, path_setWait, hj] at hpath
  simp only [pathOf, Prod.mk.injEq] at hpath
  obtain ⟨hheld, hpc, hact, hex, hstack⟩ := hpath
  exact ⟨hheld.trans (advance_held _ _), hpc, hact, hex, hstack, hP _ (exec_of_issue hx h hr hu hf)⟩

end Issued

/-! ### Control flow -/

/-- A branch finds a fault only in a divergence on a full stack (02 R81). -/
theorem faultOf_branchAct {fixed : Bool} {gd : Guard} {target reconv : Nat} {x : Ctx} {j : Jump}
    (hj : branchJump fixed gd target reconv x = j) (hd : depthFaults j x = []) :
    faultOf x.c x.g (branchAct fixed gd target reconv x) = none :=
  faultOf_of_no_faults (by rw [branchAct, hj, hd])

/-- The ordinary form goes to the next word when no active lane takes it, and to its target when all do (02 R82). -/
theorem branchJump_of_none {gd : Guard} {target reconv : Nat} {x : Ctx} (h0 : x.lanes gd = 0) :
    branchJump false gd target reconv x = .next := by
  rw [branchJump, if_neg Bool.false_ne_true, if_pos h0]

theorem branchJump_of_all {gd : Guard} {target reconv : Nat} {x : Ctx} (h0 : x.lanes gd ≠ 0) (h1 : x.lanes gd = (grp x.c x.g).active) :
    branchJump false gd target reconv x = .goto target := by
  rw [branchJump, if_neg Bool.false_ne_true, if_neg h0, if_pos h1]

/-- A conditional branch that does not diverge on a full stack goes on as its jump says (02 R80 to R83). -/
theorem branch_goesOn {fixed : Bool} {gd : Guard} {target reconv : Nat} {j : Jump}
    (hx : exec i s = issue s st i (branchAct fixed gd target reconv)) (h : AtIssue s st i (guardSrc gd) .free)
    (hj : branchJump fixed gd target reconv (siteCtx s st) = j) (hd : depthFaults j (siteCtx s st) = []) :
    GoesOn i s st j fun _ => True :=
  goesOn_of hx h (List.append_nil _) rfl (faultOf_branchAct hj hd) hj fun _ _ => trivial

/-- LOOP counts down while its register is at least 2 and clears it otherwise (03 R154). -/
theorem loopAct_eq (a target : Nat) (x : Ctx) : loopAct a target x
    = { uniAct [.u a] a (w32 (if 2 ≤ (x.u a).toNat then (x.u a).toNat - 1 else 0)) with
        jump := if 2 ≤ (x.u a).toNat then .goto target else .next } := by
  unfold loopAct
  dsimp only
  split <;> rfl

theorem loop_goesOn {a : Fin 64} {target : Nat} (h : AtIssue s st (.loop st a target) [.u a.val, .u a.val] .free) :
    GoesOn (.loop st a target) s st (if 2 ≤ (uniVal s st a.val).toNat then .goto target else .next) fun t =>
      ∃ f, (siteCl t st).flights = (siteCl s st).flights ++ [f] ∧ f.g = st.g.val
        ∧ f.writes = [(.uni a.val, BitVec.ofNat 32 (if 2 ≤ (uniVal s st a.val).toNat then (uniVal s st a.val).toNat - 1 else 0))] := by
  have ha := loopAct_eq a.val target (siteCtx s st)
  have hf : faultOf (siteCl s st) st.g.val (loopAct a.val target (siteCtx s st)) = none := faultOf_of_no_faults (by rw [ha]; rfl)
  have hs := sends_of rfl h (by rw [ha]; rfl) (by rw [ha]; rfl) hf (by rw [ha]; exact List.cons_ne_nil _ _)
  refine goesOn_of rfl h (by rw [ha]; rfl) (by rw [ha]; rfl) hf (by rw [ha]; rfl) fun t ht => ?_
  obtain ⟨t', f, ht', hfl, hg, -, -, -, hw⟩ := hs
  obtain rfl := Host.Outcome.next.inj (ht.symm.trans ht')
  exact ⟨f, hfl, hg, by rw [hw, ha]; rfl⟩

/-- Settles O11: each instruction goes on as the jump of its act, which the lanes under its guard or its register choose. -/
theorem controlGoesOn : Obligations.ControlGoesOn := by
  unfold Obligations.ControlGoesOn
  intro s st gd target reconv a act taken full
  refine ⟨fun h => ?_, fun h => ?_, fun h => ⟨fun h0 => ?_, fun h0 h1 => ?_, fun h0 h1 hroom => ?_⟩, fun h hroom => ?_, fun h => loop_goesOn h,
    fun h => ?_⟩
  · exact goesOn_of rfl h (List.append_nil _) rfl (faultOf_of_no_faults rfl) rfl fun _ _ => trivial
  · exact goesOn_of rfl h rfl rfl (faultOf_of_no_faults rfl) rfl fun _ _ => trivial
  · exact branch_goesOn rfl h (branchJump_of_none h0) rfl
  · exact branch_goesOn rfl h (branchJump_of_all h0 h1) rfl
  · exact branch_goesOn rfl h (branchJump_of_differ h0 h1) (if_neg hroom)
  · exact branch_goesOn rfl h rfl (if_neg hroom)
  · exact goesOn_of rfl h (List.append_nil _) rfl (faultOf_of_no_faults rfl) rfl fun _ _ => trivial

/-! ### Diverged paths -/

/-- A divergence leaves an ordinary group on the lanes that do not take it, the entry on top of its stack, when some lanes are left and the
next word is not where the paths meet (02 R80). -/
theorem advance_diverge {gr : Group} {taken : BitVec 32} {target reconv : Nat} (hpc : gr.pc + 8 ≠ reconv)
    (hleft : gr.active &&& ~~~ taken ≠ 0) :
    advance gr (.diverge false taken target reconv)
      = { gr with held := none, lastPc := gr.pc, regEcc := .clean, pc := gr.pc + 8, active := gr.active &&& ~~~ taken,
                  stack := ⟨reconv, target, taken, 0, false, false⟩ :: gr.stack } := by
  refine settle_of_not_ends (e := ⟨reconv, target, taken, 0, false, false⟩) (rest := gr.stack) rfl fun he => ?_
  rcases he with h | ⟨h, -⟩
  · exact hpc h
  · exact hleft h

/-- Lanes of a path are those that take a branch and those that do not. -/
theorem taken_or_left {taken active : BitVec 32} (h : taken &&& active = taken) : taken ||| (active &&& ~~~ taken) = active := by
  ext k hk
  have hb : (taken[k] && active[k]) = taken[k] := by rw [← BitVec.getElem_and, h]
  simp only [BitVec.getElem_or, BitVec.getElem_and, BitVec.getElem_not]
  revert hb
  cases taken[k] <;> cases active[k] <;> decide

/-- Settles O12: the entry of the divergence sends the group first to the lanes that took the branch, then, where the paths meet, to both. -/
theorem divergedPathsRejoin : Obligations.DivergedPathsRejoin := by
  unfold Obligations.DivergedPathsRejoin
  intro gr taken target reconv hsub h0 h1 hpc htarget g1
  have hjoin := taken_or_left hsub
  have hleft : gr.active &&& ~~~ taken ≠ 0 := fun h => h1 (by rw [← hjoin, h]; simp)
  have hg1 : g1 = _ := advance_diverge hpc hleft
  refine ⟨by rw [hg1], by rw [hg1], fun n => ?_⟩
  let e : DivEntry := ⟨reconv, target, taken, 0, false, false⟩
  have hfirst : settle (n + 1) { g1 with pc := reconv } = toTaken { g1 with pc := reconv } e gr.stack := by
    rw [settle_of_first_ends (e := e) (rest := gr.stack) (by rw [hg1]) (.inl rfl) rfl]
    refine settle_of_not_ends rfl fun he => ?_
    rcases he with h | ⟨h, -⟩
    · exact htarget h
    · exact h0 h
  have hsecond : settle 1 { toTaken { g1 with pc := reconv } e gr.stack with pc := reconv }
      = toJoin { toTaken { g1 with pc := reconv } e gr.stack with pc := reconv } { e with onTaken := true, joined := g1.active } gr.stack :=
    settle_of_both_end rfl (.inl rfl) rfl
  dsimp only
  rw [hfirst, hsecond]
  refine ⟨rfl, rfl, rfl, ?_, rfl⟩
  change taken ||| g1.active = gr.active
  rw [hg1]
  exact hjoin

end Sys2Proof.Machine

/-!
SUPPORT. What a group waits for after its issue: plan instances, barriers (02 R124 to R128, 03 R193), a breakpoint's halt (16 R735), DIGEST.
-/
namespace Sys2Proof.Machine

variable {s : State} {st : Site} {i : Instr} {mk : Ctx → Act} {rs : List RegId} {u : UnitUse}

/-! ### What the act of an issue leaves of its cluster -/

section Act
variable {β : Type} (f : Cluster → β) (c : Cluster) (g : Nat) (a : Act)

/-- An act's effects beside its flight keep all but the groups, the caches and their fills, the digest, the stationary formats and two
counters. -/
theorem applyAct_keeps (h : ∀ c gs fi oc ic d sb li om, f { c with groups := gs, fills := fi, oc := oc, ic := ic, digest := d, sbufs := sb,
                                                                   leanIdx := li, ocMiss := om } = f c) :
    f (applyAct c g a) = f c := by
  have h1 : ∀ c, f (actFill a c) = f c := by
    intro c; unfold actFill; split
    · exact h c c.groups _ _ c.ic c.digest c.sbufs c.leanIdx c.ocMiss
    · rfl
  have h2 : ∀ c, f (actDigest a c) = f c := by
    intro c; unfold actDigest; split
    · exact h c c.groups c.fills c.oc c.ic _ c.sbufs c.leanIdx c.ocMiss
    · rfl
  have h3 : ∀ c, f (actBuf a c) = f c := by
    intro c; unfold actBuf; split
    · exact h c c.groups c.fills c.oc c.ic c.digest _ c.leanIdx c.ocMiss
    · rfl
  have h4 : ∀ c, f (actLean a c) = f c := by
    intro c; unfold actLean; split
    · exact h c c.groups c.fills c.oc c.ic c.digest c.sbufs _ c.ocMiss
    · rfl
  have h5 : ∀ c, f (actMiss a c) = f c := by
    intro c; unfold actMiss; split
    · exact h c c.groups c.fills c.oc c.ic c.digest c.sbufs c.leanIdx _
    · rfl
  have h6 : ∀ c gs, f { c with groups := gs } = f c := fun c gs => h c gs c.fills c.oc c.ic c.digest c.sbufs c.leanIdx c.ocMiss
  unfold applyAct modGrp
  rw [h6, h5, h4, h3, h2, h1]

/-- An issue's act keeps what `applyAct_keeps` says, and adds one flight when it keeps one. -/
theorem issued_keeps (h : ∀ c gs fi oc ic d sb li om, f { c with groups := gs, fills := fi, oc := oc, ic := ic, digest := d, sbufs := sb,
                                                                 leanIdx := li, ocMiss := om } = f c) :
    f (issued c g a) = f (if keepsFlight a then { c with flights := c.flights ++ [mkFlight c g a] } else c) := by
  have h6 : ∀ c gs, f { c with groups := gs } = f c := fun c gs => h c gs c.fills c.oc c.ic c.digest c.sbufs c.leanIdx c.ocMiss
  unfold issued modGrp
  rw [h6, applyAct_keeps f _ _ _ h]

theorem issued_kcyc : (issued c g a).kcyc = c.kcyc := by
  rw [issued_keeps (fun c => c.kcyc) c g a fun _ _ _ _ _ _ _ _ _ => rfl]; split <;> rfl

theorem issued_logical : (issued c g a).logical = c.logical := by
  rw [issued_keeps (fun c => c.logical) c g a fun _ _ _ _ _ _ _ _ _ => rfl]; split <;> rfl

theorem issued_spad : (issued c g a).spad = c.spad := by
  rw [issued_keeps (fun c => c.spad) c g a fun _ _ _ _ _ _ _ _ _ => rfl]; split <;> rfl

theorem issued_flights : (issued c g a).flights = if keepsFlight a then c.flights ++ [mkFlight c g a] else c.flights := by
  rw [issued_keeps (fun c => c.flights) c g a fun _ _ _ _ _ _ _ _ _ => rfl]; split <;> rfl

/-- DIGEST's issue folds the digest, and no other (03 R199). -/
theorem issued_digest : (issued c g a).digest = a.digest.getD c.digest := by
  have h1 : ∀ c, (actFill a c).digest = c.digest := by intro c; unfold actFill startFill; (repeat' split) <;> rfl
  have h3 : ∀ c, (actBuf a c).digest = c.digest := by intro c; unfold actBuf; split <;> rfl
  have h4 : ∀ c, (actLean a c).digest = c.digest := by intro c; unfold actLean; split <;> rfl
  have h5 : ∀ c, (actMiss a c).digest = c.digest := by intro c; unfold actMiss; split <;> rfl
  unfold issued applyAct modGrp
  dsimp only
  rw [h5, h4, h3]
  unfold actDigest
  split
  · next d hd => rw [hd]; rfl
  · next hd => rw [h1, hd]; split <;> rfl

end Act

/-- Settling waits keeps all of a cluster but its groups. -/
theorem settleWaits_keeps {β : Type} (f : Cluster → β) (h : ∀ c gs, f { c with groups := gs } = f c) (c : Cluster) :
    f (settleWaits c).1 = f c := by
  obtain ⟨gs, hgs⟩ := settleWaits_groups c
  rw [hgs, h]

/-! ### What a group waits for after its issue -/

section Waits
variable {c : Cluster} {g : Nat} {gr : Group}

theorem ripen_wait_of_none (h : gr.wait = .none) : (ripen c g gr).wait = .none := by
  unfold ripen
  split
  · rw [h]
    dsimp only
    split
    · rfl
    · exact h
  · exact h

theorem ripen_wait_of_plan {net : Bool} {k : Nat} (h : gr.wait = .plan net k) : (ripen c g gr).wait = .plan net k := by
  unfold ripen
  split
  · rw [h]
    dsimp only
    split
    · rfl
    · exact h
  · exact h

/-- A group barrier ends 8 cycles after its group has drained (02 R124). -/
theorem ripen_wait_of_barg {t : Nat} (h : gr.wait = .barg t) :
    (ripen c g gr).wait = if drained c g then .til (max t c.kcyc + 8) else .barg t := by
  unfold ripen
  split
  · rw [h]
  · exact h

/-- A group arrives at a cluster barrier once it has drained (02 R127). -/
theorem ripen_wait_of_barc {id t : Nat} (h : gr.wait = .barc id t none) :
    (ripen c g gr).wait = .barc id t (if drained c g then some (max t c.kcyc) else none) := by
  unfold ripen
  split
  · rw [h]
  · exact h

/-- A group that waits for nothing and runs on is as it was. -/
theorem ripen_of_none (h : gr.wait = .none) (hl : laneless gr = false) : ripen c g gr = gr := by
  unfold ripen
  split
  · rw [h, hl]; rfl
  · rfl

/-- A started group that has not arrived at a cluster barrier waits as its own completions say. -/
theorem wait_settleWaits (hg : g < c.groups.length) (hs : (grp c g).started = true)
    (h : ∀ id t k, (ripen c g (grp c g)).wait ≠ .barc id t (some k)) :
    (grp (settleWaits c).1 g).wait = (ripen c g (grp c g)).wait := by
  have hr : grp (ripened c) g = ripen c g (grp c g) := by rw [grp_ripened hg, if_pos hs]
  obtain ⟨w, hw, hsame⟩ := grp_settleBarrier (c := ripened c) (g := g) (by rwa [length_ripened])
  rw [settleWaits_eq, hw, ← hr]
  exact hsame (by rwa [hr])

/-- A cluster barrier waits for every open group (02 R126). -/
theorem settleBarrier_of_absent {x : Nat × Group} (hx : x ∈ openGroups c) (hw : x.2.wait = .none) : settleBarrier c = (c, none) := by
  have hlen : (arrivals c).length ≠ (openGroups c).length := by
    unfold arrivals
    intro h
    have hsome := List.filterMap_length_eq_length.mp h x hx
    simp [hw] at hsome
  simp [settleBarrier, hlen]

theorem mem_openGroups {x : Nat × Group} :
    x ∈ openGroups c ↔ x.1 < 8 ∧ x.2 = grp c x.1 ∧ x.2.started = true ∧ x.2.finished = false := by
  obtain ⟨j, gr⟩ := x
  simp only [openGroups, List.mem_filter, List.mem_map, List.mem_range, Prod.mk.injEq, Bool.and_eq_true, Bool.not_eq_true']
  constructor
  · rintro ⟨⟨k, hk, rfl, rfl⟩, hs, hf⟩
    exact ⟨hk, rfl, hs, hf⟩
  · rintro ⟨hj, rfl, hs, hf⟩
    exact ⟨⟨j, hj, rfl, rfl⟩, hs, hf⟩

/-- While another open group neither waits nor has ended, the groups of a cluster wait as their own completions say. -/
theorem settleWaits_of_absent {x : Nat × Group} (hx : x ∈ openGroups c) (hw : x.2.wait = .none) (hl : laneless x.2 = false) :
    (settleWaits c).1 = ripened c := by
  obtain ⟨h8, hgr, hs, hf⟩ := mem_openGroups.mp hx
  have hlen : x.1 < c.groups.length := lt_length_of_started (by rwa [← hgr])
  have hsame : grp (ripened c) x.1 = x.2 := by rw [grp_ripened hlen, ← hgr, if_pos hs, ripen_of_none hw hl]
  have hopen : x ∈ openGroups (ripened c) := mem_openGroups.mpr ⟨h8, hsame.symm, hs, hf⟩
  rw [settleWaits_eq, settleBarrier_of_absent hopen hw]

end Waits


section Waiting
variable (hx : exec i s = issue s st i mk) (h : AtIssue s st i rs u)
  (hr : (mk (siteCtx s st)).srcs ++ (mk (siteCtx s st)).dsts = rs) (hu : (mk (siteCtx s st)).use = u)
  (hf : faultOf (siteCl s st) st.g.val (mk (siteCtx s st)) = none)
include hx h hr hu hf

/-- A group whose instruction leaves no flight waits as the act says, when it has not arrived at a cluster barrier. -/
theorem wait_of_issue {t : State} (ht : exec i s = .next t) {w : Wait}
    (hw : ∀ c gr, gr.wait = (mk (siteCtx s st)).wait → c.kcyc = (siteCl s st).kcyc →
      (drained c st.g.val = drained (siteCl s st) st.g.val) → (ripen c st.g.val gr).wait = w)
    (hk : keepsFlight (mk (siteCtx s st)) = false) (hb : ∀ id k n, w ≠ .barc id k (some n)) :
    (siteGrp t st).wait = w := by
  have hstart : (grp (siteCl s st) st.g.val).started = true := (atSlot_runs h.2.2.1).2.1
  have hlen := lt_length_of_started hstart
  have hgrp := grp_issued (a := mk (siteCtx s st)) hlen
  have hripe := hw (issued (siteCl s st) st.g.val (mk (siteCtx s st))) (grp (issued (siteCl s st) st.g.val (mk (siteCtx s st))) st.g.val)
    (by rw [hgrp]; rfl) (issued_kcyc _ _ _) (by rw [drained, issued_flights, hk]; rfl)
  rw [siteGrp_of_issue hx h hr hu hf ht, wait_settleWaits (by rwa [length_issued_groups])
    (by rw [hgrp]; exact (advance_started _ _).trans hstart) (by rwa [hripe]), hripe]

end Waiting


/-- A sync on a transfer of its plan goes on, and waits while the transfer is not complete (03 R193). -/
theorem plan_goesOn {net : Bool} {k : Nat} (hx : exec i s = issue s st i (planAct net k)) (h : AtIssue s st i [] .free)
    (hk : k < if net then (mkEnv s st.cl.val).nNet else (mkEnv s st.cl.val).nDma) :
    GoesOn i s st .next fun t =>
      (siteGrp t st).wait = if (net, k) ∈ (mkEnv s st.cl.val).done then .none else .plan net k := by
  have hf : faultOf (siteCl s st) st.g.val (planAct net k (siteCtx s st)) = none :=
    faultOf_of_no_faults (if_neg (Nat.not_le.mpr hk))
  refine goesOn_of hx h rfl rfl hf rfl fun t ht => wait_of_issue hx h rfl rfl hf ht (fun c gr hw _ _ => ?_) rfl fun id n l => ?_
  · simp only [planAct, List.contains_iff_mem] at hw
    by_cases hm : (net, k) ∈ (mkEnv s st.cl.val).done
    · rw [if_pos hm]; rw [if_pos hm] at hw; exact ripen_wait_of_none hw
    · rw [if_neg hm]; rw [if_neg hm] at hw; exact ripen_wait_of_plan hw
  · split <;> simp

/-- A barrier whose lanes and the exited ones are all 32 finds no fault (02 R125). -/
theorem faultOf_barAct {gd : Guard} {w : Wait} (hl : guardLanes (siteCl s st) st.g.val gd ||| (siteGrp s st).exited = allLanes) :
    faultOf (siteCl s st) st.g.val (barAct gd w (siteCtx s st)) = none :=
  faultOf_of_no_faults (if_pos hl)

/-- BARG goes on and waits until its group has drained (02 R124). -/
theorem barg_goesOn {gd : Guard} (hl : guardLanes (siteCl s st) st.g.val gd ||| (siteGrp s st).exited = allLanes)
    (h0 : (siteGrp s st).active ≠ 0) (h : AtIssue s st (.barg st gd) (guardSrc gd) .free) :
    GoesOn (.barg st gd) s st .next fun t => (siteGrp t st).wait
      = if drained (siteCl s st) st.g.val then .til ((siteCl s st).kcyc + 8) else .barg (siteCl s st).kcyc := by
  have hx : exec (.barg st gd) s = issue s st (.barg st gd) fun x => barAct gd (.barg x.c.kcyc) x := rfl
  have hf := faultOf_barAct (w := .barg (siteCl s st).kcyc) hl
  refine goesOn_of hx h (List.append_nil _) rfl hf rfl fun t ht =>
    wait_of_issue hx h (List.append_nil _) rfl hf ht (fun c gr hw hk hd => ?_) rfl fun id n l => ?_
  · have hw : gr.wait = .barg (siteCl s st).kcyc := hw.trans (if_neg h0)
    rw [ripen_wait_of_barg hw, hk, hd, Nat.max_self]
  · split <;> simp

/-- BARC goes on and waits, arrived once its group has drained, while another open group has not arrived (02 R126, R127). -/
theorem barc_goesOn {gd : Guard} {id : Fin 4} (hl : guardLanes (siteCl s st) st.g.val gd ||| (siteGrp s st).exited = allLanes)
    (h0 : (siteGrp s st).active ≠ 0) (h : AtIssue s st (.barc st gd id) (guardSrc gd) .free)
    (hother : ∃ x ∈ openGroups (siteCl s st), x.1 ≠ st.g.val ∧ x.2.wait = .none ∧ laneless x.2 = false) :
    GoesOn (.barc st gd id) s st .next fun t => (siteGrp t st).wait
      = .barc id.val (siteCl s st).kcyc (if drained (siteCl s st) st.g.val then some (siteCl s st).kcyc else none) := by
  have hx : exec (.barc st gd id) s = issue s st (.barc st gd id) fun x => barAct gd (.barc id.val x.c.kcyc none) x := rfl
  let a := barAct gd (.barc id.val (siteCl s st).kcyc none) (siteCtx s st)
  have hf : faultOf (siteCl s st) st.g.val a = none := faultOf_barAct hl
  refine goesOn_of hx h (List.append_nil _) rfl hf rfl fun t ht => ?_
  rw [siteGrp_of_issue hx h (List.append_nil _) rfl hf ht]
  change (grp (settleWaits (issued (siteCl s st) st.g.val a)).1 st.g.val).wait = _
  obtain ⟨x, hx, hne, hwx, hlx⟩ := hother
  obtain ⟨h8, hgr, hs, hfin⟩ := mem_openGroups.mp hx
  have hopen : x ∈ openGroups (issued (siteCl s st) st.g.val a) :=
    mem_openGroups.mpr ⟨h8, by rw [grp_issued_other hne, hgr], hs, hfin⟩
  have hstart : (grp (siteCl s st) st.g.val).started = true := (atSlot_runs h.2.2.1).2.1
  have hlen := lt_length_of_started hstart
  have hgrp := grp_issued (a := a) hlen
  have hwait : (grp (issued (siteCl s st) st.g.val a) st.g.val).wait = .barc id.val (siteCl s st).kcyc none := by
    rw [hgrp]; exact if_neg h0
  have hstart' : (grp (issued (siteCl s st) st.g.val a) st.g.val).started = true := by
    rw [hgrp]; exact (advance_started _ _).trans hstart
  have hdrain : drained (issued (siteCl s st) st.g.val a) st.g.val = drained (siteCl s st) st.g.val := by
    rw [drained, issued_flights]; rfl
  rw [settleWaits_of_absent hopen hwx hlx, grp_ripened (by rwa [length_issued_groups]), if_pos hstart', ripen_wait_of_barc hwait, issued_kcyc,
    hdrain, Nat.max_self]

/-- DIGEST goes on and folds its lanes in ascending order (03 R199). -/
theorem digest_goesOn {gd : Guard} {a : Fin 256} (h : AtIssue s st (.digest st gd a) (guardSrc gd ++ [.v a.val]) .free) :
    GoesOn (.digest st gd a) s st .next fun t => (siteCl t st).digest
      = digFoldAll (siteCl s st).digest ((lanesOf s st gd).map fun l => (laneVal s st a.val l).toNat) := by
  have hf : faultOf (siteCl s st) st.g.val (digestAct gd a.val (siteCtx s st)) = none := faultOf_of_no_faults rfl
  refine goesOn_of rfl h (List.append_nil _) rfl hf rfl fun t ht => ?_
  have hd := siteCl_of_issue rfl h (List.append_nil _) rfl hf ht (fun c => c.digest) (fun _ _ _ => rfl) (fun _ _ => rfl) fun _ _ => rfl
  rw [hd]
  dsimp only
  rw [settleWaits_keeps (fun c => c.digest) (fun _ _ => rfl), issued_digest]
  rfl

/-! ### Breakpoints -/

/-- A halt of a later count is recorded when none stands (16 R730, R732). -/
theorem fireHalt_of_later {r : HaltRec} (hh : s.sched.halted = false) (hn : s.dbgp.halt = none) (hr : s.count < r.h) :
    fireHalt s r = putDbgp s { s.dbgp with halt := some r } := by
  simp only [fireHalt, hh, hn, Bool.false_eq_true, if_false, if_neg (Nat.not_le.mpr hr)]

theorem clusterFault_dbgp (s : State) (p : Nat) (f : ClFault) : (clusterFault s p f).dbgp = s.dbgp := by
  unfold clusterFault
  dsimp only
  split
  · rfl
  · unfold stopExec
    dsimp only
    split <;> simp


/-- Of the effects of a breakpoint instruction the debug port sees the breakpoint. -/
theorem applyEff_bkpt_dbgp (s : State) (p : Nat) (b : Option (Nat × Nat × Nat)) (f : Option ClFault) :
    (applyEff s p { bkpt := b, fault := f, issued := true }).dbgp
      = (breakAt (putDraw s (s.draw + 0)) ((clOf s p).logical.getD 0) b).dbgp := by
  cases f <;> simp [applyEff, effCounts, effUe, effCe, effVary, effSampled, effHalts, effFault, clusterFault_dbgp]

/-- A breakpoint that a comparator matches asks for a halt of the next count (16 R735). -/
theorem breakAt_of_hit {l n g pc k : Nat} (hh : s.sched.halted = false) (hn : s.dbgp.halt = none) (hk : bkptHit s l n = some k) :
    breakAt s l (some (n, g, pc)) = putDbgp s { s.dbgp with halt := some ⟨s.count + 1, 3, l, g, k, 0, pc, 0⟩ } := by
  simp only [breakAt, hk]
  exact fireHalt_of_later hh hn (Nat.lt_succ_self _)

/-- BKPT goes on and halts when a comparator matches (03 R198, 16 R735). -/
theorem bkpt_goesOn {n : BitVec 16} (h : AtIssue s st (.bkpt st n) [] .free) :
    GoesOn (.bkpt st n) s st .next fun t => ∀ k, (siteGrp s st).active ≠ 0 →
      bkptHit s ((siteCl s st).logical.getD 0) n.toNat = some k → s.dbgp.halt = none → s.dbgp.stepMode = none →
      t.dbgp.halt = some ⟨s.count + 1, 3, (siteCl s st).logical.getD 0, st.g.val, k, 0, (siteGrp s st).pc, 0⟩ := by
  let mk : Ctx → Act := fun x =>
    { eff := { bkpt := if (grp x.c x.g).active ≠ 0 then some (n.toNat, x.g, (grp x.c x.g).pc) else none } }
  have hx : exec (.bkpt st n) s = issue s st (.bkpt st n) mk := rfl
  have hf : faultOf (siteCl s st) st.g.val (mk (siteCtx s st)) = none := faultOf_of_no_faults rfl
  refine goesOn_of hx h rfl rfl hf rfl fun t ht k h0 hk hn hm => ?_
  obtain rfl := Host.Outcome.next.inj (ht.symm.trans (exec_of_issue hx h rfl rfl hf))
  have hhalted : s.sched.halted = false := (Bool.or_eq_false_iff.mp h.1).2
  have hb : (mk (siteCtx s st)).eff.bkpt = some (n.toNat, st.g.val, (siteGrp s st).pc) := if_pos h0
  let c' : Cluster := { (settleWaits (issued (siteCl s st) st.g.val (mk (siteCtx s st)))).1 with issuedAt := some (siteCl s st).kcyc }
  have hl : c'.logical = (siteCl s st).logical := by
    rw [show c'.logical = _ from settleWaits_keeps (fun c => c.logical) (fun _ _ => rfl) _, issued_logical]
  let x := putDraw (setCl s st.cl.val c') ((setCl s st.cl.val c').draw + 0)
  have hdbg : (afterAct s st (c', { (mk (siteCtx s st)).eff with
      fault := (settleWaits (issued (siteCl s st) st.g.val (mk (siteCtx s st)))).2, issued := true })).dbgp
      = { s.dbgp with halt := some ⟨s.count + 1, 3, (siteCl s st).logical.getD 0, st.g.val, k, 0, (siteGrp s st).pc, 0⟩ } := by
    refine (applyEff_bkpt_dbgp _ _ _ _).trans ?_
    rw [hb, clOf_setCl, if_pos rfl, hl]
    have hk' : bkptHit x ((siteCl s st).logical.getD 0) n.toNat = some k := hk
    rw [breakAt_of_hit (s := x) hhalted hn hk']
    rfl
  have hstep : (afterAct s st (c', { (mk (siteCtx s st)).eff with
      fault := (settleWaits (issued (siteCl s st) st.g.val (mk (siteCtx s st)))).2, issued := true })).dbgp.stepMode = none := by
    rw [hdbg]; exact hm
  rw [stepIssue, hstep, if_neg (by simp), hdbg]

/-- Settles O14: each goes on as its act says, and what it waits for is its act's wait, ripened when its group has drained. -/
theorem waitingInstructions : Obligations.WaitingInstructions := by
  unfold Obligations.WaitingInstructions
  intro s st gd k n id a c env quiet
  exact ⟨fun h hk => plan_goesOn (net := false) rfl h hk, fun h hk => plan_goesOn (net := true) rfl h hk,
    fun hl h0 => ⟨fun h => barg_goesOn hl h0 h, fun h hother => barc_goesOn hl h0 h hother⟩, bkpt_goesOn, digest_goesOn⟩

end Sys2Proof.Machine

/-!
SUPPORT. Constant loads (02 R96, R97, R761; 03 R188 to R190).
-/
namespace Sys2Proof.Machine

variable {s : State} {st : Site} {i : Instr} {mk : Ctx → Act} {rs : List RegId} {u : UnitUse}

section Issued
variable (c : Cluster) (g : Nat) (a : Act)

/-- A miss of the operand cache counts at the issue (02 R135). -/
theorem issued_ocMiss : (issued c g a).ocMiss = c.ocMiss + if a.ocMiss then 1 else 0 := by
  have h1 : ∀ c, (actFill a c).ocMiss = c.ocMiss := by intro c; unfold actFill startFill; (repeat' split) <;> rfl
  have h2 : ∀ c, (actDigest a c).ocMiss = c.ocMiss := by intro c; unfold actDigest; split <;> rfl
  have h3 : ∀ c, (actBuf a c).ocMiss = c.ocMiss := by intro c; unfold actBuf; split <;> rfl
  have h4 : ∀ c, (actLean a c).ocMiss = c.ocMiss := by intro c; unfold actLean; split <;> rfl
  have h5 : ∀ c, (actMiss a c).ocMiss = c.ocMiss + if a.ocMiss then 1 else 0 := by intro c; unfold actMiss; split <;> rfl
  have h6 : (if keepsFlight a then { c with flights := c.flights ++ [mkFlight c g a] } else c).ocMiss = c.ocMiss := by split <;> rfl
  unfold issued applyAct modGrp
  dsimp only
  rw [h5, h4, h3, h2, h1, h6]

/-- The fill of a missed line starts at the issue and completes 24 cycles later (02 R97). -/
theorem issued_fills_of_miss {l : Nat} (h : a.fill = some l) :
    (issued c g a).fills = c.fills ++ [⟨true, l, lineBytes c l, c.kcyc + 24, false⟩] := by
  have h2 : ∀ c, (actDigest a c).fills = c.fills := by intro c; unfold actDigest; split <;> rfl
  have h3 : ∀ c, (actBuf a c).fills = c.fills := by intro c; unfold actBuf; split <;> rfl
  have h4 : ∀ c, (actLean a c).fills = c.fills := by intro c; unfold actLean; split <;> rfl
  have h5 : ∀ c, (actMiss a c).fills = c.fills := by intro c; unfold actMiss; split <;> rfl
  unfold issued applyAct modGrp
  dsimp only
  rw [h5, h4, h3, h2]
  simp only [actFill, h, startFill, if_true]
  split <;> rfl

end Issued

/-- A constant load that missed takes its value from its line when the fill reads it (02 R95, R97). -/
theorem uldcTake_mem_refill {c : Cluster} {f : Flight} {x : Fill} (hf : f ∈ c.flights) (hx : x ∈ c.fills) (hread : x.read = false)
    (hoc : x.oc = true) (hm : missed x f = true) : uldcTake f (lineBytes c (flightLine f)) ∈ (refill c).flights := by
  have hnow : x ∈ c.fills.filter fun f => !f.read := List.mem_filter.mpr ⟨hx, by rw [hread]; rfl⟩
  have hsome : ((c.fills.filter fun f => !f.read).any fun x => x.oc && missed x f) = true :=
    List.any_eq_true.mpr ⟨x, hnow, by rw [hoc, hm]; rfl⟩
  have hne : (c.fills.filter fun f => !f.read).isEmpty = false := by
    rw [List.isEmpty_eq_false_iff]; exact List.ne_nil_of_mem hnow
  simp only [refill, hne, Bool.false_eq_true, if_false]
  exact List.mem_map.mpr ⟨f, hf, by rw [if_pos hsome]⟩

section Uldc
variable {gd : Guard} {x64 t : Bool} {d a : Fin 64} {imm : BitVec 28}

/-- The address of a constant load (03 R188). -/
def uldcAddr (s : State) (st : Site) (a : Nat) (imm : BitVec 28) : Nat := (uniVal s st a + imm.signExtend 32).toNat

/-- The registers a constant load writes (03 R189). -/
def uldcDsts (x64 : Bool) (d : Nat) : List RegId := if x64 then [.u d, .u (d + 1)] else [.u d]

theorem uldcDsts_ne_nil (x64 : Bool) (d : Nat) : uldcDsts x64 d ≠ [] := by
  cases x64 <;> simp [uldcDsts]

/-- The act of a constant load whose line is cached: 8 cycles in the ordinary form, 32 in the fixed-time form (03 R190). -/
theorem uldcAct_of_hit {bs : List Byte} (hit : ocLook (siteCl s st) (uldcAddr s st a.val imm / 64) = some bs) :
    (uldcAct x64 t d.val a.val imm (siteCtx s st)).lat = (if t then 32 else 8)
    ∧ (uldcAct x64 t d.val a.val imm (siteCtx s st)).writes = uldcWrites x64 d.val (uldcAddr s st a.val imm) bs := by
  have hit : ocLook (siteCl s st) (((siteCtx s st).u a.val + immWord imm).toNat / 64) = some bs := hit
  simp only [uldcAct, hit]
  exact ⟨by cases t <;> rfl, rfl⟩

/-- The act of a constant load whose line is in progress takes that line's bytes (02 R761). -/
theorem uldcAct_of_pending {x : Fill} (hmiss : ocLook (siteCl s st) (uldcAddr s st a.val imm / 64) = none)
    (hp : (siteCl s st).fills.find? (fun f => f.oc && f.line == uldcAddr s st a.val imm / 64) = some x) :
    (uldcAct x64 t d.val a.val imm (siteCtx s st)).lat = 32
    ∧ (uldcAct x64 t d.val a.val imm (siteCtx s st)).writes = uldcWrites x64 d.val (uldcAddr s st a.val imm) x.bytes := by
  have hmiss : ocLook (siteCl s st) (((siteCtx s st).u a.val + immWord imm).toNat / 64) = none := hmiss
  have hp : (siteCl s st).fills.find? (fun f => f.oc && f.line == ((siteCtx s st).u a.val + immWord imm).toNat / 64) = some x := hp
  simp only [uldcAct, hmiss, hp]
  exact ⟨rfl, rfl⟩

/-- The act of a constant load whose line is neither starts its fill (02 R97). -/
theorem uldcAct_of_miss (hmiss : ocLook (siteCl s st) (uldcAddr s st a.val imm / 64) = none)
    (hp : (siteCl s st).fills.find? (fun f => f.oc && f.line == uldcAddr s st a.val imm / 64) = none) :
    (uldcAct x64 t d.val a.val imm (siteCtx s st)).lat = 32
    ∧ (uldcAct x64 t d.val a.val imm (siteCtx s st)).fill = some (uldcAddr s st a.val imm / 64)
    ∧ (uldcAct x64 t d.val a.val imm (siteCtx s st)).ocMiss = true := by
  have hmiss : ocLook (siteCl s st) (((siteCtx s st).u a.val + immWord imm).toNat / 64) = none := hmiss
  have hp : (siteCl s st).fills.find? (fun f => f.oc && f.line == ((siteCtx s st).u a.val + immWord imm).toNat / 64) = none := hp
  simp only [uldcAct, hmiss, hp]
  exact ⟨rfl, rfl, rfl⟩

variable (hr : uldcAddr s st a.val imm + (if x64 then 8 else 4) ≤ 2 ^ 20) (hal : uldcAddr s st a.val imm % (if x64 then 8 else 4) = 0)
include hr hal

/-- A constant load in range and aligned finds no fault on any path (02 R91, 03 R155). -/
theorem faultOf_uldcAct : faultOf (siteCl s st) st.g.val (uldcAct x64 t d.val a.val imm (siteCtx s st)) = none :=
  faultOf_of_no_faults (accFaults_eq_nil hr hal)

variable (h : AtIssue s st (.uldc st gd x64 t d a imm) ([.u a.val] ++ uldcDsts x64 d.val) .free)
include h

/-- A constant load sends the value of the line that its act finds. -/
theorem uldc_sends {lat : Nat} {bs : List Byte} (hact : (uldcAct x64 t d.val a.val imm (siteCtx s st)).lat = lat
      ∧ (uldcAct x64 t d.val a.val imm (siteCtx s st)).writes = uldcWrites x64 d.val (uldcAddr s st a.val imm) bs) :
    Sends (.uldc st gd x64 t d a imm) s st lat (uldcDsts x64 d.val) (uldcWrites x64 d.val (uldcAddr s st a.val imm) bs) := by
  rw [← hact.1, ← hact.2]
  exact sends_of rfl h rfl rfl (faultOf_uldcAct hr hal) (uldcDsts_ne_nil x64 d.val)

/-- A constant load that starts a fill: its flight, the fill, and the value it takes at the end of the cycle (02 R97). -/
theorem uldc_fills (hmiss : ocLook (siteCl s st) (uldcAddr s st a.val imm / 64) = none)
    (hp : (siteCl s st).fills.find? (fun f => f.oc && f.line == uldcAddr s st a.val imm / 64) = none) :
    ∃ v f, exec (.uldc st gd x64 t d a imm) s = .next v ∧ (siteCl v st).flights = (siteCl s st).flights ++ [f] ∧ f.g = st.g.val
      ∧ f.dsts = uldcDsts x64 d.val ∧ f.readyAt = (siteCl s st).kcyc + 32 ∧ (siteCl v st).ocMiss = (siteCl s st).ocMiss + 1
      ∧ (∃ x ∈ (siteCl v st).fills, x.oc = true ∧ x.line = uldcAddr s st a.val imm / 64 ∧ x.doneAt = (siteCl s st).kcyc + 24)
      ∧ ∃ y ∈ (refill (siteCl v st)).flights, y.g = st.g.val
        ∧ y.writes = uldcWrites x64 d.val (uldcAddr s st a.val imm) (lineBytes (siteCl s st) (uldcAddr s st a.val imm / 64)) := by
  have hf := faultOf_uldcAct (s := s) (st := st) (t := t) (d := d) hr hal
  have hx : exec (.uldc st gd x64 t d a imm) s = issue s st (.uldc st gd x64 t d a imm) (uldcAct x64 t d.val a.val imm) := rfl
  have hv := exec_of_issue hx h rfl rfl hf
  obtain ⟨hlat, hfill, hoc⟩ := uldcAct_of_miss (x64 := x64) (t := t) (d := d) hmiss hp
  have hkeep : keepsFlight (uldcAct x64 t d.val a.val imm (siteCtx s st)) = true := by cases x64 <;> rfl
  obtain ⟨v, hvx⟩ : ∃ v, exec (.uldc st gd x64 t d a imm) s = .next v := ⟨_, hv⟩
  have hflights := siteCl_of_issue hx h rfl rfl hf hvx (fun c => c.flights) (fun _ _ _ => rfl) (fun _ _ => rfl) fun _ _ => rfl
  have hfills := siteCl_of_issue hx h rfl rfl hf hvx (fun c => c.fills) (fun _ _ _ => rfl) (fun _ _ => rfl) fun _ _ => rfl
  have hcount := siteCl_of_issue hx h rfl rfl hf hvx (fun c => c.ocMiss) (fun _ _ _ => rfl) (fun _ _ => rfl) fun _ _ => rfl
  have hspad := siteCl_of_issue hx h rfl rfl hf hvx (fun c => c.spad) (fun _ _ _ => rfl) (fun _ _ => rfl) fun _ _ => rfl
  dsimp only at hflights hfills hcount hspad
  rw [settleWaits_keeps (fun c => c.flights) (fun _ _ => rfl), issued_flights, if_pos hkeep] at hflights
  rw [settleWaits_keeps (fun c => c.fills) (fun _ _ => rfl), issued_fills_of_miss _ _ _ hfill] at hfills
  rw [settleWaits_keeps (fun c => c.ocMiss) (fun _ _ => rfl), issued_ocMiss, if_pos hoc] at hcount
  rw [settleWaits_keeps (fun c => c.spad) (fun _ _ => rfl), issued_spad] at hspad
  have hfmem : mkFlight (siteCl s st) st.g.val (uldcAct x64 t d.val a.val imm (siteCtx s st)) ∈ (siteCl v st).flights := by
    rw [hflights]; exact List.mem_append_right _ List.mem_cons_self
  have hxmem : (⟨true, uldcAddr s st a.val imm / 64, lineBytes (siteCl s st) (uldcAddr s st a.val imm / 64), (siteCl s st).kcyc + 24, false⟩
      : Fill) ∈ (siteCl v st).fills := by
    rw [hfills]; exact List.mem_append_right _ List.mem_cons_self
  refine ⟨v, _, hvx, hflights, rfl, rfl, congrArg ((siteCl s st).kcyc + ·) hlat, hcount, ⟨_, hxmem, rfl, rfl, rfl⟩, _,
    uldcTake_mem_refill hfmem hxmem rfl rfl ?_, rfl, ?_⟩
  · exact (Bool.and_eq_true_iff.mpr ⟨beq_self_eq_true (uldcAddr s st a.val imm / 64), decide_eq_true le_rfl⟩)
  · have hline : lineBytes (siteCl v st) (uldcAddr s st a.val imm / 64) = lineBytes (siteCl s st) (uldcAddr s st a.val imm / 64) := by
      rw [lineBytes, hspad]; rfl
    exact congrArg (uldcWrites x64 d.val (uldcAddr s st a.val imm)) hline

end Uldc

/-- The written words of a constant load, with the second one only in the 64-bit form (03 R188, R189). -/
theorem uldcWrites_eq (x64 : Bool) (d ad : Nat) (bs : List Byte) :
    uldcWrites x64 d ad bs
      = (.uni d, w32 (leNat ((bs.drop (ad % 64)).take (if x64 then 8 else 4))))
        :: if x64 then [(.uni (d + 1), w32 (leNat ((bs.drop (ad % 64)).take (if x64 then 8 else 4)) / 2 ^ 32))] else [] := by
  cases x64 <;> rfl

/-- Settles O15: one case for each place the line is found in, the operand cache, a fill in progress, or the fill that the load starts. -/
theorem constantLoadResults : Obligations.ConstantLoadResults := by
  unfold Obligations.ConstantLoadResults
  intro s st gd x64 t d a imm n ad c ds send hr hal h
  refine ⟨fun bs hit => ?_, fun x hmiss hp => ?_, fun hmiss hnone => ?_⟩
  · have hs := uldc_sends hr hal h (uldcAct_of_hit hit)
    rwa [uldcWrites_eq] at hs
  · have hs := uldc_sends hr hal h (uldcAct_of_pending hmiss hp)
    rwa [uldcWrites_eq] at hs
  · have hp : c.fills.find? (fun f => f.oc && f.line == ad / 64) = none := by
      rw [List.find?_eq_none]
      intro f hf hfl
      obtain ⟨hoc, hline⟩ := Bool.and_eq_true_iff.mp hfl
      exact hnone f hf ⟨hoc, eq_of_beq hline⟩
    obtain ⟨v, f, hv, hfl, hg, hds, hready, hcount, hfill, y, hy, hyg, hyw⟩ := uldc_fills hr hal h hmiss hp
    rw [uldcWrites_eq] at hyw
    exact ⟨v, f, hv, hfl, hg, hds, hready, hcount, hfill, y, hy, hyg, hyw⟩

end Sys2Proof.Machine

/-!
SUPPORT. The hardwired registers (02 R78), and an illegal word while a pre-emption drains (08 R452).
-/
namespace Sys2Proof.Machine

/-- Settles O21: the reads and the writes of registers single out u0 and p0. -/
theorem hardwiredRegisters : Obligations.HardwiredRegisters := by
  unfold Obligations.HardwiredRegisters
  intro c g l v
  refine ⟨if_pos rfl, fun hl => ?_, show wrUni c g 0 v = c from if_pos rfl, show wrPred c g 0 l (rbit v 0) = c from if_pos rfl⟩
  rw [rdPred, if_pos rfl, allLanes, BitVec.getLsbD_allOnes]
  exact decide_eq_true hl

/-- Group 0 of cluster 0 holds the all-zero word at its slot while a pre-emption drains. -/
def drainingZeroWord : State := modExec (onCl (clWord (some 0) allLanes [])) fun e => { e with draining := true }

/-- An illegal word does not fault while a pre-emption drains (08 R452). -/
theorem exec_illegalEncoding_of_draining {s : State} (st : Site) (h : s.sched.exec.draining = true) :
    exec (.illegalEncoding st) s = .next s := congrArg Host.Outcome.next (if_pos h)

/-- Refutes O17: in its last clause a pre-emption may drain, during which nothing issues and so no illegal word faults. -/
theorem not_fetchAndIllegalWord : ¬ Obligations.FetchAndIllegalWord := by
  unfold Obligations.FetchAndIllegalWord
  intro h
  obtain ⟨-, -, hillegal⟩ := h drainingZeroWord st0 (by decide +kernel)
  obtain ⟨t, ht, hfaulted, -⟩ := hillegal (by decide +kernel)
  rw [exec_illegalEncoding_of_draining st0 rfl] at ht
  obtain rfl := Host.Outcome.next.inj ht
  exact absurd hfaulted (by decide +kernel)

end Sys2Proof.Machine

/-!
SUPPORT. What an issue leaves as it was: the parts of the state that no cluster action reaches, and the register files and the
scratchpad of every cluster (02 R84 to R88); the issue that finds nothing to issue (02 R86).
-/
namespace Sys2Proof.Machine

variable {s : State} {st : Site} {i : Instr} {mk : Ctx → Act}

/-! ### Every instruction word issues -/

/-- A command with an instruction word stands at a site, and its execution is an issue there (03 R138). -/
theorem exec_eq_issue (h : (encodeWord i).isSome = true) : ∃ st mk, siteOf i = some st ∧ ∀ s, exec i s = issue s st i mk := by
  cases i <;> simp only [encodeWord, Option.isSome_none, Option.isSome_some, Bool.false_eq_true] at h
  all_goals exact ⟨_, _, rfl, fun _ => rfl⟩

/-! ### The parts of the state that no cluster action reaches -/

/-- The counter, the queue, the memories, the sessions, the links, the Falbo die, the supplies and the boot state. -/
def beyond (s : State) := (s.pending, s.count, s.hbm, s.host, s.gener, s.azl, s.falbo, s.power, s.boot)

theorem beyond_stopExec (cause cl : Nat) : beyond (stopExec s cause cl) = beyond s := by
  unfold stopExec; dsimp only; split <;> simp [beyond]

theorem beyond_clusterFault (p : Nat) (f : ClFault) : beyond (clusterFault s p f) = beyond s := by
  unfold clusterFault
  dsimp only
  split
  · rfl
  · rw [beyond_stopExec]; simp [beyond]

theorem beyond_applyEff (p : Nat) (e : CEff) : beyond (applyEff s p e) = beyond s := by
  have counts : ∀ t, beyond (effCounts e t) = beyond t := by intro t; unfold effCounts; split <;> simp [beyond]
  have ue : ∀ l t, beyond (effUe p l e t) = beyond t := by intro l t; unfold effUe; split <;> simp [beyond]
  have ce : ∀ t, beyond (effCe p e t) = beyond t := by intro t; unfold effCe; split <;> simp [beyond]
  have vary : ∀ t, beyond (effVary e t) = beyond t := by intro t; unfold effVary; split <;> simp [beyond]
  have sampled : ∀ t, beyond (effSampled e t) = beyond t := by intro t; unfold effSampled; split <;> simp [beyond]
  have halts : ∀ l t, beyond (effHalts l e t) = beyond t := by
    intro l t; unfold effHalts; dsimp only; split <;> simp [beyond]
  have fault : ∀ t, beyond (effFault p e t) = beyond t := by
    intro t; unfold effFault; split
    · exact beyond_clusterFault p _
    · rfl
  have draws : ∀ t n, beyond (putDraw t n) = beyond t := by intro t n; simp [beyond]
  unfold applyEff
  rw [fault, halts, draws, sampled, vary, ce, ue, counts]

theorem beyond_actOn (p : Nat) (f : CEnv → Cluster → Cluster × CEff) : beyond (actOn s p f) = beyond s := by
  unfold actOn
  split
  · rfl
  · rw [beyond_applyEff]; simp [beyond]

/-! ### The register files and the scratchpad of a cluster -/

/-- The lane, uniform, predicate and Peat registers, and the scratchpad. -/
def stored (c : Cluster) := (c.lanes, c.unis, c.preds, c.peat, c.spad)

/-- An issue writes no register and no memory of its cluster: not while it cannot issue, not in a fault, not as it issues (02 R87). -/
theorem stored_issueIns (c : Cluster) (a : Act) : stored (issueIns c st i a).1 = stored c := by
  by_cases hok : issuable c st i a = true
  · cases hf : faultOf c st.g.val a with
    | none =>
      rw [issueIns_keeps stored c st i a hok hf (fun _ _ => rfl) (fun _ _ _ _ => rfl) (fun _ _ => rfl) (fun _ _ => rfl) (fun _ _ => rfl)
        (fun _ _ => rfl) fun _ _ => rfl]
      split <;> rfl
    | some x => rw [issueIns_of_fault hok hf]
  · rw [issueIns, if_neg hok]

/-- A cluster's action that writes no register and no memory leaves those of every cluster. -/
theorem stored_clOf_actOn {p : Nat} {f : CEnv → Cluster → Cluster × CEff} (h : ∀ env c, stored (f env c).1 = stored c) (q : Nat) :
    stored (clOf (actOn s p f) q) = stored (clOf s q) := by
  unfold actOn
  split
  · rfl
  · rw [clOf_applyEff_keeps _ stored (fun _ _ _ => rfl) (fun _ _ => rfl) fun _ _ => rfl, clOf_setCl]
    split
    · next hq => rw [h, hq]
    · rfl

/-! ### The issue -/

/-- What an issue leaves of the state, and of every cluster. -/
theorem issue_frame {t : State} (ht : issue s st i mk = .next t) : beyond t = beyond s ∧ ∀ p, stored (clOf t p) = stored (clOf s p) := by
  have hstep : ∀ (u : State) l g b, beyond (stepIssue u l g b) = beyond u := by intro u l g b; simp [beyond]
  obtain rfl := Host.Outcome.next.inj ht
  refine ⟨?_, fun p => ?_⟩
  · rw [hstep]
    split
    · rfl
    · exact beyond_actOn _ _
  · rw [clOf_congr (stepIssue_clusters ..)]
    split
    · rfl
    · exact stored_clOf_actOn (fun _ c => stored_issueIns c _) p

/-- Settles O22: every instruction word issues, and an issue leaves what lies beyond its cluster and what every cluster stores. -/
theorem issueFrame : Obligations.IssueFrame := by
  unfold Obligations.IssueFrame
  intro i s t hword ht
  obtain ⟨st, mk, -, hx⟩ := exec_eq_issue hword
  rw [hx] at ht
  obtain ⟨hbeyond, hstored⟩ := issue_frame ht
  simp only [beyond, stored, Prod.mk.injEq] at hbeyond hstored
  obtain ⟨hpending, hcount, hhbm, hhost, hgener, hazl, hfalbo, hpower, hboot⟩ := hbeyond
  exact ⟨hpending, hcount, hhbm, hhost, hgener, hazl, hfalbo, hpower, hboot, hstored⟩

/-- The effects of an action that did nothing. -/
theorem applyEff_empty (p : Nat) : applyEff s p {} = s := rfl

/-- Writing a cluster back changes nothing that is read. -/
theorem clOf_setCl_self (p q : Nat) : clOf (setCl s p (clOf s p)) q = clOf s q := by
  rw [clOf_setCl]
  split
  · next hq => rw [hq]
  · rfl

/-- An issue that cannot be changes no cluster, and nothing else (02 R86). -/
theorem issue_of_not_atSlot (h : atSlot (siteCl s st) st (some i) = false) :
    ∃ t, issue s st i mk = .next t ∧ (∀ p, clOf t p = clOf s p) ∧ putClusters t s.clusters = s := by
  have hno : ∀ a, issuable (clOf s st.cl.val) st i a = false := by
    intro a; rw [issuable, show atSlot (clOf s st.cl.val) st (some i) = false from h]; rfl
  have hins : ∀ a, issueIns (clOf s st.cl.val) st i a = (clOf s st.cl.val, {}) := by
    intro a; rw [issueIns, hno]; rfl
  refine ⟨_, rfl, ?_⟩
  simp only [hno, Bool.and_false]
  have hstep : ∀ (u : State) l g, stepIssue u l g false = u := fun _ _ _ => rfl
  rw [hstep]
  split
  · exact ⟨fun _ => rfl, rfl⟩
  · unfold actOn
    split
    · exact ⟨fun _ => rfl, rfl⟩
    · dsimp only
      rw [hins, applyEff_empty]
      exact ⟨clOf_setCl_self _, rfl⟩

/-- Settles O23: every instruction word issues, and an issue whose slot or word is not its own does nothing. -/
theorem unheldInstructionDoesNothing : Obligations.UnheldInstructionDoesNothing := by
  unfold Obligations.UnheldInstructionDoesNothing
  intro i s st hword hsite hslot
  obtain ⟨st', mk, hsite', hx⟩ := exec_eq_issue hword
  obtain rfl := Option.some.inj (hsite.symm.trans hsite')
  rw [hx]
  exact issue_of_not_atSlot hslot

end Sys2Proof.Machine

/-!
SUPPORT. Landing results: what a register reads after the writes of a flight whose destinations differ (02 R84, R87).
-/
namespace Sys2Proof.Machine

variable {s : State} {st : Site} {c c' : Cluster} {g : Nat} {w x : Dst × Word} {f : Flight}

/-! ### One result -/

/-- A destination that the register files have (02 R76). -/
def InFiles (d : Dst) : Prop :=
  match d with
  | .lane r l => r < 256 ∧ l < 32
  | .uni r => r < 64
  | .pred p l => p < 8 ∧ l < 32

/-- The destination of a result reads its value, the hardwired registers apart (02 R78). -/
def Landed (c : Cluster) (g : Nat) (w : Dst × Word) : Prop :=
  match w.1 with
  | .lane r l => rdLane c g r l = w.2
  | .uni r => r ≠ 0 → rdUni c g r = w.2
  | .pred p l => p ≠ 0 → (rdPred c g p).getLsbD l = w.2.getLsbD 0

/-- The register files and the flights of a cluster. -/
def files (c : Cluster) := (c.lanes, c.unis, c.preds, c.flights)

/-- What has landed is read from the register files alone. -/
theorem Landed.of_files (h : files c = files c') (hw : Landed c g w) : Landed c' g w := by
  obtain ⟨d, v⟩ := w
  simp only [files, Prod.mk.injEq] at h
  obtain ⟨hlanes, hunis, hpreds, -⟩ := h
  cases d <;> simpa only [Landed, rdLane, rdUni, rdPred, hlanes, hunis, hpreds] using hw

theorem rbit_zero (v : Word) : rbit v 0 = v.getLsbD 0 := by
  rw [rbit, bitN_eq, BitVec.getLsbD, Nat.testBit_eq_decide_div_mod_eq]

/-- A predicate's bit after the write of one bit. -/
theorem getLsbD_rdPred_wrPred {p l p' l' : Nat} {b : Bool} (hp : p ≠ 0) (hl : l < 32) :
    (rdPred (wrPred c g p' l' b) g p).getLsbD l
      = if p' = p ∧ l' = l then b else (rdPred c g p).getLsbD l := by
  have hbit : (BitVec.ofNat 32 (1 <<< l')).getLsbD l = decide (l' = l) := by
    rw [BitVec.getLsbD_ofNat, Nat.one_shiftLeft, Nat.testBit_two_pow, decide_eq_true hl, Bool.true_and]
  unfold wrPred
  split
  · next h0 => rw [if_neg (by omega)]
  · simp only [rdPred, hp, if_false, smGet_smSet, Nat.add_left_cancel_iff]
    by_cases hpp : p = p'
    · subst hpp
      rw [if_pos rfl]
      cases b
      · simp only [Bool.false_eq_true, if_false, BitVec.getLsbD_and, BitVec.getLsbD_not, hbit, decide_eq_true hl]
        by_cases hll : l' = l <;> simp [hll, hp]
      · simp only [if_true, BitVec.getLsbD_or, hbit]
        by_cases hll : l' = l <;> simp [hll, hp]
    · rw [if_neg (by simpa using hpp), if_neg (fun h => hpp h.1.symm)]

/-- A result that is written reads back. -/
theorem landed_wrDst_same (h : InFiles w.1) : Landed (wrDst c g w) g w := by
  obtain ⟨d, v⟩ := w
  cases d with
  | lane r l => exact smGet_smSet_same
  | uni r =>
    intro hr
    dsimp only [wrDst]
    rw [wrUni, if_neg hr, rdUni, if_neg hr]
    exact smGet_smSet_same
  | pred p l =>
    intro hp
    dsimp only [wrDst]
    rw [getLsbD_rdPred_wrPred hp h.2, if_pos ⟨rfl, rfl⟩, rbit_zero]

/-- A result stays when another destination is written. -/
theorem Landed.wrDst_other (hw : InFiles w.1) (hx : InFiles x.1) (hne : x.1 ≠ w.1) (h : Landed c g w) : Landed (wrDst c g x) g w := by
  obtain ⟨d, v⟩ := w
  obtain ⟨e, u⟩ := x
  cases d with
  | lane r l =>
    cases e with
    | lane r' l' =>
      refine (smGet_smSet_other fun hkey => ?_).trans h
      obtain ⟨-, hl⟩ := hw
      obtain ⟨-, hl'⟩ := hx
      exact hne (by rw [show r' = r by omega, show l' = l by omega])
    | uni r' => unfold wrDst wrUni; dsimp only; split <;> exact h
    | pred p' l' => unfold wrDst wrPred; dsimp only; split <;> exact h
  | uni r =>
    intro hr
    cases e with
    | lane r' l' => exact h hr
    | pred p' l' => unfold wrDst wrPred; dsimp only; split <;> exact h hr
    | uni r' =>
      have hrr : r' ≠ r := fun heq => hne (by rw [heq])
      dsimp only [wrDst]
      unfold wrUni
      split
      · exact h hr
      · rw [rdUni, if_neg hr]
        refine (smGet_smSet_other fun hkey => ?_).trans ((if_neg hr).symm.trans (h hr))
        exact hrr (Nat.add_left_cancel hkey).symm
  | pred p l =>
    intro hp
    cases e with
    | lane r' l' => exact h hp
    | uni r' => unfold wrDst wrUni; dsimp only; split <;> exact h hp
    | pred p' l' =>
      have hpl : ¬ (p' = p ∧ l' = l) := fun heq => hne (by rw [heq.1, heq.2])
      dsimp only [wrDst]
      rw [getLsbD_rdPred_wrPred hp hw.2, if_neg hpl]
      exact h hp

theorem wrDst_flights : (wrDst c g w).flights = c.flights := by
  unfold wrDst wrUni wrPred
  (repeat' split) <;> rfl

/-! ### The results of a flight -/

/-- Results stay when results of other destinations land. -/
theorem Landed.each_other {ws : List (Dst × Word)} (hw : InFiles w.1) (hin : ∀ x ∈ ws, InFiles x.1) (hne : ∀ x ∈ ws, x.1 ≠ w.1)
    (h : Landed c g w) : Landed (each ws (fun x c => wrDst c g x) c) g w := by
  induction ws generalizing c with
  | nil => exact h
  | cons x xs ih =>
    rw [List.forall_mem_cons] at hin hne
    exact ih hin.2 hne.2 (h.wrDst_other hw hin.1 hne.1)

/-- Results of distinct destinations all land. -/
theorem landed_each {ws : List (Dst × Word)} (hd : (ws.map Prod.fst).Nodup) (hin : ∀ x ∈ ws, InFiles x.1) (hw : w ∈ ws) :
    Landed (each ws (fun x c => wrDst c g x) c) g w := by
  induction ws generalizing c with
  | nil => cases hw
  | cons x xs ih =>
    rw [List.map_cons, List.nodup_cons] at hd
    rw [List.forall_mem_cons] at hin
    obtain ⟨hhead, htail⟩ := hin
    rcases List.mem_cons.mp hw with rfl | hmem
    · exact (landed_wrDst_same hhead).each_other (ws := xs) hhead htail
        fun y hy heq => hd.1 (List.mem_map.mpr ⟨y, hy, heq⟩)
    · exact ih hd.2 htail hmem

/-! ### The landing -/

/-- With no bit flipped, what lands is what the flight carries. -/
theorem landFlip_zero (f : Flight) : landFlip f 0 = f := by
  unfold landFlip
  split
  · next w _ _ hw =>
    have hx : (w.1, w.2 ^^^ (0 : Word)) = w := congrArg (w.1, ·) BitVec.xor_zero
    rw [hx, ← hw]
  · rfl

theorem files_wrPeat (q : Nat) (v : Peat) : files (wrPeat c q v) = files c := rfl

theorem files_landPeat (job : Job) (acc : List (Nat × Peat)) : files (landPeat c job acc) = files c := by
  unfold landPeat
  split <;> exact each_keeps files _ (fun p c => files_wrPeat _ _) _ _

theorem files_landPeatFlip (m : Word) : files (landPeatFlip c f m) = files c := by
  unfold landPeatFlip
  split <;> rfl

/-- A clean landing leaves the register files as the writes of its results do, without the flight. -/
theorem files_landFlight : files (landFlight c f .clean)
    = files (each (takeGot c f).writes (fun w c => wrDst c f.g w) { c with flights := dropFlight f c.flights }) := by
  have hclean : landFlip (takeGot c f) (eccMask .clean) = takeGot c f := landFlip_zero _
  have hg : (takeGot c f).g = f.g := by unfold takeGot; split <;> rfl
  unfold landFlight
  dsimp only
  rw [hclean, hg]
  exact (files_landPeat _ _).trans (files_landPeatFlip _)

/-- RESULT_READY lands a due flight (02 R84). -/
theorem files_resultReady (h : dueFlight c g = some f) : files (resultReady c g .clean).1 = files (landFlight c f .clean) := by
  unfold resultReady
  rw [h]
  dsimp only
  split
  · exact settleWaits_keeps files (fun _ _ => rfl) (landFlight c f .clean)
  · rfl

/-- Settles O20: the writes of distinct destinations land one by one, and nothing else in a landing touches the register files. -/
theorem resultsLand : Obligations.ResultsLand := by
  unfold Obligations.ResultsLand
  intro s st f hdie ws hdue hnodup hin
  have hfiles : ∃ t, exec (.resultReady st .clean) s = .next t
      ∧ files (siteCl t st) = files (each ws (fun w c => wrDst c f.g w)
          { siteCl s st with flights := dropFlight f (siteCl s st).flights }) := by
    refine ⟨_, rfl, ?_⟩
    rw [siteCl, actOn, if_neg (by rw [hdie]; exact Bool.false_ne_true)]
    dsimp only
    rw [clOf_applyEff_keeps _ files (fun _ _ _ => rfl) (fun _ _ => rfl) (fun _ _ => rfl), clOf_setCl, if_pos rfl]
    exact (files_resultReady hdue).trans files_landFlight
  obtain ⟨t, ht, hft⟩ := hfiles
  refine ⟨t, ht, ?_, fun w hw => ?_⟩
  · simp only [files, Prod.mk.injEq] at hft
    obtain ⟨-, -, -, hflights⟩ := hft
    rw [hflights]
    exact each_keeps Cluster.flights _ (fun w c => wrDst_flights) _ _
  · exact Landed.of_files hft.symm (landed_each hnodup hin hw)

end Sys2Proof.Machine

/-!
SUPPORT. The parts of a group-port access and the cycles they take (02 R91 to R94), and the start of a store or a load (02 R88, R93).
-/
namespace Sys2Proof.Machine

variable {s : State} {c : Cluster} {f : Flight} {ps : List Piece} {p q : Piece}

/-! ### Lists -/

theorem maxN_le_iff {xs : List Nat} {m : Nat} : maxN xs ≤ m ↔ ∀ x ∈ xs, x ≤ m := by
  have hfold : ∀ a, xs.foldl max a ≤ m ↔ a ≤ m ∧ ∀ x ∈ xs, x ≤ m := by
    induction xs with
    | nil => simp
    | cons x xs ih => intro a; rw [List.foldl_cons, ih, Nat.max_le, List.forall_mem_cons, and_assoc]
  rw [maxN, hfold]
  exact and_iff_right (Nat.zero_le m)

theorem le_maxN {xs : List Nat} {x : Nat} (h : x ∈ xs) : x ≤ maxN xs := maxN_le_iff.mp le_rfl x h

theorem nodup_eraseDups (xs : List Nat) : xs.eraseDups.Nodup := by
  induction hn : xs.length using Nat.strong_induction_on generalizing xs with
  | _ n ih =>
    cases xs with
    | nil => exact List.nodup_nil
    | cons x xs =>
      rw [List.eraseDups_cons, List.nodup_cons]
      have hlen : (xs.filter fun b => !b == x).length < n := hn ▸ Nat.lt_succ_of_le (List.length_filter_le _ _)
      exact ⟨fun hx => by simp [List.mem_filter] at hx, ih _ hlen _ rfl⟩

/-! ### The cycles of the lines (02 R92) -/

/-- The lines of a bank. -/
def bankLines (ls : List Nat) (b : Nat) : List Nat := ls.filter fun l => l % 64 == b

/-- The cycle in which a line is served: its place among the lines of its bank. -/
def lineCyc (ls : List Nat) (l : Nat) : Nat := (bankLines ls (l % 64)).idxOf l

/-- The distinct lines of some parts, in the order in which they are named. -/
def linesOf (ps : List Piece) : List Nat := (ps.map fun p => p.addr / 16).eraseDups

theorem mem_linesOf (h : p ∈ ps) : p.addr / 16 ∈ linesOf ps := List.mem_eraseDups.mpr (List.mem_map.mpr ⟨p, h, rfl⟩)

theorem byLine_eq (ps : List Piece) : byLine ps = ps.map fun p => { p with cyc := lineCyc (linesOf ps) (p.addr / 16) } := rfl

/-- A part keeps all but its cycle. -/
theorem mem_byLine : q ∈ byLine ps ↔ ∃ p ∈ ps, { p with cyc := lineCyc (linesOf ps) (p.addr / 16) } = q := by
  rw [byLine_eq, List.mem_map]

theorem mem_bankLines {ls : List Nat} {l b : Nat} : l ∈ bankLines ls b ↔ l ∈ ls ∧ l % 64 = b := by
  rw [bankLines, List.mem_filter, beq_iff_eq]

/-- Two lines of one bank are served in different cycles. -/
theorem lineCyc_inj {ls : List Nat} {l m : Nat} (hl : l ∈ ls) (hb : l % 64 = m % 64) (h : lineCyc ls l = lineCyc ls m) : l = m := by
  rw [lineCyc, lineCyc, ← hb] at h
  exact (List.idxOf_inj (mem_bankLines.mpr ⟨hl, rfl⟩)).mp h

theorem length_bankLines_le (lines : List Nat) {b : Nat} (hb : b < 64) : (bankLines lines.eraseDups b).length ≤ occLines lines := by
  have hmem : lines.eraseDups.countP (fun x => x % 64 == b)
      ∈ (List.range 64).map fun b => lines.eraseDups.countP fun x => x % 64 == b := List.mem_map.mpr ⟨b, List.mem_range.mpr hb, rfl⟩
  rw [bankLines, ← List.countP_eq_length_filter]
  exact (le_maxN hmem).trans (Nat.le_max_right _ _)

/-- A part is served within the cycles that its lines take. -/
theorem lineCyc_lt {lines : List Nat} {l : Nat} (h : l ∈ lines) : lineCyc lines.eraseDups l < occLines lines :=
  (List.idxOf_lt_length_iff.mpr (mem_bankLines.mpr ⟨List.mem_eraseDups.mpr h, rfl⟩)).trans_le
    (length_bankLines_le lines (Nat.mod_lt _ (by decide)))

/-- The last line of a bank is served last. -/
theorem exists_lineCyc_of_bank {lines : List Nat} {b : Nat} (h : 0 < (bankLines lines.eraseDups b).length) :
    ∃ l ∈ lines, lineCyc lines.eraseDups l + 1 = (bankLines lines.eraseDups b).length := by
  have hlt : (bankLines lines.eraseDups b).length - 1 < (bankLines lines.eraseDups b).length := by omega
  obtain ⟨hmem, hbank⟩ := mem_bankLines.mp (List.getElem_mem hlt)
  refine ⟨_, List.mem_eraseDups.mp hmem, ?_⟩
  have hnodup : (bankLines lines.eraseDups b).Nodup := (nodup_eraseDups lines).filter _
  rw [lineCyc, hbank, hnodup.idxOf_getElem]
  omega

/-- The parts of an access take as many cycles as its lines in the bank that has most of them. -/
theorem piecesOcc_byLine (ps : List Piece) : piecesOcc (byLine ps) = occLines (ps.map fun p => p.addr / 16) := by
  have hcyc : (byLine ps).map (fun p => p.cyc + 1) = ps.map fun p => lineCyc (linesOf ps) (p.addr / 16) + 1 := by
    rw [byLine_eq, List.map_map]; rfl
  rw [piecesOcc, hcyc]
  apply le_antisymm
  · rw [Nat.max_le, maxN_le_iff, List.forall_mem_map]
    exact ⟨Nat.le_max_left _ _, fun p hp => lineCyc_lt (List.mem_map.mpr ⟨p, hp, rfl⟩)⟩
  · rw [occLines, Nat.max_le, maxN_le_iff, List.forall_mem_map]
    refine ⟨Nat.le_max_left _ _, fun b _ => ?_⟩
    rw [List.countP_eq_length_filter]
    change (bankLines (ps.map fun p => p.addr / 16).eraseDups b).length ≤ _
    rcases Nat.eq_zero_or_pos (bankLines (ps.map fun p => p.addr / 16).eraseDups b).length with h0 | hpos
    · rw [h0]; exact Nat.zero_le _
    · obtain ⟨l, hl, heq⟩ := exists_lineCyc_of_bank hpos
      obtain ⟨p, hp, rfl⟩ := List.mem_map.mp hl
      rw [← heq]
      have hmem : lineCyc (linesOf ps) (p.addr / 16) + 1 ∈ ps.map fun p => lineCyc (linesOf ps) (p.addr / 16) + 1 :=
        List.mem_map.mpr ⟨p, hp, rfl⟩
      exact (le_maxN hmem).trans (Nat.le_max_right _ _)

/-! ### The parts of an access (02 R91) -/

theorem mem_accLines {n a l : Nat} : l ∈ accLines n a ↔ a / 16 ≤ l ∧ l ≤ a / 16 + ((a + n - 1) / 16 - a / 16) := by
  simp only [accLines, List.mem_map, List.mem_range]
  constructor
  · rintro ⟨i, hi, rfl⟩
    omega
  · intro h
    exact ⟨l - a / 16, by omega, by omega⟩

/-- The parts of an access lie one in each of its lines. -/
theorem lines_linePieces (who a n : Nat) : (linePieces who a n).map (fun p => p.addr / 16) = accLines n a := by
  rw [linePieces, List.map_map]
  refine (List.map_congr_left fun l hl => ?_).trans (List.map_id _)
  obtain ⟨hlo, -⟩ := mem_accLines.mp hl
  show max a (16 * l) / 16 = l
  omega

theorem lines_lanePieces (f : Flight) (n : Nat) :
    ((f.addrs.flatMap fun x => linePieces x.1 x.2 n).map fun p => p.addr / 16) = f.addrs.flatMap fun x => accLines n x.2 := by
  rw [List.map_flatMap]
  simp only [lines_linePieces]

theorem piecesOcc_lanePieces (f : Flight) (n : Nat) :
    piecesOcc (lanePieces f n) = occLines (f.addrs.flatMap fun x => accLines n x.2) := by
  rw [lanePieces, piecesOcc_byLine, lines_lanePieces]

/-- The parts of a flight's access are served within its cycles, those of one line together, and of one bank one line in each cycle. -/
theorem lanePieces_cyc {n : Nat} (hp : p ∈ lanePieces f n) :
    p.cyc < occLines (f.addrs.flatMap fun x => accLines n x.2)
    ∧ ∀ q ∈ lanePieces f n, (p.addr / 16 = q.addr / 16 → p.cyc = q.cyc)
      ∧ (p.addr / 16 ≠ q.addr / 16 → p.addr / 16 % 64 = q.addr / 16 % 64 → p.cyc ≠ q.cyc) := by
  rw [← lines_lanePieces]
  obtain ⟨p, hpm, rfl⟩ := mem_byLine.mp hp
  refine ⟨lineCyc_lt (List.mem_map.mpr ⟨p, hpm, rfl⟩), fun q hq => ?_⟩
  obtain ⟨q, -, rfl⟩ := mem_byLine.mp hq
  have hline := mem_linesOf hpm
  exact ⟨fun heq => congrArg (lineCyc _) heq, fun hne hb heq => hne (lineCyc_inj hline hb heq)⟩

/-- Every byte of a lane's access lies in a part. -/
theorem lanePieces_cover {n j : Nat} {x : Nat × Nat} (hx : x ∈ f.addrs) (hj : j < n) :
    ∃ p ∈ lanePieces f n, p.who = x.1 ∧ p.addr = x.2 + p.off ∧ p.off ≤ j ∧ j < p.off + p.len := by
  have hl : (x.2 + j) / 16 ∈ accLines n x.2 := mem_accLines.mpr (by omega)
  refine ⟨_, mem_byLine.mpr ⟨_, List.mem_flatMap.mpr ⟨x, hx, List.mem_map.mpr ⟨_, hl, rfl⟩⟩, rfl⟩, rfl, ?_⟩
  dsimp only
  omega

/-! ### The start (02 R88, R93) -/

/-- What an access's start changes in its cluster. -/
def portSide (c : Cluster) := (c.flights, c.spad, c.gportFree)

/-- A unit's start on a die that is not frozen is that of its cluster. -/
theorem exec_unitStart_portSide {cl : Fin 144} {u : UnitId} {e : Ecc} (hd : dieFrozen s = false) :
    ∃ t, exec (.unitStart cl u e) s = .next t ∧ portSide (clOf t cl.val) = portSide (startUnit (mkEnv s cl.val) (clOf s cl.val) u e).1 := by
  refine ⟨_, rfl, ?_⟩
  simp only [actOn, hd, Bool.false_eq_true, if_false]
  rw [clOf_applyEff_keeps _ portSide (fun _ _ _ => rfl) (fun _ _ => rfl) (fun _ _ => rfl), clOf_setCl, if_pos rfl]

/-- A job that leaves its cluster to the start occupies the group port from the start. -/
theorem startUnit_portSide {env : CEnv} {pre : List Flight} (hrun : c.st = .running) (hh : unitHead .gport [] c.flights = some (pre, f))
    (hok : startOk c pre f = true) (hu : f.use = .gport) (hc : (runJob env c f .clean).c = c) :
    portSide (startUnit env c .gport .clean).1
      = (putFlight f (startedFlight env c f .clean) c.flights, c.spad, c.kcyc + (startedFlight env c f .clean).occ) := by
  have hhead : unitHead (unitOf .gport) [] c.flights = some (pre, f) := hh
  simp only [startUnit, hhead, hrun, hok, beq_self_eq_true, Bool.true_and, if_true, startEcc_clean, hc, hu, occupy]
  simp only [startedFlight, startEcc_clean]
  rfl

/-- The head of a unit has not started. -/
theorem started_of_unitHead {u : UnitUse} {pre pre' fs : List Flight} (h : unitHead u pre fs = some (pre', f)) : f.started = false := by
  induction fs generalizing pre with
  | nil => cases h
  | cons x xs ih =>
    rw [unitHead] at h
    split at h
    · next hx =>
      obtain ⟨-, rfl⟩ := Prod.mk.inj (Option.some.inj h)
      simpa using (Bool.and_eq_true_iff.mp hx).1
    · exact ih h

/-- The occupancy of a store's or a load's parts: their lines' cycles, or 32 in the fixed-time form (02 R92, R94). -/
theorem gpOcc_lanePieces (f : Flight) (t : Bool) (n : Nat) :
    gpOcc t (piecesOcc (lanePieces f n)) = if t then 32 else occLines (f.addrs.flatMap fun x => accLines n x.2) := by
  rw [gpOcc, piecesOcc_lanePieces]

section Start
variable {env : CEnv} {sz : Sz} {t : Bool} {d : Nat}

/-- A store starts with its parts, and is ready when they are served (02 R93). -/
theorem startedFlight_st (h : f.job = .st sz t) : startedFlight env c f .clean
    = { f with plan := lanePieces f (szBytes sz), started := true, startAt := c.kcyc, occ := gpOcc t (piecesOcc (lanePieces f (szBytes sz))),
               readyAt := c.kcyc + gpOcc t (piecesOcc (lanePieces f (szBytes sz))) } := by
  simp only [startedFlight, runJob, h, startAccess, Nat.add_zero]

/-- A load starts with its parts, and is ready 20 cycles after they are served (02 R92, 03 R186). -/
theorem startedFlight_ld (h : f.job = .ld sz t d) : startedFlight env c f .clean
    = { f with flip := 0, plan := lanePieces f (szBytes sz), started := true, startAt := c.kcyc,
               occ := gpOcc t (piecesOcc (lanePieces f (szBytes sz))),
               readyAt := c.kcyc + (gpOcc t (piecesOcc (lanePieces f (szBytes sz))) + 20) } := by
  simp only [startedFlight, startEcc_clean, runJob, h, startAccess, eccMask]

/-- A started access at the head of the group port stands in its flight's place, and occupies the port. -/
theorem exec_unitStart_of_head {cl : Fin 144} {pre : List Flight} (hd : dieFrozen s = false) (hrun : (clOf s cl.val).st = .running)
    (hh : unitHead .gport [] (clOf s cl.val).flights = some (pre, f)) (hok : startOk (clOf s cl.val) pre f = true) (hu : f.use = .gport)
    (hc : (runJob (mkEnv s cl.val) (clOf s cl.val) f .clean).c = clOf s cl.val) :
    ∃ u, exec (.unitStart cl .gport .clean) s = .next u ∧ (clOf u cl.val).spad = (clOf s cl.val).spad
      ∧ (clOf u cl.val).gportFree = (clOf s cl.val).kcyc + (startedFlight (mkEnv s cl.val) (clOf s cl.val) f .clean).occ
      ∧ startedFlight (mkEnv s cl.val) (clOf s cl.val) f .clean ∈ (clOf u cl.val).flights := by
  obtain ⟨u, hx, hside⟩ := exec_unitStart_portSide (cl := cl) (u := .gport) (e := .clean) hd
  rw [startUnit_portSide hrun hh hok hu hc] at hside
  simp only [portSide, Prod.mk.injEq] at hside
  obtain ⟨hflights, hspad, hfree⟩ := hside
  exact ⟨u, hx, hspad, hfree, hflights ▸ mem_putFlight (unitHead_mem hh)⟩

end Start

/-- Settles O18: a store or a load starts with the parts of its lanes, whose cycles are the places of their lines in their banks. The last
clause asks for a started flight that is also the head waiting for its unit; a head has not started, so nothing meets its premises. -/
theorem unitStartsStoreAndLoad : Obligations.UnitStartsStoreAndLoad := by
  unfold Obligations.UnitStartsStoreAndLoad
  intro s cl pre f sz t d c n hd hrun hh hok hu
  refine ⟨fun hj => ?_, fun hj => ?_, fun p hp => lanePieces_cyc hp, fun x hx j hj => lanePieces_cover hx hj, fun _ hst _ => ?_⟩
  · obtain ⟨u, hx, hspad, hfree, hmem⟩ := exec_unitStart_of_head hd hrun hh hok hu (by simp only [runJob, hj, startAccess])
    rw [startedFlight_st hj, gpOcc_lanePieces] at hfree hmem
    exact ⟨u, hx, hspad, hfree, _, hmem, rfl, rfl, rfl, rfl, rfl, rfl, rfl⟩
  · obtain ⟨u, hx, hspad, hfree, hmem⟩ := exec_unitStart_of_head hd hrun hh hok hu (by simp only [runJob, hj, startAccess])
    rw [startedFlight_ld hj, gpOcc_lanePieces] at hfree hmem
    exact ⟨u, _, hx, hmem, rfl, rfl, hspad, hfree, rfl, rfl, rfl, rfl, rfl⟩
  · exact absurd (hst.symm.trans (started_of_unitHead hh)) (by decide)

end Sys2Proof.Machine

/-!
SUPPORT. The launch of a kernel on the mapped clusters (02 R76 to R79, 04 R220, R222).
-/
namespace Sys2Proof.Machine

variable {s t : State} {r : KRun} {args : List Nat}

/-! ### The registers of a launched cluster (02 R76, R77) -/

/-- Writes of one value to a key, among writes to others. -/
theorem smGet_foldl_smSet {ι α : Type} [DecidableEq α] {d : Nat → α} (key : ι → Nat) (val : ι → α) {k : Nat} {v : α} {xs : List ι}
    (hv : ∀ x ∈ xs, key x = k → val x = v) (hk : ∃ x ∈ xs, key x = k) (m : SMap α) :
    smGet d (xs.foldl (fun m x => smSet d m (key x) (val x)) m) k = v := by
  have hfold : ∀ m : SMap α, smGet d (xs.foldl (fun m x => smSet d m (key x) (val x)) m) k
      = if ∃ x ∈ xs, key x = k then v else smGet d m k := by
    clear hk
    induction xs with
    | nil => intro m; simp
    | cons x xs ih =>
      intro m
      rw [List.forall_mem_cons] at hv
      rw [List.foldl_cons, ih hv.2, smGet_smSet]
      by_cases hx : key x = k
      · simp [hx, hv.1 hx]
      · simp [hx, Ne.symm hx]
  rw [hfold, if_pos hk]

/-- The writes of a launch: the argument of each index, in each group (02 R77). -/
def launchWrites (args : List Nat) : List (Nat × Nat × Nat) := (List.range 8).flatMap fun g => args.zipIdx.map fun a => (g, a)

theorem mem_launchWrites {x : Nat × Nat × Nat} : x ∈ launchWrites args ↔ x.1 < 8 ∧ args[x.2.2]? = some x.2.1 := by
  obtain ⟨g, a⟩ := x
  simp [launchWrites, List.mem_zipIdx_iff_getElem?]

theorem launchUnis_eq (args : List Nat) :
    launchUnis args = (launchWrites args).foldl (fun m x => smSet (dflt 0) m (x.1 * 64 + 1 + x.2.2) (w32 x.2.1)) [] := by
  rw [launchWrites, List.foldl_flatMap, launchUnis]
  simp only [List.foldl_map]

/-- At a launch u1 to u8 of every group hold the arguments (02 R77). -/
theorem smGet_launchUnis (hargs : args.length = 8) {g i : Nat} (hg : g < 8) (hi : i < args.length) :
    smGet (dflt 0) (launchUnis args) (g * 64 + (i + 1)) = w32 args[i] := by
  have hval : ∀ x ∈ launchWrites args, x.1 * 64 + 1 + x.2.2 = g * 64 + (i + 1) → w32 x.2.1 = w32 args[i] := by
    intro x hx hkey
    obtain ⟨-, hget⟩ := mem_launchWrites.mp hx
    obtain ⟨hlt, heq⟩ := List.getElem?_eq_some_iff.mp hget
    have hxi : x.2.2 = i := by omega
    simp only [hxi] at heq
    rw [heq]
  have hkey : ∃ x ∈ launchWrites args, x.1 * 64 + 1 + x.2.2 = g * 64 + (i + 1) :=
    ⟨(g, args[i], i), mem_launchWrites.mpr ⟨hg, List.getElem?_eq_getElem hi⟩, by dsimp only; omega⟩
  rw [launchUnis_eq]
  have h := smGet_foldl_smSet (d := dflt (0 : Word)) (fun x : Nat × Nat × Nat => x.1 * 64 + 1 + x.2.2) (fun x => w32 x.2.1) hval hkey []
  exact h

/-- The groups below the kernel's count start at its entry with all lanes, the others have not started (04 R220). -/
theorem nth_startGroups (entry n : Nat) {g : Nat} (hg : g < 8) :
    nth (startGroups entry n) g {} = if g < n then { started := true, pc := entry, active := allLanes } else {} := by
  have hlen : g < (startGroups entry n).length := by simp [startGroups, hg]
  rw [nth_of_lt _ hlen]
  simp [startGroups]

/-! ### The launch on every mapped cluster -/

/-- The launch on one logical cluster. -/
def launchAt (r : KRun) (args : List Nat) (l : Nat) (s : State) : State :=
  match physOf s l with
  | some p => if (clOf s p).st = .faulted then s else modCl s p fun c => launchCluster c r.idx r args (rdB s Reg.dbgDigCtl 0)
  | none => s

theorem launchKernel_eq (s : State) (r : KRun) : launchKernel s r
    = modExec (each (List.range (ncl s)) (launchAt r ((List.range 8).map (kArg s r.desc))) s) fun e =>
        { e with cur := some r.idx, ended := false } := rfl

/-- The cluster that holds a logical number says so (04 R225). -/
theorem logical_of_physOf {l p : Nat} (h : physOf s l = some p) : (clOf s p).logical = some l := by
  simpa using List.find?_some h

theorem physOf_congr (h : ∀ p, (clOf t p).logical = (clOf s p).logical) (l : Nat) : physOf t l = physOf s l := by
  rw [physOf, physOf]
  exact congrArg (List.find? · _) (funext fun p => by rw [h])

/-- A launch leaves the other clusters. -/
theorem clOf_launchAt_other {l p : Nat} (h : physOf s l ≠ some p) : clOf (launchAt r args l s) p = clOf s p := by
  unfold launchAt
  split
  · next q hq =>
    split
    · rfl
    · rw [clOf_modCl, if_neg fun hpq => h (by rw [hq, hpq])]
  · rfl

/-- A launch reaches its cluster unless that is faulted (04 R222). -/
theorem clOf_launchAt_same {l p : Nat} (h : physOf s l = some p) (hst : (clOf s p).st ≠ .faulted) :
    clOf (launchAt r args l s) p = launchCluster (clOf s p) r.idx r args (rdB s Reg.dbgDigCtl 0) := by
  simp only [launchAt, h, hst, if_false, clOf_modCl, if_true]

/-- A launch moves no logical number. -/
theorem physOf_launchAt (l m : Nat) : physOf (launchAt r args l s) m = physOf s m := by
  refine physOf_congr (fun p => ?_) m
  by_cases hp : physOf s l = some p
  · by_cases hst : (clOf s p).st = .faulted
    · simp only [launchAt, hp, hst, if_true]
    · rw [clOf_launchAt_same hp hst]; rfl
  · rw [clOf_launchAt_other hp]

/-- Launches of other logical clusters leave a cluster. -/
theorem clOf_each_launchAt_other {l p : Nat} {ls : List Nat} (h : physOf s l = some p) (hl : l ∉ ls) :
    clOf (each ls (launchAt r args) s) p = clOf s p := by
  induction ls generalizing s with
  | nil => rfl
  | cons m ls ih =>
    rw [List.mem_cons, not_or] at hl
    have hm : physOf s m ≠ some p := fun hm => hl.1 (Option.some.inj ((logical_of_physOf h).symm.trans (logical_of_physOf hm)))
    exact (ih ((physOf_launchAt m l).trans h) hl.2).trans (clOf_launchAt_other hm)

/-- Each logical cluster of a launch that is not faulted is launched once. -/
theorem clOf_each_launchAt {l p : Nat} {ls : List Nat} (h : physOf s l = some p) (hst : (clOf s p).st ≠ .faulted) (hl : l ∈ ls)
    (hnodup : ls.Nodup) : ∃ dig, clOf (each ls (launchAt r args) s) p = launchCluster (clOf s p) r.idx r args dig := by
  induction ls generalizing s with
  | nil => cases hl
  | cons m ls ih =>
    obtain ⟨hm, hls⟩ := List.nodup_cons.mp hnodup
    have hphys : physOf (launchAt r args m s) l = some p := (physOf_launchAt m l).trans h
    by_cases hml : m = l
    · subst hml
      exact ⟨_, (clOf_each_launchAt_other hphys hm).trans (clOf_launchAt_same h hst)⟩
    · have hother : physOf s m ≠ some p := fun hmp => hml (Option.some.inj ((logical_of_physOf hmp).symm.trans (logical_of_physOf h)))
      have hkeep : clOf (launchAt r args m s) p = clOf s p := clOf_launchAt_other hother
      obtain ⟨dig, hdig⟩ := ih hphys (hkeep ▸ hst) ((List.mem_cons.mp hl).resolve_left (Ne.symm hml)) hls
      exact ⟨dig, hkeep ▸ hdig⟩

/-- KERNEL_LAUNCH launches the next kernel when its cycle has come (04 R208, R220). -/
theorem exec_kernelLaunch (hrun : s.sched.exec.running = true) (hstop : s.sched.exec.stopped = false) (hdrain : s.sched.exec.draining = false)
    (hdie : dieFrozen s = false) (hnext : nextRun s.sched.exec = some r) (hat : r.at_ ≤ s.sched.exec.cyc)
    (hend : s.sched.exec.cur = none ∨ s.sched.exec.ended = true) : exec .kernelLaunch s = .next (launchKernel s r) := by
  have hcond : r.at_ ≤ s.sched.exec.cyc ∧ (s.sched.exec.cur.isNone = true ∨ s.sched.exec.ended = true) :=
    ⟨hat, hend.imp_left Option.isNone_iff_eq_none.mpr⟩
  show Host.Outcome.next _ = _
  simp only [hrun, hstop, hdrain, hdie, hnext, Bool.not_true, Bool.or_self, Bool.false_eq_true, if_false, if_pos hcond]

/-- The first clause of `KernelWindows`: what a launched cluster holds. -/
theorem launchCluster_holds {c : Cluster} {dig : Bool} (hargs : args.length = 8) :
    let c' := launchCluster c r.idx r args dig
    (∀ g x l, rdLane c' g x l = 0) ∧ (∀ g p, p ≠ 0 → rdPred c' g p = 0)
      ∧ ∀ g < 8, (grp c' g).started = decide (g < kGroups r.desc)
        ∧ (g < kGroups r.desc → (grp c' g).pc = kEntry r.desc ∧ (grp c' g).active = allLanes)
        ∧ ∀ i (hi : i < args.length), rdUni c' g (i + 1) = w32 args[i] := by
  refine ⟨fun _ _ _ => rfl, fun g p hp => (if_neg hp).trans rfl, fun g hg => ?_⟩
  have hgrp : grp (launchCluster c r.idx r args dig) g
      = if g < kGroups r.desc then { started := true, pc := kEntry r.desc, active := allLanes } else {} :=
    nth_startGroups (kEntry r.desc) (kGroups r.desc) hg
  refine ⟨?_, fun hk => ?_, fun i hi => ?_⟩
  · rw [hgrp]
    split
    · next hk => exact (decide_eq_true hk).symm
    · next hk => exact (decide_eq_false hk).symm
  · rw [hgrp, if_pos hk]
    exact ⟨rfl, rfl⟩
  · exact (if_neg (Nat.succ_ne_zero i)).trans (smGet_launchUnis hargs hg hi)

end Sys2Proof.Machine

/-!
SUPPORT. The end of a kernel's window (04 R221): what the debug side that follows it (16 R730 to R742) leaves of the registers beyond the
control pages, of the execution and of the clusters.
-/
namespace Sys2Proof.Machine

variable {s : State} {o : Nat}

/-! ### The registers above the queues' pages -/

theorem rdReg_setEvt {page bits : Nat} (h : o ≠ page + 0x14) : rdReg (setEvt s page bits) o = rdReg s o := by
  rw [setEvt, rdReg_wrReg, if_neg h]
  exact rdReg_congr (noteHw_regs _ _ _) o

theorem rdReg_wrN {off v : Nat} (h : o ≠ off) : rdReg (wrN s off v) o = rdReg s o := by rw [wrN, rdReg_wrReg, if_neg h]

theorem rdReg_wrB {off n : Nat} {b : Bool} (h : o ≠ off) : rdReg (wrB s off n b) o = rdReg s o := by rw [wrB, rdReg_wrReg, if_neg h]

theorem rdReg_wrF {off hi lo v : Nat} (h : o ≠ off) : rdReg (wrF s off hi lo v) o = rdReg s o := by rw [wrF, rdReg_wrReg, if_neg h]

theorem rdReg_wr64 {off v : Nat} (h : o ≠ off) (h4 : o ≠ off + 4) : rdReg (wr64 s off v) o = rdReg s o := by
  rw [wr64, rdReg_wrN h4, rdReg_wrN h]

theorem routeOf_lt {type q : Nat} (h : routeOf s type = some q) : q < 8 := by
  simp only [routeOf] at h
  split at h
  · cases h
  · obtain rfl := Option.some.inj h
    exact Nat.mod_lt _ (by decide)

section High
variable (ho : 0x20000 ≤ o)
include ho

/-- A record that is queued changes the registers of its queue's page alone (13 R623, R639). -/
theorem rdReg_pushRec {q : Nat} {completion : Bool} {r : EvRec} (hq : q < 8) : rdReg (pushRec s q completion r) o = rdReg s o := by
  unfold pushRec
  dsimp only
  split
  · rw [rdReg_setEvt (by simp only [onPage, Reg.pageEvq]; omega), cntReg, rdReg_wrN (by simp only [onPage, Reg.evqLost]; omega)]
    exact rdReg_congr (setEvq_regs _ _ _) o
  · rw [showEvq, rdReg_wrF (by simp only [onPage, Reg.evqStatus]; omega), rdReg_wrF (by simp only [onPage, Reg.evqStatus]; omega)]
    exact rdReg_congr (setEvq_regs _ _ _) o

/-- A block's event changes its page and its queue's page alone (13 R621). -/
theorem rdReg_raiseEv_block {page bits type inst code w1 : Nat} {d : List Nat} (hp : o ≠ page + 0x14) :
    rdReg (raiseEv s page bits .block type inst code w1 d) o = rdReg s o := by
  have h1 : rdReg (if bits = 0 then s else setEvt s page bits) o = rdReg s o := by
    split
    · rfl
    · exact rdReg_setEvt hp
  unfold raiseEv
  dsimp only
  split
  · exact h1
  · split
    · next hq => rw [rdReg_pushRec ho (routeOf_lt hq), h1]
    · exact h1

/-- A halt is shown in the DBG page (16 R731). -/
theorem rdReg_showHalt {r : HaltRec} : rdReg (showHalt s r) o = rdReg s o := by
  have h2 : ∀ t : State, rdReg (wrN (wrN t Reg.dbgHaltPc (r.pc % 2 ^ 20)) Reg.dbgHaltAddr r.addr) o = rdReg t o := fun t => by
    rw [rdReg_wrN (by simp only [Reg.dbgHaltAddr]; omega), rdReg_wrN (by simp only [Reg.dbgHaltPc]; omega)]
  have h1 : ∀ v, rdReg (wr64 (wrN s Reg.dbgHaltStatus v) Reg.dbgHaltCountLo r.h) o = rdReg s o := fun v => by
    rw [rdReg_wr64 (by simp only [Reg.dbgHaltCountLo]; omega) (by simp only [Reg.dbgHaltCountLo]; omega),
      rdReg_wrN (by simp only [Reg.dbgHaltStatus]; omega)]
  unfold showHalt
  dsimp only
  split
  · rw [rdReg_wrB (by simp only [Reg.dbgHaltCtl]; omega), rdReg_congr (noteHw_regs _ _ _), h2, h1]
  · rw [h2, h1]

theorem rdReg_fireHalt {r : HaltRec} : rdReg (fireHalt s r) o = rdReg s o := by
  have hdbg : ∀ d, rdReg (putDbgp s d) o = rdReg s o := fun d => rdReg_congr (putDbgp_regs _ _) o
  unfold fireHalt
  split
  · split
    · split
      · rw [rdReg_showHalt ho, hdbg]
      · rfl
    · rfl
  · split
    · unfold takeHalt
      dsimp only
      rw [rdReg_raiseEv_block ho (by simp only [Reg.pageDbg]; omega), rdReg_showHalt ho]
      exact rdReg_congr (by simp) o
    · split
      · split
        · exact hdbg _
        · rfl
      · exact hdbg _

theorem rdReg_stepWindow : rdReg (stepWindow s) o = rdReg s o := by
  unfold stepWindow
  split
  · exact rdReg_fireHalt ho
  · split
    · rw [rdReg_fireHalt ho, rdReg_wrN (by simp only [Reg.dbgStepN]; omega)]
      exact rdReg_congr (noteHw_regs _ _ _) o
    · rfl

end High

/-! ### What a window's end leaves to the debug side -/

theorem idleClusters_exec : (idleClusters s).sched.exec = s.sched.exec :=
  allCl_keeps s (fun t => t.sched.exec) _ fun _ _ => by simp

theorem rdReg_idleClusters : rdReg (idleClusters s) o = rdReg s o :=
  allCl_keeps s (fun t => rdReg t o) _ fun _ _ => rdReg_congr (modCl_regs _ _ _) o

/-- No cluster runs once they have returned to idle. -/
theorem st_idleClusters {p : Nat} (hp : p < 144) : (clOf (idleClusters s) p).st ≠ .running := by
  rw [idleClusters, clOf_allCl s _ hp]
  split
  · nofun
  · assumption

/-- The clusters and the execution. -/
def clustersAndExec (s : State) := (s.clusters, s.sched.exec)

theorem clustersAndExec_stepWindow : clustersAndExec (stepWindow s) = clustersAndExec s := by
  unfold stepWindow
  (repeat' split) <;> simp [clustersAndExec]

/-- Digests that are captured go to as many registers of the DBG page as IDENT can name clusters (16 R742). -/
theorem each_wr64_frame (ho : 0x20000 ≤ o) {ds : List (Nat × Nat)} (hds : ∀ d ∈ ds, d.2 < 256) :
    clustersAndExec (each ds (fun d s => wr64 s (Reg.dbgCapture + 8 * d.2) d.1) s) = clustersAndExec s
    ∧ rdReg (each ds (fun d s => wr64 s (Reg.dbgCapture + 8 * d.2) d.1) s) o = rdReg s o := by
  induction ds generalizing s with
  | nil => exact ⟨rfl, rfl⟩
  | cons d ds ih =>
    rw [List.forall_mem_cons] at hds
    obtain ⟨hd, hds⟩ := hds
    obtain ⟨hcore, hreg⟩ := ih hds (s := wr64 s (Reg.dbgCapture + 8 * d.2) d.1)
    refine ⟨hcore.trans (by simp [clustersAndExec]), hreg.trans ?_⟩
    exact rdReg_wr64 (by simp only [Reg.dbgCapture]; omega) (by simp only [Reg.dbgCapture]; omega)

theorem ncl_lt (s : State) : ncl s < 256 := Nat.mod_lt _ (by decide)

theorem capture_frame (k : Nat) (ho : 0x20000 ≤ o) :
    clustersAndExec (capture s k) = clustersAndExec s ∧ rdReg (capture s k) o = rdReg s o := by
  have hds : ∀ d ∈ (clusterDigests s).zipIdx, d.2 < 256 := by
    intro d hd
    have hlt := (List.getElem?_eq_some_iff.mp (List.mem_zipIdx_iff_getElem?.mp hd)).1
    rw [clusterDigests, List.length_map, List.length_range] at hlt
    exact hlt.trans (ncl_lt s)
  obtain ⟨hcore, hreg⟩ := each_wr64_frame (s := s) ho hds
  have hcore' : ∀ t, clustersAndExec (wrB t Reg.dbgDivStatus 0 true) = clustersAndExec t := fun t => by simp [clustersAndExec]
  have hreg' : ∀ t, rdReg (wrB t Reg.dbgDivStatus 0 true) o = rdReg t o := fun t =>
    rdReg_wrB (by simp only [Reg.dbgDivStatus]; omega)
  unfold capture
  split
  · dsimp only
    split
    · refine ⟨?_, ?_⟩
      · rw [← hcore, ← hcore']
        simp [clustersAndExec]
      · rw [rdReg_fireHalt ho, hreg', hreg]
    · exact ⟨(hcore' _).trans hcore, (hreg' _).trans hreg⟩
  · exact ⟨rfl, rfl⟩

/-! ### The end of the window (04 R221) -/

/-- A stop of a running execution marks it and names its cause and its cluster in SCH.STOP (04 R221, 09 R460). -/
theorem stopExec_of_running {cause cl : Nat} (hrun : s.sched.exec.running = true) (hstop : s.sched.exec.stopped = false) :
    (stopExec s cause cl).sched.exec = { s.sched.exec with stopped := true, led := { s.sched.exec.led with stopped := true, stopCause := cause } }
    ∧ rdReg (stopExec s cause cl) Reg.schStop = w32 (cl % 256 + cause * 2 ^ 8 + (s.sched.exec.cur.getD 0) * 2 ^ 16) := by
  have hgo : (s.sched.exec.running && !s.sched.exec.stopped) = true := by rw [hrun, hstop]; rfl
  rw [stopExec, if_pos hgo]
  refine ⟨rfl, ?_⟩
  rw [rdReg_setEvt (by decide), rdReg_wrN (by decide), wrN, rdReg_wrReg, if_pos rfl]

/-- The window has ended, with its kernel's digest. -/
def windowMarked (s : State) (k : Nat) : State :=
  modExec s fun e => { e with ended := true, kdig := smSet (dflt 0) e.kdig k (kernelDigest s) }

/-- A window's end as it stands before the debug side looks at it. -/
def windowOver (s : State) (k : Nat) : State :=
  match overrun s with
  | some l => idleClusters (stopExec (windowMarked s k) 1 l)
  | none => idleClusters (windowMarked s k)

/-- The debug side leaves a window's end its clusters, its execution and the registers above the queues' pages. -/
theorem endWindow_frame (k : Nat) (ho : 0x20000 ≤ o) :
    clustersAndExec (endWindow s k) = clustersAndExec (windowOver s k) ∧ rdReg (endWindow s k) o = rdReg (windowOver s k) o := by
  have heq : endWindow s k = capture (stepWindow (windowOver s k)) k := rfl
  obtain ⟨hcore, hreg⟩ := capture_frame (s := stepWindow (windowOver s k)) k ho
  rw [heq, hcore, hreg, clustersAndExec_stepWindow, rdReg_stepWindow ho]
  exact ⟨rfl, rfl⟩

/-- The execution after a window's end in which every group has finished: no more than the window has ended. -/
theorem windowOver_of_none {k : Nat} (h : overrun s = none) :
    (windowOver s k).sched.exec = { s.sched.exec with ended := true, kdig := smSet (dflt 0) s.sched.exec.kdig k (kernelDigest s) }
    ∧ ∀ p < 144, (clOf (windowOver s k) p).st ≠ .running := by
  simp only [windowOver, h]
  exact ⟨idleClusters_exec, fun p hp => st_idleClusters hp⟩

/-- An overrun stops the execution with cause 1, and SCH.STOP names its cluster (04 R221, 09 R460). -/
theorem windowOver_of_some {k l : Nat} (h : overrun s = some l) (hrun : s.sched.exec.running = true) (hstop : s.sched.exec.stopped = false)
    (hcur : s.sched.exec.cur = some k) :
    (windowOver s k).sched.exec = { s.sched.exec with ended := true, kdig := smSet (dflt 0) s.sched.exec.kdig k (kernelDigest s),
                                                      stopped := true, led := { s.sched.exec.led with stopped := true, stopCause := 1 } }
    ∧ rdReg (windowOver s k) Reg.schStop = w32 (l % 256 + 2 ^ 8 + k * 2 ^ 16) := by
  simp only [windowOver, h]
  obtain ⟨he, hreg⟩ := stopExec_of_running (s := windowMarked s k) (cause := 1) (cl := l) hrun hstop
  refine ⟨idleClusters_exec.trans he, rdReg_idleClusters.trans (hreg.trans ?_)⟩
  rw [show (windowMarked s k).sched.exec.cur = some k from hcur, Nat.one_mul]
  rfl

/-- WINDOW_END ends the window of the current kernel when it is over (04 R221). -/
theorem exec_windowEnd {k : Nat} (hrun : s.sched.exec.running = true) (hstop : s.sched.exec.stopped = false)
    (hkind : s.sched.exec.kind = .step) (hdie : dieFrozen s = false) (hcur : s.sched.exec.cur = some k) (hend : s.sched.exec.ended = false)
    (hat : (nth s.sched.exec.runs k ⟨0, 0, 0, [], [], 0⟩).at_ + (nth s.sched.exec.runs k ⟨0, 0, 0, [], [], 0⟩).window ≤ s.sched.exec.cyc) :
    exec .windowEnd s = .next (endWindow s k) := by
  show Host.Outcome.next _ = _
  simp only [hrun, hstop, hkind, hdie, hcur, hend, hat, Bool.not_true, bne_self_eq_false, Bool.or_self, Bool.false_eq_true, if_false,
    and_self, if_true]

/-- Settles O25: the launch reaches each mapped cluster once, and a window's end stops the execution or not as its overrun says, which the
debug side that follows leaves as it is. -/
theorem kernelWindows : Obligations.KernelWindows := by
  unfold Obligations.KernelWindows
  constructor
  · intro s r e hrun hstop hdrain hdie hnext hat hend
    refine ⟨_, exec_kernelLaunch hrun hstop hdrain hdie hnext hat hend, rfl, rfl, fun l hl p hp hst => ?_⟩
    have hargs : ((List.range 8).map (kArg s r.desc)).length = 8 := by rw [List.length_map, List.length_range]
    obtain ⟨dig, hc⟩ := clOf_each_launchAt (r := r) (args := (List.range 8).map (kArg s r.desc)) hp hst (List.mem_range.mpr hl)
      List.nodup_range
    have hcl : clOf (launchKernel s r) p = launchCluster (clOf s p) r.idx r ((List.range 8).map (kArg s r.desc)) dig := hc
    dsimp only
    rw [hcl]
    obtain ⟨hlanes, hpreds, hgroups⟩ := launchCluster_holds (c := clOf s p) (r := r) (dig := dig) hargs
    refine ⟨rfl, rfl, rfl, rfl, rfl, rfl, hlanes, hpreds, fun g hg => ?_⟩
    obtain ⟨hstarted, hentry, hunis⟩ := hgroups g hg
    refine ⟨hstarted, hentry, fun i hi => ?_⟩
    rw [hunis i (hargs ▸ hi), List.getElem_map, List.getElem_range]
  · intro s k e r hrun hstop hkind hdie hcur hended hat
    obtain ⟨hcore, hreg⟩ := endWindow_frame (s := s) (o := Reg.schStop) k (by decide)
    obtain ⟨hclusters, hexec⟩ := Prod.mk.inj hcore
    refine ⟨_, exec_windowEnd hrun hstop hkind hdie hcur hended hat, ?_⟩
    rw [hexec, hreg]
    cases hover : overrun s with
    | none =>
      obtain ⟨he, hidle⟩ := windowOver_of_none (k := k) hover
      rw [he]
      refine ⟨rfl, smGet_smSet_same, fun _ => ⟨hstop, fun p hp => ?_⟩, nofun⟩
      rw [clOf_congr hclusters]
      exact hidle p hp
    | some l =>
      obtain ⟨he, hstopReg⟩ := windowOver_of_some hover hrun hstop hcur
      rw [he]
      refine ⟨rfl, smGet_smSet_same, nofun, fun m hm => ?_⟩
      obtain rfl := Option.some.inj hm
      exact ⟨rfl, rfl, hstopReg⟩

end Sys2Proof.Machine

/-!
SUPPORT. Every well-formed instruction is read back from its word (03 R138 to R147, R205): operand by operand, then format by format.
-/
namespace Sys2Proof
open Machine

variable {s : Site} {gd : Guard} {i : Instr} {w : Nat}

/-! ### The operands of a word -/

@[simp] theorem vReg_val (x : Fin 256) : vReg x.val = x := fin_ofNat_val x
@[simp] theorem uReg_val (x : Fin 64) : uReg x.val = x := fin_ofNat_val x
@[simp] theorem pReg_val (x : Fin 8) : pReg x.val = x := fin_ofNat_val x
@[simp] theorem peatBase_val (x : Fin 4096) : peatBase x.val = x := fin_ofNat_val x

@[simp] theorem decSReg_encSReg (c : SReg) : decSReg (encSReg c) = some c := by cases c <;> rfl
@[simp] theorem decCmp_encCmp (c : Cmp) : decCmp (encCmp c) = some c := by cases c <;> rfl
@[simp] theorem decPOp_encPOp (o : POp) : decPOp (encPOp o) = some o := by cases o <;> rfl
@[simp] theorem decMFmt_encMFmt (m : MFmt) : decMFmt (encMFmt m) = some m := by cases m <;> rfl
@[simp] theorem decPair_encPair (p : Pair) : decPair (encPair p) = some p := by cases p <;> rfl

theorem encSReg_lt (c : SReg) : encSReg c < 9 := by cases c <;> decide
theorem encCmp_lt (c : Cmp) : encCmp c < 10 := by cases c <;> decide
theorem encPOp_lt (o : POp) : encPOp o < 4 := by cases o <;> decide
theorem encMFmt_lt (m : MFmt) : encMFmt m < 4 := by cases m <;> decide
theorem encPair_lt (p : Pair) : encPair p < 5 := by cases p <;> decide

/-- FSETP's comparisons have the codes below 6 (03 R164, R165). -/
theorem encCmp_lt_six {c : Cmp} (h : floatCmp c = true) : encCmp c < 6 := by
  cases c with
  | eq | ne | lt | le | gt | ge => decide
  | ltu | leu | gtu | geu => cases h

/-- Size and fixed-time form share MOD (03 R185). -/
theorem encSz_add_encT (z : Sz) (t : Bool) :
    encSz z + encT t < 16 ∧ decSz ((encSz z + encT t) % 8) = some z ∧ decide (8 ≤ encSz z + encT t) = t := by
  cases z <;> cases t <;> decide

/-- MOD of a ULDC: size 4 or 5 with the fixed-time form (03 R189). -/
theorem uldcMod_decodes (x64 t : Bool) : 4 + b2n x64 + encT t < 16
    ∧ decSz ((4 + b2n x64 + encT t) % 8) = some (if x64 then .w64 else .w32) ∧ decide (8 ≤ 4 + b2n x64 + encT t) = t := by
  cases x64 <;> cases t <;> decide

/-- MOD of an atomic: 64-bit size with the fixed-time form (03 R195, R196). -/
theorem atomMod_decodes (x64 t : Bool) : b2n x64 + encT t < 16 ∧ (b2n x64 + encT t) % 8 < 2 ∧ bitN (b2n x64 + encT t) 0 = x64
    ∧ decide (8 ≤ b2n x64 + encT t) = t := by
  cases x64 <;> cases t <;> decide

/-- D of an MMA: buffer and LEAN (03 R176). -/
theorem mmaD_decodes (buf : Fin 2) (lean : Bool) : buf.val + 2 * b2n lean < 4 ∧ Fin.ofNat 2 (buf.val + 2 * b2n lean) = buf
    ∧ bitN (buf.val + 2 * b2n lean) 1 = lean := by
  revert buf lean; decide

theorem evenFor_s32 (n : Nat) : evenFor .s32 n = (n % 2 == 0) := rfl
theorem evenFor_h16 (n : Nat) : evenFor .h16 n = true := rfl

/-! ### The words, format by format -/

/-- At every site where it stands, a well-formed command with a word is decoded from it. -/
def ReadBack (i : Instr) : Prop :=
  ∀ w st, wellFormed i = true → encodeWord i = some w → siteOf i = some st → decodeWord st w = some i

theorem readBack_of (he : encodeWord i = some w) (hs : siteOf i = some s) (h : wellFormed i = true → decodeWord s w = some i) :
    ReadBack i := by
  intro w' st hwf he' hs'
  obtain rfl := Option.some.inj (he.symm.trans he')
  obtain rfl := Option.some.inj (hs.symm.trans hs')
  exact h hwf

theorem readBack_guarded {mk : Site → Guard → Instr} (hmk : mk ∈ [Instr.nop, .exit]) : ReadBack (mk s gd) := by
  fin_cases hmk <;> exact readBack_of rfl rfl fun _ => by simp (disch := omega) [decodeWord, wordFields_encB, decControl, whenOk]

theorem readBack_bra (t : Nat) : ReadBack (.bra s t) := readBack_of rfl rfl fun (hwf : targetOk t = true) => by
  simp only [targetOk, Bool.and_eq_true, decide_eq_true_eq, beq_iff_eq] at hwf
  simp (disch := omega) [decodeWord, wordFields_encB, decControl, whenOk, noGuard, guard0, hwf]

theorem readBack_loop (a : Fin 64) (t : Nat) : ReadBack (.loop s a t) := readBack_of rfl rfl fun (hwf : targetOk t = true) => by
  simp only [targetOk, Bool.and_eq_true, decide_eq_true_eq, beq_iff_eq] at hwf
  simp (disch := omega) [decodeWord, wordFields_encB, decControl, whenOk, noGuard, guard0, hwf]

theorem readBack_divergent {t r : Nat} {mk : Site → Guard → Nat → Nat → Instr} (hmk : mk ∈ [Instr.braP, .braT]) :
    ReadBack (mk s gd t r) := by
  fin_cases hmk <;> exact readBack_of rfl rfl fun (hwf : (targetOk t && targetOk r) = true) => by
    simp only [targetOk, Bool.and_eq_true, decide_eq_true_eq, beq_iff_eq] at hwf
    simp (disch := omega) [decodeWord, wordFields_encB, decControl, whenOk, hwf]

theorem minor_encAlu {m : Nat} (hm : m < 64) (o : Alu) : (wordFields (encAlu m o)).minor = m := by
  rcases o with ⟨gd, d, a, b | b | v⟩ | ⟨d, a, b | v⟩ <;> simp (disch := omega) [encAlu, wordFields_encR, wordFields_encS]

theorem decodeWord_encAlu {m : Nat} (hm : m < 64) (o : Alu) : decodeWord s (encAlu m o) = decInteger s (wordFields (encAlu m o)) := by
  rcases o with ⟨gd, d, a, b | b | v⟩ | ⟨d, a, b | v⟩ <;>
    simp (disch := omega) [encAlu, wordFields_encR, wordFields_encS, decodeWord]

theorem decAlu_encAlu {m : Nat} (hm : m < 64) (mk : Alu → Instr) (o : Alu) : decAlu (wordFields (encAlu m o)) mk = some (mk o) := by
  rcases o with ⟨gd, d, a, b | b | v⟩ | ⟨d, a, b | v⟩ <;>
    simp (disch := omega) [encAlu, wordFields_encR, wordFields_encS, decAlu, whenOk, noGuard, guard0]

/-- A two-operand integer instruction that MINOR m names is read back in each of its five forms (03 R157 to R159). -/
theorem readBack_alu {mk : Site → Alu → Instr} {m : Nat} {o : Alu} (he : encodeWord (mk s o) = some (encAlu m o))
    (hs : siteOf (mk s o) = some s) (hm : m < 64) (h : ∀ f : WordFields, f.minor = m → decInteger s f = decAlu f (mk s)) :
    ReadBack (mk s o) :=
  readBack_of he hs fun _ => by rw [decodeWord_encAlu hm, h _ (minor_encAlu hm o), decAlu_encAlu hm]

theorem readBack_alu1 {o : Alu1} {mk : Site → Alu1 → Instr} (hmk : mk ∈ [Instr.popc, .clz]) : ReadBack (mk s o) := by
  fin_cases hmk <;> exact readBack_of rfl rfl fun _ => by
    rcases o with ⟨gd, _ | _, d, a⟩ | ⟨_ | _, d, a⟩ <;>
      simp (disch := omega) [encAlu1, decodeWord, wordFields_encR, decInteger, decAlu1, noGuard, guard0, whenOk]

theorem readBack_imad (d a c : Fin 256) (b : RegB) : ReadBack (.imad s gd d a b c) := readBack_of rfl rfl fun _ => by
  cases b <;> simp (disch := omega) [encRegB, decodeWord, wordFields_encR, decInteger, regBOk, decRegB, whenOk]

theorem readBack_sel (d a : Fin 256) (b : RegB) (c : Fin 8) : ReadBack (.sel s gd d a b c) := readBack_of rfl rfl fun _ => by
  cases b <;> simp (disch := omega) [encRegB, decodeWord, wordFields_encR, decInteger, regBOk, decRegB, whenOk]

theorem readBack_mov (d a : Fin 256) : ReadBack (.mov s gd d a) := readBack_of rfl rfl fun _ => by
  simp (disch := omega) [decodeWord, wordFields_encR, decMove, whenOk]

theorem readBack_movi (d : Fin 256) (imm : Word) : ReadBack (.movi s gd d imm) := readBack_of rfl rfl fun _ => by
  simp (disch := omega) [decodeWord, wordFields_encI, decMove, whenOk]

theorem readBack_umovi (d : Fin 64) (imm : Word) : ReadBack (.umovi s d imm) := readBack_of rfl rfl fun _ => by
  simp (disch := omega) [decodeWord, wordFields_encI, decMove, whenOk, noGuard, guard0]

theorem readBack_bcast (d : Fin 256) (a : Fin 64) : ReadBack (.bcast s gd d a) := readBack_of rfl rfl fun _ => by
  simp (disch := omega) [decodeWord, wordFields_encR, decMove, whenOk]

theorem readBack_laneRd (d : Fin 64) (a : Fin 256) (lane : Fin 32) : ReadBack (.laneRd s d a lane) := readBack_of rfl rfl fun _ => by
  simp (disch := omega) [decodeWord, wordFields_encR, decMove, whenOk, noGuard, guard0]

theorem readBack_s2r (d : Fin 256) (code : SReg) : ReadBack (.s2r s gd d code) := readBack_of rfl rfl fun (hwf : countPair d.val code = true) => by
  have hcode := encSReg_lt code
  simp only [countPair, Bool.or_eq_true, beq_iff_eq, bne_iff_ne, ne_eq] at hwf
  simp (disch := omega) [decodeWord, wordFields_encR, decMove, whenOk, hwf]

theorem readBack_s2u (d : Fin 64) (code : SReg) : ReadBack (.s2u s d code) :=
  readBack_of rfl rfl fun (hwf : (code != .laneId && countPair d.val code) = true) => by
    have hcode := encSReg_lt code
    simp only [countPair, Bool.and_eq_true, Bool.or_eq_true, beq_iff_eq, bne_iff_ne, ne_eq] at hwf
    simp (disch := omega) [decodeWord, wordFields_encR, decMove, whenOk, noGuard, guard0, hwf]

theorem readBack_isetp (cc : Cmp) (d : Fin 8) (a : Fin 256) (b : LaneB) : ReadBack (.isetp s gd cc d a b) := by
  have hcc := encCmp_lt cc
  cases b with
  | reg b => exact readBack_of rfl rfl fun _ => by simp (disch := omega) [decodeWord, wordFields_encR, decCompare, whenOk]
  | imm v => exact readBack_of rfl rfl fun _ => by simp (disch := omega) [decodeWord, wordFields_encS, decCompare, whenOk]
  | uni b => nofun

theorem readBack_fsetp (cc : Cmp) (fmt : VFmt) (e : Fin 2) (d : Fin 8) (a b : Fin 256) : ReadBack (.fsetp s gd cc fmt e d a b) := by
  have he := e.isLt
  cases fmt <;> exact readBack_of rfl rfl fun (hwf : (floatCmp cc && evenFor _ a.val && evenFor _ b.val) = true) => by
    simp only [evenFor_s32, evenFor_h16, Bool.and_eq_true, beq_iff_eq] at hwf
    have hcc := encCmp_lt_six hwf.1.1
    simp (disch := omega) only [decodeWord, wordFields_encR, decCompare, decCmp_encCmp]
    simp [whenOk, hcc, he, hwf]

theorem readBack_plop (op : POp) (d a b : Fin 8) : ReadBack (.plop s gd op d a b) := readBack_of rfl rfl fun _ => by
  have hop := encPOp_lt op
  simp (disch := omega) [decodeWord, wordFields_encR, decCompare, whenOk]

theorem readBack_vec2 {o : Vec2} {mk : Site → Vec2 → Instr} (hmk : mk ∈ [Instr.fadd, .fsub, .fmul, .fmin, .fmax]) : ReadBack (mk s o) := by
  obtain ⟨gd, fmt, d, a, b⟩ := o
  fin_cases hmk <;> exact readBack_of rfl rfl fun (hwf : vec2Ok _ = true) => by
    simp only [vec2Ok, Bool.and_eq_true] at hwf
    cases fmt <;> simp (disch := omega) [encVec2, encVMajor, decodeWord, wordFields_encR, decVector, whenOk, hwf]

theorem readBack_ffma (o : Vec2) (c : Fin 256) : ReadBack (.ffma s o c) := readBack_of rfl rfl fun (hwf : (vec2Ok _ && evenFor _ c.val) = true) => by
  obtain ⟨gd, fmt, d, a, b⟩ := o
  simp only [vec2Ok, Bool.and_eq_true] at hwf
  cases fmt <;> simp (disch := omega) [encVec2, encVMajor, decodeWord, wordFields_encR, decVector, whenOk, hwf]

theorem readBack_vec1 {fmt : VFmt} {o : Vec1} {mk : Site → VFmt → Vec1 → Instr} (hmk : mk ∈ [Instr.fabs, .fneg]) :
    ReadBack (mk s fmt o) := by
  fin_cases hmk <;> exact readBack_of rfl rfl fun (hwf : vec1Ok fmt o = true) => by
    simp only [vec1Ok, Bool.and_eq_true] at hwf
    cases fmt <;> simp (disch := omega) [encVec1, encVMajor, decodeWord, wordFields_encR, decVector, whenOk, hwf]

theorem readBack_cvt {o : Vec1} {mk : Site → Vec1 → Instr} (hmk : mk ∈ [Instr.cvtF8H16, .cvtH16F8]) : ReadBack (mk s o) := by
  fin_cases hmk <;> exact readBack_of rfl rfl fun _ => by simp (disch := omega) [encCvt, decodeWord, wordFields_encR, decConvert, whenOk]

theorem readBack_cvtTo32 (o : Vec1) : ReadBack (.cvtS32H16 s o) := readBack_of rfl rfl fun (hwf : (o.d.val % 2 == 0) = true) => by
  simp only [beq_iff_eq] at hwf
  simp (disch := omega) [encCvt, decodeWord, wordFields_encR, decConvert, whenOk, hwf]

theorem readBack_cvtFrom32 {o : Vec1} {mk : Site → Vec1 → Instr} (hmk : mk ∈ [Instr.cvtH16S32, .cvtF8S32]) : ReadBack (mk s o) := by
  fin_cases hmk <;> exact readBack_of rfl rfl fun (hwf : (o.a.val % 2 == 0) = true) => by
    simp only [beq_iff_eq] at hwf
    simp (disch := omega) [encCvt, decodeWord, wordFields_encR, decConvert, whenOk, hwf]

theorem readBack_cvtInt {o : Vec1} {mk : Site → Vec1 → Instr} (hmk : mk ∈ [Instr.cvtS32I32, .cvtI32S32]) : ReadBack (mk s o) := by
  fin_cases hmk <;> exact readBack_of rfl rfl fun (hwf : vec1Ok .s32 o = true) => by
    simp only [vec1Ok, evenFor_s32, Bool.and_eq_true, beq_iff_eq] at hwf
    simp (disch := omega) [encCvt, decodeWord, wordFields_encR, decConvert, whenOk, hwf]

theorem readBack_sfu {fmt : VFmt} {o : Vec1} {mk : Site → VFmt → Vec1 → Instr}
    (hmk : mk ∈ [Instr.exp2, .log2, .rcp, .rsq, .sin, .cos]) : ReadBack (mk s fmt o) := by
  fin_cases hmk <;> exact readBack_of rfl rfl fun (hwf : vec1Ok fmt o = true) => by
    simp only [vec1Ok, Bool.and_eq_true] at hwf
    cases fmt <;> simp (disch := omega) [encSfu, encVMod, decodeWord, wordFields_encR, decSpecial, whenOk, hwf]

theorem readBack_kcg (d a b : Fin 256) : ReadBack (.kcg s gd d a b) :=
  readBack_of rfl rfl fun (hwf : (d.val % 4 == 0 && a.val % 4 == 0 && b.val % 4 == 0) = true) => by
    simp only [Bool.and_eq_true, beq_iff_eq] at hwf
    simp (disch := omega) [decodeWord, wordFields_encR, decRest, whenOk, hwf]

theorem readBack_mld (fmt : MFmt) (buf : Fin 2) (a b c e : Fin 64) : ReadBack (.mld s gd fmt buf a b c e) :=
  readBack_of rfl rfl fun (hwf : (fmt == .b4 || fmt == .b8 || (c.val == 0 && e.val == 0)) = true) => by
    have hfmt := encMFmt_lt fmt
    have hbuf := buf.isLt
    simp (disch := omega) only [decodeWord, wordFields_encR, decMatrix, decMFmt_encMFmt, hwf]
    simp [whenOk, hbuf]

theorem readBack_mma (p : Pair) (buf : Fin 2) (lean : Bool) (va vs : Fin 256) (acc : Fin 4096) :
    ReadBack (.mma s gd p buf lean va vs acc) := readBack_of rfl rfl fun (hwf : mmaOk p lean va.val vs.val = true) => by
  have hp := encPair_lt p
  obtain ⟨hd, hbuf, hlean⟩ := mmaD_decodes buf lean
  simp only [mmaOk, Bool.and_eq_true] at hwf
  simp (disch := omega) only [decodeWord, wordFields_encR, decMatrix, decPair_encPair, hbuf, hlean]
  simp only [whenOk, hd, hwf, vReg_val, peatBase_val, decide_true, BEq.rfl, Bool.and_self, if_true]

theorem readBack_pclr (p : Fin 4096) : ReadBack (.pclr s gd p) := readBack_of rfl rfl fun _ => by
  simp (disch := omega) [decodeWord, wordFields_encR, decPeat, whenOk]

theorem readBack_pacc (fmt : VFmt) (p : Fin 4096) (a : Fin 256) : ReadBack (.pacc s gd fmt p a) := by
  cases fmt with
  | s32 =>
    exact readBack_of rfl rfl fun (hwf : (a.val % 2 == 0) = true) => by
      simp (disch := omega) [decodeWord, wordFields_encR, decPeat, whenOk, beq_iff_eq.mp hwf]
  | h16 => exact readBack_of rfl rfl fun _ => by simp (disch := omega) [decodeWord, wordFields_encR, decPeat, whenOk]

theorem readBack_padd (p : Fin 4096) (a : Fin 64) : ReadBack (.padd s gd p a) := readBack_of rfl rfl fun _ => by
  simp (disch := omega) [decodeWord, wordFields_encR, decPeat, whenOk]

theorem readBack_peatMem {o : PeatMem} {mk : Site → PeatMem → Instr} (hmk : mk ∈ [Instr.pld, .pst, .paddm, .pext, .pins]) :
    ReadBack (mk s o) := by
  obtain ⟨gd, t, p, a⟩ := o
  fin_cases hmk <;> exact readBack_of rfl rfl fun _ => by
    cases t <;> simp (disch := omega) [encPeatMem, encT, b2n, decodeWord, wordFields_encR, decPeat, whenOk]

theorem readBack_peatTo {d : Fin 256} {p : Fin 4096} {mk : Site → Guard → Fin 256 → Fin 4096 → Instr}
    (hmk : mk ∈ [Instr.pcvtH16, .pcvtF8]) : ReadBack (mk s gd d p) := by
  fin_cases hmk <;> exact readBack_of rfl rfl fun _ => by simp (disch := omega) [decodeWord, wordFields_encR, decPeat, whenOk]

theorem readBack_pcvtB8 (d : Fin 256) (b : Fin 64) (p : Fin 4096) : ReadBack (.pcvtB8 s gd d b p) := readBack_of rfl rfl fun _ => by
  simp (disch := omega) [decodeWord, wordFields_encR, decPeat, whenOk]

theorem decodeWord_memory (h : (wordFields w).major = 14 ∨ (wordFields w).major = 15) : decodeWord s w = decMemory s (wordFields w) := by
  rcases h with h | h <;> simp only [decodeWord, h]

theorem wordFields_encMem {m : Nat} (hm : m < 64) (o : MemOp) : let f := wordFields (encMem m o)
    f.major = 14 ∧ f.minor = m ∧ f.gd = o.gd ∧ f.d = o.d.val ∧ f.a = o.a.val ∧ f.imm28 = o.imm.toNat ∧ decSz (f.mod % 8) = some o.sz
      ∧ decide (8 ≤ f.mod) = o.t := by
  obtain ⟨hlt, hz, ht⟩ := encSz_add_encT o.sz o.t
  obtain ⟨hM, hm, hmod, hg, hd, ha, hi⟩ := wordFields_encS 14 m (encSz o.sz + encT o.t) o.gd o.d.val o.a.val o.imm (by decide) hm
    hlt o.d.isLt o.a.isLt
  rw [← hmod] at hz ht
  exact ⟨hM, hm, hg, hd, ha, hi, hz, ht⟩

theorem decMemory_ld {f : WordFields} {z : Sz} (hM : f.major = 14) (hm : f.minor = 0) (hz : decSz (f.mod % 8) = some z) :
    decMemory s f = whenOk (f.d % szRegs z == 0) (.ld s ⟨f.gd, z, decide (8 ≤ f.mod), vReg f.d, vReg f.a, BitVec.ofNat 28 f.imm28⟩) := by
  simp only [decMemory, hz, hM, hm, if_true]

theorem decMemory_st {f : WordFields} {z : Sz} (hM : f.major = 14) (hm : f.minor = 1) (hz : decSz (f.mod % 8) = some z) :
    decMemory s f = whenOk (f.d % szRegs z == 0 && stSz z)
      (.st s ⟨f.gd, z, decide (8 ≤ f.mod), vReg f.d, vReg f.a, BitVec.ofNat 28 f.imm28⟩) := by
  simp only [decMemory, hz, hM, hm, if_true]

theorem decMemory_uldc {f : WordFields} {z : Sz} (hM : f.major = 15) (hm : f.minor = 0) (hz : decSz (f.mod % 8) = some z) :
    decMemory s f = whenOk ((z == .w32 || z == .w64) && f.d < 64 && f.a < 64 && f.d % szRegs z == 0)
      (.uldc s f.gd (z == .w64) (decide (8 ≤ f.mod)) (uReg f.d) (uReg f.a) (BitVec.ofNat 28 f.imm28)) := by
  simp [decMemory, hz, hM, hm]

theorem readBack_ld (o : MemOp) : ReadBack (.ld s o) := readBack_of rfl rfl fun (hwf : (o.d.val % szRegs o.sz == 0) = true) => by
  obtain ⟨hM, hm, hg, hd, ha, hi, hz, ht⟩ := wordFields_encMem (m := 0) (by decide) o
  rw [decodeWord_memory (.inl hM), decMemory_ld hM hm hz, hg, hd, ha, hi, ht, whenOk, if_pos hwf, vReg_val, vReg_val, BitVec.ofNat_toNat,
    BitVec.setWidth_eq]

theorem readBack_st (o : MemOp) : ReadBack (.st s o) := readBack_of rfl rfl fun (hwf : (o.d.val % szRegs o.sz == 0 && stSz o.sz) = true) => by
  obtain ⟨hM, hm, hg, hd, ha, hi, hz, ht⟩ := wordFields_encMem (m := 1) (by decide) o
  rw [decodeWord_memory (.inl hM), decMemory_st hM hm hz, hg, hd, ha, hi, ht, whenOk, if_pos hwf, vReg_val, vReg_val, BitVec.ofNat_toNat,
    BitVec.setWidth_eq]

theorem readBack_uldc (x64 t : Bool) (d a : Fin 64) (imm : BitVec 28) : ReadBack (.uldc s gd x64 t d a imm) :=
  readBack_of rfl rfl fun (hwf : (!x64 || d.val % 2 == 0) = true) => by
    obtain ⟨hlt, hz, ht⟩ := uldcMod_decodes x64 t
    obtain ⟨hM, hm, hmod, hg, hd, ha, hi⟩ := wordFields_encS 15 0 (4 + b2n x64 + encT t) gd d.val a.val imm (by decide) (by decide) hlt
      (by omega) (by omega)
    rw [← hmod] at hz ht
    rw [decodeWord_memory (.inr hM), decMemory_uldc hM hm hz, hg, hd, ha, hi, ht]
    cases x64 <;> simp_all [whenOk, szRegs, Nat.mod_one]

theorem readBack_atom {o : AtomOp} {mk : Site → AtomOp → Instr}
    (hmk : mk ∈ [Instr.atomAdd, .atomSmin, .atomSmax, .atomUmin, .atomUmax, .atomAnd, .atomOr, .atomXor, .atomXchg]) : ReadBack (mk s o) := by
  obtain ⟨gd, x64, t, d, a, b⟩ := o
  obtain ⟨hmod, hlow, hx, ht⟩ := atomMod_decodes x64 t
  fin_cases hmk <;> exact readBack_of rfl rfl fun (hwf : atomOk _ = true) => by
    simp only [atomOk, Bool.and_eq_true, Bool.or_eq_true, Bool.not_eq_true', beq_iff_eq] at hwf
    simp (disch := omega) only [encAtom, decodeWord, wordFields_encR, decAtomic, hx, ht]
    simp [whenOk, hlow, hwf]

theorem readBack_atomFaddS32 (o : AtomOp) : ReadBack (.atomFaddS32 s o) := readBack_of rfl rfl fun (hwf : (!o.x64) = true) => by
  obtain ⟨gd, x64, t, d, a, b⟩ := o
  obtain ⟨hmod, hlow, hx, ht⟩ := atomMod_decodes x64 t
  simp only [Bool.not_eq_true'] at hwf
  subst hwf
  simp (disch := omega) only [encAtom, decodeWord, wordFields_encR, decAtomic, hx, ht]
  simp only [hlow]
  simp [whenOk]

theorem readBack_atomCas (o : AtomOp) (c : Fin 256) : ReadBack (.atomCas s o c) :=
  readBack_of rfl rfl fun (hwf : (atomOk o && (!o.x64 || c.val % 2 == 0)) = true) => by
    obtain ⟨gd, x64, t, d, a, b⟩ := o
    obtain ⟨hmod, hlow, hx, ht⟩ := atomMod_decodes x64 t
    simp only [atomOk, Bool.and_eq_true, Bool.or_eq_true, Bool.not_eq_true', beq_iff_eq] at hwf
    simp (disch := omega) only [encAtom, decodeWord, wordFields_encR, decAtomic, hx, ht]
    simp [whenOk, hlow, hwf]

theorem readBack_numbered {k : BitVec 16} {mk : Site → BitVec 16 → Instr} (hmk : mk ∈ [Instr.dsync, .nsync, .bkpt]) : ReadBack (mk s k) := by
  have hk := k.isLt
  fin_cases hmk <;> exact readBack_of rfl rfl fun _ => by
    simp (disch := omega) [decodeWord, wordFields_encI, decRest, whenOk, noGuard, guard0, hk]

theorem readBack_barg : ReadBack (.barg s gd) := readBack_of rfl rfl fun _ => by
  simp (disch := omega) [decodeWord, wordFields_encR, decRest, whenOk]

theorem readBack_barc (n : Fin 4) : ReadBack (.barc s gd n) := readBack_of rfl rfl fun _ => by
  simp (disch := omega) [decodeWord, wordFields_encR, decRest, whenOk]

theorem readBack_digest (a : Fin 256) : ReadBack (.digest s gd a) := readBack_of rfl rfl fun _ => by
  simp (disch := omega) [decodeWord, wordFields_encR, decRest, whenOk]

theorem readBack (i : Instr) : ReadBack i := by
  cases i with
  | nop | exit => exact readBack_guarded (by simp)
  | bra s t => exact readBack_bra t
  | braP | braT => exact readBack_divergent (by simp)
  | loop s a t => exact readBack_loop a t
  | iadd | isub | imul | imulhu | imulhs | and | or | xor | shl | shr | sra | imin | imax | umin | umax =>
    exact readBack_alu rfl rfl (by decide) fun f hf => by simp only [decInteger, hf]
  | popc | clz => exact readBack_alu1 (by simp)
  | imad s gd d a b c => exact readBack_imad d a c b
  | sel s gd d a b c => exact readBack_sel d a b c
  | mov s gd d a => exact readBack_mov d a
  | movi s gd d imm => exact readBack_movi d imm
  | umovi s d imm => exact readBack_umovi d imm
  | bcast s gd d a => exact readBack_bcast d a
  | laneRd s d a lane => exact readBack_laneRd d a lane
  | s2r s gd d code => exact readBack_s2r d code
  | s2u s d code => exact readBack_s2u d code
  | isetp s gd cc d a b => exact readBack_isetp cc d a b
  | fsetp s gd cc fmt e d a b => exact readBack_fsetp cc fmt e d a b
  | plop s gd op d a b => exact readBack_plop op d a b
  | fadd | fsub | fmul | fmin | fmax => exact readBack_vec2 (by simp)
  | ffma s o c => exact readBack_ffma o c
  | fabs | fneg => exact readBack_vec1 (by simp)
  | cvtS32H16 s o => exact readBack_cvtTo32 o
  | cvtH16S32 | cvtF8S32 => exact readBack_cvtFrom32 (by simp)
  | cvtF8H16 | cvtH16F8 => exact readBack_cvt (by simp)
  | cvtS32I32 | cvtI32S32 => exact readBack_cvtInt (by simp)
  | exp2 | log2 | rcp | rsq | sin | cos => exact readBack_sfu (by simp)
  | kcg s gd d a b => exact readBack_kcg d a b
  | mld s gd fmt buf a b c e => exact readBack_mld fmt buf a b c e
  | mma s gd p buf lean va vs acc => exact readBack_mma p buf lean va vs acc
  | pclr s gd p => exact readBack_pclr p
  | pacc s gd fmt p a => exact readBack_pacc fmt p a
  | padd s gd p a => exact readBack_padd p a
  | pld | pst | paddm | pext | pins => exact readBack_peatMem (by simp)
  | pcvtH16 | pcvtF8 => exact readBack_peatTo (by simp)
  | pcvtB8 s gd d b p => exact readBack_pcvtB8 d b p
  | ld s o => exact readBack_ld o
  | st s o => exact readBack_st o
  | uldc s gd x64 t d a imm => exact readBack_uldc x64 t d a imm
  | atomAdd | atomSmin | atomSmax | atomUmin | atomUmax | atomAnd | atomOr | atomXor | atomXchg => exact readBack_atom (by simp)
  | atomFaddS32 s o => exact readBack_atomFaddS32 o
  | atomCas s o c => exact readBack_atomCas o c
  | dsync | nsync | bkpt => exact readBack_numbered (by simp)
  | barg => exact readBack_barg
  | barc s gd n => exact readBack_barc n
  | digest s gd a => exact readBack_digest a
  | _ => nofun

/-- Settles O2, one lemma for each shape of word: what the fields of an encoded word are decides the arm of the decoder that reads it. -/
theorem encodedWordDecodes : Obligations.EncodedWordDecodes := by
  unfold Obligations.EncodedWordDecodes
  exact fun i w st hwf he hs => readBack i w st hwf he hs

end Sys2Proof

/-!
SUPPORT. A word that decodes is the word of the instruction it decodes to (03 R138 to R147, R205): the fields give the word back, and each arm
of the decoder admits only the fields its instruction's word has.
-/
namespace Sys2Proof
open Machine

variable {s : Site} {w w' : Nat} {i j : Instr} {f : WordFields} {ok : Bool}

/-! ### The fields give the word back -/

/-- What the fields of a word tell of it: they name registers, immediates and addresses, and the word is each format's word of its fields
when the bits that this format leaves out are zero. -/
structure Spells (f : WordFields) (w : Nat) : Prop where
  d : (vReg f.d).val = f.d
  a : (vReg f.a).val = f.a
  b : (vReg f.b).val = f.b
  c : (vReg f.c).val = f.c
  e : (peatBase f.e).val = f.e
  mod : f.mod < 16
  imm28 : f.imm28 = f.b * 2 ^ 20 + f.c * 2 ^ 12 + f.e
  imm32 : (BitVec.ofNat 32 f.imm32).toNat = f.imm32
  target : f.target < 2 ^ 20
  reconv : f.reconv < 2 ^ 20
  rWord : w = encR f.major f.minor f.mod f.gd f.d f.a f.b f.c f.e
  sWord : w = encS f.major f.minor f.mod f.gd f.d f.a (BitVec.ofNat 28 f.imm28)
  iWord : f.zeroI = 0 → w = encI f.major f.minor f.mod f.gd f.d f.imm32
  bWord : f.major = 1 → f.mod = 0 → f.zeroB = 0 → w = encB f.minor f.gd f.target f.reconv

theorem b2n_bitN (v n : Nat) : b2n (bitN v n) = v / 2 ^ n % 2 := by
  rw [bitN_eq, b2n]
  simp only [decide_eq_true_eq]
  split <;> omega

theorem encHead_wordFields (hw : w < 2 ^ 64) :
    encHead (wordFields w).major (wordFields w).minor (wordFields w).mod (wordFields w).gd + w % 2 ^ 44 = w := by
  simp only [encHead, wordFields, fld_eq, b2n_bitN, Fin.ofNat]
  omega

theorem spells_wordFields (hw : w < 2 ^ 64) : Spells (wordFields w) w := by
  have hhead := encHead_wordFields hw
  constructor
  case rWord | sWord | iWord =>
    simp only [encR, encS, encI, BitVec.toNat_ofNat]
    simp only [wordFields, fld_eq] at *
    omega
  case bWord =>
    intro hM hmod
    rw [hM, hmod] at hhead
    simp only [encB]
    simp only [wordFields, fld_eq] at *
    omega
  all_goals
    simp only [wordFields, fld_eq, vReg, peatBase, Fin.ofNat, BitVec.toNat_ofNat]
    omega

/-! ### The codes of operands -/

theorem uReg_val_of_lt {n : Nat} (h : n < 64) : (uReg n).val = n := Nat.mod_eq_of_lt h
theorem pReg_val_of_lt {n : Nat} (h : n < 8) : (pReg n).val = n := Nat.mod_eq_of_lt h

theorem encSReg_of_decSReg {n : Nat} {c : SReg} (h : decSReg n = some c) : encSReg c = n := by
  unfold decSReg at h; split at h <;> cases h <;> rfl

theorem encCmp_of_decCmp {n : Nat} {c : Cmp} (h : decCmp n = some c) : encCmp c = n := by
  unfold decCmp at h; split at h <;> cases h <;> rfl

theorem encPOp_of_decPOp {n : Nat} {o : POp} (h : decPOp n = some o) : encPOp o = n := by
  unfold decPOp at h; split at h <;> cases h <;> rfl

theorem encMFmt_of_decMFmt {n : Nat} {m : MFmt} (h : decMFmt n = some m) : encMFmt m = n := by
  unfold decMFmt at h; split at h <;> cases h <;> rfl

theorem encPair_of_decPair {n : Nat} {p : Pair} (h : decPair n = some p) : encPair p = n := by
  unfold decPair at h; split at h <;> cases h <;> rfl

theorem floatCmp_of_decCmp {n : Nat} {c : Cmp} (h : decCmp n = some c) (hn : n < 6) : floatCmp c = true := by
  obtain rfl := encCmp_of_decCmp h
  cases c with
  | eq | ne | lt | le | gt | ge => rfl
  | ltu | leu | gtu | geu => exact absurd hn (by decide)

theorem encVMod_of_lt {n : Nat} (h : n < 2) : encVMod (if n = 1 then .h16 else .s32) = n := by
  obtain rfl | rfl : n = 0 ∨ n = 1 := by omega
  · rfl
  · rfl

theorem encT_of_mod {n : Nat} (h : n = 0 ∨ n = 8) : encT (n == 8) = n := by
  rcases h with rfl | rfl <;> rfl

theorem encSz_add_encT_of_decSz {n : Nat} {z : Sz} (hn : n < 16) (h : decSz (n % 8) = some z) : encSz z + encT (decide (8 ≤ n)) = n := by
  revert z; revert n; decide

theorem atomMod_of_mod {n : Nat} (hn : n < 16) (h : n % 8 < 2) : b2n (bitN n 0) + encT (decide (8 ≤ n)) = n := by
  revert n; decide

theorem mmaD_of_lt {n : Nat} (h : n < 4) : n % 2 + 2 * b2n (bitN n 1) = n := by
  revert n; decide

theorem encRegB_decRegB (hf : Spells f w) {m d a c : Nat} (h : regBOk f = true) :
    encRegB m f.gd d a (decRegB f) c = encR 2 m f.mod f.gd d a f.b c 0 := by
  simp only [regBOk, Bool.or_eq_true, Bool.and_eq_true, beq_iff_eq, decide_eq_true_eq] at h
  rcases h with h | h <;> simp [encRegB, decRegB, h, uReg_val_of_lt, hf.b]

/-! ### The arms of the decoder -/

/-- The word w at site s is the word of i, a well-formed instruction at s. -/
def WordOf (s : Site) (w : Nat) (i : Instr) : Prop := wellFormed i = true ∧ siteOf i = some s ∧ encodeWord i = some w

/-- An arm of the decoder is right when its checks make its instruction well formed, and the word that of the instruction. -/
theorem wordOf_arm (h : whenOk ok j = some i) (hs : siteOf j = some s) (he : encodeWord j = some w') (hwf : ok = true → wellFormed j = true)
    (hw : ok = true → w = w') : WordOf s w i := by
  unfold whenOk at h
  split at h
  · next hok =>
    obtain rfl := Option.some.inj h
    exact ⟨hwf hok, hs, he.trans (congrArg some (hw hok).symm)⟩
  · cases h

section Arms
variable (hf : Spells f w)
include hf

theorem wordOf_decControl (hM : f.major = 1) (h : decControl s f = some i) : WordOf s w i := by
  have ht := hf.target
  have hr := hf.reconv
  unfold decControl at h
  dsimp only at h
  split at h
  case h_1 | h_6 =>
    exact wordOf_arm h rfl rfl (fun _ => rfl) fun hok => (hf.bWord hM (by simp_all) (by simp_all)).trans (by simp_all)
  case h_2 =>
    exact wordOf_arm h rfl rfl (fun hok => show targetOk _ = true by simp_all [targetOk])
      fun hok => (hf.bWord hM (by simp_all) (by simp_all)).trans (by simp_all [noGuard, guard0])
  case h_3 | h_4 =>
    exact wordOf_arm h rfl rfl (fun hok => show (targetOk _ && targetOk _) = true by simp_all [targetOk])
      fun hok => (hf.bWord hM (by simp_all) (by simp_all)).trans (by simp_all)
  case h_5 =>
    exact wordOf_arm h rfl rfl (fun hok => show targetOk _ = true by simp_all [targetOk])
      fun hok => (hf.bWord hM (by simp_all) (by simp_all)).trans (by simp_all [uReg_val_of_lt, noGuard, guard0])
  case h_7 => cases h

theorem wordOf_decAlu {mk : Alu → Instr} (hM : f.major ∈ [2, 3, 4, 5]) (hs : ∀ o, siteOf (mk o) = some s)
    (he : ∀ o, encodeWord (mk o) = some (encAlu f.minor o)) (hwf : ∀ o, wellFormed (mk o) = true) (h : decAlu f mk = some i) :
    WordOf s w i := by
  unfold decAlu at h
  split at h
  · split at h
    · exact wordOf_arm h (hs _) (he _) (fun _ => hwf _) fun hok => hf.rWord.trans (by simp_all [encAlu, hf.d, hf.a, hf.b])
    · exact wordOf_arm h (hs _) (he _) (fun _ => hwf _) fun hok => hf.rWord.trans (by simp_all [encAlu, hf.d, hf.a, uReg_val_of_lt])
  · split at h
    · exact wordOf_arm h (hs _) (he _) (fun _ => hwf _) fun hok => hf.sWord.trans (by simp_all [encAlu, hf.d, hf.a])
    · split at h
      · exact wordOf_arm h (hs _) (he _) (fun _ => hwf _)
          fun hok => hf.rWord.trans (by simp_all [encAlu, uReg_val_of_lt, noGuard, guard0])
      · exact wordOf_arm h (hs _) (he _) (fun _ => hwf _)
          fun hok => hf.sWord.trans (by simp_all [encAlu, uReg_val_of_lt, noGuard, guard0])

theorem wordOf_decAlu1 {mk : Alu1 → Instr} (hM : f.major ∈ [2, 3, 4, 5]) (hs : ∀ o, siteOf (mk o) = some s)
    (he : ∀ o, encodeWord (mk o) = some (encAlu1 f.minor o)) (hwf : ∀ o, wellFormed (mk o) = true) (h : decAlu1 f mk = some i) :
    WordOf s w i := by
  have hlow : f.imm28 = 0 → f.b = 0 ∧ f.c = 0 ∧ f.e = 0 := by have := hf.imm28; omega
  unfold decAlu1 at h
  split at h
  · next hlane =>
    rcases hlane with h2 | h3 <;>
      exact wordOf_arm h (hs _) (he _) (fun _ => hwf _) fun hok => hf.rWord.trans (by simp_all [encAlu1, hf.d, hf.a])
  · next huni =>
    obtain h4 | h5 : f.major = 4 ∨ f.major = 5 := by simp_all
    all_goals
      exact wordOf_arm h (hs _) (he _) (fun _ => hwf _)
        fun hok => hf.rWord.trans (by simp_all [encAlu1, uReg_val_of_lt, noGuard, guard0])

theorem wordOf_decInteger (hM : f.major ∈ [2, 3, 4, 5]) (h : decInteger s f = some i) : WordOf s w i := by
  unfold decInteger at h
  split at h
  case h_6 =>
    exact wordOf_arm h rfl rfl (fun _ => rfl) fun hok => hf.rWord.trans (by simp_all [hf.d, hf.a, hf.c, encRegB_decRegB hf])
  case h_19 =>
    exact wordOf_arm h rfl rfl (fun _ => rfl) fun hok => hf.rWord.trans (by simp_all [hf.d, hf.a, pReg_val_of_lt, encRegB_decRegB hf])
  case h_17 hm | h_18 hm => exact wordOf_decAlu1 hf hM (fun _ => rfl) (fun _ => by rw [hm]; rfl) (fun _ => rfl) h
  case h_20 => cases h
  all_goals next hm => exact wordOf_decAlu hf hM (fun _ => rfl) (fun _ => by rw [hm]; rfl) (fun _ => rfl) h

theorem wordOf_decMove (hM : f.major = 6) (h : decMove s f = some i) : WordOf s w i := by
  unfold decMove at h
  split at h
  case h_1 => exact wordOf_arm h rfl rfl (fun _ => rfl) fun hok => hf.rWord.trans (by simp_all [hf.d, hf.a])
  case h_2 => exact wordOf_arm h rfl rfl (fun _ => rfl) fun hok => (hf.iWord (by simp_all)).trans (by simp_all [hf.d, hf.imm32])
  case h_3 =>
    exact wordOf_arm h rfl rfl (fun _ => rfl)
      fun hok => (hf.iWord (by simp_all)).trans (by simp_all [hf.imm32, uReg_val_of_lt, noGuard, guard0])
  case h_4 => exact wordOf_arm h rfl rfl (fun _ => rfl) fun hok => hf.rWord.trans (by simp_all [hf.d, uReg_val_of_lt])
  case h_5 =>
    exact wordOf_arm h rfl rfl (fun _ => rfl)
      fun hok => hf.rWord.trans (by simp_all [hf.a, uReg_val_of_lt, noGuard, guard0, Nat.mod_eq_of_lt])
  case h_6 =>
    split at h
    · next c hc =>
      exact wordOf_arm h rfl rfl (fun hok => show countPair _ _ = true by simp_all [countPair, hf.d])
        fun hok => hf.rWord.trans (by simp_all [hf.d, encSReg_of_decSReg hc])
    · cases h
  case h_7 =>
    split at h
    · next c hc =>
      exact wordOf_arm h rfl rfl (fun hok => show (c != .laneId && countPair _ _) = true by simp_all [countPair, uReg_val_of_lt])
        fun hok => hf.rWord.trans (by simp_all [encSReg_of_decSReg hc, uReg_val_of_lt, noGuard, guard0])
    · cases h
  case h_8 => cases h

theorem wordOf_decCompare (hM : f.major = 7) (h : decCompare s f = some i) : WordOf s w i := by
  unfold decCompare at h
  split at h
  case h_6 => cases h
  all_goals
    split at h
    case h_2 => cases h
  · next hc =>
    exact wordOf_arm h rfl rfl (fun _ => rfl)
      fun hok => hf.rWord.trans (by simp_all [encCmp_of_decCmp hc, hf.a, hf.b, pReg_val_of_lt])
  · next hc =>
    exact wordOf_arm h rfl rfl (fun _ => rfl) fun hok => hf.sWord.trans (by simp_all [encCmp_of_decCmp hc, hf.a, pReg_val_of_lt])
  · next hc =>
    exact wordOf_arm h rfl rfl
      (fun hok => show (floatCmp _ && evenFor _ _ && evenFor _ _) = true by simp_all [evenFor, floatCmp_of_decCmp hc, hf.a, hf.b])
      fun hok => hf.rWord.trans (by simp_all [encCmp_of_decCmp hc, hf.a, hf.b, pReg_val_of_lt, Nat.mod_eq_of_lt])
  · next hc =>
    exact wordOf_arm h rfl rfl
      (fun hok => show (floatCmp _ && evenFor _ _ && evenFor _ _) = true by simp_all [evenFor, floatCmp_of_decCmp hc])
      fun hok => hf.rWord.trans (by simp_all [encCmp_of_decCmp hc, hf.a, hf.b, pReg_val_of_lt, Nat.mod_eq_of_lt])
  · next hc =>
    exact wordOf_arm h rfl rfl (fun _ => rfl) fun hok => hf.rWord.trans (by simp_all [encPOp_of_decPOp hc, pReg_val_of_lt])

theorem wordOf_decVector {fmt : VFmt} (hM : f.major = encVMajor fmt) (h : decVector s f fmt = some i) : WordOf s w i := by
  unfold decVector at h
  dsimp only at h
  split at h
  case h_1 | h_2 | h_3 | h_5 | h_6 =>
    exact wordOf_arm h rfl rfl (fun hok => show vec2Ok _ = true by simp_all [vec2Ok, hf.d, hf.a, hf.b])
      fun hok => hf.rWord.trans (by simp_all [encVec2, hf.d, hf.a, hf.b])
  case h_4 =>
    exact wordOf_arm h rfl rfl (fun hok => show (vec2Ok _ && evenFor fmt _) = true by simp_all [vec2Ok, hf.d, hf.a, hf.b, hf.c])
      fun hok => hf.rWord.trans (by simp_all [encVec2, hf.d, hf.a, hf.b, hf.c])
  case h_7 | h_8 =>
    exact wordOf_arm h rfl rfl (fun hok => show vec1Ok fmt _ = true by simp_all [vec1Ok, hf.d, hf.a])
      fun hok => hf.rWord.trans (by simp_all [encVec1, hf.d, hf.a])
  case h_9 => cases h

theorem wordOf_decConvert (hM : f.major = 10) (h : decConvert s f = some i) : WordOf s w i := by
  unfold decConvert at h
  dsimp only at h
  split at h
  case h_1 =>
    exact wordOf_arm h rfl rfl (fun hok => show ((vReg f.d).val % 2 == 0) = true by simp_all [hf.d])
      fun hok => hf.rWord.trans (by simp_all [encCvt, hf.d, hf.a])
  case h_2 | h_3 =>
    exact wordOf_arm h rfl rfl (fun hok => show ((vReg f.a).val % 2 == 0) = true by simp_all [hf.a])
      fun hok => hf.rWord.trans (by simp_all [encCvt, hf.d, hf.a])
  case h_4 | h_5 => exact wordOf_arm h rfl rfl (fun _ => rfl) fun hok => hf.rWord.trans (by simp_all [encCvt, hf.d, hf.a])
  case h_6 | h_7 =>
    exact wordOf_arm h rfl rfl (fun hok => show vec1Ok .s32 _ = true by simp_all [vec1Ok, evenFor_s32, hf.d, hf.a])
      fun hok => hf.rWord.trans (by simp_all [encCvt, hf.d, hf.a])
  case h_8 => cases h

theorem wordOf_decSpecial (hM : f.major = 11) (h : decSpecial s f = some i) : WordOf s w i := by
  unfold decSpecial at h
  dsimp only at h
  split at h
  case h_7 => cases h
  all_goals
    exact wordOf_arm h rfl rfl (fun hok => show vec1Ok _ _ = true by simp_all [vec1Ok, hf.d, hf.a])
      fun hok => hf.rWord.trans (by simp_all [encSfu, encVMod_of_lt, hf.d, hf.a])

theorem wordOf_decMatrix (hM : f.major = 12) (h : decMatrix s f = some i) : WordOf s w i := by
  unfold decMatrix at h
  split at h
  case h_3 => cases h
  all_goals
    split at h
    case h_2 => cases h
  · next m hc =>
    exact wordOf_arm h rfl rfl
      (fun hok => show (m == .b4 || m == .b8 || ((uReg _).val == 0 && (uReg _).val == 0)) = true by simp_all [uReg_val_of_lt])
      fun hok => hf.rWord.trans (by simp_all [encMFmt_of_decMFmt hc, uReg_val_of_lt, Nat.mod_eq_of_lt])
  · next hc =>
    exact wordOf_arm h rfl rfl (fun hok => show mmaOk _ _ _ _ = true by simp_all [mmaOk, hf.a, hf.b])
      fun hok => hf.rWord.trans (by simp_all [encPair_of_decPair hc, mmaD_of_lt, hf.a, hf.b, hf.e])

theorem wordOf_decPeat (hM : f.major = 13) (h : decPeat s f = some i) : WordOf s w i := by
  unfold decPeat at h
  dsimp only at h
  split at h
  case h_1 | h_3 | h_10 | h_11 =>
    exact wordOf_arm h rfl rfl (fun _ => rfl) fun hok => hf.rWord.trans (by simp_all [hf.d, hf.a, hf.e])
  case h_2 =>
    exact wordOf_arm h rfl rfl (fun hok => show evenFor .s32 _ = true by simp_all [evenFor_s32, hf.a])
      fun hok => hf.rWord.trans (by simp_all [hf.a, hf.e])
  case h_4 | h_12 =>
    exact wordOf_arm h rfl rfl (fun _ => rfl) fun hok => hf.rWord.trans (by simp_all [hf.d, uReg_val_of_lt, hf.e])
  case h_5 | h_6 | h_7 | h_8 | h_9 =>
    exact wordOf_arm h rfl rfl (fun _ => rfl) fun hok => hf.rWord.trans (by simp_all [encPeatMem, encT_of_mod, hf.a, hf.e])
  case h_13 => cases h

/-- A ULDC of words or of pairs: size, fixed-time form and pair agree with the word (03 R189). -/
theorem wordOf_uldc {z : Sz} (hM : f.major = 15) (hm : f.minor = 0) (hz : decSz (f.mod % 8) = some z)
    (h : whenOk ((z == .w32 || z == .w64) && f.d < 64 && f.a < 64 && f.d % szRegs z == 0)
      (.uldc s f.gd (z == .w64) (decide (8 ≤ f.mod)) (uReg f.d) (uReg f.a) (BitVec.ofNat 28 f.imm28)) = some i) : WordOf s w i := by
  have hmod := encSz_add_encT_of_decSz hf.mod hz
  have hz' : (z == .w32 || z == .w64) = false ∨ z = .w32 ∨ z = .w64 := by cases z <;> decide
  rcases hz' with hz' | rfl | rfl
  · simp [whenOk, hz'] at h
  · exact wordOf_arm h rfl rfl (fun _ => rfl) fun hok => hf.sWord.trans (by simp_all [encSz, b2n, uReg_val_of_lt])
  · exact wordOf_arm h rfl rfl (fun hok => show ((uReg f.d).val % 2 == 0) = true by simp_all [szRegs, uReg_val_of_lt])
      fun hok => hf.sWord.trans (by simp_all [encSz, b2n, uReg_val_of_lt])

theorem wordOf_decMemory (hM : f.major = 14 ∨ f.major = 15) (h : decMemory s f = some i) : WordOf s w i := by
  unfold decMemory at h
  dsimp only at h
  split at h
  · cases h
  · next z hz =>
    have hmod := encSz_add_encT_of_decSz hf.mod hz
    split at h
    · split at h
      · exact wordOf_arm h rfl rfl (fun hok => show ((vReg f.d).val % szRegs z == 0) = true by simp_all [hf.d])
          fun hok => hf.sWord.trans (by simp_all [encMem, hf.d, hf.a])
      · exact wordOf_arm h rfl rfl (fun hok => show ((vReg f.d).val % szRegs z == 0 && stSz z) = true by simp_all [hf.d])
          fun hok => hf.sWord.trans (by simp_all [encMem, hf.d, hf.a])
      · cases h
    · next hM' =>
      split at h
      · next hm => exact wordOf_uldc hf (hM.resolve_left hM') hm hz h
      · cases h

theorem wordOf_decAtomic (hM : f.major = 16) (h : decAtomic s f = some i) : WordOf s w i := by
  have hmod := fun hlow => atomMod_of_mod hf.mod hlow
  unfold decAtomic at h
  dsimp only at h
  split at h
  case h_12 => cases h
  case h_10 =>
    exact wordOf_arm h rfl rfl
      (fun hok => show (atomOk _ && (!bitN f.mod 0 || (vReg f.c).val % 2 == 0)) = true by simp_all [atomOk, hf.d, hf.b, hf.c])
      fun hok => hf.rWord.trans (by simp_all [encAtom, hf.d, hf.a, hf.b, hf.c])
  case h_11 =>
    exact wordOf_arm h rfl rfl (fun hok => show (!bitN f.mod 0) = true by simp_all) fun hok => hf.rWord.trans (by
      simp only [Bool.and_eq_true, decide_eq_true_eq] at hok
      rw [encAtom, hmod hok.1.1.1.1]
      simp_all [hf.d, hf.a, hf.b])
  all_goals
    exact wordOf_arm h rfl rfl (fun hok => show atomOk _ = true by simp_all [atomOk, hf.d, hf.b])
      fun hok => hf.rWord.trans (by simp_all [encAtom, hf.d, hf.a, hf.b])

theorem wordOf_decRest (hM : f.major ∈ [17, 18, 19, 20]) (h : decRest s f = some i) : WordOf s w i := by
  unfold decRest at h
  dsimp only at h
  split at h
  · split at h
    case h_3 => cases h
    all_goals
      exact wordOf_arm h rfl rfl (fun _ => rfl)
        fun hok => (hf.iWord (by simp_all)).trans (by simp_all [noGuard, guard0, Nat.mod_eq_of_lt])
  · split at h
    · split at h
      · exact wordOf_arm h rfl rfl (fun _ => rfl) fun hok => hf.rWord.trans (by simp_all)
      · exact wordOf_arm h rfl rfl (fun _ => rfl) fun hok => hf.rWord.trans (by simp_all [Nat.mod_eq_of_lt])
      · cases h
    · split at h
      · split at h
        · exact wordOf_arm h rfl rfl
            (fun hok => show ((vReg f.d).val % 4 == 0 && (vReg f.a).val % 4 == 0 && (vReg f.b).val % 4 == 0) = true by
              simp_all [hf.d, hf.a, hf.b])
            fun hok => hf.rWord.trans (by simp_all [hf.d, hf.a, hf.b])
        · cases h
      · split at h
        · exact wordOf_arm h rfl rfl (fun _ => rfl)
            fun hok => (hf.iWord (by simp_all)).trans (by simp_all [noGuard, guard0, Nat.mod_eq_of_lt])
        · exact wordOf_arm h rfl rfl (fun _ => rfl) fun hok => hf.rWord.trans (by simp_all [hf.a])
        · cases h

end Arms

/-- Settles O3: the decoder's checks leave no bit of a word free, so the word of the decoded instruction is the word itself. -/
theorem decodedWordHasOneMeaning : Obligations.DecodedWordHasOneMeaning := by
  unfold Obligations.DecodedWordHasOneMeaning
  intro i w s hw h
  have hf := spells_wordFields hw
  unfold decodeWord at h
  dsimp only at h
  split at h
  case h_1 hM => exact wordOf_decControl hf hM h
  case h_2 hM | h_3 hM | h_4 hM | h_5 hM => exact wordOf_decInteger hf (by simp [hM]) h
  case h_6 hM => exact wordOf_decMove hf hM h
  case h_7 hM => exact wordOf_decCompare hf hM h
  case h_8 hM => exact wordOf_decVector (fmt := .s32) hf hM h
  case h_9 hM => exact wordOf_decVector (fmt := .h16) hf hM h
  case h_10 hM => exact wordOf_decConvert hf hM h
  case h_11 hM => exact wordOf_decSpecial hf hM h
  case h_12 hM => exact wordOf_decMatrix hf hM h
  case h_13 hM => exact wordOf_decPeat hf hM h
  case h_14 hM => exact wordOf_decMemory hf (.inl hM) h
  case h_15 hM => exact wordOf_decMemory hf (.inr hM) h
  case h_16 hM => exact wordOf_decAtomic hf hM h
  case h_17 hM | h_18 hM | h_19 hM | h_20 hM => exact wordOf_decRest hf (by simp [hM]) h
  case h_21 => cases h

end Sys2Proof

/-!
SUPPORT. The integer, move and predicate instructions at their issue (03 R157 to R166): an act on lanes, on a uniform register or on
predicates sends its results.
-/
namespace Sys2Proof.Machine

variable {s : State} {st : Site} {i : Instr} {mk : Ctx → Act} {gd : Guard} {srcs : List RegId} {d : Nat}

/-! ### What acts on registers send -/

/-- An act that uses no unit, finds no fault and has a destination sends its results. -/
theorem sends_of_act {a : Act} (hx : exec i s = issue s st i mk) (hm : mk (siteCtx s st) = a) (hu : a.use = .free) (hf : a.faults = [])
    (hd : a.dsts ≠ []) (h : AtIssue s st i (a.srcs ++ a.dsts) .free) : Sends i s st a.lat a.dsts a.writes := by
  subst hm
  exact sends_of hx h rfl hu (faultOf_of_no_faults hf) hd

/-- An act on a lane register sends a value to each lane under the guard. -/
theorem sends_of_laneAct {f f' : Nat → Word} (hx : exec i s = issue s st i mk) (hm : mk (siteCtx s st) = laneAct (siteCtx s st) gd srcs d f)
    (hf : ∀ l, f l = f' l) (h : AtIssue s st i (guardSrc gd ++ srcs ++ [.v d]) .free) :
    Sends i s st 8 [.v d] ((lanesOf s st gd).map fun l => (.lane d l, f' l)) := by
  obtain rfl := funext hf
  exact sends_of_act hx hm rfl rfl (List.cons_ne_nil _ _) h

/-- An act on a uniform register sends its value. -/
theorem sends_of_uniAct {v v' : Word} (hx : exec i s = issue s st i mk) (hm : mk (siteCtx s st) = uniAct srcs d v) (hv : v = v')
    (h : AtIssue s st i (srcs ++ [.u d]) .free) : Sends i s st 8 [.u d] [(.uni d, v')] := by
  subst hv
  exact sends_of_act hx hm rfl rfl (List.cons_ne_nil _ _) h

/-- An act on a predicate sends a truth value to each lane under the guard (03 R166). -/
theorem sends_of_predAct {lat : Nat} {f f' : Nat → Bool} (hx : exec i s = issue s st i mk)
    (hm : mk (siteCtx s st) = predAct (siteCtx s st) gd srcs lat d f) (hf : ∀ l, f l = f' l)
    (h : AtIssue s st i (guardSrc gd ++ srcs ++ [.p d]) .free) :
    Sends i s st lat [.p d] ((lanesOf s st gd).map fun l => (.pred d l, w32 (b2n (f' l)))) := by
  obtain rfl := funext hf
  exact sends_of_act hx hm rfl rfl (List.cons_ne_nil _ _) h

/-! ### The integer results -/

theorem laneBVal_eq_bVal (b : LaneB) (l : Nat) : laneBVal (siteCtx s st) b l = bVal s st b l := by cases b <;> rfl

theorem uniBVal_eq_ubVal (b : UniB) : uniBVal (siteCtx s st) b = ubVal s st b := by cases b <;> rfl

/-- The lesser of two signed words is the first unless the second is less. -/
theorem aluSmin_eq (a b : Word) : aluSmin a b = if a.toInt ≤ b.toInt then a else b := by
  simp only [aluSmin, BitVec.slt, decide_eq_true_eq]
  split <;> split
  · rfl
  · omega
  · exact BitVec.eq_of_toInt_eq (by omega)
  · rfl

theorem aluSmax_eq (a b : Word) : aluSmax a b = if a.toInt ≤ b.toInt then b else a := by
  simp only [aluSmax, BitVec.slt, decide_eq_true_eq]
  split <;> split
  · rfl
  · omega
  · exact BitVec.eq_of_toInt_eq (by omega)
  · rfl

theorem aluUmin_eq (a b : Word) : aluUmin a b = if a.toNat ≤ b.toNat then a else b := by
  simp only [aluUmin, BitVec.ult, decide_eq_true_eq]
  split <;> split
  · rfl
  · omega
  · exact BitVec.eq_of_toNat_eq (by omega)
  · rfl

theorem aluUmax_eq (a b : Word) : aluUmax a b = if a.toNat ≤ b.toNat then b else a := by
  simp only [aluUmax, BitVec.ult, decide_eq_true_eq]
  split <;> split
  · rfl
  · omega
  · exact BitVec.eq_of_toNat_eq (by omega)
  · rfl

theorem popN_eq_countP (n v : Nat) : popN n v = (List.range n).countP fun i => v.testBit i := by
  induction n generalizing v with
  | zero => rfl
  | succ n ih =>
    rw [popN, ih, List.range_succ_eq_map, List.countP_cons, List.countP_map, Nat.add_comm]
    congr 1
    · exact List.countP_congr fun i _ => by simp [Nat.testBit_succ]
    · rcases Nat.mod_two_eq_zero_or_one v with h | h <;> simp [Nat.testBit_zero, h]

theorem aluPopc_eq_bitCount (a : Word) : aluPopc a = bitCount a := by rw [aluPopc, bitCount, popN_eq_countP]; rfl

/-- The digits of a word are those below its leading zeros. -/
theorem bitlen_add_clz (a : Word) : bitlen a.toNat + a.clz.toNat = 32 := by
  by_cases h : a = 0
  · subst h; decide
  · have hne : a.toNat ≠ 0 := fun h0 => h (BitVec.eq_of_toNat_eq h0)
    have hlt : a.clz.toNat < 32 := BitVec.lt_def.mp (BitVec.clz_lt_iff_ne_zero.mpr h)
    have hlo := BitVec.two_pow_sub_clz_le_toNat_of_ne_zero (by decide) h
    have hhi := BitVec.toNat_lt_two_pow_sub_clz (x := a)
    have hlog : a.toNat.log2 = 32 - 1 - a.clz.toNat :=
      (Nat.log2_eq_iff hne).mpr ⟨hlo, by rwa [show 32 - 1 - a.clz.toNat + 1 = 32 - a.clz.toNat by omega]⟩
    rw [bitlen, if_neg hne, hlog]
    omega

theorem aluClz_eq_clz (a : Word) : aluClz a = a.clz := by
  have h := bitlen_add_clz a
  rw [aluClz, show 32 - bitlen a.toNat = a.clz.toNat by omega, w32, BitVec.ofNat_toNat, BitVec.setWidth_eq]

/-- Each two-operand integer instruction issues the act of its result. -/
theorem exec_of_mem_aluTable {p : (Site → Alu → Instr) × (Word → Word → Word)} (hp : p ∈ aluTable) (o : Alu) :
    exec (p.1 st o) s = issue s st (p.1 st o) (aluAct p.2 o) := by
  simp only [aluTable, List.mem_cons, List.not_mem_nil, or_false, ← aluSmin_eq, ← aluSmax_eq, ← aluUmin_eq, ← aluUmax_eq] at hp
  rcases hp with rfl | rfl | rfl | rfl | rfl | rfl | rfl | rfl | rfl | rfl | rfl | rfl | rfl | rfl | rfl <;> rfl

/-- Settles O4: every integer instruction is an act on lanes or on a uniform register, whose result is the stated one. -/
theorem integerResults : Obligations.IntegerResults := by
  unfold Obligations.IntegerResults
  refine ⟨fun s st gd d a b p hp => ?_, fun s st d a b p hp => ?_, fun s st gd d a c b q im ud ua => ⟨?_, ?_, ?_, ?_, ?_, ?_⟩⟩
  · exact sends_of_laneAct (exec_of_mem_aluTable hp _) rfl fun l => by rw [laneBVal_eq_bVal]; rfl
  · exact sends_of_uniAct (exec_of_mem_aluTable hp _) rfl (by rw [uniBVal_eq_ubVal]; rfl)
  · exact sends_of_laneAct rfl rfl fun l => by rw [laneBVal_eq_bVal]; rfl
  · exact sends_of_laneAct rfl rfl fun l => by rw [laneBVal_eq_bVal]; rfl
  · exact sends_of_laneAct rfl rfl fun l => aluPopc_eq_bitCount _
  · exact sends_of_uniAct rfl rfl (aluPopc_eq_bitCount _)
  · exact sends_of_laneAct rfl rfl fun l => aluClz_eq_clz _
  · exact sends_of_uniAct rfl rfl (aluClz_eq_clz _)

/-! ### The move and predicate results -/

theorem sregVal_eq_specialVal (code : SReg) (l : Nat) : sregVal (siteCtx s st) code l = specialVal s st code l := by cases code <;> rfl

theorem s2rAct_dsts_ne_nil (gd : Guard) (d : Nat) (code : SReg) (x : Ctx) : (s2rAct gd d code x).dsts ≠ [] := by
  cases code <;> exact List.cons_ne_nil _ _

theorem s2rAct_writes (gd : Guard) (d : Nat) (code : SReg) (x : Ctx) : (s2rAct gd d code x).writes = (maskLanes (x.lanes gd)).flatMap fun l =>
    (.lane d l, (sregVal x code l).1) :: if code == .count then [(.lane (d + 1) l, (sregVal x code l).2)] else [] := by
  unfold s2rAct
  cases code == .count <;> rfl

/-- S2R sends the special register to a register, or COUNT to a register pair, of each lane (03 R161). -/
theorem s2r_sends (d : Fin 256) (code : SReg)
    (h : AtIssue s st (.s2r st gd d code) (guardSrc gd ++ if code == .count then vRun d.val 2 else [.v d.val]) .free) :
    Sends (.s2r st gd d code) s st 8 (if code == .count then vRun d.val 2 else [.v d.val]) ((lanesOf s st gd).flatMap fun l =>
      (.lane d.val l, (specialVal s st code l).1) :: if code == .count then [(.lane (d.val + 1) l, (specialVal s st code l).2)] else []) := by
  have hsend := sends_of_act (mk := s2rAct gd d.val code) rfl rfl rfl rfl (s2rAct_dsts_ne_nil _ _ _ _) h
  rw [s2rAct_writes] at hsend
  simp only [sregVal_eq_specialVal] at hsend
  exact hsend

/-- S2U sends the special register to a uniform register, or COUNT to a pair (03 R161, R163). -/
theorem s2u_sends (d : Fin 64) (code : SReg)
    (h : AtIssue s st (.s2u st d code) (if code == .count then [.u d.val, .u (d.val + 1)] else [.u d.val]) .free) :
    Sends (.s2u st d code) s st 8 (if code == .count then [.u d.val, .u (d.val + 1)] else [.u d.val])
      ((.uni d.val, (specialVal s st code 0).1) :: if code == .count then [(.uni (d.val + 1), (specialVal s st code 0).2)] else []) := by
  have hx : exec (.s2u st d code) s = issue s st (.s2u st d code) _ := rfl
  by_cases hcode : code = .count
  · subst hcode
    exact sends_of_act hx rfl rfl rfl (List.cons_ne_nil _ _) h
  · simp only [beq_eq_false_iff_ne.mpr hcode, Bool.false_eq_true, if_false, ← sregVal_eq_specialVal] at h ⊢
    exact sends_of_act (a := { uniAct [] d.val (sregVal (siteCtx s st) code 0).1 with eff := { vary := sregVaries code } }) hx (if_neg hcode)
      rfl rfl (List.cons_ne_nil _ _) h

theorem cmpInt_eq_cmpHolds (cc : Cmp) (a b : Word) : cmpInt cc a b = cmpHolds cc a b := by
  cases cc with
  | eq => rfl
  | ne => simp [cmpInt, cmpHolds, bne, BEq.beq]
  | lt | le | gt | ge | ltu | leu | gtu | geu => rfl

/-- Fewer registers are ready when more are (02 R87). -/
theorem AtIssue.mono {rs rs' : List RegId} {u : UnitUse} (h : AtIssue s st i rs u) (hrs : rs' ⊆ rs) : AtIssue s st i rs' u := by
  obtain ⟨hdie, hdrain, hslot, hregs, hunit, hecc⟩ := h
  refine ⟨hdie, hdrain, hslot, ?_, hunit, hecc⟩
  simp only [regsReady, List.all_eq_true, Bool.or_eq_true, Bool.not_eq_true', List.any_eq_false, Bool.and_eq_true, List.contains_iff_mem,
    not_and] at hregs ⊢
  exact fun f hf => (hregs f hf).imp_right fun hno r hr ht hm => hno r hr ht (hrs hm)

/-- Settles O5: each instruction is an act on lanes, on uniform registers or on predicates, whose result is the stated one. -/
theorem moveAndPredicateResults : Obligations.MoveAndPredicateResults := by
  unfold Obligations.MoveAndPredicateResults
  refine ⟨fun s st gd d a ud ua imm lane code => ⟨?_, ?_, ?_, ?_, ?_, ?_, ?_⟩, fun s st gd cc fmt e op d pa pb a b lb => ⟨?_, ?_, ?_⟩⟩
  · exact sends_of_laneAct rfl rfl fun l => rfl
  · exact sends_of_laneAct rfl rfl fun l => rfl
  · exact sends_of_uniAct (srcs := []) rfl rfl rfl
  · exact sends_of_laneAct rfl rfl fun l => rfl
  · exact sends_of_uniAct rfl rfl rfl
  · exact s2r_sends d code
  · exact s2u_sends ud code
  · exact sends_of_predAct rfl rfl fun l => by rw [laneBVal_eq_bVal, cmpInt_eq_cmpHolds]; rfl
  · exact sends_of_predAct rfl rfl fun l => by rw [elemVal_eq_elemOf, elemVal_eq_elemOf]
  · intro h
    refine sends_of_predAct (srcs := ([.p pa.val, .p pb.val] : List RegId).filter tracked) rfl rfl (fun l => ?_) (h.mono ?_)
    · cases op <;> rfl
    · exact ((List.filter_sublist.append_left _).append_right _).subset

end Sys2Proof.Machine

/-!
SUPPORT. A `PlanInst` starts and completes (03 R193, 04 R231 to R236): what becomes of their list, and of the groups that wait.
-/
namespace Sys2Proof.Machine

variable {s : State} {n k : Nat} {net : Bool} {cl : Fin 128}

theorem listMod_eq_modify {α : Type} (f : α → α) (xs : List α) (i : Nat) : listMod f xs i = xs.modify i f := by
  induction xs generalizing i with
  | nil => rw [List.modify_nil]; rfl
  | cons x xs ih =>
    cases i with
    | zero => rw [List.modify_zero_cons]; rfl
    | succ i => rw [List.modify_succ_cons, ← ih]; rfl

theorem getElem?_listMod_same {α : Type} {f : α → α} {xs : List α} {i : Nat} : (listMod f xs i)[i]? = xs[i]?.map f := by
  rw [listMod_eq_modify, List.getElem?_modify_eq]
  rfl

theorem getElem?_listMod_other {α : Type} {f : α → α} {xs : List α} {i j : Nat} (h : j ≠ i) : (listMod f xs i)[j]? = xs[j]? := by
  rw [listMod_eq_modify, List.getElem?_modify_ne _ _ h.symm]

/-- The `PlanInst` that an event names is in the list. -/
theorem getElem?_of_instAt {l : Nat} {P : PlanInst → Bool} (h : instAt s l net k P = some n) : ∃ i, s.sched.exec.insts[n]? = some i := by
  obtain ⟨hlt, -⟩ := List.findIdx?_eq_some_iff_getElem.mp h
  exact ⟨_, List.getElem?_eq_getElem hlt⟩

/-! ### The start -/

/-- The access that a start plans counts a read of its `PlanInst` at most. -/
theorem planFirst_insts (s : State) (n : Nat) :
    ∃ f : PlanInst → PlanInst, (∀ i, (f i).started = i.started) ∧ (planFirst s n).sched.exec.insts = listMod f s.sched.exec.insts n := by
  have hkeep : ∃ f : PlanInst → PlanInst, (∀ i, (f i).started = i.started) ∧ s.sched.exec.insts = listMod f s.sched.exec.insts n :=
    ⟨id, fun _ => rfl, by rw [listMod_eq_modify, List.modify_id]⟩
  unfold planFirst
  split
  · next i hi =>
    split
    · next a hroute =>
      split
      · refine ⟨fun i => { i with nRead := i.nRead + 1 }, fun _ => rfl, ?_⟩
        simp only [startUnitMove, hroute]
        rfl
      · exact hkeep
    · exact hkeep
  · exact hkeep

theorem exec_planInstanceStart {eccs : List (Nat × Ecc)} (hrun : s.sched.exec.running = true) (hstop : s.sched.exec.stopped = false)
    (hdrain : s.sched.exec.draining = false) (hdie : dieFrozen s = false)
    (h : instAt s cl.val net k (fun i => !i.started && i.start == s.sched.exec.cyc) = some n) :
    exec (.planInstanceStart cl net k eccs) s = .next (planFirst (modExec s fun e =>
      { e with insts := listMod (fun i => { i with started := true, eccs := eccs }) e.insts n }) n) := by
  show Host.Outcome.next _ = _
  simp only [hrun, hdrain, hdie, h, mayStart, hstop, Bool.not_true, Bool.not_false, Bool.true_or, Bool.or_self, Bool.false_eq_true, if_false]

/-! ### The completion -/

/-- The n-th `PlanInst` is complete at this cycle. -/
def instDone (s : State) (n : Nat) : State :=
  modExec s fun e => { e with insts := listMod (fun i => { i with doneAt := some e.cyc }) e.insts n }

/-- A completion ends its `PlanInst`, and wakes its cluster's groups when it is of the current kernel. -/
def afterCompletion (s : State) (n l : Nat) (net : Bool) (k : Nat) (i : PlanInst) : State :=
  if i.kernel = s.sched.exec.cur.getD 0 then
    match physOf s l with
    | some p => modCl (instDone s n) p (wakePlan net k)
    | none => instDone s n
  else instDone s n

theorem exec_planInstanceComplete {i : PlanInst} (hmove : moving s = true)
    (h : instAt s cl.val net k (fun i => i.started && i.doneAt.isNone && decide (instEnd i ≤ s.sched.exec.cyc)) = some n)
    (hi : s.sched.exec.insts[n]? = some i) :
    exec (.planInstanceComplete cl net k) s = .next (afterCompletion s n cl.val net k i) := by
  have hk : nth s.sched.exec.insts n execPlanInstanceComplete.default_inst = i := by rw [nth, hi]; rfl
  show Host.Outcome.next _ = _
  simp only [hmove, h, hk, Bool.not_true, Bool.false_eq_true, if_false]
  rfl

theorem afterCompletion_sched (l : Nat) (i : PlanInst) : (afterCompletion s n l net k i).sched = (instDone s n).sched := by
  unfold afterCompletion
  (repeat' split) <;> simp

theorem clOf_afterCompletion {l p : Nat} {i : PlanInst} (hcur : s.sched.exec.cur = some i.kernel) (hp : physOf s l = some p) :
    clOf (afterCompletion s n l net k i) p = wakePlan net k (clOf s p) := by
  simp only [afterCompletion, hcur, hp, Option.getD_some, if_true, clOf_modCl]
  rfl

/-- A group that waits for the completion may issue from the next cycle (03 R193). -/
theorem wait_wakePlan {c : Cluster} {g : Nat} (hg : g < c.groups.length) (hw : (grp c g).wait = .plan net k) :
    (grp (wakePlan net k c) g).wait = .til (c.kcyc + 1) := by
  rw [wakePlan, grp_map hg, if_pos hw]

/-- Settles O26: a start marks its `PlanInst` and at most counts a read of it; a completion marks its `PlanInst` and wakes the groups of the
cluster that holds it. -/
theorem planInstancesRun : Obligations.PlanInstancesRun := by
  unfold Obligations.PlanInstancesRun
  refine fun s cl net k n eccs => ⟨fun hrun hstop hdrain hdie h => ?_, fun hmove h => ?_⟩
  · obtain ⟨i, hi⟩ := getElem?_of_instAt h
    obtain ⟨f, hf, hinsts⟩ := planFirst_insts (modExec s fun e =>
      { e with insts := listMod (fun i => { i with started := true, eccs := eccs }) e.insts n }) n
    refine ⟨_, exec_planInstanceStart hrun hstop hdrain hdie h, ⟨f { i with started := true, eccs := eccs }, ?_, hf _⟩, fun m hm => ?_⟩
    · rw [hinsts, getElem?_listMod_same]
      show ((listMod _ s.sched.exec.insts n)[n]?).map f = _
      rw [getElem?_listMod_same, hi]
      rfl
    · rw [hinsts, getElem?_listMod_other hm]
      exact getElem?_listMod_other hm
  · obtain ⟨i, hi⟩ := getElem?_of_instAt h
    refine ⟨_, exec_planInstanceComplete hmove h hi, ⟨{ i with doneAt := some s.sched.exec.cyc }, ?_, rfl⟩, fun j p hj hcur hp g hg hw => ?_⟩
    · rw [afterCompletion_sched]
      show (listMod _ s.sched.exec.insts n)[n]? = _
      rw [getElem?_listMod_same, hi]
      rfl
    · obtain rfl := Option.some.inj (hi.symm.trans hj)
      rw [clOf_afterCompletion hcur hp]
      exact wait_wakePlan hg hw

end Sys2Proof.Machine

/-!
SUPPORT. What a field of a register reads after a write, and what a pseudo-channel's access does (04 R240 to R243): its start, the
return of its data, its refresh window, and the stop for one that is late.
-/
namespace Sys2Proof.Machine

variable {s : State} {off hi lo n : Nat}

/-! ### Bits, fields and counters of registers -/

theorem rbit_eq_getLsbD (w : Word) (n : Nat) : rbit w n = w.getLsbD n := by
  rw [rbit, bitN_eq, BitVec.getLsbD, Nat.testBit_eq_decide_div_mod_eq]

/-- A write of a field changes its bits alone. -/
theorem getLsbD_putFld (w : Word) (v i : Nat) (hi32 : hi < 32) (hle : lo ≤ hi) :
    (putFld w hi lo v).getLsbD i = if lo ≤ i ∧ i ≤ hi then v.testBit (i - lo) else w.getLsbD i := by
  simp only [putFld, maskBits, w32, BitVec.getLsbD_or, BitVec.getLsbD_and, BitVec.getLsbD_not, BitVec.getLsbD_ofNat,
    Nat.testBit_shiftLeft, Nat.testBit_two_pow_sub_one, Nat.testBit_mod_two_pow]
  by_cases h : lo ≤ i ∧ i ≤ hi
  · have hi' : i < 32 := by omega
    have hw : i - lo < hi - lo + 1 := by omega
    simp [h, hi', hw]
  · by_cases hi' : i < 32
    · have hw : ¬(lo ≤ i ∧ i - lo < hi - lo + 1) := by omega
      rw [if_neg h]
      by_cases hlo : lo ≤ i
      · have : ¬ i - lo < hi - lo + 1 := by omega
        simp [hi', this]
      · simp [hi', hlo]
    · rw [if_neg h, BitVec.getLsbD_of_ge w i (by omega)]
      simp [hi']

theorem rfld_putFld_same (w : Word) (v : Nat) (hi32 : hi < 32) (hle : lo ≤ hi) : rfld (putFld w hi lo v) hi lo = v % 2 ^ (hi - lo + 1) := by
  refine Nat.eq_of_testBit_eq fun i => ?_
  have hbit := getLsbD_putFld w v (lo + i) hi32 hle
  rw [BitVec.getLsbD] at hbit
  rw [rfld, fld, Nat.testBit_mod_two_pow, Nat.testBit_mod_two_pow, Nat.testBit_shiftRight, hbit]
  by_cases h : i < hi - lo + 1
  · rw [if_pos (by omega), Nat.add_sub_cancel_left]
  · simp [h]

theorem rbit_putFld_other (w : Word) (v : Nat) (hi32 : hi < 32) (hle : lo ≤ hi) (hn : n < lo ∨ hi < n) :
    rbit (putFld w hi lo v) n = rbit w n := by
  rw [rbit_eq_getLsbD, rbit_eq_getLsbD, getLsbD_putFld w v n hi32 hle, if_neg (by omega)]

theorem rdF_wrF_same (s : State) (v : Nat) (hi32 : hi < 32) (hle : lo ≤ hi) : rdF (wrF s off hi lo v) off hi lo = v % 2 ^ (hi - lo + 1) := by
  rw [rdF, wrF, rdReg_wrReg, if_pos rfl, rfld_putFld_same _ _ hi32 hle]

theorem rdB_wrF_other (s : State) (v : Nat) (hi32 : hi < 32) (hle : lo ≤ hi) (hn : n < lo ∨ hi < n) :
    rdB (wrF s off hi lo v) off n = rdB s off n := by
  rw [rdB, wrF, rdReg_wrReg, if_pos rfl, rbit_putFld_other _ _ hi32 hle hn, rdB]

theorem rdB_wrB_same (s : State) (b : Bool) (hn : n < 32) : rdB (wrB s off n b) off n = b := by
  rw [rdB, wrB, rdReg_wrReg, if_pos rfl, rbit_eq_getLsbD, putBit, getLsbD_putFld _ _ _ hn le_rfl, if_pos ⟨le_rfl, le_rfl⟩, Nat.sub_self]
  cases b <;> rfl

/-- A status bit that an event sets is set (17 R751). -/
theorem rdB_setEvt {page bits : Nat} (hn : n < 32) (h : bits.testBit n = true) : rdB (setEvt s page bits) (page + 0x14) n = true := by
  rw [rdB, setEvt, rdReg_wrReg, if_pos rfl, rbit_eq_getLsbD, BitVec.getLsbD_or, w32, BitVec.getLsbD_ofNat]
  simp [hn, h]

theorem rdN_wrN_same (s : State) (v : Nat) : rdN (wrN s off v) off = v % 2 ^ 32 := by
  rw [rdN, wrN, rdReg_wrReg, if_pos rfl, w32, BitVec.toNat_ofNat]

theorem rdN_cntReg_same (s : State) : rdN (cntReg s off n) off = min (rdN s off + n) (2 ^ 32 - 1) := by
  rw [cntReg, rdN_wrN_same, satAdd]
  exact Nat.mod_eq_of_lt (by omega)

theorem rdReg_cntReg {o : Nat} (h : o ≠ off) : rdReg (cntReg s off n) o = rdReg s o := rdReg_wrN h

theorem rdN_congr {t : State} {o : Nat} (h : rdReg t o = rdReg s o) : rdN t o = rdN s o := congrArg BitVec.toNat h

theorem rdB_congr {t : State} {o : Nat} (h : rdReg t o = rdReg s o) : rdB t o n = rdB s o n := congrArg (rbit · n) h

theorem rdF_congr {t : State} {o : Nat} (h : rdReg t o = rdReg s o) : rdF t o hi lo = rdF s o hi lo := congrArg (rfld · hi lo) h

/-! ### The start of an access (04 R240 to R243) -/

variable {h : Fin 6} {pc : Fin 32} {x : HbmAcc}

theorem dropAcc_regs (a : HbmAcc) : (dropAcc s a).regs = s.regs := setChan_regs _ _ _

theorem dropAcc_hbm (a : HbmAcc) : (dropAcc s a).hbm = s.hbm := setChan_hbm _ _ _

/-- A write that is no step's own taints what it meets, and changes neither registers nor memory. -/
theorem foreignWrite_keeps {β : Type} (g : State → β) (hg : ∀ t x, g (putGener t x) = g t) (hd : ∀ t x, g (putDraw t x) = g t) (a m : Nat) :
    g (foreignWrite s a m) = g s := by
  have hctx : ∀ t c f, g (modCtx t c f) = g t := fun t c f => hg t _
  have hliv : ∀ (y : Nat × Context) (u : State),
      g (if pagesMeet s y.2 a m then modCtx u y.1 fun z => { z with taint := s.draw + 1 } else u) = g u := fun y u => by
    split
    · exact hctx _ _ _
    · rfl
  unfold foreignWrite
  dsimp only
  rw [hd, each_keeps g _ hliv]
  split
  · split
    · exact hg _ _
    · rfl
  · rfl

/-- The state after the start of an access: HBC.UNITS counts it, a write is done, a read's data are taken (04 R241, R243). -/
def accStarted (s : State) (h : Fin 6) (pc : Fin 32) (x : HbmAcc) : State :=
  let key := chanKey h.val pc.val
  let c := chanOf s key
  let s1 := cntReg s (onPage Reg.hbcUnits h.val) 1
  match x.wdata with
  | some bs =>
    let t := cntReg (hbmWrite (dropAcc (setChan s1 key { c with freeAt := s.count + 4 }) x) x.addr bs) Reg.nocUnits 1
    if s.sched.exec.kind = .runk then foreignWrite t x.addr 64 else t
  | none => setChan s1 key { c with freeAt := s.count + 4, q := markStarted s.count (some (memRange s.hbm x.addr 64)) c.q }

theorem exec_hbmAccessStart (hmove : moving s = true) (hnext : nextAcc (chanOf s (chanKey h.val pc.val)) = some x)
    (hdue : x.planned ≤ s.sched.exec.cyc) (hfree : (chanOf s (chanKey h.val pc.val)).freeAt ≤ s.count)
    (hwin : refreshFree s.count pc.val = true) : exec (.hbmAccessStart h pc) s = .next (accStarted s h pc x) := by
  show Host.Outcome.next _ = _
  simp only [hnext, hmove, hwin, Nat.not_lt.mpr hdue, Nat.not_lt.mpr hfree, Bool.not_true, decide_false, Bool.or_self, Bool.false_eq_true,
    if_false]
  rfl

theorem exec_hbmAccessStart_frozen (hdie : dieFrozen s = true) : exec (.hbmAccessStart h pc) s = .next s := by
  have hmove : moving s = false := by rw [moving, hdie]; rfl
  show Host.Outcome.next _ = _
  simp only [hmove, Bool.not_false, Bool.true_or, if_true]
  split <;> rfl

theorem accStarted_read (hx : x.wdata = none) :
    accStarted s h pc x = setChan (cntReg s (onPage Reg.hbcUnits h.val) 1) (chanKey h.val pc.val)
      { chanOf s (chanKey h.val pc.val) with
        freeAt := s.count + 4
        q := markStarted s.count (some (memRange s.hbm x.addr 64)) (chanOf s (chanKey h.val pc.val)).q } := by
  simp only [accStarted, hx]

/-- A write's start keeps what its stores, its counts and its taints keep. -/
theorem accStarted_write_keeps {β : Type} (g : State → β) (hg : ∀ t x, g (putGener t x) = g t) (hd : ∀ t x, g (putDraw t x) = g t)
    {bs : List Byte} (hx : x.wdata = some bs) : g (accStarted s h pc x)
      = g (cntReg (hbmWrite (dropAcc (setChan (cntReg s (onPage Reg.hbcUnits h.val) 1) (chanKey h.val pc.val)
          { chanOf s (chanKey h.val pc.val) with freeAt := s.count + 4 }) x) x.addr bs) Reg.nocUnits 1) := by
  simp only [accStarted, hx]
  split
  · exact foreignWrite_keeps g hg hd _ _
  · rfl

theorem rdReg_accStarted : rdReg (accStarted s h pc x) (onPage Reg.hbcUnits h.val)
    = rdReg (cntReg s (onPage Reg.hbcUnits h.val) 1) (onPage Reg.hbcUnits h.val) := by
  cases hx : x.wdata with
  | none => rw [accStarted_read hx]; exact rdReg_congr (setChan_regs _ _ _) _
  | some bs =>
    rw [accStarted_write_keeps (rdReg · _) (fun t y => rdReg_congr (putGener_regs t y) _) (fun t y => rdReg_congr (putDraw_regs t y) _) hx,
      rdReg_cntReg (by simp only [onPage, Reg.hbcUnits, Reg.nocUnits]; omega)]
    refine rdReg_congr ?_ _
    rw [hbmWrite, putHbm_regs, dropAcc_regs, setChan_regs]

theorem accStarted_write_hbm {bs : List Byte} (hx : x.wdata = some bs) : (accStarted s h pc x).hbm = memStore s.hbm x.addr bs := by
  rw [accStarted_write_keeps State.hbm putGener_hbm putDraw_hbm hx, cntReg_hbm, hbmWrite, putHbm_hbm, dropAcc_hbm, setChan_hbm, cntReg_hbm]

/-! ### The return of a read (04 R243) -/

/-- The outcome of a read is counted, and changes neither pseudo-channels nor memory. -/
theorem hbmEcc_keeps {β : Type} (g : State → β) (hm : ∀ t f, g (modExec t f) = g t) (hc : ∀ t p m, g (cntErr t p m) = g t) (k a : Nat) (e : Ecc) :
    g (hbmEcc s k a e) = g s := by
  cases e with
  | clean => rfl
  | corrected => exact (hm _ _).trans (hc _ _ _)
  | uncorrectable m =>
    simp only [hbmEcc]
    split
    · exact (hm _ _).trans ((hm _ _).trans (hm _ _))
    · exact (hm _ _).trans (hm _ _)

theorem chanOf_congr {t : State} (hc : t.sched.chans = s.sched.chans) (k : Nat) : chanOf t k = chanOf s k := by rw [chanOf, chanOf, hc]

theorem chanOf_hbmEcc (k a : Nat) (e : Ecc) (j : Nat) : chanOf (hbmEcc s k a e) j = chanOf s j :=
  hbmEcc_keeps (chanOf · j) (fun _ _ => rfl) (fun t p m => chanOf_congr (congrArg Sched.chans (cntErr_sched t p m)) j) k a e

/-- A read whose data have returned: as they were taken, or with the bits that its outcome flips (09 R455, R458). -/
def returned (ecc : Ecc) (x : HbmAcc) : HbmAcc := { x with back := true, data := x.data.map (flipBytes (eccMask ecc)) }

/-- The oldest started read that is due returns. -/
theorem exec_hbmReadReturn {n : Nat} {ecc : Ecc}
    (hn : ((chanOf s (chanKey h.val pc.val)).q.findIdx? fun x => x.wdata.isNone && !x.back
      && (match x.startedAt with | some t => decide (t + 120 ≤ s.count) | none => false)) = some n)
    (hx : (chanOf s (chanKey h.val pc.val)).q[n]? = some x) :
    exec (.hbmReadReturn h pc ecc) s = .next (hbmEcc (setChan s (chanKey h.val pc.val)
      { chanOf s (chanKey h.val pc.val) with q := listMod (returned ecc) (chanOf s (chanKey h.val pc.val)).q n }) h.val x.addr ecc) := by
  show execHbmReadReturn h pc ecc s = _
  unfold execHbmReadReturn
  dsimp only
  split
  · next h0 => exact absurd (h0.symm.trans hn) nofun
  · next m hm =>
    obtain rfl := Option.some.inj (hm.symm.trans hn)
    rw [hx]
    rfl

/-! ### The refresh window (04 R242) -/

theorem exec_hbmRefreshWindow (hw : s.count % 4096 / 128 = pc.val) : exec (.hbmRefreshWindow h pc) s = .next (setChan s (chanKey h.val pc.val)
    { chanOf s (chanKey h.val pc.val) with window := some (s.count / 4096) }) := by
  show Host.Outcome.next _ = _
  simp only [hw, if_true]

/-! ### A late read (04 R243, R255, R258) -/

/-- A stop changes SCH's own registers alone (04 R255). -/
theorem rdReg_stopExec {cause cl o : Nat} (h0 : o ≠ Reg.schStop) (h1 : o ≠ Reg.schStopCyc) (h2 : o ≠ Reg.pageSch + 0x14) :
    rdReg (stopExec s cause cl) o = rdReg s o := by
  unfold stopExec
  dsimp only
  split
  · rw [rdReg_setEvt h2, rdReg_wrN h1, rdReg_wrN h0]
    rfl
  · rfl

theorem rdN_schStopCyc_stopExec {cause cl : Nat} (hrun : s.sched.exec.running = true) (hstop : s.sched.exec.stopped = false) :
    rdN (stopExec s cause cl) Reg.schStopCyc = s.sched.exec.cyc % 2 ^ 32 := by
  have hgo : (s.sched.exec.running && !s.sched.exec.stopped) = true := by rw [hrun, hstop]; rfl
  rw [stopExec, if_pos hgo, rdN_congr (rdReg_setEvt (by decide)), rdN_wrN_same]

/-- HBC.LATE and HBC.LATE_CYC with the first late read recorded (04 R258). -/
def lateNoted (s : State) (h : Fin 6) (pc : Fin 32) (x : HbmAcc) : State :=
  if rdB s (onPage Reg.hbcLate h.val) 5 then s
  else wrN (wrF (wrB s (onPage Reg.hbcLate h.val) 5 true) (onPage Reg.hbcLate h.val) 4 0 pc.val) (onPage Reg.hbcLateCyc h.val) x.planned

theorem onPage_hbcLate_ne (k : Nat) : onPage Reg.hbcLate k ≠ onPage Reg.hbcLateCyc k := by simp only [onPage, Reg.hbcLate, Reg.hbcLateCyc]; omega

theorem rdB_lateNoted : rdB (lateNoted s h pc x) (onPage Reg.hbcLate h.val) 5 = true := by
  unfold lateNoted
  split
  · assumption
  · rw [rdB_congr (rdReg_wrN (onPage_hbcLate_ne _)), rdB_wrF_other _ _ (by decide) (by decide) (by decide), rdB_wrB_same _ _ (by decide)]

theorem lateNoted_of_first (hfirst : rdB s (onPage Reg.hbcLate h.val) 5 = false) : rdF (lateNoted s h pc x) (onPage Reg.hbcLate h.val) 4 0 = pc.val
    ∧ rdN (lateNoted s h pc x) (onPage Reg.hbcLateCyc h.val) = x.planned % 2 ^ 32 := by
  simp only [lateNoted, hfirst, Bool.false_eq_true, if_false]
  refine ⟨?_, rdN_wrN_same _ _⟩
  rw [rdF_congr (rdReg_wrN (onPage_hbcLate_ne _)), rdF_wrF_same _ _ (by decide) (by decide)]
  exact Nat.mod_eq_of_lt pc.isLt

theorem lateNoted_sched : (lateNoted s h pc x).sched = s.sched := by
  unfold lateNoted
  split <;> simp

/-- A late read is noted, and the execution stops with cause 3. -/
def lateStopped (s : State) (h : Fin 6) (pc : Fin 32) (x : HbmAcc) : State :=
  stopExec (setEvt (lateNoted s h pc x) (onPage Reg.pageHbc h.val) 1) 3 0

theorem exec_hbmLate (hmove : moving s = true) (hrun : s.sched.exec.running = true) (hstop : s.sched.exec.stopped = false)
    (hlate : ((chanOf s (chanKey h.val pc.val)).q.find? fun x => x.wdata.isNone && !x.back && decide (x.planned + 256 ≤ s.sched.exec.cyc)) = some x) :
    exec (.hbmLate h pc) s = .next (lateStopped s h pc x) := by
  show Host.Outcome.next _ = _
  simp only [hmove, hrun, hstop, hlate, Bool.not_true, Bool.or_self, Bool.false_eq_true, if_false]
  rfl

/-- The stop leaves HBC's registers as they were noted. -/
theorem rdReg_lateStopped {o : Nat} (ho : o = onPage Reg.hbcLate h.val ∨ o = onPage Reg.hbcLateCyc h.val) :
    rdReg (lateStopped s h pc x) o = rdReg (lateNoted s h pc x) o := by
  simp only [onPage, Reg.hbcLate, Reg.hbcLateCyc] at ho
  rw [lateStopped, rdReg_stopExec, rdReg_setEvt]
  · simp only [onPage, Reg.pageHbc]; omega
  · simp only [Reg.schStop]; omega
  · simp only [Reg.schStopCyc]; omega
  · simp only [Reg.pageSch]; omega

/-- Settles O27: an access starts, returns and is refreshed in its own pseudo-channel; a late read is noted once and stops the execution. -/
theorem hbmAccessesRun : Obligations.HbmAccessesRun := by
  unfold Obligations.HbmAccessesRun
  constructor
  · intro s h pc x key c
    refine ⟨fun hmove hnext hdue hfree hwin => ?_, exec_hbmAccessStart_frozen, fun n hn hx ecc => ?_, fun hw => ?_⟩
    · refine ⟨_, exec_hbmAccessStart hmove hnext hdue hfree hwin, (rdN_congr rdReg_accStarted).trans (rdN_cntReg_same s), fun hx => ?_,
        fun bs hx => accStarted_write_hbm hx⟩
      rw [accStarted_read hx]
      exact ⟨by rw [chanOf_setChan, if_pos rfl], by rw [setChan_hbm, cntReg_hbm]⟩
    · refine ⟨_, exec_hbmReadReturn hn hx, ?_, ?_⟩
      · rw [chanOf_hbmEcc, chanOf_setChan, if_pos rfl]
        exact getElem?_listMod_same.trans (by rw [hx]; rfl)
      · exact (hbmEcc_keeps State.hbm modExec_hbm cntErr_hbm _ _ _).trans (setChan_hbm _ _ _)
    · refine ⟨_, exec_hbmRefreshWindow hw, ?_⟩
      rw [chanOf_setChan, if_pos rfl]
      exact ⟨rfl, rfl⟩
  · intro s h pc x e hmove hrun hstop hlate
    have hexec : (setEvt (lateNoted s h pc x) (onPage Reg.pageHbc h.val) 1).sched.exec = e := by rw [setEvt_sched, lateNoted_sched]
    obtain ⟨he, hreg⟩ := stopExec_of_running (s := setEvt (lateNoted s h pc x) (onPage Reg.pageHbc h.val) 1) (cause := 3) (cl := 0)
      (hexec ▸ hrun) (hexec ▸ hstop)
    refine ⟨_, exec_hbmLate hmove hrun hstop hlate, ?_⟩
    rw [lateStopped, he]
    refine ⟨rfl, rfl, rfl, ?_, ?_, ?_, fun hfirst => ⟨?_, ?_⟩⟩
    · rw [rdF, hreg, rfld, fld, w32, BitVec.toNat_ofNat, Nat.shiftRight_eq_div_pow]
      omega
    · rw [rdN_schStopCyc_stopExec (hexec ▸ hrun) (hexec ▸ hstop), hexec]
    · exact (rdB_congr (rdReg_lateStopped (.inl rfl))).trans rdB_lateNoted
    · exact (rdF_congr (rdReg_lateStopped (.inl rfl))).trans (lateNoted_of_first hfirst).1
    · exact (rdN_congr (rdReg_lateStopped (.inr rfl))).trans (lateNoted_of_first hfirst).2

end Sys2Proof.Machine

/-!
SUPPORT. The launch of a due step (04 R207, R208).
-/
namespace Sys2Proof.Machine

variable {s : State} {r : StepRec} {l : Nat} {im : Image}

theorem exec_stepLaunch (hstep : s.sched.nextStep = some r) (hlaunch : s.sched.nextLaunch = some l) (him : s.gener.image = some im)
    (hdue : l ≤ s.count) (hrun : s.sched.exec.running = false) (hdone : s.sched.done = none) (hdbg : s.dbgp.noLaunch = false)
    (hrec : s.sched.recovered = true) (hlate : s.sched.recordLate = false) (hallow : stepAllowed s = true)
    (hready : s.sched.launchReady = true) (hsave : saveOver s = true) (hfit : pointFits s (stepLean im r) = true) :
    exec .stepLaunch s = .next (launchStep s im r) := by
  show execStepLaunch s = _
  unfold execStepLaunch
  simp only [hstep, hlaunch, him, Nat.not_lt.mpr hdue, hrun, hdone, hdbg, hrec, hlate, hallow, hready, hsave, hfit, decide_false,
    Option.isSome_none, Bool.or_self, Bool.not_true, Bool.and_self, Bool.false_eq_true, if_false, if_true]

/-- Settles O24: every check of the launch passes, and what it starts is the execution that R208 describes. -/
theorem stepLaunches : Obligations.StepLaunches := by
  unfold Obligations.StepLaunches
  intro s r l im hstep hlaunch him hdue hrun hdone hdbg hrec hlate hallow hready hsave hfit
  refine ⟨_, exec_stepLaunch hstep hlaunch him hdue hrun hdone hdbg hrec hlate hallow hready hsave hfit, rfl, rfl, rfl, rfl, rfl, rfl, rfl,
    rfl, rfl, rfl, rfl, rfl, rfl, rfl, rfl, ?_⟩
  rw [launchStep, wrN, rdReg_wrReg, if_pos rfl]

end Sys2Proof.Machine

/-!
SUPPORT. The end of an execution (04 R208, R210, 05 R289, 15 R684) and of a lean sample's check (05 R283 to R288): what becomes of the
execution, of the clusters and of the registers.
-/
namespace Sys2Proof.Machine

variable {s t : State} {o : Nat}

/-! ### Events, seen from registers outside the queues' pages -/

/-- A record that is queued changes nothing below the queues' pages (13 R623, R639). -/
theorem rdReg_pushRec_low (ho : o < 0x11000) {q : Nat} {completion : Bool} {r : EvRec} : rdReg (pushRec s q completion r) o = rdReg s o := by
  unfold pushRec
  dsimp only
  split
  · rw [rdReg_setEvt (by simp only [onPage, Reg.pageEvq]; omega), rdReg_cntReg (by simp only [onPage, Reg.evqLost]; omega)]
    exact rdReg_congr (setEvq_regs _ _ _) o
  · rw [showEvq, rdReg_wrF (by simp only [onPage, Reg.evqStatus]; omega), rdReg_wrF (by simp only [onPage, Reg.evqStatus]; omega)]
    exact rdReg_congr (setEvq_regs _ _ _) o

/-- An event changes nothing below the queues' pages but its own page (13 R621). -/
theorem rdReg_raiseEv_low (ho : o < 0x11000) {page bits type inst code w1 : Nat} {dst : Dest} {d : List Nat} (hp : o ≠ page + 0x14) :
    rdReg (raiseEv s page bits dst type inst code w1 d) o = rdReg s o := by
  have h1 : rdReg (if bits = 0 then s else setEvt s page bits) o = rdReg s o := by
    split
    · rfl
    · exact rdReg_setEvt hp
  unfold raiseEv
  dsimp only
  split
  · exact h1
  · cases dst with
    | ring k => exact (rdReg_pushRec_low ho).trans h1
    | block =>
      dsimp only
      split
      · exact (rdReg_pushRec_low ho).trans h1
      · exact h1

/-- A register that lies neither in the queues' pages nor in those of the clocks and the sampler. -/
def Apart (o : Nat) : Prop := (o < 0x11000 ∨ 0x20000 ≤ o) ∧ (o < 0x1000 ∨ 0x2000 ≤ o) ∧ (o < 0x180000 ∨ 0x181000 ≤ o)

theorem Apart.rdReg_raiseEv (ho : Apart o) {page bits type inst code w1 : Nat} {d : List Nat} (hp : o ≠ page + 0x14) :
    rdReg (raiseEv s page bits .block type inst code w1 d) o = rdReg s o := by
  rcases ho.1 with h | h
  · exact rdReg_raiseEv_low h hp
  · exact rdReg_raiseEv_block h hp

/-! ### The check of a sample (05 R283 to R288) -/

/-- The differences of a sample are summed. -/
def sampleSummed (s : State) (x : Sample) : State :=
  cntReg (modExec s fun e => { e with sumAll := e.sumAll + sumN x.deltas, nAll := e.nAll + 1 }) Reg.lspExecSum (sumN x.deltas)

/-- Differences out of bounds are counted, and force the nominal point (05 R287, R288). -/
def sampleConfined (s : State) (c : Cluster) (bad : Nat) : State :=
  let s2 := modLed (cntReg s Reg.lspConfine bad) fun l => { l with leanDrift := led16 l.leanDrift bad }
  let s3 := if rdB s2 (Reg.pageLsp + 0x14) 1 then s2
    else wrN s2 Reg.lspFail (c.logical.getD 0 % 256 + c.kernel % 2 ^ 16 * 2 ^ 16)
  setEvt (wrB (noteHw (cntErr s3 Reg.pageLsp bad) Reg.lspStatus 2) Reg.lspStatus 1 true) Reg.pageLsp 6

theorem checkSample_eq (s : State) (p : Nat) (x : Sample) : checkSample s p x
    = if (x.deltas.countP fun d => decide (224 < d)) = 0 then sampleSummed s x
      else sampleConfined (sampleSummed s x) (clOf s p) (x.deltas.countP fun d => decide (224 < d)) := rfl

theorem sampleSummed_clusters (x : Sample) : (sampleSummed s x).clusters = s.clusters := by rw [sampleSummed, cntReg_clusters, modExec_clusters]

theorem sampleSummed_exec (x : Sample) : (sampleSummed s x).sched.exec
    = { s.sched.exec with sumAll := s.sched.exec.sumAll + sumN x.deltas, nAll := s.sched.exec.nAll + 1 } := by
  rw [sampleSummed, cntReg_sched]
  rfl

theorem rdReg_sampleSummed (x : Sample) (h : o ≠ Reg.lspExecSum) : rdReg (sampleSummed s x) o = rdReg s o := rdReg_cntReg h

theorem sampleConfined_clusters (c : Cluster) (bad : Nat) : (sampleConfined s c bad).clusters = s.clusters := by
  unfold sampleConfined
  dsimp only
  split <;> simp

theorem sampleConfined_sched (c : Cluster) (bad : Nat) : (sampleConfined s c bad).sched
    = (modLed s fun l => { l with leanDrift := led16 l.leanDrift bad }).sched := by
  have hled : (modLed (cntReg s Reg.lspConfine bad) fun l => { l with leanDrift := led16 l.leanDrift bad }).sched
      = (modLed s fun l => { l with leanDrift := led16 l.leanDrift bad }).sched := rfl
  unfold sampleConfined
  dsimp only
  split <;> simp [hled]

/-- The registers that a sample out of bounds leaves as its counter made them. -/
theorem rdReg_sampleConfined (c : Cluster) (bad : Nat) (h1 : o ≠ Reg.lspFail) (h2 : o ≠ Reg.lspStatus) (h3 : o ≠ Reg.pageLsp + 0x1C)
    (h4 : o ≠ Reg.pageLsp + 0x14) : rdReg (sampleConfined s c bad) o = rdReg (cntReg s Reg.lspConfine bad) o := by
  unfold sampleConfined
  dsimp only
  rw [rdReg_setEvt h4, rdReg_wrB h2, rdReg_congr (noteHw_regs _ _ _), cntErr, rdReg_cntReg h3]
  split
  · rfl
  · rw [rdReg_wrN h1]
    rfl

theorem rdB_sampleConfined (c : Cluster) (bad : Nat) : rdB (sampleConfined s c bad) Reg.lspStatus 1 = true := by
  unfold sampleConfined
  dsimp only
  rw [rdB_congr (rdReg_setEvt (by decide)), rdB_wrB_same _ _ (by decide)]

theorem checkSample_clusters (p : Nat) (x : Sample) : (checkSample s p x).clusters = s.clusters := by
  rw [checkSample_eq]
  split
  · exact sampleSummed_clusters x
  · rw [sampleConfined_clusters, sampleSummed_clusters]

/-- What the checks of samples leave as it is: a register apart from the sampler's page, and in the execution its step and held cycle. -/
def unsampled (o : Nat) (s : State) := (rdReg s o, s.sched.exec.led.step, s.sched.exec.heldCyc)

theorem unsampled_checkSample (ho : Apart o) (p : Nat) (x : Sample) : unsampled o (checkSample s p x) = unsampled o s := by
  obtain ⟨-, -, ho⟩ := ho
  have hsum : unsampled o (sampleSummed s x) = unsampled o s := by
    rw [unsampled, rdReg_sampleSummed x (by simp only [Reg.lspExecSum]; omega), sampleSummed_exec]
    rfl
  rw [checkSample_eq]
  split
  · exact hsum
  · rw [← hsum, unsampled, sampleConfined_sched, rdReg_sampleConfined, rdReg_cntReg]
    · rfl
    · simp only [Reg.lspConfine]; omega
    · simp only [Reg.lspFail]; omega
    · simp only [Reg.lspStatus]; omega
    · simp only [Reg.pageLsp]; omega
    · simp only [Reg.pageLsp]; omega

theorem unsampled_drainSamples (ho : Apart o) : unsampled o (drainSamples s) = unsampled o s := by
  refine each_keeps (unsampled o) _ (fun p t => ?_) _ _
  rw [each_keeps (unsampled o) _ fun x u => unsampled_checkSample ho p x]
  exact congrArg₂ Prod.mk (rdReg_congr (modCl_regs _ _ _) o) (by rw [modCl_sched])

theorem rdReg_drainSamples (ho : Apart o) : rdReg (drainSamples s) o = rdReg s o :=
  (Prod.mk.inj (unsampled_drainSamples (s := s) ho)).1

/-- A register that the sampler leaves alone. -/
theorem apart_zero : Apart 0 := by simp [Apart]

theorem step_drainSamples : (drainSamples s).sched.exec.led.step = s.sched.exec.led.step :=
  (Prod.mk.inj (Prod.mk.inj (unsampled_drainSamples (s := s) apart_zero)).2).1

/-! ### The end common to every execution -/

@[simp] theorem lateOver_clusters : (lateOver s).clusters = s.clusters := by unfold lateOver; split <;> simp
@[simp] theorem lateOver_sched : (lateOver s).sched = s.sched := by unfold lateOver; split <;> simp
@[simp] theorem selectPoint_clusters (b : Bool) : (selectPoint s b).clusters = s.clusters := by cases b <;> simp [selectPoint]
@[simp] theorem selectPoint_sched (b : Bool) : (selectPoint s b).sched = s.sched := by cases b <;> simp [selectPoint]
@[simp] theorem fixPoint_clusters : (fixPoint s).clusters = s.clusters := by unfold fixPoint; dsimp only; (repeat' split) <;> simp
@[simp] theorem fixPoint_sched : (fixPoint s).sched = s.sched := by unfold fixPoint; dsimp only; (repeat' split) <;> simp
@[simp] theorem driftUpdate_clusters : (driftUpdate s).clusters = s.clusters := by unfold driftUpdate; dsimp only; (repeat' split) <;> simp
@[simp] theorem driftUpdate_sched : (driftUpdate s).sched = s.sched := by unfold driftUpdate; dsimp only; (repeat' split) <;> simp

theorem rdReg_selectPoint (ho : Apart o) (b : Bool) : rdReg (selectPoint s b) o = rdReg s o := by
  have hclk := ho.2.1
  have hlate : rdReg (lateOver s) o = rdReg s o := by
    unfold lateOver
    split
    · rw [ho.rdReg_raiseEv (by simp only [Reg.pageClk]; omega), rdReg_cntReg (by simp only [Reg.clkVmtxLate]; omega)]
      exact rdReg_congr (putPower_regs _ _) o
    · rfl
  unfold selectPoint
  dsimp only
  rw [rdReg_congr (putPower_regs _ _), rdReg_wrB (by simp only [Reg.clkStatus]; omega), rdReg_wrB (by simp only [Reg.clkStatus]; omega)]
  split
  · exact hlate
  · rfl

theorem rdReg_fixPoint (ho : Apart o) : rdReg (fixPoint s) o = rdReg s o := by
  have hen : rdReg (putPower s { s.power with leanEn := rdB s Reg.lspCtl 0 }) o = rdReg s o := rdReg_congr (putPower_regs _ _) o
  unfold fixPoint
  dsimp only
  split
  · rw [rdReg_selectPoint ho, hen]
  · split
    · rw [rdReg_selectPoint ho, hen]
    · exact hen

theorem rdReg_driftUpdate (ho : Apart o) : rdReg (driftUpdate s) o = rdReg s o := by
  have hlsp := ho.2.2
  have hdrift : ∀ d n, rdReg (wrF (wrN (noteHw s Reg.lspDrift (BitVec.allOnes 32)) Reg.lspDrift d) Reg.lspSeq 15 0 n) o = rdReg s o := by
    intro d n
    rw [rdReg_wrF (by simp only [Reg.lspSeq]; omega), rdReg_wrN (by simp only [Reg.lspDrift]; omega)]
    exact rdReg_congr (noteHw_regs _ _ _) o
  unfold driftUpdate
  dsimp only
  split
  · rfl
  · split
    · split
      · rw [rdReg_setEvt (by simp only [Reg.pageLsp]; omega), rdReg_wrB (by simp only [Reg.lspStatus]; omega),
          rdReg_congr (noteHw_regs _ _ _), rdReg_setEvt (by simp only [Reg.pageLsp]; omega), hdrift]
      · rw [rdReg_setEvt (by simp only [Reg.pageLsp]; omega), hdrift]
    · exact hdrift _ _

theorem endExec_exec : (endExec s).sched.exec
    = { (drainSamples s).sched.exec with running := false, ended := true, draining := false, spillOn := false } := by
  simp only [endExec, fixPoint_sched, driftUpdate_sched, setEvt_sched, idleClusters_exec]
  rfl

theorem st_endExec {p : Nat} (hp : p < 144) : (clOf (endExec s) p).st ≠ .running := by
  rw [clOf_congr (t := endExec s) (s := idleClusters (modExec (drainSamples s) fun e =>
    { e with running := false, ended := true, draining := false, spillOn := false })) (by simp [endExec])]
  exact st_idleClusters hp

/-- The end of an execution sets SCH.EVTSTA.EXEC_END (04 R255). -/
theorem rdB_endExec : rdB (endExec s) (Reg.pageSch + 0x14) 0 = true := by
  have ho : Apart (Reg.pageSch + 0x14) := by simp only [Apart, Reg.pageSch]; omega
  rw [endExec, rdB_congr (rdReg_fixPoint ho), rdB_congr (rdReg_driftUpdate ho), rdB_setEvt (by decide) (by decide)]

theorem rdReg_endExec (ho : Apart o) (hsch : o ≠ Reg.pageSch + 0x14) : rdReg (endExec s) o = rdReg s o := by
  rw [endExec, rdReg_fixPoint ho, rdReg_driftUpdate ho, rdReg_setEvt hsch, rdReg_idleClusters,
    rdReg_congr (modExec_regs _ _), rdReg_drainSamples ho]

theorem step_endExec : (endExec s).sched.exec.led.step = s.sched.exec.led.step := by
  rw [endExec_exec, ← step_drainSamples (s := s)]

end Sys2Proof.Machine

/-!
SUPPORT. What follows the end of an execution (09 R456, R457, R466, R472 to R475): write-backs, quarantine counts and a remap leave the closed
step, the suspended execution and DBG.RKDIG as they are, and of the execution all but what they count.
-/
namespace Sys2Proof.Machine

variable {s t : State} {o : Nat}

/-- The words of DBG.RKDIG (05 R298). -/
def IsRkDig (o : Nat) : Prop := Reg.dbgRkDigLo ≤ o ∧ o ≤ Reg.dbgRkDigHi

/-- A register, the execution, the closed step and the suspended execution. -/
def outcome (o : Nat) (s : State) := (rdReg s o, s.sched.exec, s.sched.done, s.sched.susp)

theorem outcome_congr (hreg : rdReg t o = rdReg s o) (hs : t.sched = s.sched) : outcome o t = outcome o s := by
  rw [outcome, outcome, hreg, hs]

theorem exec_of_outcome (h : outcome o t = outcome o s) : t.sched.exec = s.sched.exec := (Prod.mk.inj (Prod.mk.inj h).2).1

theorem done_of_outcome (h : outcome o t = outcome o s) : t.sched.done = s.sched.done :=
  (Prod.mk.inj (Prod.mk.inj (Prod.mk.inj h).2).2).1

theorem susp_of_outcome (h : outcome o t = outcome o s) : t.sched.susp = s.sched.susp :=
  (Prod.mk.inj (Prod.mk.inj (Prod.mk.inj h).2).2).2

theorem outcome_modExec_congr (h : outcome o t = outcome o s) (f : Exec → Exec) : outcome o (modExec t f) = outcome o (modExec s f) :=
  congrArg (fun v => (v.1, f v.2.1, v.2.2)) h

theorem outcome_modCl (p : Nat) (f : Cluster → Cluster) : outcome o (modCl s p f) = outcome o s :=
  outcome_congr (rdReg_congr (modCl_regs ..) o) (modCl_sched ..)

theorem outcome_allCl (f : Cluster → Cluster) : outcome o (allCl s f) = outcome o s := allCl_keeps _ (outcome o) _ fun _ _ => outcome_modCl _ _

theorem outcome_putBoot (b : Boot) : outcome o (putBoot s b) = outcome o s := outcome_congr (rdReg_congr (putBoot_regs ..) o) (putBoot_sched ..)

/-- A mapping changes the clusters alone (04 R225). -/
theorem outcome_applyMapping (m : List (Nat × Nat)) : outcome o (applyMapping s m) = outcome o s := by
  rw [applyMapping, each_keeps (outcome o) _ fun x u => outcome_modCl _ _, outcome_allCl]

/-- The partners of the ports are lost, and with them a twin (05 R308, 07 R375). -/
def partnersLost (s : State) : State :=
  let lost := (List.range 8).filter fun k => hsOf s k == 2
  let s1 := each lost (fun k t => setEvt (wrB t (onPage Reg.portStatus k) 19 true) (portPage k) 4) s
  match lost.find? fun k => rdB s (onPage Reg.portStatus k) 20 with
  | some k => twinLost s1 k
  | none => s1

/-- A package whose group loses a partner waits; any other goes on (07 R405). -/
theorem portsLost_cases (s : State) : portsLost s = partnersLost s
    ∨ ∃ pos phase port, portsLost s = enterWait (noteLoss (partnersLost s) (memberPos s) pos) pos phase port true true := by
  unfold portsLost
  dsimp only
  split
  · split
    · exact .inr ⟨_, _, _, rfl⟩
    · exact .inl rfl
  · exact .inl rfl

section RkDig
variable (ho : IsRkDig o)
include ho

theorem outcome_raiseEv {page bits type inst code w1 : Nat} {dst : Dest} {d : List Nat} (hp : o ≠ page + 0x14) :
    outcome o (raiseEv s page bits dst type inst code w1 d) = outcome o s := by
  obtain ⟨-, hhi⟩ := ho
  simp only [Reg.dbgRkDigHi] at hhi
  exact outcome_congr (rdReg_raiseEv_low (by omega) hp) (raiseEv_sched ..)

/-! ### Halts -/

theorem rdReg_showHalt_rkDig {r : HaltRec} : rdReg (showHalt s r) o = rdReg s o := by
  obtain ⟨-, hhi⟩ := ho
  simp only [Reg.dbgRkDigHi] at hhi
  have hwr : ∀ v, rdReg (wrN (wrN (wr64 (wrN s Reg.dbgHaltStatus v) Reg.dbgHaltCountLo r.h) Reg.dbgHaltPc (r.pc % 2 ^ 20)) Reg.dbgHaltAddr r.addr) o
      = rdReg s o := fun v => by
    rw [rdReg_wrN (by simp only [Reg.dbgHaltAddr]; omega), rdReg_wrN (by simp only [Reg.dbgHaltPc]; omega),
      rdReg_wr64 (by simp only [Reg.dbgHaltCountLo]; omega) (by simp only [Reg.dbgHaltCountLo]; omega),
      rdReg_wrN (by simp only [Reg.dbgHaltStatus]; omega)]
  unfold showHalt
  dsimp only
  split
  · rw [rdReg_wrB (by simp only [Reg.dbgHaltCtl]; omega), rdReg_congr (noteHw_regs _ _ _), hwr]
  · exact hwr _

theorem outcome_showHalt {r : HaltRec} : outcome o (showHalt s r) = outcome o s :=
  outcome_congr (rdReg_showHalt_rkDig ho) (showHalt_sched s r)

theorem outcome_takeHalt {r : HaltRec} : outcome o (takeHalt s r) = outcome o s := by
  unfold takeHalt
  dsimp only
  rw [outcome_raiseEv ho (by simp only [IsRkDig, Reg.dbgRkDigLo, Reg.pageDbg] at ho ⊢; omega), outcome_showHalt ho]
  rfl

/-- A halt halts the die, and leaves the outcome (16 R730). -/
theorem outcome_fireHalt {r : HaltRec} : outcome o (fireHalt s r) = outcome o s := by
  have hdbg : ∀ d, outcome o (putDbgp s d) = outcome o s := fun d => rfl
  unfold fireHalt
  split
  · split
    · split
      · rw [outcome_showHalt ho, hdbg]
      · rfl
    · rfl
  · split
    · exact outcome_takeHalt ho
    · split
      · split
        · exact hdbg _
        · rfl
      · exact hdbg _

theorem outcome_stepExecEnd : outcome o (stepExecEnd s) = outcome o s := by
  unfold stepExecEnd
  split
  · rw [outcome_fireHalt ho]
    rfl
  · rfl

/-! ### A remap (09 R474, R475) -/

theorem outcome_twinLost (k : Nat) : outcome o (twinLost s k) = outcome o s := by
  obtain ⟨hlo, hhi⟩ := id ho
  simp only [Reg.dbgRkDigLo, Reg.dbgRkDigHi] at hlo hhi
  have hstatus : ∀ (u : State) n, outcome o (wrB u Reg.dbgLsStatus n true) = outcome o u := fun u n =>
    outcome_congr (rdReg_wrB (by simp only [Reg.dbgLsStatus]; omega)) (wrB_sched ..)
  have hcount : ∀ u : State, outcome o (wr64 u Reg.dbgLsHaltLo s.count) = outcome o u := fun u =>
    outcome_congr (rdReg_wr64 (by simp only [Reg.dbgLsHaltLo]; omega) (by simp only [Reg.dbgLsHaltLo]; omega)) (wr64_sched ..)
  rw [twinLost, lockHalt, outcome_fireHalt ho, hcount, hstatus, outcome_raiseEv ho (by simp only [Reg.pageDbg]; omega), hstatus]

theorem outcome_setLevel : outcome o (setLevel s 4) = outcome o s := by
  obtain ⟨hlo, hhi⟩ := id ho
  simp only [Reg.dbgRkDigLo, Reg.dbgRkDigHi] at hlo hhi
  have hlevel : ∀ (u : State) hi lo v, outcome o (wrF u Reg.glbServiceLevel hi lo v) = outcome o u := fun u hi lo v =>
    outcome_congr (rdReg_wrF (by simp only [Reg.glbServiceLevel]; omega)) (wrF_sched ..)
  have hcount : ∀ u : State, outcome o (wr64 u (Reg.glbLevel + 8 * (4 - 1)) s.count) = outcome o u := fun u =>
    outcome_congr (rdReg_wr64 (by simp only [Reg.glbLevel]; omega) (by simp only [Reg.glbLevel]; omega)) (wr64_sched ..)
  unfold setLevel
  dsimp only
  split
  · rfl
  · rw [outcome_raiseEv ho (by simp only [Reg.pageGlb]; omega)]
    split
    · rw [hcount, hlevel, hlevel]
    · exact hlevel _ _ _ _

/-- Where no execution runs, a loss that makes the package wait stops none (07 R405). -/
theorem outcome_enterWait (hrun : s.sched.exec.running = false) (pos phase port : Nat) (mine known : Bool) :
    outcome o (enterWait s pos phase port mine known) = outcome o s := by
  obtain ⟨hlo, hhi⟩ := id ho
  simp only [Reg.dbgRkDigLo, Reg.dbgRkDigHi] at hlo hhi
  have hstop : dropRunning (stopExec s 0 0) = s := by
    have h : stopExec s 0 0 = s := by rw [stopExec, hrun]; rfl
    rw [h, dropRunning, hrun]
    rfl
  have hlost : ∀ v, outcome o (wrN s Reg.azlLost v) = outcome o s := fun v =>
    outcome_congr (rdReg_wrN (by simp only [Reg.azlLost]; omega)) (wrN_sched ..)
  have hstate : ∀ (u : State) x, outcome o (setAzl (putAzl u x) 4) = outcome o u := fun u x =>
    outcome_congr ((rdReg_wrF (by simp only [Reg.azlState]; omega)).trans (rdReg_congr (putAzl_regs _ _) o)) (by rw [setAzl, wrF_sched, putAzl_sched])
  unfold enterWait
  dsimp only
  rw [azlEv, outcome_raiseEv ho (by simp only [Reg.pageAzl]; omega), hstate, hstop, hlost]

theorem outcome_portsLost (hrun : s.sched.exec.running = false) : outcome o (portsLost s) = outcome o s := by
  obtain ⟨hlo, hhi⟩ := id ho
  simp only [Reg.dbgRkDigLo, Reg.dbgRkDigHi] at hlo hhi
  have hport : ∀ (k : Nat) (u : State), outcome o (setEvt (wrB u (onPage Reg.portStatus k) 19 true) (portPage k) 4) = outcome o u := fun k u =>
    outcome_congr ((rdReg_setEvt (by simp only [portPage, onPage, Reg.pageAzp]; omega)).trans
      (rdReg_wrB (by simp only [onPage, Reg.portStatus]; omega))) (by rw [setEvt_sched, wrB_sched])
  have hports : ∀ ks : List Nat, outcome o (each ks (fun k t => setEvt (wrB t (onPage Reg.portStatus k) 19 true) (portPage k) 4) s) = outcome o s :=
    fun ks => each_keeps (outcome o) _ hport ks s
  have hnote : ∀ (u : State) a b, outcome o (noteLoss u a b) = outcome o u := fun u a b => by
    unfold noteLoss
    split <;> rfl
  have hpartners : outcome o (partnersLost s) = outcome o s := by
    unfold partnersLost
    dsimp only
    split
    · rw [outcome_twinLost ho, hports]
    · exact hports _
  rcases portsLost_cases s with h | ⟨pos, phase, port, h⟩
  · rw [h, hpartners]
  · have hout := (hnote (partnersLost s) (memberPos s) pos).trans hpartners
    rw [h, outcome_enterWait ho (by rw [exec_of_outcome hout, hrun]), hout]

/-- A remap that fails takes the ports and the level away, and maps no cluster (04 R225, 09 R475). -/
theorem outcome_remapFailed (hrun : s.sched.exec.running = false) (block : Nat) : outcome o (remapFailed s block) = outcome o s := by
  obtain ⟨hlo, hhi⟩ := id ho
  simp only [Reg.dbgRkDigLo, Reg.dbgRkDigHi] at hlo hhi
  have hev : ∀ d, outcome o (raiseEv s Reg.pageLdg 0x10 .block 0x08 0 0x0005 0 d) = outcome o s := fun d =>
    outcome_raiseEv ho (by simp only [Reg.pageLdg]; omega)
  have hstatus : ∀ (u : State) k n b, outcome o (wrB u (onPage Reg.portStatus k) n b) = outcome o u := fun u k n b =>
    outcome_congr (rdReg_wrB (by simp only [onPage, Reg.portStatus]; omega)) (wrB_sched ..)
  have hctl : ∀ (u : State) k, outcome o (wrB u (onPage Reg.portCtl k) 0 false) = outcome o u := fun u k =>
    outcome_congr (rdReg_wrB (by simp only [onPage, Reg.portCtl]; omega)) (wrB_sched ..)
  have hhs : ∀ (u : State) k, outcome o (setHs u k 0) = outcome o u := fun u k =>
    outcome_congr (rdReg_wrF (by simp only [onPage, Reg.portStatus]; omega)) (wrF_sched ..)
  have hlevel : ∀ u : State, outcome o (if 4 < svcLevel u then setLevel u 4 else u) = outcome o u := fun u => by
    split
    · exact outcome_setLevel ho
    · rfl
  have hmod : ∀ (u : State) k f, outcome o (modPort u k f) = outcome o u := fun u k f =>
    outcome_congr (rdReg_congr (modPort_regs ..) o) (modPort_sched ..)
  unfold remapFailed
  dsimp only
  rw [outcome_allCl, outcome_putBoot, hlevel, each_keeps (outcome o) _ fun k u => by rw [hmod, hstatus, hstatus, hctl, hhs],
    outcome_portsLost ho (by rw [exec_of_outcome (hev _), hrun]), hev]

theorem outcome_remapNow : outcome o (remapNow s) = outcome o s := by
  unfold remapNow
  split
  · next h =>
    have hrun : s.sched.exec.running = false := by simpa using (Bool.and_eq_true_iff.mp h).2
    split
    · exact outcome_applyMapping _
    · exact outcome_remapFailed ho hrun _
  · rfl

/-! ### Quarantine counts and write-backs (09 R456, R457, R472) -/

theorem outcome_quarantine (kind num : Nat) : outcome o (quarantine s kind num) = outcome o s := by
  obtain ⟨hlo, hhi⟩ := id ho
  simp only [Reg.dbgRkDigLo, Reg.dbgRkDigHi] at hlo hhi
  have hpush : ∀ n v, outcome o (storePush s n v false) = outcome o s := fun n v => by
    unfold storePush showQueue
    dsimp only
    split
    · rfl
    · exact outcome_congr ((rdReg_wrF (by simp only [Reg.pstStatus]; omega)).trans ((rdReg_wrB (by simp only [Reg.pstStatus]; omega)).trans
        (rdReg_congr (putBoot_regs ..) o))) (by rw [wrF_sched, wrB_sched, putBoot_sched])
  have hmark : ∀ u : State, outcome o (markQuar u kind num) = outcome o u := fun u => by
    unfold markQuar
    (repeat' split) <;> exact outcome_congr (rdReg_congr (by simp) o) (by simp)
  unfold quarantine
  dsimp only
  split
  · rfl
  · rw [outcome_raiseEv ho (by simp only [Reg.pageLdg]; omega),
      outcome_congr (rdReg_cntReg (by simp only [Reg.ldgQuarantines]; omega)) (cntReg_sched ..), hmark, hpush]

theorem outcome_quarantine_if (b : Prop) [Decidable b] (kind num : Nat) : outcome o (if b then quarantine s kind num else s) = outcome o s := by
  split
  · exact outcome_quarantine ho _ _
  · rfl

theorem outcome_quarStacks : outcome o (quarStacks s) = outcome o s :=
  each_keeps (outcome o) _ (fun _ _ => (outcome_quarantine_if ho _ _ _).trans (outcome_putBoot _)) _ _

/-- The quarantine counts of the clusters take the execution's faults in. -/
theorem outcome_quarClusters : outcome o (quarClusters s) = outcome o (modExec s fun e => { e with faults := [] }) := by
  have hcount : ∀ (u : State) p n, outcome o (if n = (clOf u p).ueExecs then u
      else modCl u p fun c => { c with ueExecs := n, ueThis := false }) = outcome o u := fun u p n => by
    split
    · rfl
    · exact outcome_modCl _ _
  unfold quarClusters
  refine outcome_modExec_congr (each_keeps (outcome o) _ (fun p u => ?_) _ _) _
  exact (outcome_quarantine_if ho _ _ _).trans (hcount u p _)

/-- The write-backs take the execution's log in. -/
theorem outcome_writeBack : outcome o (writeBack s) = outcome o (modExec s fun e => { e with wbLog := [] }) := by
  obtain ⟨-, hhi⟩ := id ho
  simp only [Reg.dbgRkDigHi] at hhi
  refine outcome_modExec_congr (each_keeps (outcome o) _ (fun a u => ?_) _ _) _
  refine (outcome_congr (rdReg_congr (putDraw_regs ..) o) (putDraw_sched ..)).trans ?_
  split
  · exact outcome_congr (rdReg_cntReg (by simp only [onPage, Reg.pageHbc]; omega)) (cntErr_sched ..)
  · rfl

/-! ### Completions (13 R616) -/

theorem rdReg_complete1_low (c : CmdRef) (status w6 w7 : Nat) : rdReg (complete1 s c status w6 w7) o = rdReg s o := by
  obtain ⟨-, hhi⟩ := id ho
  simp only [Reg.dbgRkDigHi] at hhi
  have hcount : ∀ n g, rdReg (cntErr (cntReg (wrN (setRing s c.ring g) (onPage Reg.cmqOutstanding c.ring) n) (onPage Reg.cmqCompleted c.ring) 1)
      (onPage Reg.pageCmq c.ring) (b2n (hifCode status))) o = rdReg s o := fun n g => by
    rw [cntErr, rdReg_cntReg (by simp only [onPage, Reg.pageCmq]; omega), rdReg_cntReg (by simp only [onPage, Reg.cmqCompleted]; omega),
      rdReg_wrN (by simp only [onPage, Reg.cmqOutstanding]; omega)]
    exact rdReg_congr (setRing_regs ..) o
  unfold complete1
  dsimp only
  split
  · rw [freeSlot, showEvq, rdReg_wrF (by simp only [onPage, Reg.evqStatus]; omega), rdReg_wrF (by simp only [onPage, Reg.evqStatus]; omega),
      rdReg_congr (setEvq_regs ..), hcount]
  · rw [rdReg_pushRec_low (by omega), hcount]

/-- A command's completion, that of a fence behind it included, changes the pages of its ring and its queue. -/
theorem outcome_finish (c : CmdRef) (status w6 w7 : Nat) : outcome o (finish s c status w6 w7) = outcome o s := by
  have h1 : ∀ (u : State) c status w6 w7, outcome o (complete1 u c status w6 w7) = outcome o u := fun u c status w6 w7 =>
    outcome_congr (rdReg_complete1_low ho ..) (complete1_sched ..)
  unfold finish complete
  dsimp only
  split
  · rfl
  · split
    · rw [h1, outcome_congr (rdReg_congr (setRing_regs ..) o) (setRing_sched ..), h1]
    · exact h1 _ _ _ _ _

/-- A ledger is shown in the LDG page (09 R463). -/
theorem outcome_showLed (l : Ledger) : outcome o (showLed s Reg.ldgLastRk l) = outcome o s := by
  obtain ⟨-, hhi⟩ := id ho
  simp only [Reg.dbgRkDigHi] at hhi
  exact each_keeps (outcome o) _ (fun w u => outcome_congr (rdReg_wrN (by simp only [Reg.ldgLastRk]; omega)) (wrN_sched ..)) _ _

end RkDig

end Sys2Proof.Machine

/-!
SUPPORT. The end of a step and of a RUN_KERNEL (04 R208, R210, 07 R400, R406), freeze windows (04 R211, R214) and the check of a sample
(05 R285 to R288).
-/
namespace Sys2Proof.Machine

variable {s t : State} {o : Nat}

/-! ### The end of a step -/

/-- The closed step, as STEP_END leaves it to the judgement (07 R400, R401). -/
def stepDone (s : State) : DoneStep :=
  let s1 := endExec (spillLateEv s)
  { record := s.sched.exec.sRec, clean := ledClean s1 s1.sched.exec.led, ledger := s1.sched.exec.led, frozen := s.sched.exec.frozen,
    exact := rdB s1 Reg.lspStatus 2 && !rdB s1 Reg.dbgHaltStatus 4 }

/-- The state in which a step has ended, before its ledger goes anywhere. -/
def stepClosed (s : State) : State :=
  let e := s.sched.exec
  let s1 := endExec (spillLateEv s)
  putSched s1 { s1.sched with
    done := (if e.dropped then none else some (stepDone s)), lastLaunch := e.launch, lastPlan := e.sRec.planDur, lastFrozen := e.frozen,
    kdig := if e.stopped || e.missed then s1.sched.kdig else e.kdig }

/-- STEP_END ends the step when its plan duration has passed (07 R400). -/
theorem exec_stepEnd (hrun : s.sched.exec.running = true) (hkind : s.sched.exec.kind = .step) (hdie : dieFrozen s = false)
    (hdur : s.sched.exec.planDur ≤ s.sched.exec.cyc) (hover : (s.sched.exec.stopped || s.sched.exec.missed || s.sched.exec.ended) = true) :
    exec .stepEnd s
      = .next (stepExecEnd (if s.sched.exec.dropped then recover (stepClosed s) else deliverLedger (stepClosed s) (stepDone s))) := by
  show Host.Outcome.next _ = _
  simp only [hrun, hkind, hdie, hdur, hover, beq_self_eq_true, Bool.not_false, decide_true, Bool.and_self, if_true]
  rfl

theorem spillLateEv_sched : (spillLateEv s).sched = s.sched := by
  unfold spillLateEv
  dsimp only
  split
  · rfl
  · exact raiseEv_sched ..

theorem rdReg_spillLateEv (ho : Apart o) (hsch : o ≠ Reg.pageSch + 0x14) : rdReg (spillLateEv s) o = rdReg s o := by
  unfold spillLateEv
  dsimp only
  split
  · rfl
  · exact ho.rdReg_raiseEv hsch

theorem stepClosed_exec : (stepClosed s).sched.exec = (endExec (spillLateEv s)).sched.exec := by rw [stepClosed, putSched_sched]

theorem stepClosed_running : (stepClosed s).sched.exec.running = false := by rw [stepClosed_exec, endExec_exec]

theorem stepClosed_done : (stepClosed s).sched.done = if s.sched.exec.dropped then none else some (stepDone s) := by
  rw [stepClosed, putSched_sched]

theorem rdReg_stepClosed_eq : rdReg (stepClosed s) o = rdReg (endExec (spillLateEv s)) o := rdReg_congr (putSched_regs ..) o

/-- The ledger of the closed step is the execution's, judged by the policy in force (09 R461). -/
theorem stepDone_ledger : (stepDone s).ledger = (stepClosed s).sched.exec.led ∧ (stepDone s).ledger.step = s.sched.exec.led.step
    ∧ (stepDone s).clean = ledClean (stepClosed s) (stepDone s).ledger := by
  refine ⟨by rw [stepClosed_exec, stepDone], ?_, ?_⟩
  · rw [stepDone, step_endExec, spillLateEv_sched]
  · simp only [stepDone, ledClean, rdB, rdReg_stepClosed_eq]

theorem rdReg_stepClosed (ho : Apart o) (hsch : o ≠ Reg.pageSch + 0x14) : rdReg (stepClosed s) o = rdReg s o := by
  rw [rdReg_stepClosed_eq, rdReg_endExec ho hsch, rdReg_spillLateEv ho hsch]

/-- No cluster runs, and SCH.EVTSTA shows the end (04 R255). -/
theorem stepClosed_idle : (∀ p < 144, (clOf (stepClosed s) p).st ≠ .running) ∧ rdB (stepClosed s) (Reg.pageSch + 0x14) 0 = true := by
  refine ⟨fun p hp => ?_, (rdB_congr rdReg_stepClosed_eq).trans rdB_endExec⟩
  rw [stepClosed, clOf_congr (putSched_clusters ..)]
  exact st_endExec hp

theorem isEntry_congr (hmember : rdReg t Reg.azlMember = rdReg s Reg.azlMember) (hctl : rdReg t Reg.azlCtl = rdReg s Reg.azlCtl)
    (hstate : rdReg t Reg.azlState = rdReg s Reg.azlState) : isEntry t = isEntry s := by
  have hsize : groupSize t = groupSize s := rdF_congr hmember
  have hpos : memberPos t = memberPos s := rdF_congr hmember
  have hentry : entryPos t = entryPos s := rdF_congr hmember
  rw [isEntry, isEntry, inGroup, inGroup, hsize, hpos, hentry, rdB_congr hctl, rdF_congr hstate]

/-- The end of a step leaves the package where it stands in its group (07 R416). -/
theorem isEntry_stepClosed : isEntry (stepClosed s) = isEntry s :=
  isEntry_congr (rdReg_stepClosed (by simp [Apart, Reg.azlMember]) (by decide)) (rdReg_stepClosed (by simp [Apart, Reg.azlCtl]) (by decide))
    (rdReg_stepClosed (by simp [Apart, Reg.azlState]) (by decide))

@[simp] theorem sendSeq_sched (s : State) (k : Nat) (f : Frame) : (sendSeq s k f).sched = s.sched := by
  unfold sendSeq putOut
  dsimp only
  (repeat' split) <;> simp

/-- A member's ledger goes to the entry, and its step stays closed (07 R400). -/
theorem deliverLedger_sched_of_member {d : DoneStep} (h : isEntry s = false) : (deliverLedger s d).sched = s.sched := by
  simp only [deliverLedger, sendUp, h, Bool.false_eq_true, if_false, sendSeq_sched]

theorem isRkDig_lo : IsRkDig Reg.dbgRkDigLo := ⟨le_rfl, by decide⟩

theorem outcome_clearFaults (ho : IsRkDig o) : outcome o (clearFaults s) = outcome o s := by
  obtain ⟨-, hhi⟩ := id ho
  simp only [Reg.dbgRkDigHi] at hhi
  unfold clearFaults
  dsimp only
  rw [outcome_allCl]
  split
  · exact outcome_congr (rdReg_wrN (by simp only [Reg.ldgFault]; omega)) (wrN_sched ..)
  · rfl

/-- Whether an execution runs, and the closed step. -/
def runAndDone (s : State) := (s.sched.exec.running, s.sched.done)

theorem runAndDone_of_outcome {f : Exec → Exec} (h : outcome o t = outcome o (modExec s f)) (hf : (f s.sched.exec).running = s.sched.exec.running) :
    runAndDone t = runAndDone s := by
  rw [runAndDone, exec_of_outcome h, done_of_outcome h]
  exact congrArg (·, s.sched.done) hf

/-- A recovery launches nothing and closes nothing (09 R466). -/
theorem runAndDone_recover : runAndDone (recover s) = runAndDone s := by
  have hcount : runAndDone (remapNow (clearFaults (quarStacks (quarClusters s)))) = runAndDone s :=
    runAndDone_of_outcome (o := Reg.dbgRkDigLo) ((outcome_remapNow isRkDig_lo).trans ((outcome_clearFaults isRkDig_lo).trans
      ((outcome_quarStacks isRkDig_lo).trans (outcome_quarClusters isRkDig_lo)))) rfl
  have hafter : ∀ u : State, runAndDone (afterReloads u) = runAndDone u := fun u => by
    unfold afterReloads
    split
    · exact runAndDone_of_outcome (outcome_writeBack isRkDig_lo) rfl
    · rfl
  rw [← hcount, recover, hafter]
  simp only [runAndDone, putSched_sched]

theorem runAndDone_stepExecEnd : runAndDone (stepExecEnd s) = runAndDone s := by
  have h := outcome_stepExecEnd (s := s) isRkDig_lo
  rw [runAndDone, exec_of_outcome h, done_of_outcome h, runAndDone]

/-! ### The end of a RUN_KERNEL -/

/-- The closed ledger of a RUN_KERNEL (09 R463). -/
def runkLed (s : State) : Ledger :=
  { (quarStacks (quarClusters (writeBack (endExec (wr64 s Reg.dbgRkDigLo (kernelDigest s)))))).sched.exec.led with runk := true }

/-- The state in which a RUN_KERNEL has ended, before its completion (04 R210, 09 R459, R474). -/
def runkClosed (s : State) : State :=
  let s3 := quarStacks (quarClusters (writeBack (endExec (wr64 s Reg.dbgRkDigLo (kernelDigest s)))))
  let s4 := showLed (modExec s3 fun e => { e with led := runkLed s }) Reg.ldgLastRk (runkLed s)
  remapNow (putGener s4 { s4.gener with xfers := s4.gener.xfers.filter fun x => x.kind != .preSave })

theorem finishRunk_eq (s : State) (rk : RunK) : finishRunk s rk = stepExecEnd (finish (runkClosed s) rk.ref 0
    (b2n (ledClean (runkClosed s) (runkLed s)) + 2 * b2n (runkLed s).stopped) 0) := rfl

theorem exec_executionEnd {rk : RunK} (hrk : s.sched.exec.rk = some rk) (hrun : s.sched.exec.running = true) (hkind : s.sched.exec.kind = .runk)
    (hdie : (s.sched.exec.stopped || !dieFrozen s) = true) (hdone : runkDone s = true) : exec .executionEnd s = .next (finishRunk s rk) := by
  show Host.Outcome.next _ = _
  simp only [hrk, hrun, hkind, hdie, hdone, beq_self_eq_true, Bool.and_self, if_true]

/-- The closed state of a RUN_KERNEL holds its digest and its ledger, and runs no more. -/
theorem runkClosed_holds (ho : IsRkDig o) : rdReg (runkClosed s) o = rdReg (wr64 s Reg.dbgRkDigLo (kernelDigest s)) o
    ∧ (runkClosed s).sched.exec.running = false ∧ (runkClosed s).sched.exec.led = runkLed s := by
  have hap : Apart o := by
    simp only [IsRkDig, Reg.dbgRkDigLo, Reg.dbgRkDigHi, Apart] at ho ⊢
    omega
  have hsch : o ≠ Reg.pageSch + 0x14 := by
    simp only [IsRkDig, Reg.dbgRkDigLo, Reg.dbgRkDigHi, Reg.pageSch] at ho ⊢
    omega
  have hcounted : outcome o (quarStacks (quarClusters (writeBack (endExec (wr64 s Reg.dbgRkDigLo (kernelDigest s))))))
      = outcome o (modExec (modExec (endExec (wr64 s Reg.dbgRkDigLo (kernelDigest s))) fun e => { e with wbLog := [] }) fun e =>
        { e with faults := [] }) :=
    (outcome_quarStacks ho).trans ((outcome_quarClusters ho).trans (outcome_modExec_congr (outcome_writeBack ho) _))
  have hclosed : outcome o (runkClosed s) = outcome o (modExec (modExec (modExec (endExec (wr64 s Reg.dbgRkDigLo (kernelDigest s))) fun e =>
      { e with wbLog := [] }) fun e => { e with faults := [] }) fun e => { e with led := runkLed s }) := by
    rw [runkClosed, outcome_remapNow ho, outcome_congr (rdReg_congr (putGener_regs ..) o) (putGener_sched ..), outcome_showLed ho]
    exact outcome_modExec_congr hcounted _
  refine ⟨(Prod.mk.inj hclosed).1.trans ?_, ?_, ?_⟩
  · rw [rdReg_congr (modExec_regs ..), rdReg_congr (modExec_regs ..), rdReg_congr (modExec_regs ..), rdReg_endExec hap hsch]
  · rw [exec_of_outcome hclosed]
    simp only [modExec, putSched_sched, endExec_exec]
  · rw [exec_of_outcome hclosed]
    simp only [modExec, putSched_sched]

theorem outcome_finishRunk (ho : IsRkDig o) (rk : RunK) : outcome o (finishRunk s rk) = outcome o (runkClosed s) := by
  rw [finishRunk_eq, outcome_stepExecEnd ho, outcome_finish ho]

theorem rd64_wr64_same (s : State) (off v : Nat) : rd64 (wr64 s off v) off = v % 2 ^ 64 := by
  rw [rd64, wr64, rdN_wrN_same, rdN_congr (rdReg_wrN (by omega)), rdN_wrN_same, lo32, hi32]
  omega

/-- DBG.RKDIG holds the digest of the kernel that has ended (05 R298). -/
theorem rd64_finishRunk (rk : RunK) : rd64 (finishRunk s rk) Reg.dbgRkDigLo = kernelDigest s % 2 ^ 64 := by
  have hword : ∀ o, IsRkDig o → rdReg (finishRunk s rk) o = rdReg (wr64 s Reg.dbgRkDigLo (kernelDigest s)) o := fun o ho =>
    (Prod.mk.inj (outcome_finishRunk (s := s) ho rk)).1.trans (runkClosed_holds ho).1
  rw [← rd64_wr64_same s Reg.dbgRkDigLo, rd64, rdN_congr (hword _ isRkDig_lo), rdN_congr (hword _ ⟨by decide, by decide⟩), rd64]

/-! ### Freeze windows -/

theorem exec_freezeStart {n : Nat} (hn : (s.sched.freezes.findIdx? fun w => !w.active && w.start == s.count) = some n) : exec .freezeStart s
    = .next (setEvt (putSched s { s.sched with freezes := listMod (fun w => { w with active := true }) s.sched.freezes n }) Reg.pageSch 4) := by
  show Host.Outcome.next _ = _
  simp only [hn]

/-- A freeze that starts is active, and every other as it was (04 R211, R255). -/
theorem freezeStarts {n : Nat} (hn : (s.sched.freezes.findIdx? fun w => !w.active && w.start == s.count) = some n) :
    ∃ t, exec .freezeStart s = .next t ∧ (∃ w, t.sched.freezes[n]? = some w ∧ w.active = true ∧ w.start = s.count)
      ∧ (∀ m, m ≠ n → t.sched.freezes[m]? = s.sched.freezes[m]?) ∧ rdB t (Reg.pageSch + 0x14) 2 = true
      ∧ t.sched.exec = s.sched.exec ∧ t.clusters = s.clusters := by
  obtain ⟨hlt, hw, -⟩ := List.findIdx?_eq_some_iff_getElem.mp hn
  have hstart : (s.sched.freezes[n]).start = s.count := by simpa using (Bool.and_eq_true_iff.mp hw).2
  refine ⟨_, exec_freezeStart hn, ⟨{ s.sched.freezes[n] with active := true }, ?_, rfl, hstart⟩, fun m hm => ?_,
    rdB_setEvt (by decide) (by decide), ?_, ?_⟩
  · rw [setEvt_sched, putSched_sched, getElem?_listMod_same, List.getElem?_eq_getElem hlt]
    rfl
  · rw [setEvt_sched, putSched_sched]
    exact getElem?_listMod_other hm
  · rw [setEvt_sched, putSched_sched]
  · rw [setEvt_clusters, putSched_clusters]

/-- A freeze whose length or whose start has passed is gone, and no other (04 R214). -/
theorem freezeEnds (s : State) : ∃ t, exec .freezeEnd s = .next t ∧ t = putSched s { s.sched with freezes := t.sched.freezes }
    ∧ ∀ w, w ∈ t.sched.freezes ↔ w ∈ s.sched.freezes
      ∧ ((w.active = true ∧ s.count < w.start + w.len) ∨ (w.active = false ∧ s.count ≤ w.start)) := by
  refine ⟨_, rfl, rfl, fun w => ?_⟩
  rw [putSched_sched, List.mem_filter]
  simp

/-! ### The oldest sample's check -/

theorem exec_leanSampleCheck {cl : Fin 144} {x : Sample} {xs : List Sample} (h : (clOf s cl.val).samples = x :: xs) :
    exec (.leanSampleCheck cl) s = .next (checkSample (modCl s cl.val fun c => { c with samples := xs }) cl.val x) := by
  show Host.Outcome.next _ = _
  simp only [h]

/-- A check sums the differences in the register and in the execution (05 R288, R289). -/
theorem checkSample_sums (p : Nat) (x : Sample) : rdN (checkSample s p x) Reg.lspExecSum = min (rdN s Reg.lspExecSum + sumN x.deltas) (2 ^ 32 - 1)
    ∧ (checkSample s p x).sched.exec.sumAll = s.sched.exec.sumAll + sumN x.deltas ∧ (checkSample s p x).sched.exec.nAll = s.sched.exec.nAll + 1 := by
  have hsum : rdN (sampleSummed s x) Reg.lspExecSum = min (rdN s Reg.lspExecSum + sumN x.deltas) (2 ^ 32 - 1) := rdN_cntReg_same _
  rw [checkSample_eq]
  split
  · exact ⟨hsum, by rw [sampleSummed_exec], by rw [sampleSummed_exec]⟩
  · refine ⟨?_, ?_, ?_⟩
    · rw [rdN_congr (rdReg_sampleConfined _ _ (by decide) (by decide) (by decide) (by decide)), rdN_congr (rdReg_cntReg (by decide)), hsum]
    · rw [sampleConfined_sched]
      exact congrArg Exec.sumAll (sampleSummed_exec x)
    · rw [sampleConfined_sched]
      exact congrArg Exec.nAll (sampleSummed_exec x)

/-- A sample within bounds leaves the ledger and LSP.CONFINE (05 R287). -/
theorem checkSample_of_good {x : Sample} (p : Nat) (h : (x.deltas.countP fun d => decide (224 < d)) = 0) :
    (checkSample s p x).sched.exec.led = s.sched.exec.led ∧ rdReg (checkSample s p x) Reg.lspConfine = rdReg s Reg.lspConfine := by
  rw [checkSample_eq, if_pos h]
  exact ⟨by rw [sampleSummed_exec], rdReg_sampleSummed x (by decide)⟩

/-- A sample out of bounds counts in LSP.CONFINE and in the ledger, and forces the nominal point (05 R287, R288). -/
theorem checkSample_of_bad {x : Sample} {bad : Nat} (p : Nat) (hbad : (x.deltas.countP fun d => decide (224 < d)) = bad) (h : bad ≠ 0) :
    rdN (checkSample s p x) Reg.lspConfine = min (rdN s Reg.lspConfine + bad) (2 ^ 32 - 1) ∧ rdB (checkSample s p x) Reg.lspStatus 1 = true
    ∧ (checkSample s p x).sched.exec.led.leanDrift = min (s.sched.exec.led.leanDrift + bad) (2 ^ 16 - 1) := by
  rw [checkSample_eq, hbad, if_neg h]
  refine ⟨?_, rdB_sampleConfined _ _, ?_⟩
  · rw [rdN_congr (rdReg_sampleConfined _ _ (by decide) (by decide) (by decide) (by decide)), rdN_cntReg_same,
      rdN_congr (rdReg_sampleSummed x (by decide))]
  · rw [sampleConfined_sched]
    show led16 (sampleSummed s x).sched.exec.led.leanDrift bad = _
    rw [sampleSummed_exec]
    rfl

/-- Settles O28: an execution's end closes its step or its kernel, whose outcome the recovery, the delivery and the debug side leave as it is;
freezes start and end by the list; a check counts the oldest sample. -/
theorem endsFreezesAndSamples : Obligations.EndsFreezesAndSamples := by
  unfold Obligations.EndsFreezesAndSamples
  constructor
  · intro s rk e
    refine ⟨fun hrun hkind hdie hdur hover => ?_, fun hrun hkind hdie hdur hover => ⟨fun hdrop => ?_, fun hdrop hmember => ?_⟩,
      fun hrk hrun hkind hdie hdone => ?_⟩
    · obtain ⟨hidle, hsta⟩ := stepClosed_idle (s := s)
      obtain ⟨hled, hstep, hclean⟩ := stepDone_ledger (s := s)
      exact ⟨stepClosed s, stepDone s, exec_stepEnd hrun hkind hdie hdur hover, stepClosed_running, hidle, hsta, stepClosed_done, rfl, hled, hstep,
        hclean, rfl, rfl, rfl⟩
    · have hclosed : runAndDone (stepClosed s) = (false, none) :=
        congrArg₂ Prod.mk stepClosed_running (stepClosed_done.trans (if_pos hdrop))
      have hend := (runAndDone_stepExecEnd.trans runAndDone_recover).trans hclosed
      refine ⟨_, exec_stepEnd hrun hkind hdie hdur hover, ?_⟩
      rw [if_pos hdrop]
      exact Prod.mk.inj hend
    · have hclosed : runAndDone (stepClosed s) = (false, some (stepDone s)) :=
        congrArg₂ Prod.mk stepClosed_running (stepClosed_done.trans (if_neg (by rw [hdrop]; decide)))
      have hsched := deliverLedger_sched_of_member (d := stepDone s) (isEntry_stepClosed.trans hmember)
      have hend : runAndDone (stepExecEnd (deliverLedger (stepClosed s) (stepDone s))) = (false, some (stepDone s)) := by
        rw [runAndDone_stepExecEnd, ← hclosed, runAndDone, hsched, runAndDone]
      obtain ⟨hstill, hdone⟩ := Prod.mk.inj hend
      refine ⟨_, stepDone s, exec_stepEnd hrun hkind hdie hdur hover, ?_, ?_, rfl⟩
      · rw [hdrop]; exact hstill
      · rw [hdrop]; exact hdone
    · obtain ⟨-, hstill, hled⟩ := runkClosed_holds (s := s) isRkDig_lo
      refine ⟨_, exec_executionEnd hrk hrun hkind hdie hdone, ?_, rd64_finishRunk rk, runkClosed s, ?_⟩
      · rw [exec_of_outcome (outcome_finishRunk isRkDig_lo rk), hstill]
      · rw [hled]
        rfl
  · intro s cl n x xs
    refine ⟨freezeStarts, freezeEnds s, fun hx => ⟨_, exec_leanSampleCheck hx, ?_, ?_⟩⟩
    · rw [clOf_congr (checkSample_clusters _ _), clOf_modCl, if_pos rfl]
    · obtain ⟨hreg, hsum, hn⟩ := checkSample_sums (s := modCl s cl.val fun c => { c with samples := xs }) cl.val x
      exact ⟨hreg, hsum, hn, checkSample_of_good _, checkSample_of_bad _ rfl⟩

end Sys2Proof.Machine

/-!
SUPPORT. What a command of a ring does at its turn (13 R603, R614), and what its completion leaves in its ring and its queue (13 R607, R616).
-/
namespace Sys2Proof.Machine

variable {s s1 t : State} {c : Cmd}

/-! ### A command at its turn -/

theorem lowest_of_none_fails {xs : List (Nat × Bool)} (h : ∀ x ∈ xs, x.2 = false) : lowest xs = none := by
  have hfold : ∀ a : Option Nat, xs.foldl (fun a x => if x.2 then (match a with | none => some x.1 | some n => some (min n x.1)) else a) a = a := by
    induction xs with
    | nil => intro a; rfl
    | cons x xs ih =>
      rw [List.forall_mem_cons] at h
      intro a
      rw [List.foldl_cons, h.1]
      exact ih h.2 a
  exact hfold none

/-- A command whose checks pass has its effect (06 R320). -/
theorem checked_of_pass {xs : List (Nat × Bool)} {f : State → State} (h : ∀ x ∈ xs, x.2 = false) : checked s c xs f = f s := by
  rw [checked, lowest_of_none_fails h]

theorem runCmd_of_turn {r op : Nat} {f : State → Cmd → State} {ok : Bool} (hturn : Turn s r op s1 c) (hok : hifCheck s1 c ok = none) :
    runCmd s r op f ok = .next (skipBad 64 (putGener (f s1 c) { (f s1 c).gener with again := true }) r) := by
  rw [runCmd, hturn.1]
  dsimp only
  rw [hok]

theorem gener_of_turn {r op : Nat} (hturn : Turn s r op s1 c) : s1.gener = s.gener := by
  have hpop := hturn.1
  unfold popDesc at hpop
  dsimp only at hpop
  split at hpop
  · cases hpop
  · split at hpop
    · cases hpop
    · obtain ⟨rfl, -⟩ := Prod.mk.inj (Option.some.inj hpop)
      exact setRing_gener ..

/-! ### Completions -/

theorem ringOf_congr (h : t.hif.rings = s.hif.rings) (r : Nat) : ringOf t r = ringOf s r := by rw [ringOf, ringOf, h]

theorem evqOf_congr (h : t.hif.evqs = s.hif.evqs) (q : Nat) : evqOf t q = evqOf s q := by rw [evqOf, evqOf, h]

theorem mem_insertRec {x y : Bool × EvRec} {l : List (Bool × EvRec)} : x ∈ insertRec y l ↔ x = y ∨ x ∈ l := by
  induction l with
  | nil => simp [insertRec]
  | cons z l ih =>
    rw [insertRec]
    split
    · exact List.mem_cons
    · rw [List.mem_cons, ih, List.mem_cons]
      tauto

theorem evqOf_showEvq (q k : Nat) : evqOf (showEvq s q) k = evqOf s k := evqOf_congr (by simp [showEvq]) k

theorem ringOf_pushRec (q : Nat) (b : Bool) (r : EvRec) (k : Nat) : ringOf (pushRec s q b r) k = ringOf s k := by
  unfold pushRec
  dsimp only
  split <;> exact ringOf_congr (by simp [setEvt, setEvq, showEvq]) k

theorem ringOf_freeSlot (q k : Nat) : ringOf (freeSlot s q) k = ringOf s k := ringOf_congr (by simp [freeSlot, setEvq, showEvq]) k

theorem evqOf_setEvq_same (q : Nat) (e : EvQueue) : evqOf (setEvq s q e) q = e := by rw [evqOf_setEvq, if_pos rfl]

/-- A queue's waiting records after a record is queued: that record among them when it is a completion, and all before (13 R623). -/
theorem waiting_pushRec {q : Nat} {b : Bool} {r : EvRec} :
    (b = true → (true, r) ∈ (evqOf (pushRec s q b r) q).waiting)
    ∧ ∀ k, ∀ x ∈ (evqOf s k).waiting, x ∈ (evqOf (pushRec s q b r) k).waiting := by
  have hset : ∀ (e : EvQueue) k, (∀ x ∈ (evqOf s q).waiting, x ∈ e.waiting) →
      ∀ x ∈ (evqOf s k).waiting, x ∈ (evqOf (setEvq s q e) k).waiting := fun e k he x hx => by
    rw [evqOf_setEvq]
    split
    · next hk => exact he x (hk ▸ hx)
    · exact hx
  unfold pushRec
  dsimp only
  split
  · next hlost =>
    have hb : b = false := by simpa using (Bool.and_eq_true_iff.mp hlost).1
    refine ⟨fun h => absurd (hb.symm.trans h) (by decide), fun k x hx => ?_⟩
    have hevq : ∀ (u : State) off page, evqOf (setEvt (cntReg u off 1) page 2) k = evqOf u k := fun u off page =>
      evqOf_congr (by rw [setEvt_hif, cntReg_hif]) k
    rw [hevq]
    refine hset _ k ?_ x hx
    exact fun y hy => hy
  · refine ⟨fun h => ?_, fun k x hx => ?_⟩
    · rw [evqOf_showEvq, evqOf_setEvq_same, h]
      exact mem_insertRec.mpr (.inl rfl)
    · rw [evqOf_showEvq]
      exact hset _ k (fun x hx => mem_insertRec.mpr (.inr hx)) x hx

theorem waiting_freeSlot {q k : Nat} : (evqOf (freeSlot s q) k).waiting = (evqOf s k).waiting := by
  rw [freeSlot, evqOf_showEvq, evqOf_setEvq]
  split
  · next h => rw [h]
  · rfl

/-- The counts of a command's completion, before its record (13 R607, R638). -/
def completionCounted (s : State) (c : CmdRef) (status : Nat) : State :=
  let g := ringOf s c.ring
  let g1 := { g with out := g.out.filter fun x => x.era != c.era || x.idx != c.idx }
  let g2 := { g1 with busy := g1.busy.filter (· != (c.era, c.idx)) }
  cntErr (cntReg (wrN (setRing s c.ring g2) (onPage Reg.cmqOutstanding c.ring) (outstanding g2)) (onPage Reg.cmqCompleted c.ring) 1)
    (onPage Reg.pageCmq c.ring) (b2n (hifCode status))

theorem complete1_eq (s : State) (c : CmdRef) (status w6 w7 : Nat) : complete1 s c status w6 w7
    = if c.quiet ∧ status = 0 then freeSlot (completionCounted s c status) c.q
      else pushRec (completionCounted s c status) c.q true (evRecord (completionCounted s c status) 0x11 c.ring 1 c.ring
        [c.tag % 2 ^ 16 + status * 2 ^ 16 + c.op * 2 ^ 24, c.idx, w6, w7]) := rfl

theorem completionCounted_hif (c : CmdRef) (status : Nat) : (completionCounted s c status).hif
    = (setRing s c.ring { ringOf s c.ring with
        out := (ringOf s c.ring).out.filter fun x => x.era != c.era || x.idx != c.idx
        busy := (ringOf s c.ring).busy.filter (· != (c.era, c.idx)) }).hif := by
  rw [completionCounted, cntErr_hif, cntReg_hif, wrN_hif]

theorem out_complete1 (c : CmdRef) (status w6 w7 r : Nat) : (ringOf (complete1 s c status w6 w7) r).out
    = if r = c.ring then (ringOf s r).out.filter (fun x => x.era != c.era || x.idx != c.idx) else (ringOf s r).out := by
  have hring : ringOf (complete1 s c status w6 w7) r = ringOf (completionCounted s c status) r := by
    rw [complete1_eq]
    split
    · exact ringOf_freeSlot _ _
    · exact ringOf_pushRec _ _ _ _
  rw [hring, ringOf_congr (congrArg Hif.rings (completionCounted_hif c status)), ringOf_setRing]
  split
  · next h => rw [h]
  · rfl

theorem waiting_completionCounted (c : CmdRef) (status k : Nat) : (evqOf (completionCounted s c status) k).waiting = (evqOf s k).waiting := by
  rw [evqOf_congr (congrArg Hif.evqs (completionCounted_hif c status))]
  rfl

/-- The records that wait stay when a command completes. -/
theorem waiting_complete1 (c : CmdRef) (status w6 w7 k : Nat) : ∀ x ∈ (evqOf s k).waiting, x ∈ (evqOf (complete1 s c status w6 w7) k).waiting := by
  intro x hx
  rw [← waiting_completionCounted c status] at hx
  rw [complete1_eq]
  split
  · rwa [waiting_freeSlot]
  · exact waiting_pushRec.2 k x hx

/-- Words 4 to 6 of an event record (13 R616, R617). -/
theorem nthN_evRecord (s : State) (type inst code w1 d0 d1 d2 d3 : Nat) :
    nthN (evRecord s type inst code w1 [d0, d1, d2, d3]) 4 = d0 % 2 ^ 32 ∧ nthN (evRecord s type inst code w1 [d0, d1, d2, d3]) 5 = d1 % 2 ^ 32
    ∧ nthN (evRecord s type inst code w1 [d0, d1, d2, d3]) 6 = d2 % 2 ^ 32 := ⟨rfl, rfl, rfl⟩

theorem completed_complete1 (c : CmdRef) (status w6 w7 : Nat) : Completed (complete1 s c status w6 w7) c status w6 := by
  refine ⟨fun x hx => ?_, ?_⟩
  · rw [out_complete1, if_pos rfl, List.mem_filter] at hx
    rintro ⟨hera, hidx⟩
    simp [hera, hidx] at hx
  · rw [complete1_eq]
    split
    · next h => exact .inl h
    · exact .inr ⟨_, waiting_pushRec.1 rfl, nthN_evRecord ..⟩

/-- What follows keeps a command completed that takes no descriptor into its ring and no record out of its queue. -/
theorem Completed.of_frame {c : CmdRef} {status w6 : Nat} (h : Completed s c status w6)
    (hout : ∀ x ∈ (ringOf t c.ring).out, x ∈ (ringOf s c.ring).out)
    (hwait : ∀ x ∈ (evqOf s c.q).waiting, x ∈ (evqOf t c.q).waiting) : Completed t c status w6 :=
  ⟨fun x hx => h.1 x (hout x hx), h.2.imp_right fun ⟨r, hr, hw⟩ => ⟨r, hwait _ hr, hw⟩⟩

/-- A completion completes its command, whether a fence behind it completes too or not (13 R607, R613, R616). -/
theorem completed_complete (c : CmdRef) (status w6 w7 : Nat) : Completed (complete s c status w6 w7) c status w6 := by
  have h1 := completed_complete1 (s := s) c status w6 w7
  unfold complete
  dsimp only
  split
  · refine h1.of_frame (fun x hx => ?_) (fun x hx => waiting_complete1 _ _ _ _ _ x ?_)
    · rw [out_complete1, ringOf_setRing, if_pos rfl] at hx
      split at hx
      · exact (List.mem_filter.mp hx).1
      · exact hx
    · exact hx
  · exact h1

end Sys2Proof.Machine

/-!
SUPPORT. An auxiliary kernel's command, launch, pre-emption and resumption (08 R450 to R453, 13 R610, R611).
-/
namespace Sys2Proof.Machine

variable {s s1 t : State} {c : Cmd} {rk : RunK} {u : Suspended} {errs : List (Nat × Ecc)} {ok : Bool}

/-! ### Reads outside the plans (09 R455 to R458) -/

/-- An execution without what the reads of HBM add to it. -/
def unread (e : Exec) : Exec := { e with led := {}, wbLog := [], ueStacks := [], regions := [] }

/-- What the reads outside the plans leave as it is. -/
def apartFromReads (s : State) := (s.gener, s.sched.susp, unread s.sched.exec)

theorem apartFromReads_hbmEcc (h a : Nat) (e : Ecc) : apartFromReads (hbmEcc s h a e) = apartFromReads s := by
  have hmod : ∀ (v : State) (f : Exec → Exec), unread (f v.sched.exec) = unread v.sched.exec → apartFromReads (modExec v f) = apartFromReads v :=
    fun v f hf => congrArg (fun x => (v.gener, v.sched.susp, x)) hf
  have herr : ∀ p n, apartFromReads (cntErr s p n) = apartFromReads s := fun p n => by
    simp only [apartFromReads, cntErr_gener, cntErr_sched]
  cases e with
  | clean => rfl
  | corrected =>
    refine (hmod _ _ ?_).trans (herr _ _)
    split <;> rfl
  | uncorrectable m =>
    simp only [hbmEcc]
    split
    · refine (hmod _ _ ?_).trans ((hmod _ _ rfl).trans (hmod _ _ rfl))
      split <;> rfl
    · exact (hmod _ _ rfl).trans (hmod _ _ rfl)

theorem apartFromReads_eccNote : apartFromReads (eccNote errs s) = apartFromReads s := by
  refine each_keeps apartFromReads _ (fun e v => ?_) _ _
  split
  · exact apartFromReads_hbmEcc _ _ _
  · split
    · simp only [apartFromReads, cntErr_gener, cntErr_sched]
    · rfl

/-! ### RUN_KERNEL (13 R610, R611) -/

/-- What the reads of a kernel's block find: those of a block in HBM (09 R455, 14 R645). -/
def blockErrs (s : State) (c : Cmd) (errs : List (Nat × Ecc)) : List (Nat × Ecc) :=
  if 4 ≤ svcLevel s then readErrs [(c.addr, c.len)] errs else []

/-- The kernel waits for its launch, at the point it is submitted for, and its ring goes on (08 R450, 15 R685). -/
def kernelWaits (s : State) (c : Cmd) (rk : RunK) : State :=
  ringGoesOn (submitPoint (putSched s { s.sched with rkWait := some rk }) (kLeanOk rk.desc)) c.ref

/-- What RUN_KERNEL checks (13 R610, R611). -/
def kernelChecks (s : State) (c : Cmd) (rk : RunK) (fits : Bool) : List (Nat × Bool) :=
  [(0x31, decide (svcLevel s < 3) || (decide (svcLevel s = 3) && narrowBad c rk) || mappedCount s == 0),
    (0x44, kernelBusy s), (0x45, saveBad s rk), (0x48, !fits || blockBad s rk || preloadBad s c rk)]

theorem kernelChecks_pass (hlevel : 4 ≤ svcLevel s ∨ (svcLevel s = 3 ∧ narrowBad c rk = false)) (hmapped : mappedCount s ≠ 0)
    (hbusy : kernelBusy s = false) (hsave : saveBad s rk = false) (hblock : blockBad s rk = false) (hpre : preloadBad s c rk = false) :
    ∀ x ∈ kernelChecks s c rk true, x.2 = false := by
  have hnarrow : (decide (svcLevel s < 3) || (decide (svcLevel s = 3) && narrowBad c rk)) = false := by
    rcases hlevel with h | ⟨h, hb⟩
    · simp only [Bool.or_eq_false_iff, decide_eq_false_iff_not, Bool.and_eq_false_iff]
      exact ⟨by omega, .inl (by omega)⟩
    · rw [h, hb]
      rfl
  simp [kernelChecks, hnarrow, hbusy, hsave, hblock, hpre, hmapped]

theorem doRunKernel_eq {v : State} {m : Mem} (hv : eccNote (blockErrs s c errs) s = v) (hm : eccMem (blockMem v) (blockErrs s c errs) = m)
    (hfits : blockFits m c.addr c.len (ncl v) = true) (hrk : rk = readRunK v m c true) :
    doRunKernel errs s c = checked v c (kernelChecks v c rk true) fun v => kernelWaits v c rk := by
  subst hrk hm hv
  rw [← hfits]
  rfl

@[simp] theorem lateOver_gener : (lateOver s).gener = s.gener := by unfold lateOver; split <;> simp

@[simp] theorem selectPoint_gener (b : Bool) : (selectPoint s b).gener = s.gener := by cases b <;> simp [selectPoint]

@[simp] theorem submitPoint_gener (b : Bool) : (submitPoint s b).gener = s.gener := by unfold submitPoint; split <;> simp

@[simp] theorem submitPoint_sched (b : Bool) : (submitPoint s b).sched = s.sched := by unfold submitPoint; split <;> simp

/-- An accepted kernel waits, and its descriptor holds its ring back no longer (08 R450, 13 R603). -/
theorem kernelWaits_holds (hloc : c.ref.remote = false) : (kernelWaits s c rk).sched.rkWait = some rk
    ∧ (c.ref.era, c.ref.idx) ∉ (ringOf (kernelWaits s c rk) c.ref.ring).busy ∧ (kernelWaits s c rk).gener = s.gener := by
  simp only [kernelWaits, ringGoesOn, hloc, Bool.false_eq_true, if_false, setRing_sched, setRing_gener, submitPoint_sched, submitPoint_gener,
    putSched_sched, putSched_gener, ringOf_setRing, if_true, true_and, and_true]
  simp

/-! ### The launch (04 R207, R210) -/

theorem exec_runKernelLaunch (hwait : s.sched.rkWait = some rk) (hmay : mayLaunch s = true) (haux : auxAllowed s = true)
    (hdie : dieFrozen s = false) (hsusp : s.sched.susp = none) (hfit : pointFits s (kLeanOk rk.desc) = true) :
    exec (.runKernelLaunch ok errs) s = .next (if preloadFails rk ok then complete (putSched s { s.sched with rkWait := none }) rk.ref 0x63 0 0
      else launchRunk s rk errs) := by
  show Host.Outcome.next _ = _
  simp only [hwait, hmay, haux, hdie, hsusp, hfit, Option.isNone_none, Bool.not_false, Bool.not_true, Bool.and_self, Bool.false_eq_true, if_true,
    if_false]

/-! ### Pre-emption (08 R451, R452) -/

theorem exec_preempt {l : Nat} (hlaunch : s.sched.nextLaunch = some l) (hrk : s.sched.exec.rk = some rk) (hrun : s.sched.exec.running = true)
    (hkind : s.sched.exec.kind = .runk) (hpre : rk.preempt = true) (hdrain : s.sched.exec.draining = false)
    (hstop : s.sched.exec.stopped = false) (hdie : dieFrozen s = false)
    (hdue : l ≤ s.count + switchTime (liveBytes (ncl s) rk) + 62500) :
    exec .preempt s = .next (addXfer (modExec s fun e => { e with draining := true, heldCyc := e.cyc }) .preSave) := by
  have hat : preemptAt s l ≤ s.count := by
    simp only [preemptAt, hrk]
    omega
  show Host.Outcome.next _ = _
  simp only [hlaunch, hrk, hrun, hkind, hpre, hdrain, hstop, hdie, hat, beq_self_eq_true, Bool.not_false, decide_true, Bool.and_self, if_true]

theorem ledUe_step (l : Ledger) (src h k pg ad : Nat) : (ledUe l src h k pg ad).step = l.step := by
  unfold ledUe
  dsimp only
  split <;> rfl

theorem unsampled_modCl (p : Nat) (f : Cluster → Cluster) : unsampled Reg.glbIdent (modCl s p f) = unsampled Reg.glbIdent s := by
  rw [unsampled, rdReg_congr (modCl_regs ..), modCl_sched]
  rfl

theorem unsampled_effUe (p l : Nat) (e : CEff) : unsampled Reg.glbIdent (effUe p l e s) = unsampled Reg.glbIdent s := by
  unfold effUe
  split
  · exact (unsampled_modCl _ _).trans (congrArg (fun x => (rdReg s Reg.glbIdent, x, s.sched.exec.heldCyc)) (ledUe_step ..))
  · rfl

theorem unsampled_effCe (p : Nat) (e : CEff) : unsampled Reg.glbIdent (effCe p e s) = unsampled Reg.glbIdent s := by
  unfold effCe
  split
  · rfl
  · rw [unsampled_modCl, unsampled, cntErr, rdReg_cntReg (by simp only [cluPage, onPage, Reg.glbIdent, Reg.pageClu]; omega), cntReg_sched]
    rfl

/-- What a save's reads of the clusters' arrays find counts in their pages and in the ledger (09 R455 to R458). -/
theorem unsampled_applyEff_eccEff (p src a : Nat) (e : Ecc) : unsampled Reg.glbIdent (applyEff s p (eccEff e src a)) = unsampled Reg.glbIdent s := by
  have hdraw : unsampled Reg.glbIdent (applyEff s p (eccEff e src a))
      = unsampled Reg.glbIdent (effCe p (eccEff e src a) (effUe p ((clOf s p).logical.getD 0) (eccEff e src a) s)) := by
    cases e <;> rfl
  rw [hdraw, unsampled_effCe, unsampled_effUe]

theorem unsampled_areaNote : unsampled Reg.glbIdent (areaNote rk errs s) = unsampled Reg.glbIdent s := by
  refine each_keeps (unsampled Reg.glbIdent) _ (fun e v => ?_) _ _
  dsimp only
  split
  · exact unsampled_applyEff_eccEff _ _ _ _
  · rfl

/-- The state that a save reads: pending sample checks made, and what its reads find counted (05 R285, 09 R455). -/
def saveRead (s : State) (rk : RunK) (errs : List (Nat × Ecc)) : State :=
  areaNote rk (readErrs [(rk.saveAddr, ncl s * areaStride rk)] errs) (drainSamples s)

theorem unsampled_saveRead : unsampled Reg.glbIdent (saveRead s rk errs) = unsampled Reg.glbIdent s :=
  unsampled_areaNote.trans (unsampled_drainSamples (by simp [Apart, Reg.glbIdent]))

/-- What a save suspends. -/
def suspended (s : State) (rk : RunK) (errs : List (Nat × Ecc)) : Suspended :=
  let v := saveRead s rk errs
  { rk := rk, cyc := v.sched.exec.heldCyc, exec := { v.sched.exec with running := false, draining := false, cyc := v.sched.exec.heldCyc },
    live := liveBytes (ncl v) rk, regs := snapLaunch v, lines := cacheLines v, resuming := none }

theorem suspended_holds : (suspended s rk errs).cyc = s.sched.exec.heldCyc ∧ (suspended s rk errs).live = liveBytes (ncl s) rk := by
  obtain ⟨hreg, hexec⟩ := Prod.mk.inj (unsampled_saveRead (s := s) (rk := rk) (errs := errs))
  have hncl : ncl (saveRead s rk errs) = ncl s := rdF_congr hreg
  exact ⟨(Prod.mk.inj hexec).2, by rw [suspended, hncl]⟩

/-- A save's end suspends the execution, whatever a remap then does (08 R452, 09 R474). -/
theorem suspend_holds : (suspend s rk errs).sched.susp = some (suspended s rk errs) ∧ (suspend s rk errs).sched.exec.running = false := by
  obtain ⟨v, hv, hsusp, hrun⟩ : ∃ v, outcome Reg.dbgRkDigLo (suspend s rk errs) = outcome Reg.dbgRkDigLo v
      ∧ v.sched.susp = some (suspended s rk errs) ∧ v.sched.exec.running = false := by
    refine ⟨_, (outcome_remapNow isRkDig_lo).trans (outcome_raiseEv isRkDig_lo (by decide)), ?_, ?_⟩
    · rw [idleClusters, allCl_sched, putSched_sched]
      rfl
    · rw [idleClusters, allCl_sched, putSched_sched]
  rw [exec_of_outcome hv, susp_of_outcome hv]
  exact ⟨hsusp, hrun⟩

theorem exec_preemptSaveDone {x : Xfer} (hrk : s.sched.exec.rk = some rk)
    (hx : s.gener.xfers.find? (fun x => x.started && x.kind == .preSave) = some x) (hdrain : drainOver s = true) (hdone : x.doneAt ≤ s.count) :
    exec (.preemptSaveDone errs) s = .next (suspend s rk errs) := by
  show Host.Outcome.next _ = _
  simp only [hrk, xferOn, hx, hdrain, hdone, decide_true, Bool.and_self, if_true]

/-! ### Resumption (08 R453) -/

theorem exec_executionResume (hsusp : s.sched.susp = some u) (hres : u.resuming = none) (hmay : mayLaunch s = true) (haux : auxAllowed s = true)
    (hdone : s.sched.done = none) (hpoint : s.power.lean = backPoint s u) (hfar : farLaunch s (resumeNeed u) = true) :
    exec .executionResume s = .next (addXfer (putSched s { s.sched with susp := some { u with resuming := some s.count } }) .restore) := by
  show Host.Outcome.next _ = _
  simp only [hsusp, hres, hmay, haux, hdone, hpoint, hfar, Option.isNone_none, Bool.and_self, if_true]

theorem exec_restoreDone {x : Xfer} (hsusp : s.sched.susp = some u)
    (hx : s.gener.xfers.find? (fun x => x.started && x.kind == .restore) = some x) (hdone : x.doneAt ≤ s.count) (hmay : mayLaunch s = true)
    (haux : auxAllowed s = true) (hpoint : s.power.lean = backPoint s u) : exec (.restoreDone errs) s = .next (resumeNow s u errs) := by
  show Host.Outcome.next _ = _
  simp only [hsusp, xferOn, hx, hdone, hmay, haux, decide_true, Bool.and_self, if_true]
  rw [if_pos hpoint]

/-- The execution that goes on (08 R453). -/
def resumedExec (s : State) (u : Suspended) : Exec :=
  { u.exec with kind := .runk, running := true, cyc := u.cyc, rk := some u.rk, lean := s.power.lean }

theorem backLaunch_sched (rs : List (Nat × Word)) : (backLaunch s rs).sched = s.sched :=
  each_keeps State.sched _ (fun _ _ => wrReg_sched ..) _ _

/-- A resumption goes on with its execution, to which its own reads may add. -/
theorem resumeNow_holds : (resumeNow s u errs).sched.susp = none ∧ unread (resumeNow s u errs).sched.exec = unread (resumedExec s u)
    ∧ (errs = [] → (resumeNow s u errs).sched.exec = resumedExec s u) := by
  obtain ⟨v, hv, hsusp, hexec⟩ : ∃ v : State,
      (resumeNow s u errs).sched = (eccNote (readErrs [(u.rk.saveAddr, ncl s * areaStride u.rk)] errs) v).sched
      ∧ v.sched.susp = none ∧ v.sched.exec = resumedExec s u := by
    refine ⟨_, raiseEv_sched .., ?_, ?_⟩
    · rw [wrB_sched, backLaunch_sched, putSched_sched]
    · rw [wrB_sched, backLaunch_sched, putSched_sched]
      rfl
  have hread := apartFromReads_eccNote (s := v) (errs := readErrs [(u.rk.saveAddr, ncl s * areaStride u.rk)] errs)
  obtain ⟨hsusp', hexec'⟩ := Prod.mk.inj (Prod.mk.inj hread).2
  rw [hv]
  refine ⟨hsusp'.trans hsusp, hexec'.trans (congrArg unread hexec), fun hnil => ?_⟩
  rw [hnil, ← hexec]
  rfl

/-- Settles O35: the command, the launch, the pre-emption and the resumption each pass their tests; a remap or the reads that follow leave what
they hold. -/
theorem auxiliaryKernelsRun : Obligations.AuxiliaryKernelsRun := by
  unfold Obligations.AuxiliaryKernelsRun
  intro s s1 c r rk u l x ok errs e es u1 m
  refine ⟨?_, ?_, ?_, ?_, ?_⟩
  · intro hturn hok hlevel hmapped hbusy hfits hrk hsave hblock hpre
    have hdo : doRunKernel errs s1 c = kernelWaits u1 c rk :=
      (doRunKernel_eq rfl rfl hfits hrk).trans (checked_of_pass (kernelChecks_pass hlevel hmapped hbusy hsave hblock hpre))
    obtain ⟨-, -, hring, hloc⟩ := id hturn
    obtain ⟨hwait, hidle, hgener⟩ := kernelWaits_holds (s := u1) (rk := rk) hloc
    refine ⟨kernelWaits u1 c rk, ?_, hwait, hring ▸ hidle, ?_⟩
    · rw [← hdo]
      exact runCmd_of_turn hturn hok
    · rw [hgener, ← gener_of_turn hturn]
      exact (Prod.mk.inj apartFromReads_eccNote).1
  · intro hwait hmay haux hdie hsusp hfit
    refine ⟨fun hpre => ⟨_, exec_runKernelLaunch hwait hmay haux hdie hsusp hfit, ?_⟩,
      fun hpre => ⟨_, exec_runKernelLaunch hwait hmay haux hdie hsusp hfit, ?_⟩⟩
    · rw [hpre]
      exact ⟨rfl, rfl, rfl, rfl, rfl, rfl⟩
    · rw [hpre, if_pos rfl, complete_sched, complete_clusters, putSched_sched, putSched_clusters]
      exact ⟨rfl, rfl, rfl, completed_complete _ _ _ _⟩
  · intro hlaunch hrk hrun hkind hpre hdrain hstop hdie hdue
    exact ⟨_, exec_preempt hlaunch hrk hrun hkind hpre hdrain hstop hdie hdue, rfl, rfl, rfl⟩
  · intro hrk hx hdrain hdone
    obtain ⟨hsusp, hrun⟩ := suspend_holds (s := s) (rk := rk) (errs := errs)
    obtain ⟨hcyc, hlive⟩ := suspended_holds (s := s) (rk := rk) (errs := errs)
    exact ⟨_, exec_preemptSaveDone hrk hx hdrain hdone, hrun, _, hsusp, rfl, hcyc, rfl, hlive⟩
  · intro hsusp
    refine ⟨fun hres hmay haux hdone hpoint hfar => ⟨_, exec_executionResume hsusp hres hmay haux hdone hpoint hfar, rfl, rfl⟩,
      fun hx hdone hmay haux hpoint => ⟨_, exec_restoreDone hsusp hx hdone hmay haux hpoint, ?_⟩⟩
    obtain ⟨hnone, hexec, hclean⟩ := resumeNow_holds (s := s) (u := u) (errs := errs)
    have hkept : (resumeNow s u errs).sched.exec.frozen = u.exec.frozen ∧ (resumeNow s u errs).sched.exec.insts = u.exec.insts :=
      ⟨(congrArg Exec.frozen hexec :), (congrArg Exec.insts hexec :)⟩
    have hled : errs = [] → (resumeNow s u errs).sched.exec.led = u.exec.led := fun hnil => (congrArg Exec.led (hclean hnil) :)
    exact ⟨hnone, congrArg Exec.running hexec, congrArg Exec.kind hexec, congrArg Exec.rk hexec, congrArg Exec.cyc hexec, hkept.1,
      congrArg Exec.lean hexec, hkept.2, hled⟩

end Sys2Proof.Machine

/-!
SUPPORT. A session command at its turn (06 R319, R320, 07 R382, 13 R603), and what its completion leaves of the generator.
-/
namespace Sys2Proof.Machine

variable {s s1 : State} {c : Cmd} {i : Instr} {r op n : Nat} {ok : Bool} {P : State → Prop}

/-- A package that is no member, or the entry, forwards no session command (07 R382, R414). -/
theorem atSite_of_entry {f : State → Cmd → State} (h : notEntry s = false) : atSite s c f = f s c := by
  rw [atSite, h]
  rfl

/-- A session command at its turn, past the host interface's checks, acts on the state in which it is under way (13 R603, R614). -/
theorem handles_session {f : State → Cmd → State} (hexec : exec i s = runCmd s r op (fun s c => atSite s c f) ok) (hturn : Turn s r op s1 c)
    (hok : hifCheck s1 c ok = none) (hentry : notEntry s1 = false) (hpost : P (f s1 c)) : Handles i s r P := by
  refine ⟨f s1 c, ?_, hpost⟩
  rw [hexec, runCmd_of_turn hturn hok, atSite_of_entry hentry]

/-- A check that passes whatever the host memory answers passes when it answers well (13 R614). -/
theorem hifCheck_true (h : hifCheck s c ok = none) : hifCheck s c true = none := by
  cases ok with
  | true => exact h
  | false =>
    unfold hifCheck at h ⊢
    dsimp only at h ⊢
    cases hbad : badWord c with
    | some k => rw [hbad] at h; cases h
    | none =>
      rw [hbad] at h
      dsimp only at h ⊢
      split at h
      · cases h
      · next hvf =>
        split at h
        · cases h
        · rw [if_neg hvf, if_neg (by simp), h]

/-- The command under way holds its ring back (13 R603). -/
theorem busy_of_turn (hturn : Turn s r op s1 c) : (c.ref.era, c.ref.idx) ∈ (ringOf s1 r).busy := by
  have hpop := hturn.1
  unfold popDesc at hpop
  dsimp only at hpop
  split at hpop
  · cases hpop
  · split at hpop
    · cases hpop
    · obtain ⟨rfl, rfl⟩ := Prod.mk.inj (Option.some.inj hpop)
      rw [ringOf_setRing, if_pos rfl]
      exact List.mem_append_right _ (List.mem_singleton.mpr rfl)

theorem ctxOf_congr {t : State} (h : t.gener.ctxs = s.gener.ctxs) (k : Nat) : ctxOf t k = ctxOf s k := by rw [ctxOf, ctxOf, h]

theorem ctxOf_of_turn (hturn : Turn s r op s1 c) (k : Nat) : ctxOf s1 k = ctxOf s k := ctxOf_congr (congrArg Gener.ctxs (gener_of_turn hturn)) k

theorem finish_of_local {ref : CmdRef} (h : ref.remote = false) (status w6 w7 : Nat) : finish s ref status w6 w7 = complete s ref status w6 w7 := by
  rw [finish, h]
  rfl

@[simp] theorem finish_gener (ref : CmdRef) (status w6 w7 : Nat) : (finish s ref status w6 w7).gener = s.gener := by
  unfold finish
  split <;> simp

@[simp] theorem finish_sched (ref : CmdRef) (status w6 w7 : Nat) : (finish s ref status w6 w7).sched = s.sched := by
  unfold finish
  split <;> simp

@[simp] theorem ctxOf_finish (ref : CmdRef) (status w6 w7 k : Nat) : ctxOf (finish s ref status w6 w7) k = ctxOf s k :=
  ctxOf_congr (by rw [finish_gener]) k

/-- A command of this package that finishes has completed (13 R616). -/
theorem completed_finish {ref : CmdRef} (h : ref.remote = false) (status w6 w7 : Nat) : Completed (finish s ref status w6 w7) ref status w6 := by
  rw [finish_of_local h]
  exact completed_complete ..

@[simp] theorem ringGoesOn_gener (ref : CmdRef) : (ringGoesOn s ref).gener = s.gener := by unfold ringGoesOn; dsimp only; split <;> simp
@[simp] theorem ringGoesOn_sched (ref : CmdRef) : (ringGoesOn s ref).sched = s.sched := by unfold ringGoesOn; dsimp only; split <;> simp
@[simp] theorem ringGoesOn_regs (ref : CmdRef) : (ringGoesOn s ref).regs = s.regs := by unfold ringGoesOn; dsimp only; split <;> simp

@[simp] theorem ctxOf_ringGoesOn (ref : CmdRef) (k : Nat) : ctxOf (ringGoesOn s ref) k = ctxOf s k := ctxOf_congr (by rw [ringGoesOn_gener]) k

/-- A command whose ring goes on holds it back no longer (13 R603, R613). -/
theorem not_busy_ringGoesOn {ref : CmdRef} (h : ref.remote = false) : (ref.era, ref.idx) ∉ (ringOf (ringGoesOn s ref) ref.ring).busy := by
  rw [ringGoesOn, h, if_neg Bool.false_ne_true, ringOf_setRing, if_pos rfl]
  simp

theorem Cmd.sid_eq (c : Cmd) : c.sid = nthN c.w 1 % 2 ^ 16 := by rw [Cmd.sid, fld]; rfl

/-- The lowest-numbered idle context (06 R315). -/
theorem idleCtxNo_eq_some (hlow : ∀ k < 512, (ctxOf s k).st = .idle → n ≤ k) (hn : n < 512) (hidle : (ctxOf s n).st = .idle) :
    idleCtxNo s = some n := by
  rw [idleCtxNo, List.find?_range_eq_some]
  refine ⟨by rw [hidle]; rfl, List.mem_range.mpr hn, fun k hk => ?_⟩
  have hbusy : (ctxOf s k).st ≠ .idle := fun h => absurd (hlow k (hk.trans hn) h) (by omega)
  simpa using hbusy

end Sys2Proof.Machine

/-!
SUPPORT. The session commands at their turn (06 R315 to R321, 08 R440, R442, R446, 13 R613).
-/
namespace Sys2Proof.Machine

variable {s s1 : State} {c : Cmd} {r : Fin 128} {n : Nat} {y : Context} {ok : Bool}

/-! ### OPEN_SESSION (06 R315, R321) -/

/-- The context that OPEN_SESSION opens (06 R315, R321, 13 R609). -/
def openedCtx (s : State) (c : Cmd) : Context :=
  { st := .opened, sid := c.sid, ring := c.ref.ring, limit := if nthN c.w 6 = 0 then rdN s Reg.kvpCtxMax else nthN c.w 6,
    deadline := if nthN c.w 7 = 0 then s.gener.dlDef else nthN c.w 7, temp := fld (nthN c.w 8) 15 0, topK := fld (nthN c.w 8) 31 16,
    topP := fld (nthN c.w 9) 15 0, seed := openField s c 0 16,
    stops := [openField s c 0x10 4, openField s c 0x14 4, openField s c 0x18 4, openField s c 0x1C 4],
    parkAddr := openField s c 0x20 8, parkLen := openField s c 0x28 8 }

/-- What OPEN_SESSION checks (06 R319). -/
def openChecks (s : State) (c : Cmd) : List (Nat × Bool) :=
  let x := openedCtx s c
  [(0x01, s.gener.image.isNone), (0x02, (idleCtxNo s).isNone), (0x03, (ctxBySid s c.sid).isSome),
   (0x08, badTemp x.temp || !allZero ((openBlock s c).drop 0x30)), (0x09, decide (rdN s Reg.kvpCtxMax < x.limit)),
   (0x0A, decide (rdN s Reg.kvpPages < pagesFor x.limit + 1 + rdN s Reg.kvpFloor)), (0x0B, deadlineFails s x.limit x.deadline),
   (0x23, notEntry s), (0x50, x.parkAddr != 0 && decide (x.parkLen < parkSize s x.limit))]

theorem doOpen_eq (s : State) (c : Cmd) : doOpen s c = checked s c (openChecks s c) fun s' =>
    finish (setCtx s' ((idleCtxNo s).getD 0) (openedCtx s c)) c.ref 0 ((idleCtxNo s).getD 0) 0 := rfl

/-- An open with all checks passed puts its context into the lowest idle one (06 R315). -/
theorem doOpen_of_pass (hfree : idleCtxNo s = some n) (hpass : ∀ x ∈ openChecks s c, x.2 = false) :
    doOpen s c = finish (setCtx s n (openedCtx s c)) c.ref 0 n 0 := by
  rw [doOpen_eq, checked_of_pass hpass, hfree]
  rfl

/-- The checks of R319 in the words of what they allow. -/
theorem openChecks_pass (himage : s.gener.image ≠ none) (hfree : idleCtxNo s = some n) (hsid : ctxBySid s c.sid = none)
    (htemp : badTemp (openedCtx s c).temp = false) (hzero : allZero ((openBlock s c).drop 0x30) = true)
    (hlim : (openedCtx s c).limit ≤ rdN s Reg.kvpCtxMax)
    (hpages : pagesFor (openedCtx s c).limit + 1 + rdN s Reg.kvpFloor ≤ rdN s Reg.kvpPages)
    (hdead : deadlineFails s (openedCtx s c).limit (openedCtx s c).deadline = false) (hentry : notEntry s = false)
    (hpark : (openedCtx s c).parkAddr = 0 ∨ parkSize s (openedCtx s c).limit ≤ (openedCtx s c).parkLen) :
    ∀ x ∈ openChecks s c, x.2 = false := by
  have hroom : ((openedCtx s c).parkAddr != 0 && decide ((openedCtx s c).parkLen < parkSize s (openedCtx s c).limit)) = false := by
    rcases hpark with h | h <;> simp [h]
  simp [openChecks, Option.isSome_iff_ne_none, himage, hfree, hsid, htemp, hzero, hlim, hpages, hdead, hentry, hroom]

/-- Settles O30: every check passes, so the command puts the opened context into the lowest idle one and completes with its number. -/
theorem openSessionRuns : Obligations.OpenSessionRuns := by
  unfold Obligations.OpenSessionRuns
  intro s s1 c r ok n hturn hok hentry lim dl temp fld_ himage hlow hn hidle hsid htemp hzero hlim hpages hdead hpark
  have hfree : idleCtxNo s1 = some n := idleCtxNo_eq_some hlow hn hidle
  refine handles_session rfl hturn hok hentry ?_
  rw [doOpen_of_pass hfree (openChecks_pass himage hfree hsid htemp hzero hlim hpages hdead hentry hpark)]
  refine ⟨completed_finish hturn.2.2.2 .., fun k hk => ?_, ?_⟩
  · rw [ctxOf_finish, ctxOf_setCtx, if_neg hk, ctxOf_of_turn hturn]
  · rw [ctxOf_finish, ctxOf_setCtx, if_pos rfl]
    refine ⟨rfl, Cmd.sid_eq c, rfl, rfl, rfl, rfl, ?_, rfl, rfl, rfl, rfl, rfl, rfl, rfl, rfl, rfl⟩
    exact congrArg (· % 2 ^ 16) (Nat.shiftRight_eq_div_pow _ _)

end Sys2Proof.Machine

/-!
SUPPORT. Prompts and budgets of a session at its turn (06 R316 to R321, R332, 13 R613).
-/
namespace Sys2Proof.Machine

variable {s s1 : State} {c : Cmd} {r : Fin 128} {n : Nat} {y : Context} {ok : Bool}

/-! ### APPEND_PROMPT (06 R316, R319) -/

/-- An append with all checks passed puts its tokens behind those that wait (06 R316). -/
theorem doAppend_of_pass (hentry : notEntry s = false) (himage : s.gener.image ≠ none) (hsess : findSess s c = some (n, y))
    (hst : y.st = .opened ∨ y.st = .decode ∧ y.budget = 0) (hcnt : c.cnt ≠ 0)
    (hvocab : ∀ t ∈ memWords s.host c.addr c.cnt, t < rdN s Reg.sluVocab) (hlim : y.len + y.waiting.length + c.cnt < y.limit) :
    doAppend s c = finish (modCtx s n fun z => { z with waiting := z.waiting ++ memWords s.host c.addr c.cnt }) c.ref 0
      (y.waiting.length + c.cnt) 0 := by
  have hstate : (y.st == .opened || (y.st == .decode && y.budget == 0)) = true := by
    rcases hst with h | ⟨h, hb⟩
    · rw [h]; rfl
    · rw [h, hb]; rfl
  unfold doAppend
  rw [hsess]
  refine checked_of_pass ?_
  simpa [Option.isSome_iff_ne_none, himage, hstate, hcnt, hentry, hlim] using hvocab

/-! ### GENERATE (06 R317, R321, R332) -/

/-- The GENERATE of a command that has written nothing (06 R351). -/
def freshGen (c : Cmd) : Gen := { ref := c.ref, addr := c.addr, written := 0, stop := false, limit := false }

/-- A join of a command that no boundary has considered (06 R332). -/
def freshJoin (s : State) (c : Cmd) (unpark : Bool) : Join :=
  { ref := c.ref, unpark := unpark, seq := s.gener.joinSeq, deferrals := 0, deferred := false, swap := false }

/-- The next join has the next number. -/
def joinCounted (s : State) : State := putGener s { s.gener with joinSeq := s.gener.joinSeq + 1 }

/-- A budget with prompt tokens waiting is a join, and one without lets its ring go on (06 R321, R332, 13 R613). -/
def budgetSet (s : State) (c : Cmd) (n : Nat) (y : Context) : State :=
  if y.waiting.isEmpty then ringGoesOn (modCtx s n fun z => { z with budget := c.cnt, gen := some (freshGen c) }) c.ref
  else modCtx (joinCounted s) n fun z => { z with budget := c.cnt, gen := some (freshGen c), join := some (freshJoin s c false) }

theorem doGenerate_of_pass (hentry : notEntry s = false) (himage : s.gener.image ≠ none) (hsess : findSess s c = some (n, y))
    (hst : y.st = .opened ∨ y.st = .decode) (hbudget : y.budget = 0) (hwait : y.st = .opened → y.waiting ≠ []) (hlen : y.len ≠ y.limit) :
    doGenerate s c = if c.cnt = 0 then finish s c.ref 0 0 0 else budgetSet s c n y := by
  have hstate : (y.st == .opened || y.st == .decode) = true := by rcases hst with h | h <;> rw [h] <;> rfl
  unfold doGenerate
  rw [hsess]
  refine checked_of_pass ?_
  simpa [Option.isSome_iff_ne_none, himage, hstate, hbudget, hlen, hentry] using hwait

/-- What a budget leaves of its session (06 R321, R332). -/
theorem ctxOf_budgetSet (hy : ctxOf s n = y) : ctxOf (budgetSet s c n y) n
    = { y with budget := c.cnt, gen := some (freshGen c), join := if y.waiting = [] then y.join else some (freshJoin s c false) } := by
  unfold budgetSet
  by_cases hw : y.waiting = []
  · simp [hw, hy]
  · have hn : ctxOf (joinCounted s) n = y := hy
    simp [hw, hn]

theorem ctxOf_budgetSet_other {k : Nat} (hk : k ≠ n) : ctxOf (budgetSet s c n y) k = ctxOf s k := by
  unfold budgetSet
  split
  · rw [ctxOf_ringGoesOn, ctxOf_modCtx, if_neg hk]
  · rw [ctxOf_modCtx, if_neg hk]
    rfl

theorem rings_budgetSet_of_waiting (hw : y.waiting ≠ []) (k : Nat) : ringOf (budgetSet s c n y) k = ringOf s k := by
  rw [budgetSet, if_neg (by simpa using hw)]
  rfl

theorem not_busy_budgetSet (hloc : c.ref.remote = false) (hw : y.waiting = []) :
    (c.ref.era, c.ref.idx) ∉ (ringOf (budgetSet s c n y) c.ref.ring).busy := by
  rw [budgetSet, if_pos (by rw [hw]; rfl)]
  exact not_busy_ringGoesOn hloc

/-- Settles O31: every check passes, so the tokens join those that wait, and the budget is set at once, as a join when tokens wait. -/
theorem promptAndGenerateRun : Obligations.PromptAndGenerateRun := by
  unfold Obligations.PromptAndGenerateRun
  intro s s1 c r ok n y hentry hok himage hsess hy hst
  refine ⟨fun hturn hcnt hvocab hlim => handles_session rfl hturn hok hentry ?_, fun hturn hbudget hwait hlen => ?_⟩
  · rw [doAppend_of_pass hentry himage hsess hst hcnt hvocab hlim]
    refine ⟨completed_finish hturn.2.2.2 .., ?_, fun k hk => ?_⟩
    · rw [ctxOf_finish, ctxOf_modCtx, if_pos rfl, hy]
    · rw [ctxOf_finish, ctxOf_modCtx, if_neg hk, ctxOf_of_turn hturn]
  · have hdo := doGenerate_of_pass hentry himage hsess (hst.imp_right And.left) hbudget hwait hlen
    obtain ⟨-, -, hring, hloc⟩ := id hturn
    refine ⟨fun hcnt => handles_session rfl hturn (hifCheck_true hok) hentry ?_,
      fun hcnt => handles_session rfl hturn (hifCheck_true hok) hentry ?_⟩
    · rw [hdo, if_pos hcnt]
      exact ⟨completed_finish hloc .., by rw [finish_gener, gener_of_turn hturn]⟩
    · rw [hdo, if_neg hcnt]
      dsimp only
      rw [ctxOf_budgetSet hy]
      refine ⟨rfl, rfl, rfl, rfl, fun k hk => ?_, fun hw => ⟨if_pos hw, ?_⟩, fun hw => ⟨if_neg hw, ?_⟩⟩
      · rw [ctxOf_budgetSet_other hk, ctxOf_of_turn hturn]
      · rw [← hring]
        exact not_busy_budgetSet hloc hw
      · rw [rings_budgetSet_of_waiting hw]
        exact busy_of_turn hturn

end Sys2Proof.Machine

/-!
SUPPORT. Sessions that park, come back and close (06 R317 to R319, 08 R438, R440, R442, R446).
-/
namespace Sys2Proof.Machine

variable {s s1 : State} {c : Cmd} {r : Fin 128} {n : Nat} {y : Context} {ok : Bool}

/-! ### PARK (08 R440) -/

/-- A park that waits for the boundary (06 R318). -/
def parkAsked (s : State) (c : Cmd) (n : Nat) : State :=
  ringGoesOn (modCtx s n fun z => { z with parkPending := some { ref := c.ref, addr := c.addr, swap := false, saved := false } }) c.ref

theorem doPark_of_pass (hentry : notEntry s = false) (himage : s.gener.image ≠ none) (hsess : findSess s c = some (n, y)) (hst : y.st = .decode)
    (hpend : y.parkPending = none) (hclose : y.closeAfter = false) (hlen : c.len ≠ 0) (hroom : parkSize s y.len ≤ c.len) :
    doPark s c = parkAsked s c n := by
  unfold doPark
  rw [hsess]
  refine checked_of_pass ?_
  simp [Option.isSome_iff_ne_none, himage, leaving, hpend, hclose, hst, hentry, hlen, hroom]

/-! ### UNPARK (08 R442, R443) -/

/-- The deadline that a block gives its session, 0 standing for the default (06 R321, 08 R438). -/
def blockDeadline (s : State) (c : Cmd) : Nat :=
  if (blockCtx s c.addr {}).deadline = 0 then s.gener.dlDef else (blockCtx s c.addr {}).deadline

/-- A session that no context holds takes one from its park block, and waits as a join (08 R442, R443). -/
def unparkAsked (s : State) (c : Cmd) (n : Nat) : State :=
  setCtx (joinCounted s) n { blockCtx s c.addr { st := .parked, ring := c.ref.ring } with
    deadline := blockDeadline s c, join := some (freshJoin s c true) }

/-- A park block is sound and fits its length (08 R438, R442). -/
def BlockSound (s : State) (c : Cmd) : Prop :=
  let b := blockCtx s c.addr {}
  c.len ≠ 0 ∧ parkSize s b.len ≤ c.len ∧ memNat s.host c.addr 4 = 0x4B524150 ∧ memNat s.host (c.addr + 4) 4 = 1 ∧ b.sid = c.sid
    ∧ memNat s.host (c.addr + 0xF8) 8 = parkDigest s c.addr b.len

theorem findSess_none (h : ctxBySid s c.sid = none) : findSess s c = none := by rw [findSess, h]

theorem doUnpark_of_pass (hentry : notEntry s = false) (himage : s.gener.image ≠ none) (hsid : ctxBySid s c.sid = none)
    (hfree : idleCtxNo s = some n) (htemp : badTemp (blockCtx s c.addr {}).temp = false)
    (hlim : (blockCtx s c.addr {}).limit ≤ rdN s Reg.kvpCtxMax)
    (hpages : pagesFor (blockCtx s c.addr {}).limit + 1 + rdN s Reg.kvpFloor ≤ rdN s Reg.kvpPages)
    (hdead : deadlineFails s (blockCtx s c.addr {}).limit (blockDeadline s c) = false) (hblock : BlockSound s c)
    (hident : memNat s.host (c.addr + 8) 8 = s.gener.hdr.ident) : doUnpark s c = unparkAsked s c n := by
  obtain ⟨hlen, hroom, hmagic, hversion, hsame, hdigest⟩ := hblock
  rw [blockDeadline] at hdead
  unfold doUnpark
  rw [findSess_none hsid, hsid, hfree]
  refine checked_of_pass ?_
  simp [Option.isSome_iff_ne_none, himage, hentry, htemp, hlim, hpages, hdead, hlen, hroom, hmagic, hversion, hsame, hdigest, hident]

/-! ### CLOSE_SESSION (06 R317) -/

/-- What CLOSE_SESSION leaves of a session that is not parked (06 R317, R319). -/
def closeAsked (s : State) (n : Nat) (y : Context) : State :=
  if y.st = .opened then idleCtx s n else modCtx (dropGenJoin s n) n fun z => { z with st := .closing }

theorem doClose_of_pass (hentry : notEntry s = false) (himage : s.gener.image ≠ none) (hsess : findSess s c = some (n, y))
    (hst : y.st ≠ .closing) (hpark : y.st ≠ .parked) (hclose : y.closeAfter = false) :
    doClose s c = finish (closeAsked s n y) c.ref 0 0 0 := by
  have hgo : doClose s c = finish (if y.st = .opened then idleCtx s n else if y.st = .parked then
      (if y.park.all fun p => p.saved then idleCtx s n else modCtx (dropGenJoin s n) n fun z => { z with closeAfter := true })
      else modCtx (dropGenJoin s n) n fun z => { z with st := .closing }) c.ref 0 0 0 := by
    unfold doClose
    rw [hsess]
    refine checked_of_pass ?_
    simp [Option.isSome_iff_ne_none, himage, hst, hclose, hentry]
  rw [hgo, if_neg hpark]
  rfl

@[simp] theorem showFree_gener : (showFree s).gener = s.gener := by
  unfold showFree
  dsimp only
  (repeat' split) <;> simp

@[simp] theorem showFree_sched : (showFree s).sched = s.sched := by
  unfold showFree
  dsimp only
  (repeat' split) <;> simp

/-- A context that becomes idle holds nothing (06 R317). -/
theorem ctxOf_idleCtx_same : ctxOf (idleCtx s n) n = {} := by
  unfold idleCtx
  dsimp only
  rw [ctxOf_congr (congrArg Gener.ctxs showFree_gener), ctxOf_setCtx, if_pos rfl]

theorem dropGenJoin_of_none (h : (ctxOf s n).join = none) : dropGenJoin s n = s := by rw [dropGenJoin, h]

/-- Settles O32: every check passes, so the park is asked for, the block's context waits to come back, and the session goes or is closing. -/
theorem parkUnparkCloseRun : Obligations.ParkUnparkCloseRun := by
  unfold Obligations.ParkUnparkCloseRun
  intro s s1 c r ok n y hentry hok himage
  refine ⟨fun hturn hsess hst hpend hclose hlen hroom => handles_session rfl hturn (hifCheck_true hok) hentry ?_, ?_, ?_⟩
  · obtain ⟨-, -, hring, hloc⟩ := id hturn
    rw [doPark_of_pass hentry himage hsess hst hpend hclose hlen hroom]
    simp only [parkAsked, ctxOf_ringGoesOn, ctxOf_modCtx, if_true, ctxOf_of_turn hturn, true_and]
    refine ⟨?_, fun k hk => if_neg hk⟩
    rw [← hring]
    exact not_busy_ringGoesOn hloc
  · intro hturn hsid hfree b dl htemp hlim hpages hdead hlen hroom hmagic hversion hsame hdigest hident
    refine handles_session rfl hturn hok hentry ?_
    rw [doUnpark_of_pass hentry himage hsid hfree htemp hlim hpages hdead ⟨hlen, hroom, hmagic, hversion, hsame, hdigest⟩ hident]
    simp only [unparkAsked, ctxOf_setCtx, if_true]
    refine ⟨rfl, hsame, rfl, rfl, rfl, rfl, rfl, rfl, rfl, fun k hk => ?_⟩
    rw [if_neg hk, ← ctxOf_of_turn hturn]
    rfl
  · intro hturn hsess hy hclose
    obtain ⟨-, -, -, hloc⟩ := id hturn
    refine ⟨fun hst => handles_session rfl hturn (hifCheck_true hok) hentry ?_,
      fun hst hjoin => handles_session rfl hturn (hifCheck_true hok) hentry ?_⟩
    · rw [doClose_of_pass hentry himage hsess (by rw [hst]; nofun) (by rw [hst]; nofun) hclose, ctxOf_finish, closeAsked, if_pos hst]
      exact ⟨completed_finish hloc .., ctxOf_idleCtx_same⟩
    · have hne : y.st ≠ .opened ∧ y.st ≠ .closing ∧ y.st ≠ .parked := by
        rcases hst with h | h <;> rw [h] <;> exact ⟨nofun, nofun, nofun⟩
      rw [doClose_of_pass hentry himage hsess hne.2.1 hne.2.2 hclose, ctxOf_finish, closeAsked, if_neg hne.1,
        dropGenJoin_of_none (by rw [hy, hjoin]), ctxOf_modCtx, if_pos rfl, hy]
      exact ⟨completed_finish hloc .., rfl⟩

end Sys2Proof.Machine

/-!
SUPPORT. The contexts as the boundary runs through them: the entries of one context, the contexts held, and the orders in which they are taken
(06 R313, R327, R331, R333).
-/
namespace Sys2Proof.Machine

/-! ### Sparse maps, filtered -/

section Maps
variable {α : Type} {m : SMap α} {k : Nat} {v : α} {p : Nat × α → Bool}

theorem filter_smIns_of_neg (h : p (k, v) = false) : (smIns m k v).filter p = m.filter p := by
  induction m with
  | nil => simp [smIns, h]
  | cons e m ih =>
    obtain ⟨a, x⟩ := e
    rw [smIns]
    split
    · rw [List.filter_cons, h, if_neg Bool.false_ne_true]
    · rw [List.filter_cons, List.filter_cons, ih]

theorem filter_smIns_of_nil (h : m.filter p = []) : (smIns m k v).filter p = [(k, v)].filter p := by
  induction m with
  | nil => rfl
  | cons e m ih =>
    obtain ⟨a, x⟩ := e
    obtain ⟨he, hm⟩ : p (a, x) = false ∧ m.filter p = [] := by
      rw [List.filter_eq_nil_iff, List.forall_mem_cons] at h
      exact ⟨by simpa using h.1, List.filter_eq_nil_iff.mpr h.2⟩
    rw [smIns]
    split
    · rw [List.filter_cons, List.filter_cons, List.filter_cons, he, hm]
      rfl
    · rw [List.filter_cons, he, if_neg Bool.false_ne_true, ih hm]

end Maps

/-! ### Folds and sorts -/

/-- A fold keeps what each of its steps on the listed elements keeps. -/
theorem each_keeps_of_mem {σ α β : Type} (g : σ → β) {f : α → σ → σ} {xs : List α} (h : ∀ a ∈ xs, ∀ t, g (f a t) = g t)
    (s : σ) : g (each xs f s) = g s := by
  induction xs generalizing s with
  | nil => rfl
  | cons x xs ih =>
    rw [List.forall_mem_cons] at h
    exact (ih h.2 (f x s)).trans (h.1 s)

theorem mem_insBy {α : Type} {le : α → α → Bool} {x a : α} {xs : List α} : a ∈ insBy le x xs ↔ a = x ∨ a ∈ xs := by
  induction xs with
  | nil => simp [insBy]
  | cons y ys ih =>
    rw [insBy]
    split
    · exact List.mem_cons
    · rw [List.mem_cons, ih, List.mem_cons]
      tauto

theorem mem_sortBy {α : Type} {le : α → α → Bool} {a : α} {xs : List α} : a ∈ sortBy le xs ↔ a ∈ xs := by
  induction xs with
  | nil => rfl
  | cons x xs ih => rw [List.mem_cons, ← ih, sortBy, List.foldr_cons, mem_insBy, sortBy]

/-! ### The entries of one context -/

variable {s t : State} {n k c : Nat} {x y : Context}

/-- The entries of a context. -/
def heldAt (k : Nat) (s : State) : List (Nat × Context) := s.gener.ctxs.filter fun e => e.1 == k

theorem heldAt_congr (h : t.gener.ctxs = s.gener.ctxs) : heldAt k t = heldAt k s := by rw [heldAt, heldAt, h]

/-- A context is written apart from every other. -/
theorem heldAt_setCtx_other (hk : c ≠ k) : heldAt k (setCtx s c x) = heldAt k s := by
  have hdel : (smDel s.gener.ctxs c).filter (fun e => e.1 == k) = heldAt k s := by
    rw [smDel, heldAt, List.filter_filter]
    refine List.filter_congr fun e _ => ?_
    by_cases he : e.1 = k
    · simp [he, Ne.symm hk]
    · simp [he]
  show (smSet (dflt {}) s.gener.ctxs c x).filter _ = _
  rw [smSet]
  split
  · exact hdel
  · rw [filter_smIns_of_neg (by simpa using hk), hdel]

theorem heldAt_setCtx_idle : heldAt k (setCtx s k {}) = [] := by
  show (smSet (dflt {}) s.gener.ctxs k {}).filter _ = _
  rw [smSet, if_pos (show ({} : Context) = dflt {} k from rfl), smDel, List.filter_filter]
  simp

/-- A context is read off its entries. -/
theorem ctxOf_eq_smGet_heldAt (s : State) (k : Nat) : ctxOf s k = smGet (dflt {}) (heldAt k s) k := by
  have hget : ∀ m : SMap Context, smGet (dflt {}) m k = smGet (dflt {}) (m.filter fun e => e.1 == k) k := by
    intro m
    induction m with
    | nil => rfl
    | cons e m ih =>
      rw [smGet, List.filter_cons, ih]
      by_cases he : k = e.1
      · simp [he, smGet]
      · simp [he, Ne.symm he]
  exact hget _

theorem ctxOf_of_heldAt (h : heldAt k t = heldAt k s) : ctxOf t k = ctxOf s k := by
  rw [ctxOf_eq_smGet_heldAt, h, ← ctxOf_eq_smGet_heldAt]

theorem ctxOf_of_not_held (h : heldAt k s = []) : ctxOf s k = {} := by
  rw [ctxOf_eq_smGet_heldAt, h]
  rfl

/-- There is always a number that no context has. -/
theorem exists_not_held (s : State) : ∃ k, heldAt k s = [] := by
  obtain ⟨k, hk⟩ := Infinite.exists_notMem_finset (s.gener.ctxs.map Prod.fst).toFinset
  refine ⟨k, List.filter_eq_nil_iff.mpr fun e he hek => hk ?_⟩
  rw [List.mem_toFinset, List.mem_map]
  exact ⟨e, he, by simpa using hek⟩

theorem ne_of_mem_ctxs (h : heldAt k s = []) {e : Nat × Context} (he : e ∈ s.gener.ctxs) : e.1 ≠ k := fun hek =>
  List.filter_eq_nil_iff.mp h e he (by simpa using hek)

/-! ### The contexts held -/

theorem liveCtxs_congr (h : t.gener.ctxs = s.gener.ctxs) : liveCtxs t = liveCtxs s := by rw [liveCtxs, liveCtxs, h]

theorem mem_liveCtxs {e : Nat × Context} : e ∈ liveCtxs s ↔ e ∈ s.gener.ctxs ∧ e.2.st ≠ .idle := by simp [liveCtxs]

theorem ne_of_mem_liveCtxs (h : heldAt k s = []) {e : Nat × Context} (he : e ∈ liveCtxs s) : e.1 ≠ k :=
  ne_of_mem_ctxs h (mem_liveCtxs.mp he).1

/-- A context that is not idle is among those held. -/
theorem mem_liveCtxs_of_busy (h : (ctxOf s k).st ≠ .idle) : (k, ctxOf s k) ∈ liveCtxs s := by
  have hmem : ∀ m : SMap Context, smGet (dflt {}) m k ≠ {} → (k, smGet (dflt {}) m k) ∈ m := by
    intro m
    induction m with
    | nil => intro hne; exact absurd rfl hne
    | cons e m ih =>
      obtain ⟨a, z⟩ := e
      rw [smGet]
      split
      · next hka => exact fun _ => hka ▸ List.mem_cons_self
      · exact fun hne => List.mem_cons_of_mem _ (ih hne)
  refine mem_liveCtxs.mpr ⟨hmem _ fun hk => h ?_, h⟩
  rw [ctxOf, hk]

/-- One context alone is held. -/
def Only (s : State) (n : Nat) (x : Context) : Prop := liveCtxs s = [(n, x)] ∧ ctxOf s n = x

theorem Only.congr (h : Only s n x) (hc : t.gener.ctxs = s.gener.ctxs) : Only t n x :=
  ⟨(liveCtxs_congr hc).trans h.1, (ctxOf_congr hc n).trans h.2⟩

/-- It stays the only one when it changes. -/
theorem Only.setCtx (h : Only s n x) (hy : y.st ≠ .idle) : Only (setCtx s n y) n y := by
  refine ⟨?_, by rw [ctxOf_setCtx, if_pos rfl]⟩
  have hrest : (smDel s.gener.ctxs n).filter (fun e => decide (e.2.st ≠ .idle)) = [] := by
    rw [List.filter_eq_nil_iff]
    intro e he hlive
    obtain ⟨hmem, hne⟩ := mem_smDel.mp he
    have hin : e ∈ liveCtxs s := mem_liveCtxs.mpr ⟨hmem, by simpa using hlive⟩
    rw [h.1, List.mem_singleton] at hin
    exact hne (by rw [hin])
  have hne : y ≠ dflt {} n := fun hy' => hy (by rw [hy']; rfl)
  show (smSet (dflt {}) s.gener.ctxs n y).filter _ = _
  rw [smSet, if_neg hne, filter_smIns_of_nil hrest, List.filter_cons, if_pos (by simpa using hy)]
  rfl

theorem Only.modCtx (h : Only s n x) {f : Context → Context} (hf : (f x).st ≠ .idle) : Only (modCtx s n f) n (f x) := by
  rw [Machine.modCtx, h.2]
  exact h.setCtx hf

end Sys2Proof.Machine

/-!
SUPPORT. What the boundary's treatment of one context leaves of the others, of the schedule and of the boundary's own mark (06 R317, R327, R331,
R335, 08 R441 to R449).
-/
namespace Sys2Proof.Machine

variable {s t : State} {k c n : Nat} {x : Context}

/-! ### Shown registers and events -/

@[simp] theorem showDefer_gener : (showDefer s).gener = s.gener := by unfold showDefer; dsimp only; split <;> simp
@[simp] theorem showDefer_sched : (showDefer s).sched = s.sched := by unfold showDefer; dsimp only; split <;> simp
@[simp] theorem showPrio_gener : (showPrio s).gener = s.gener := wrB_gener ..
@[simp] theorem showPrio_sched : (showPrio s).sched = s.sched := wrB_sched ..
@[simp] theorem showPx_gener : (showPx s).gener = s.gener := wrN_gener ..
@[simp] theorem showPx_sched : (showPx s).sched = s.sched := wrN_sched ..
@[simp] theorem writeList_gener : (writeList s c).gener = s.gener := putHbm_gener ..
@[simp] theorem writeList_sched : (writeList s c).sched = s.sched := putHbm_sched ..

@[simp] theorem sessEv_gener (page bits type code : Nat) (d : List Nat) : (sessEv s page bits type code x d).gener = s.gener := raiseEv_gener ..
@[simp] theorem sessEv_sched (page bits type code : Nat) (d : List Nat) : (sessEv s page bits type code x d).sched = s.sched := raiseEv_sched ..

@[simp] theorem cancelRef_gener (r : Option CmdRef) : (cancelRef s r).gener = s.gener := by cases r <;> simp [cancelRef]
@[simp] theorem cancelRef_sched (r : Option CmdRef) : (cancelRef s r).sched = s.sched := by cases r <;> simp [cancelRef]

@[simp] theorem finishBehind_gener (r : CmdRef) (status w6 w7 : Nat) : (finishBehind s c x r status w6 w7).gener = s.gener := by
  unfold finishBehind
  dsimp only
  (repeat' split) <;> simp

@[simp] theorem finishBehind_sched (r : CmdRef) (status w6 w7 : Nat) : (finishBehind s c x r status w6 w7).sched = s.sched := by
  unfold finishBehind
  dsimp only
  (repeat' split) <;> simp

/-! ### Apart from one context -/

/-- The schedule, the mark of a boundary that is due, and the entries of a context. -/
def apartFrom (k : Nat) (s : State) := (s.sched, s.gener.atBoundary, heldAt k s)

theorem apartFrom_congr (hs : t.sched = s.sched) (hg : t.gener = s.gener) : apartFrom k t = apartFrom k s := by
  rw [apartFrom, apartFrom, hs, hg, heldAt_congr (congrArg Gener.ctxs hg)]

theorem sched_of_apartFrom (h : apartFrom k t = apartFrom k s) : t.sched = s.sched := (Prod.mk.inj h).1

theorem atBoundary_of_apartFrom (h : apartFrom k t = apartFrom k s) : t.gener.atBoundary = s.gener.atBoundary := (Prod.mk.inj (Prod.mk.inj h).2).1

theorem heldAt_of_apartFrom (h : apartFrom k t = apartFrom k s) : heldAt k t = heldAt k s := (Prod.mk.inj (Prod.mk.inj h).2).2

theorem apartFrom_prio (p : Option Nat) : apartFrom k (putGener s { s.gener with prio := p }) = apartFrom k s := rfl

theorem apartFrom_xfers (xs : List Xfer) : apartFrom k (putGener s { s.gener with xfers := xs }) = apartFrom k s := rfl

theorem apartFrom_joinSeq (m : Nat) : apartFrom k (putGener s { s.gener with joinSeq := m }) = apartFrom k s := rfl

theorem apartFrom_deadlock (b : Bool) : apartFrom k (putGener s { s.gener with deadlock := b }) = apartFrom k s := rfl

theorem apartFrom_cntReg (off m : Nat) : apartFrom k (cntReg s off m) = apartFrom k s := apartFrom_congr (cntReg_sched ..) (cntReg_gener ..)

/-! ### An admitted join (06 R317, R333) -/

/-- The context of a join that is admitted (06 R317, 08 R443). -/
def admittedCtx (s : State) (j : Join) (x : Context) : Context :=
  if j.unpark then { x with st := .decode, join := none, reading := true, unparkRef := (if j.swap then none else some j.ref),
                            accrued := 0, short := false, told := !inGroup s }
  else { x with st := .prefill, join := none, admitAt := s.gener.boundary, short := false, blocked := false }

/-- The join has its pages, its ring goes on, and it counts (06 R333, 13 R613). -/
def joinServed (s : State) (c : Nat) (j : Join) : State :=
  cntReg (ringGoesOn (modCtx (takePages s c (joinNeed (ctxOf s c) j.unpark)) c (admittedCtx s j)) j.ref) Reg.sluJoins 1

/-- The read of a parked session is queued (08 R443). -/
def readQueued (s : State) (c : Nat) (j : Join) : State := if j.unpark then addXfer s (.unpark c) else s

/-- A swap is told, a forwarded join varies, and any other moves RING_PTR (06 R333, 07 R414, 08 R447). -/
def joinNoted (s : State) (c : Nat) (j : Join) (x : Context) (need : Nat) : State :=
  if j.swap then sessEv s Reg.pageSlu 0 0x20 0x0008 x [c, need, 0, 0]
  else if j.ref.remote then cntReg s Reg.dbgVarAdmit 1
  else wrF s Reg.sluAdmitCtl 22 16 (j.ref.ring + 1)

/-- A hold of this context is over (06 R335). -/
def holdDropped (s : State) (c : Nat) : State := putGener s { s.gener with prio := if s.gener.prio = some c then none else s.gener.prio }

theorem admitJoin_eq (j : Join) : admitJoin s c j = showPx (showPrio (holdDropped
    (joinNoted (readQueued (joinServed s c j) c j) c j (ctxOf s c) (joinNeed (ctxOf s c) j.unpark)) c)) := rfl

@[simp] theorem joinNoted_gener (j : Join) (need : Nat) : (joinNoted s c j x need).gener = s.gener := by
  unfold joinNoted
  (repeat' split) <;> simp

@[simp] theorem joinNoted_sched (j : Join) (need : Nat) : (joinNoted s c j x need).sched = s.sched := by
  unfold joinNoted
  (repeat' split) <;> simp

/-! ### Other contexts -/

section Other
variable (hk : c ≠ k)
include hk

theorem apartFrom_setCtx : apartFrom k (setCtx s c x) = apartFrom k s := by
  rw [apartFrom, heldAt_setCtx_other hk]
  rfl

theorem apartFrom_modCtx {f : Context → Context} : apartFrom k (modCtx s c f) = apartFrom k s := apartFrom_setCtx hk

theorem apartFrom_endGen (status lost : Nat) : apartFrom k (endGen s c status lost) = apartFrom k s := by
  unfold endGen
  dsimp only
  split
  · rw [apartFrom_modCtx hk]
    exact apartFrom_congr (by simp) (by simp)
  · rfl

theorem apartFrom_cancelJoin : apartFrom k (cancelJoin s c) = apartFrom k s := by
  unfold cancelJoin
  split
  · dsimp only
    rw [apartFrom_congr showPrio_sched showPrio_gener, apartFrom_prio, apartFrom_congr showDefer_sched showDefer_gener,
      apartFrom_modCtx hk]
    split
    · exact apartFrom_congr (by simp) (by simp)
    · rfl
  · rfl

theorem apartFrom_idleCtx : apartFrom k (idleCtx s c) = apartFrom k s := by
  unfold idleCtx
  dsimp only
  rw [apartFrom_congr showFree_sched showFree_gener, apartFrom_setCtx hk, apartFrom_xfers,
    apartFrom_congr (cancelRef_sched _) (cancelRef_gener _), apartFrom_congr (cancelRef_sched _) (cancelRef_gener _),
    apartFrom_congr (cancelRef_sched _) (cancelRef_gener _), apartFrom_cancelJoin hk, apartFrom_endGen hk]

theorem apartFrom_freeCtxPages : apartFrom k (freeCtxPages s c) = apartFrom k s := by
  rw [freeCtxPages, apartFrom_congr showFree_sched showFree_gener, apartFrom_modCtx hk]

theorem apartFrom_leaveCtx : apartFrom k (leaveCtx s c) = apartFrom k s := by
  unfold leaveCtx
  dsimp only
  split
  · rw [apartFrom_cntReg, apartFrom_idleCtx hk]
  · split
    · rw [apartFrom_cntReg, addXfer, apartFrom_xfers, apartFrom_modCtx hk, apartFrom_cancelJoin hk, apartFrom_endGen hk]
    · split
      · split
        · rw [apartFrom_freeCtxPages hk, apartFrom_modCtx hk]
        · rfl
      · rfl

theorem apartFrom_takePages (m : Nat) : apartFrom k (takePages s c m) = apartFrom k s := by
  rw [takePages, apartFrom_congr showFree_sched showFree_gener, apartFrom_congr writeList_sched writeList_gener, apartFrom_modCtx hk]

theorem apartFrom_giveSpare : apartFrom k (giveSpare s c) = apartFrom k s := by
  unfold giveSpare
  dsimp only
  split
  · split
    · rfl
    · rw [apartFrom_congr (sessEv_sched ..) (sessEv_gener ..), apartFrom_cntReg, apartFrom_modCtx hk]
  · split
    · rw [apartFrom_congr (sessEv_sched ..) (sessEv_gener ..), apartFrom_modCtx hk, apartFrom_takePages hk]
    · rw [apartFrom_modCtx hk, apartFrom_takePages hk]

theorem apartFrom_admitJoin (j : Join) : apartFrom k (admitJoin s c j) = apartFrom k s := by
  have hread : apartFrom k (readQueued (joinServed s c j) c j) = apartFrom k (joinServed s c j) := by
    unfold readQueued
    split
    · exact apartFrom_xfers _
    · rfl
  rw [admitJoin_eq, apartFrom_congr showPx_sched showPx_gener, apartFrom_congr showPrio_sched showPrio_gener, holdDropped, apartFrom_prio,
    apartFrom_congr (joinNoted_sched ..) (joinNoted_gener ..), hread, joinServed, apartFrom_cntReg,
    apartFrom_congr (ringGoesOn_sched ..) (ringGoesOn_gener ..), apartFrom_modCtx hk, apartFrom_takePages hk]

theorem apartFrom_deferJoin (j : Join) (cause : Nat) : apartFrom k (deferJoin s c j cause) = apartFrom k s := by
  unfold deferJoin
  dsimp only
  rw [apartFrom_congr (raiseEv_sched ..) (raiseEv_gener ..), apartFrom_cntReg, apartFrom_modCtx hk]

theorem apartFrom_keepJoin : apartFrom k (keepJoin s c) = apartFrom k s := apartFrom_modCtx hk

theorem apartFrom_considerJoin (counted held : Bool) (j : Join) : apartFrom k (considerJoin counted (s, held) (c, j)).1 = apartFrom k s := by
  have hdefer : ∀ cause, apartFrom k (if counted then deferJoin s c j cause else keepJoin s c) = apartFrom k s := fun cause => by
    split
    · exact apartFrom_deferJoin hk j cause
    · exact apartFrom_keepJoin hk
  unfold considerJoin
  dsimp only
  split
  · exact hdefer 4
  · split
    · exact apartFrom_admitJoin hk j
    · exact hdefer _

theorem apartFrom_swapPark : apartFrom k (swapPark s c) = apartFrom k s := by
  unfold swapPark
  dsimp only
  rw [apartFrom_congr (sessEv_sched ..) (sessEv_gener ..), addXfer, apartFrom_xfers, apartFrom_joinSeq, apartFrom_modCtx hk]

end Other

end Sys2Proof.Machine

/-!
SUPPORT. The boundary's actions before the next step is agreed: a context that is closing leaves and stays away, and neither the schedule nor the
mark of the boundary changes (06 R317, R327, R330, 08 R444, R448).
-/
namespace Sys2Proof.Machine

variable {s t : State} {k c n : Nat} {x : Context} {im : Image} {b : List BatchEntry}

/-! ### Leaves (06 R327 action 1) -/

/-- A context without entries has nothing to leave. -/
theorem leaveCtx_of_not_held (h : heldAt k s = []) : leaveCtx s k = s := by
  unfold leaveCtx
  rw [ctxOf_of_not_held h]
  rfl

theorem heldAt_idleCtx : heldAt k (idleCtx s k) = [] := by
  unfold idleCtx
  dsimp only
  rw [heldAt_congr (congrArg Gener.ctxs showFree_gener), heldAt_setCtx_idle]

/-- A closing context leaves (06 R317). -/
theorem heldAt_leaveCtx_of_closing (h : (ctxOf s k).st = .closing) : heldAt k (leaveCtx s k) = [] := by
  unfold leaveCtx
  dsimp only
  rw [if_pos h, heldAt_congr (congrArg Gener.ctxs (cntReg_gener ..)), heldAt_idleCtx]

theorem apartFrom_leaveCtx_of_not_held (h : heldAt k s = []) : apartFrom k (leaveCtx s c) = apartFrom k s := by
  by_cases hc : c = k
  · rw [hc, leaveCtx_of_not_held h]
  · exact apartFrom_leaveCtx hc

/-- The leaves of some contexts. -/
def leaves (xs : List (Nat × Context)) (s : State) : State := each xs (fun x s => leaveCtx s x.1) s

theorem apartFrom_leaves (xs : List (Nat × Context)) (h : heldAt k s = []) : apartFrom k (leaves xs s) = apartFrom k s := by
  induction xs generalizing s with
  | nil => rfl
  | cons e xs ih =>
    have hstep : apartFrom k (leaveCtx s e.1) = apartFrom k s := apartFrom_leaveCtx_of_not_held h
    exact (ih ((heldAt_of_apartFrom hstep).trans h)).trans hstep

theorem ctxOf_leaveCtx_other (hk : c ≠ k) : ctxOf (leaveCtx s c) k = ctxOf s k := ctxOf_of_heldAt (heldAt_of_apartFrom (apartFrom_leaveCtx hk))

/-- Once every context held has had its leave, no closing one is held (06 R317). -/
theorem heldAt_leaves_of_closing {xs : List (Nat × Context)} (hmem : ∃ e ∈ xs, e.1 = k) (h : (ctxOf s k).st = .closing) :
    heldAt k (leaves xs s) = [] := by
  induction xs generalizing s with
  | nil => obtain ⟨e, he, -⟩ := hmem; cases he
  | cons e xs ih =>
    show heldAt k (leaves xs (leaveCtx s e.1)) = []
    by_cases hk : e.1 = k
    · have hgone : heldAt k (leaveCtx s e.1) = [] := by rw [hk]; exact heldAt_leaveCtx_of_closing h
      rw [heldAt_of_apartFrom (apartFrom_leaves xs hgone), hgone]
    · refine ih ?_ (by rw [ctxOf_leaveCtx_other hk, h])
      obtain ⟨e', he', hek⟩ := hmem
      rcases List.mem_cons.mp he' with rfl | hin
      · exact absurd hek hk
      · exact ⟨e', hin, hek⟩

/-! ### The boundary up to its joins -/

/-- The boundary is taken: its mark and the repetition's fall (06 R327, 08 R448). -/
def boundaryTaken (s : State) (counted : Bool) : State :=
  putGener s { s.gener with atBoundary := false, again := false, boundary := s.gener.boundary + b2n counted }

/-- The contexts that leave have left (06 R327 action 1). -/
def boundaryLeft (s : State) (counted : Bool) : State :=
  showPx (takeGap (leaves (liveCtxs (boundaryTaken s counted)) (boundaryTaken s counted)))

/-- Short contexts have their spares (06 R331). -/
def sparesGiven (s : State) : State := each (shortCtxs s) (fun x s => giveSpare s x.1) s

/-- No deadlock is reported (08 R449). -/
def deadlockClear (s : State) : State := putGener s { s.gener with deadlock := false }

/-- The boundary's actions from the eligible set on (06 R327 actions 4 to 7, 08 R444). -/
def boundaryEnd (s : State) (im : Image) : State :=
  let s4 := noteEligible s (eligibleSet s)
  if (eligibleSet s).isEmpty then tellParks (relieve s4)
  else
    let s5 := deadlockClear s4
    if mayDecide s5 then decideStep s5 im (eligibleSet s) else tellParks s5

theorem boundaryActions_eq (s : State) (im : Image) (counted : Bool) :
    boundaryActions s im counted = boundaryEnd (boundaryJoins (sparesGiven (boundaryLeft s counted)) counted) im := rfl

theorem apartFrom_takeGap : apartFrom k (takeGap s) = apartFrom k s := by
  unfold takeGap
  split <;> rfl

theorem apartFrom_boundaryLeft {counted : Bool} (h : heldAt k s = []) :
    apartFrom k (boundaryLeft s counted) = apartFrom k (boundaryTaken s counted) := by
  rw [boundaryLeft, apartFrom_congr showPx_sched showPx_gener, apartFrom_takeGap, apartFrom_leaves (s := boundaryTaken s counted) _ h]

theorem heldAt_boundaryLeft_of_closing {counted : Bool} (h : (ctxOf s k).st = .closing) : heldAt k (boundaryLeft s counted) = [] := by
  have hlive : (k, ctxOf s k) ∈ liveCtxs (boundaryTaken s counted) := mem_liveCtxs_of_busy (s := s) (by rw [h]; nofun)
  rw [boundaryLeft, heldAt_congr (congrArg Gener.ctxs showPx_gener), heldAt_of_apartFrom apartFrom_takeGap]
  exact heldAt_leaves_of_closing ⟨_, hlive, rfl⟩ h

theorem mem_live_of_mem_shortCtxs {e : Nat × Context} (h : e ∈ shortCtxs s) : e ∈ liveCtxs s := (List.mem_filter.mp (mem_sortBy.mp h)).1

theorem apartFrom_sparesGiven (h : heldAt k s = []) : apartFrom k (sparesGiven s) = apartFrom k s :=
  each_keeps_of_mem (apartFrom k) (fun _ he _ => apartFrom_giveSpare (ne_of_mem_liveCtxs h (mem_live_of_mem_shortCtxs he))) _

/-! ### Joins (06 R327 action 3) -/

theorem mem_putJoin {r e : Nat × Join} {js : List (Nat × Join)} : e ∈ putJoin r js ↔ e = r ∨ e ∈ js := by
  induction js with
  | nil => simp [putJoin]
  | cons j js ih =>
    rw [putJoin]
    split
    · exact List.mem_cons
    · rw [List.mem_cons, ih, List.mem_cons]
      tauto

theorem mem_foldl_putJoin {e : Nat × Join} {js rs : List (Nat × Join)} :
    e ∈ rs.foldl (fun a r => putJoin r a) js ↔ e ∈ rs ∨ e ∈ js := by
  induction rs generalizing js with
  | nil => simp
  | cons r rs ih =>
    rw [List.foldl_cons, ih, mem_putJoin, List.mem_cons]
    tauto

/-- A join that is considered is one of a context held. -/
theorem live_of_mem_joinOrder {e : Nat × Join} (h : e ∈ joinOrder s) : ∃ x ∈ liveCtxs s, x.1 = e.1 := by
  have hin : e ∈ (liveCtxs s).filterMap fun x => x.2.join.map fun j => (x.1, j) := by
    unfold joinOrder at h
    dsimp only at h
    rw [List.mem_append, mem_foldl_putJoin] at h
    rcases h with h | h | h
    · exact (List.mem_filter.mp (mem_sortBy.mp h)).1
    · exact (List.mem_filter.mp (List.mem_filter.mp (mem_sortBy.mp h)).1).1
    · exact (List.mem_filter.mp (List.mem_filter.mp (mem_sortBy.mp h)).1).1
  obtain ⟨x, hx, hj⟩ := List.mem_filterMap.mp hin
  obtain ⟨j, -, rfl⟩ := Option.map_eq_some_iff.mp hj
  exact ⟨x, hx, rfl⟩

theorem apartFrom_beginHold : apartFrom k (beginHold s) = apartFrom k s := by
  unfold beginHold
  dsimp only
  split
  · rfl
  · split
    · rw [apartFrom_congr (raiseEv_sched ..) (raiseEv_gener ..), apartFrom_prio]
    · rfl

theorem apartFrom_foldl_considerJoin {counted : Bool} {js : List (Nat × Join)} (hjs : ∀ j ∈ js, j.1 ≠ k) (a : State × Bool) :
    apartFrom k (js.foldl (considerJoin counted) a).1 = apartFrom k a.1 := by
  induction js generalizing a with
  | nil => rfl
  | cons j js ih =>
    rw [List.forall_mem_cons] at hjs
    exact (ih hjs.2 _).trans (apartFrom_considerJoin hjs.1 ..)

theorem apartFrom_boundaryJoins {counted : Bool} (h : heldAt k s = []) : apartFrom k (boundaryJoins s counted) = apartFrom k s := by
  have hshown : ∀ b : Bool, apartFrom k (if b then wrB s Reg.sluAdmitCtl 23 true else s) = apartFrom k s := fun b => by
    split
    · exact apartFrom_congr (wrB_sched ..) (wrB_gener ..)
    · rfl
  have hjoins : ∀ b : Bool, ∀ j ∈ joinOrder (if b then wrB s Reg.sluAdmitCtl 23 true else s), j.1 ≠ k := fun b j hj => by
    obtain ⟨e, he, hej⟩ := live_of_mem_joinOrder hj
    exact hej ▸ ne_of_mem_liveCtxs ((heldAt_of_apartFrom (hshown b)).trans h) he
  have hhold : ∀ u : State, apartFrom k (if counted then beginHold u else u) = apartFrom k u := fun u => by
    split
    · exact apartFrom_beginHold
    · rfl
  unfold boundaryJoins
  dsimp only
  rw [apartFrom_congr showDefer_sched showDefer_gener, hhold, apartFrom_foldl_considerJoin (hjoins _), hshown]

/-! ### Eligibility, parks and what is told (06 R341, 08 R439, R444) -/

theorem apartFrom_noteEligible (h : heldAt k s = []) : apartFrom k (noteEligible s b) = apartFrom k s :=
  each_keeps_of_mem (apartFrom k) (fun _ he _ => apartFrom_modCtx (ne_of_mem_liveCtxs h he)) _

theorem apartFrom_noteTold (h : heldAt k s = []) : apartFrom k (noteTold s) = apartFrom k s :=
  each_keeps_of_mem (apartFrom k) (fun _ he _ => apartFrom_modCtx (ne_of_mem_liveCtxs h he)) _

theorem apartFrom_relieve (h : heldAt k s = []) : apartFrom k (relieve s) = apartFrom k s := by
  unfold relieve
  dsimp only
  split
  · exact apartFrom_deadlock _
  · split
    · next e he =>
      have hmem := (List.mem_filter.mp (List.mem_of_find?_eq_some he)).1
      rw [apartFrom_swapPark (ne_of_mem_liveCtxs h (mem_live_of_mem_shortCtxs hmem)), apartFrom_deadlock]
    · split
      · rfl
      · rw [apartFrom_congr (raiseEv_sched ..) (raiseEv_gener ..), apartFrom_deadlock]

@[simp] theorem putOut_gener (k : Nat) (f : Frame) : (putOut s k f).gener = s.gener := by simp [putOut]

@[simp] theorem sendSeq_gener (k : Nat) (f : Frame) : (sendSeq s k f).gener = s.gener := by
  unfold sendSeq
  dsimp only
  (repeat' split) <;> simp

@[simp] theorem sendLaunch_gener (r : StepRec) : (sendLaunch s r).gener = s.gener := by
  unfold sendLaunch
  split
  · exact each_keeps State.gener _ (fun _ _ => sendSeq_gener ..) _ _
  · rfl

@[simp] theorem sendLaunch_sched (r : StepRec) : (sendLaunch s r).sched = s.sched := by
  unfold sendLaunch
  split
  · exact each_keeps State.sched _ (fun _ _ => sendSeq_sched ..) _ _
  · rfl

theorem apartFrom_sendLaunch (r : StepRec) : apartFrom k (sendLaunch s r) = apartFrom k s := apartFrom_congr (sendLaunch_sched r) (sendLaunch_gener r)

theorem apartFrom_tellParks (h : heldAt k s = []) : apartFrom k (tellParks s) = apartFrom k s := by
  unfold tellParks
  dsimp only
  split
  · rw [apartFrom_noteTold ((heldAt_of_apartFrom (apartFrom_sendLaunch _)).trans h), apartFrom_sendLaunch]
  · rfl

end Sys2Proof.Machine

/-!
SUPPORT. The agreement of the next step (06 R330, R339, R342, R347, 07 R392, R415).
-/
namespace Sys2Proof.Machine

variable {s t : State} {k : Nat} {im : Image} {exited : Bool} {b : List BatchEntry} {dur : Nat}

/-! ### Alternate routes (07 R415) -/

@[simp] theorem stopExec_gener (cause cl : Nat) : (stopExec s cause cl).gener = s.gener := by
  unfold stopExec
  dsimp only
  split <;> simp

@[simp] theorem dropRunning_gener : (dropRunning s).gener = s.gener := by unfold dropRunning; split <;> simp

@[simp] theorem setLevel_gener (n : Nat) : (setLevel s n).gener = s.gener := by
  unfold setLevel
  dsimp only
  (repeat' split) <;> simp

@[simp] theorem setLevel_sched (n : Nat) : (setLevel s n).sched = s.sched := by
  unfold setLevel
  dsimp only
  (repeat' split) <;> simp

/-- A group that stops drops what was agreed, and keeps the generator (07 R408). -/
theorem stopAll_holds : (stopAll s).gener = s.gener ∧ (stopAll s).sched.nextStep = none := by
  have hflood : ∀ f, (flood s none f).gener = s.gener := fun f => each_keeps State.gener _ (fun _ _ => sendSeq_gener ..) _ _
  unfold stopAll stopGroup
  dsimp only
  split <;> simp [azlEvBeside, raiseBeside, setAzl, hflood]

/-- The contexts and the boundary's mark. -/
def seats (s : State) := (s.gener.ctxs, s.gener.atBoundary)

theorem loadGroupRegs_gener (g : List Nat) : (loadGroupRegs s g).gener = s.gener := by
  unfold loadGroupRegs
  dsimp only
  rw [each_keeps State.gener _ fun _ _ => by simp]
  simp

theorem loadGroupRegs_sched (g : List Nat) : (loadGroupRegs s g).sched = s.sched := by
  unfold loadGroupRegs
  dsimp only
  rw [each_keeps State.sched _ fun _ _ => by simp]
  simp

theorem useAlt_holds (a : AltRoute) : seats (useAlt a s) = seats s ∧ (useAlt a s).sched = s.sched := by
  unfold useAlt
  split
  · dsimp only
    rw [seats, cntReg_gener, cntReg_sched, loadGroupRegs_gener, loadGroupRegs_sched]
    exact ⟨rfl, rfl⟩
  · exact ⟨rfl, rfl⟩

/-- The alternate routes whose link is lost (07 R415). -/
def altsDue (s : State) : List AltRoute := (s.gener.image.map fun im => im.alts.filter (altDue s)).getD []

/-- The entry stops the group when a route does not meet its ports' delays (07 R415). -/
def altsFail (s : State) (as : List AltRoute) : Bool :=
  !as.isEmpty && isEntry s && (groupPorts s).any fun k => decide (rdN s (onPage Reg.portHopMax k) < rdN s (onPage Reg.portDelay k))

theorem applyAlts_eq (s : State) : applyAlts s = if altsFail (each (altsDue s) useAlt s) (altsDue s) then stopAll (each (altsDue s) useAlt s)
    else each (altsDue s) useAlt s := by
  unfold applyAlts altsDue
  cases s.gener.image <;> rfl

/-- A change of routes keeps the contexts, and agrees no step (07 R415). -/
theorem applyAlts_holds (hnext : s.sched.nextStep = none) : seats (applyAlts s) = seats s ∧ (applyAlts s).sched.nextStep = none := by
  have hseats : seats (each (altsDue s) useAlt s) = seats s := each_keeps seats _ (fun a _ => (useAlt_holds a).1) _ _
  have hsched : (each (altsDue s) useAlt s).sched = s.sched := each_keeps State.sched _ (fun a _ => (useAlt_holds a).2) _ _
  rw [applyAlts_eq]
  split
  · obtain ⟨hgener, hnone⟩ := stopAll_holds (s := each (altsDue s) useAlt s)
    exact ⟨by rw [seats, hgener]; exact hseats, hnone⟩
  · exact ⟨hseats, by rw [hsched, hnext]⟩

/-- Nothing that has been flooded, no route that is due (07 R415). -/
theorem applyAlts_of_no_floods (h : s.azl.floods = []) : applyAlts s = s := by
  have hnone : altsDue s = [] := by
    unfold altsDue
    cases s.gener.image with
    | none => rfl
    | some im => exact List.filter_eq_nil_iff.mpr fun a _ => by simp [altDue, h]
  rw [applyAlts_eq, hnone]
  rfl

/-! ### The step agreed (06 R330, 07 R392) -/

/-- The record of the next step (06 R330, R339). -/
def agreedRec (s : State) (im : Image) (exited : Bool) (b : List BatchEntry) (dur : Nat) : StepRec :=
  { step := lastCommit s + 1, exitKind := exited, batch := b, s := (batchSF s im b).1, f := (batchSF s im b).2, tiles := (batchTiles s im b).length,
    launch := launchAfter s (cDown s), planDur := dur, changes := tableImages s }

/-- The state in which the step waits for its launch. -/
def stepAgreed (s : State) (im : Image) (b : List BatchEntry) (r : StepRec) : State :=
  let s1 := writeTables s im b
  submitPoint (putSched s1 { s1.sched with nextStep := some r, nextLaunch := some r.launch, launchReady := true, replay := false })
    ((stepKernels im r.exitKind).all kLeanOk)

theorem agreeStep_eq : agreeStep s im exited b dur = if azlState (applyAlts s) = 5 then applyAlts s
    else noteTold (sendLaunch (stepAgreed (applyAlts s) im b (agreedRec (applyAlts s) im exited b dur))
      (agreedRec (applyAlts s) im exited b dur)) := rfl

@[simp] theorem noteTold_sched : (noteTold s).sched = s.sched := each_keeps State.sched _ (fun _ _ => modCtx_sched ..) _ _

@[simp] theorem writeTables_gener : (writeTables s im b).gener = s.gener := each_keeps State.gener _ (fun _ _ => putHbm_gener ..) _ _

@[simp] theorem stepAgreed_gener (r : StepRec) : (stepAgreed s im b r).gener = s.gener := by simp [stepAgreed]

theorem stepAgreed_sched (r : StepRec) : (stepAgreed s im b r).sched.nextStep = some r ∧ (stepAgreed s im b r).sched.nextLaunch = some r.launch
    ∧ (stepAgreed s im b r).sched.launchReady = true := by
  simp [stepAgreed]

/-- The step that stands as agreed, if any, is of this batch and has its launch count (06 R330, 07 R392). -/
def AgreedOf (b : List BatchEntry) (s : State) : Prop :=
  ∀ r, s.sched.nextStep = some r → r.batch = b ∧ s.sched.nextLaunch = some r.launch ∧ s.sched.launchReady = true

theorem agreedOf_agreeStep (hnext : s.sched.nextStep = none) : AgreedOf b (agreeStep s im exited b dur) := by
  intro r hr
  rw [agreeStep_eq] at hr ⊢
  split at hr
  · rw [(applyAlts_holds hnext).2] at hr
    cases hr
  · next hstate =>
    rw [if_neg hstate]
    rw [noteTold_sched, sendLaunch_sched] at hr ⊢
    obtain ⟨hstep, hlaunch, hready⟩ := stepAgreed_sched (s := applyAlts s) (im := im) (b := b) (agreedRec (applyAlts s) im exited b dur)
    obtain rfl := Option.some.inj (hstep.symm.trans hr)
    exact ⟨rfl, hlaunch, hready⟩

/-- The boundary's mark, and the entries of a context. -/
def markAndEntries (k : Nat) (s : State) := (s.gener.atBoundary, heldAt k s)

theorem markAndEntries_congr (h : seats t = seats s) : markAndEntries k t = markAndEntries k s := by
  obtain ⟨hc, hb⟩ := Prod.mk.inj h
  rw [markAndEntries, markAndEntries, hb, heldAt_congr hc]

theorem markAndEntries_of_apartFrom (h : apartFrom k t = apartFrom k s) : markAndEntries k t = markAndEntries k s := (Prod.mk.inj h).2

theorem markAndEntries_agreeStep (hnext : s.sched.nextStep = none) (h : heldAt k s = []) :
    markAndEntries k (agreeStep s im exited b dur) = markAndEntries k s := by
  have halt : markAndEntries k (applyAlts s) = markAndEntries k s := markAndEntries_congr (applyAlts_holds hnext).1
  rw [agreeStep_eq]
  split
  · exact halt
  · have hsent : seats (sendLaunch (stepAgreed (applyAlts s) im b (agreedRec (applyAlts s) im exited b dur))
        (agreedRec (applyAlts s) im exited b dur)) = seats s := by
      rw [seats, sendLaunch_gener, stepAgreed_gener]
      exact (applyAlts_holds hnext).1
    rw [markAndEntries_of_apartFrom (apartFrom_noteTold ((heldAt_congr (Prod.mk.inj hsent).1).trans h)), markAndEntries_congr hsent]

/-! ### The decision (06 R342, R347) -/

@[simp] theorem exitEvents_gener (pf px : Nat) : (exitEvents s b pf px).gener = s.gener := by
  unfold exitEvents
  dsimp only
  rw [raiseEv_gener]
  exact each_keeps State.gener _ (fun _ _ => sessEv_gener ..) _ _

@[simp] theorem exitEvents_sched (pf px : Nat) : (exitEvents s b pf px).sched = s.sched := by
  unfold exitEvents
  dsimp only
  rw [raiseEv_sched]
  exact each_keeps State.sched _ (fun _ _ => sessEv_sched ..) _ _

/-- The full plan of a batch, with the gap (06 R342). -/
def fullPlan (s : State) (im : Image) (b : List BatchEntry) : Nat := planOfBatch s false (batchSF s im b) + s.gener.gap

/-- The decision and its batch (06 R342). -/
def decided (s : State) (im : Image) (b : List BatchEntry) : Bool × List BatchEntry := decideKind s b (fullPlan s im b)

/-- The planned duration of what is decided (06 R339). -/
def decidedDur (s : State) (im : Image) (b : List BatchEntry) : Nat :=
  planOfBatch s (decided s im b).1 (batchSF s im (decided s im b).2)

/-- The decision is shown in the DLM page, and an exit step told (06 R347, R354, R357). -/
def decisionShown (s : State) (im : Image) (b : List BatchEntry) : State :=
  let pf := fullPlan s im b
  let d := decided s im b
  let px := if d.1 then decidedDur s im b + s.gener.gap else 0
  let t := if d.1 then d.2.countP fun e => e.threat else 0
  let s1 := wrN (wrN s Reg.dlmPlanFull (pf % 2 ^ 32)) Reg.dlmPlanExit (px % 2 ^ 32)
  let s2 := wrN s1 Reg.dlmLast (t % 2 ^ 10 + (if d.1 then d.2.length % 2 ^ 10 * 2 ^ 16 + 2 ^ 31 else 0))
  if d.1 then exitEvents s2 d.2 pf px else s2

theorem decideStep_eq : decideStep s im b = agreeStep (decisionShown s im b) im (decided s im b).1 (decided s im b).2 (decidedDur s im b) := rfl

theorem decisionShown_holds : (decisionShown s im b).gener = s.gener ∧ (decisionShown s im b).sched = s.sched := by
  unfold decisionShown
  dsimp only
  split <;> simp

/-- A decision never leaves the batch empty (06 R342). -/
theorem decided_ne_nil (hb : b ≠ []) : (decided s im b).2 ≠ [] := by
  unfold decided decideKind
  dsimp only
  split
  · next hlate =>
    obtain ⟨e, he, hlate⟩ := List.any_eq_true.mp hlate
    refine List.ne_nil_of_mem (List.mem_map.mpr ⟨e, List.mem_filter.mpr ⟨he, ?_⟩, rfl⟩)
    rw [hlate, Bool.true_or]
  · exact hb

/-! ### The boundary's end (06 R327, R356) -/

/-- A step that stands as agreed has a batch, and waits for its launch (06 R330). -/
def Agreed (s : State) : Prop :=
  ∀ r, s.sched.nextStep = some r → r.batch ≠ [] ∧ s.sched.nextLaunch = some r.launch ∧ s.sched.launchReady = true

theorem agreed_of_none (h : s.sched.nextStep = none) : Agreed s := fun r hr => by rw [h] at hr; cases hr

theorem agreed_decideStep (hnext : s.sched.nextStep = none) (hb : b ≠ []) : Agreed (decideStep s im b) := by
  rw [decideStep_eq]
  intro r hr
  obtain ⟨hbatch, hready⟩ := agreedOf_agreeStep (by rw [decisionShown_holds.2, hnext]) r hr
  exact ⟨hbatch ▸ decided_ne_nil hb, hready⟩

theorem markAndEntries_decideStep (hnext : s.sched.nextStep = none) (h : heldAt k s = []) :
    markAndEntries k (decideStep s im b) = markAndEntries k s := by
  have hshown := decisionShown_holds (s := s) (im := im) (b := b)
  have hctx : heldAt k (decisionShown s im b) = heldAt k s := heldAt_congr (by rw [hshown.1])
  rw [decideStep_eq, markAndEntries_agreeStep (by rw [hshown.2, hnext]) (hctx.trans h)]
  exact markAndEntries_congr (by rw [seats, hshown.1, seats])

/-- The end of a boundary keeps a context without entries so, and its mark, and what it agrees is whole. -/
theorem boundaryEnd_holds (hnext : s.sched.nextStep = none) (h : heldAt k s = []) :
    markAndEntries k (boundaryEnd s im) = markAndEntries k s ∧ Agreed (boundaryEnd s im) := by
  have hnote : apartFrom k (noteEligible s (eligibleSet s)) = apartFrom k s := apartFrom_noteEligible h
  have hheld : heldAt k (noteEligible s (eligibleSet s)) = [] := (heldAt_of_apartFrom hnote).trans h
  have hidle : ∀ u : State, apartFrom k u = apartFrom k s → markAndEntries k u = markAndEntries k s ∧ Agreed u := fun u hu =>
    ⟨markAndEntries_of_apartFrom hu, agreed_of_none (by rw [sched_of_apartFrom hu, hnext])⟩
  unfold boundaryEnd
  dsimp only
  split
  · have hrel := apartFrom_relieve hheld
    exact hidle _ ((apartFrom_tellParks ((heldAt_of_apartFrom hrel).trans hheld)).trans (hrel.trans hnote))
  · next hb =>
    have hclear : apartFrom k (deadlockClear (noteEligible s (eligibleSet s))) = apartFrom k s := (apartFrom_deadlock _).trans hnote
    have hheld' := (heldAt_of_apartFrom hclear).trans h
    have hnext' := (congrArg Sched.nextStep (sched_of_apartFrom hclear)).trans hnext
    split
    · refine ⟨?_, agreed_decideStep hnext' (by simpa using hb)⟩
      rw [markAndEntries_decideStep hnext' hheld', markAndEntries_of_apartFrom hclear]
    · exact hidle _ ((apartFrom_tellParks hheld').trans hclear)

/-- At a boundary nothing is agreed beforehand, so what stands afterwards is whole; the boundary is taken, and no closing context is held
(06 R317, R327, R330). -/
theorem boundaryActions_holds (hnext : s.sched.nextStep = none) (counted : Bool) :
    (boundaryActions s im counted).gener.atBoundary = false ∧ Agreed (boundaryActions s im counted)
    ∧ ∀ k, (ctxOf s k).st = .closing → (ctxOf (boundaryActions s im counted) k).st = .idle := by
  have hpre : ∀ k, heldAt k (boundaryLeft s counted) = [] →
      apartFrom k (boundaryJoins (sparesGiven (boundaryLeft s counted)) counted) = apartFrom k (boundaryLeft s counted) := fun k hk =>
    (apartFrom_boundaryJoins ((heldAt_of_apartFrom (apartFrom_sparesGiven hk)).trans hk)).trans (apartFrom_sparesGiven hk)
  obtain ⟨k0, hk0⟩ := exists_not_held s
  have hleft := apartFrom_boundaryLeft (counted := counted) hk0
  have hleft0 : heldAt k0 (boundaryLeft s counted) = [] := (heldAt_of_apartFrom hleft).trans hk0
  have hjoined := (hpre k0 hleft0).trans hleft
  have hnext' : (boundaryJoins (sparesGiven (boundaryLeft s counted)) counted).sched.nextStep = none := by
    rw [sched_of_apartFrom hjoined]
    exact hnext
  rw [boundaryActions_eq]
  obtain ⟨hmark, hagreed⟩ := boundaryEnd_holds (im := im) hnext' ((heldAt_of_apartFrom (hpre k0 hleft0)).trans hleft0)
  refine ⟨?_, hagreed, fun k hk => ?_⟩
  · rw [(Prod.mk.inj hmark).1, atBoundary_of_apartFrom hjoined]
    rfl
  · have hgone := heldAt_boundaryLeft_of_closing (counted := counted) hk
    have hgone' := (heldAt_of_apartFrom (hpre k hgone)).trans hgone
    rw [ctxOf_of_not_held ((Prod.mk.inj (boundaryEnd_holds (im := im) hnext' hgone').1).2.trans hgone')]

end Sys2Proof.Machine

/-!
SUPPORT. What the end of a boundary leaves outside a group: the registers that no boundary writes, the rings, and of every context all but its
note of eligibility (06 R341, R347, R357).
-/
namespace Sys2Proof.Machine

variable {s t : State} {k c n o : Nat} {x y : Context} {im : Image} {b : List BatchEntry}

/-! ### Registers aside from the boundary's own -/

/-- The registers that a boundary writes to show its decision, beside its counters (06 R324, R336, R347, R354 to R357, 05 R293). -/
def boundaryRegs : List Nat :=
  [Reg.dbgVarAdmit, Reg.pageSlu + 0x14, Reg.pageDlm + 0x14, Reg.pageKvp + 0x14, Reg.dlmPxMax, Reg.dlmPlanFull, Reg.dlmPlanExit, Reg.dlmLast,
   Reg.sluAdmitCtl, Reg.sluDefer, Reg.sluDeferNeed, Reg.kvpFree, Reg.kvpLowWater]

/-- A register that lies aside from those. -/
def Aside (o : Nat) : Prop := Apart o ∧ o ∉ boundaryRegs

theorem Aside.ne (ho : Aside o) {r : Nat} (hr : r ∈ boundaryRegs) : o ≠ r := fun h => ho.2 (h ▸ hr)

/-- The registers that lie aside. -/
def asideRegs (s : State) : { o // Aside o } → Word := fun o => rdReg s o

theorem asideRegs_eq (h : ∀ o, Aside o → rdReg t o = rdReg s o) : asideRegs t = asideRegs s := funext fun o => h o.1 o.2

theorem rdReg_of_aside (h : asideRegs t = asideRegs s) (ho : Aside o) : rdReg t o = rdReg s o := congrFun h ⟨o, ho⟩

/-- An event's queue is one of the eight, whether its ring's or its block's (13 R621). -/
theorem Apart.rdReg_raiseEv_any (ho : Apart o) {page bits type inst code w1 : Nat} {dst : Dest} {d : List Nat} (hp : o ≠ page + 0x14) :
    rdReg (raiseEv s page bits dst type inst code w1 d) o = rdReg s o := by
  rcases ho.1 with hlow | hhigh
  · exact rdReg_raiseEv_low hlow hp
  · cases dst with
    | block => exact rdReg_raiseEv_block hhigh hp
    | ring r =>
      have hset : rdReg (if bits = 0 then s else setEvt s page bits) o = rdReg s o := by
        split
        · rfl
        · exact rdReg_setEvt hp
      unfold raiseEv
      dsimp only
      split
      · exact hset
      · exact (rdReg_pushRec hhigh (Nat.mod_lt _ (by decide))).trans hset

theorem pushRec_rings (q : Nat) (completion : Bool) (r : EvRec) : (pushRec s q completion r).hif.rings = s.hif.rings := by
  unfold pushRec
  dsimp only
  split <;> simp [setEvt, setEvq, showEvq]

theorem raiseEv_rings (page bits : Nat) (dst : Dest) (type inst code w1 : Nat) (d : List Nat) :
    (raiseEv s page bits dst type inst code w1 d).hif.rings = s.hif.rings := by
  have hset : (if bits = 0 then s else setEvt s page bits).hif.rings = s.hif.rings := by split <;> simp [setEvt]
  unfold raiseEv
  dsimp only
  split
  · exact hset
  · split
    · exact (pushRec_rings ..).trans hset
    · split
      · exact (pushRec_rings ..).trans hset
      · exact hset

/-! ### What stays quiet -/

/-- A context without the notes that a boundary makes of it (06 R341, 08 R439). -/
def unnoted (x : Context) : Context := { x with eligible := false, rows := 0, told := true }

theorem st_of_unnoted (h : unnoted x = unnoted y) : x.st = y.st := (congrArg Context.st h :)

theorem join_of_unnoted (h : unnoted x = unnoted y) : x.join = y.join := (congrArg Context.join h :)

theorem pages_of_unnoted (h : unnoted x = unnoted y) : x.pages = y.pages := (congrArg Context.pages h :)

theorem short_of_unnoted (h : unnoted x = unnoted y) : x.short = y.short := (congrArg Context.short h :)

theorem blocked_of_unnoted (h : unnoted x = unnoted y) : x.blocked = y.blocked := (congrArg Context.blocked h :)

/-- The registers aside, the rings, the group's part, the count, the gap and the contexts but for their notes. -/
def quiet (s : State) := (asideRegs s, s.hif.rings, s.azl, s.count, s.gener.gap, fun k => unnoted (ctxOf s k))

theorem quiet_mk (hregs : ∀ o, Aside o → rdReg t o = rdReg s o) (hrings : t.hif.rings = s.hif.rings) (hazl : t.azl = s.azl)
    (hcount : t.count = s.count) (hgap : t.gener.gap = s.gener.gap) (hctx : ∀ k, unnoted (ctxOf t k) = unnoted (ctxOf s k)) :
    quiet t = quiet s := by
  rw [quiet, quiet, asideRegs_eq hregs, hrings, hazl, hcount, hgap, funext hctx]

theorem asideRegs_of_quiet (h : quiet t = quiet s) : asideRegs t = asideRegs s := (Prod.mk.inj h).1

theorem rdReg_of_quiet (h : quiet t = quiet s) (ho : Aside o) : rdReg t o = rdReg s o := rdReg_of_aside (asideRegs_of_quiet h) ho

theorem rings_of_quiet (h : quiet t = quiet s) : t.hif.rings = s.hif.rings := congrArg (fun q => q.2.1) h

theorem azl_of_quiet (h : quiet t = quiet s) : t.azl = s.azl := congrArg (fun q => q.2.2.1) h

theorem count_of_quiet (h : quiet t = quiet s) : t.count = s.count := congrArg (fun q => q.2.2.2.1) h

theorem gap_of_quiet (h : quiet t = quiet s) : t.gener.gap = s.gener.gap := congrArg (fun q => q.2.2.2.2.1) h

theorem ctxOf_of_quiet (h : quiet t = quiet s) (k : Nat) : unnoted (ctxOf t k) = unnoted (ctxOf s k) := congrFun (congrArg (fun q => q.2.2.2.2.2) h) k

/-- A change of the registers alone that writes none aside. -/
theorem quiet_of_regs (hregs : ∀ o, Aside o → rdReg t o = rdReg s o) (hrings : t.hif.rings = s.hif.rings) (hazl : t.azl = s.azl)
    (hcount : t.count = s.count) (hgener : t.gener = s.gener) : quiet t = quiet s :=
  quiet_mk hregs hrings hazl hcount (by rw [hgener]) fun k => congrArg unnoted (ctxOf_congr (by rw [hgener]) k)

theorem quiet_wrReg {off : Nat} {v : Word} (h : off ∈ boundaryRegs) : quiet (wrReg s off v) = quiet s :=
  quiet_of_regs (fun _ ho => by rw [rdReg_wrReg, if_neg (ho.ne h)]) (by simp) (by simp) (by simp) (by simp)

theorem quiet_wrN {off v : Nat} (h : off ∈ boundaryRegs) : quiet (wrN s off v) = quiet s := quiet_wrReg h

theorem quiet_wrB {off m : Nat} {v : Bool} (h : off ∈ boundaryRegs) : quiet (wrB s off m v) = quiet s := quiet_wrReg h

theorem quiet_wrF {off hi lo v : Nat} (h : off ∈ boundaryRegs) : quiet (wrF s off hi lo v) = quiet s := quiet_wrReg h

theorem quiet_raiseEv {page bits type inst code w1 : Nat} {dst : Dest} {d : List Nat} (h : page + 0x14 ∈ boundaryRegs) :
    quiet (raiseEv s page bits dst type inst code w1 d) = quiet s :=
  quiet_of_regs (fun _ ho => ho.1.rdReg_raiseEv_any (ho.ne h)) (raiseEv_rings ..) (by simp) (by simp) (by simp)

/-- A note in a context keeps what the note is not part of. -/
theorem quiet_modCtx {f : Context → Context} (h : ∀ x, unnoted (f x) = unnoted x) : quiet (modCtx s c f) = quiet s :=
  quiet_mk (fun o _ => rdReg_congr (modCtx_regs ..) o) (by simp) (by simp) (by simp) rfl fun k => by
    rw [ctxOf_modCtx]
    split
    · next hk => rw [h, hk]
    · rfl

theorem quiet_showPx : quiet (showPx s) = quiet s := quiet_wrN (by decide)

theorem quiet_showPrio : quiet (showPrio s) = quiet s := quiet_wrB (by decide)

theorem quiet_showDefer : quiet (showDefer s) = quiet s := by
  unfold showDefer
  dsimp only
  split <;> rw [quiet_wrN (by decide), quiet_wrN (by decide)]

theorem quiet_setEvt {page bits : Nat} (h : page + 0x14 ∈ boundaryRegs) : quiet (setEvt s page bits) = quiet s :=
  quiet_of_regs (fun _ ho => rdReg_setEvt (ho.ne h)) (by simp) (by simp) (by simp) (by simp)

theorem quiet_noteHw {off : Nat} {v : Word} : quiet (noteHw s off v) = quiet s :=
  quiet_of_regs (fun o _ => rdReg_congr (noteHw_regs ..) o) (by simp) (by simp) (by simp) (by simp)

theorem quiet_showFree : quiet (showFree s) = quiet s := by
  have hevt : ∀ (u : State) (p : Prop) [Decidable p] m, quiet (if p then setEvt u Reg.pageKvp m else u) = quiet u := fun u p _ m => by
    split
    · exact quiet_setEvt (by decide)
    · rfl
  unfold showFree
  dsimp only
  rw [hevt, hevt]
  split
  · rw [quiet_wrN (by decide), quiet_noteHw, quiet_wrN (by decide)]
  · exact quiet_wrN (by decide)

theorem quiet_noteEligible : quiet (noteEligible s b) = quiet s := by
  refine each_keeps quiet _ (fun _ _ => ?_) _ _
  exact quiet_modCtx fun _ => rfl

theorem quiet_noteTold : quiet (noteTold s) = quiet s := by
  refine each_keeps quiet _ (fun _ _ => ?_) _ _
  exact quiet_modCtx fun _ => rfl

theorem quiet_exitEvents {pf px : Nat} : quiet (exitEvents s b pf px) = quiet s := by
  unfold exitEvents
  dsimp only
  rw [quiet_raiseEv (by decide)]
  exact each_keeps quiet _ (fun _ _ => quiet_raiseEv (by decide)) _ _

theorem quiet_decisionShown : quiet (decisionShown s im b) = quiet s := by
  have hshown : ∀ v w m, quiet (wrN (wrN (wrN s Reg.dlmPlanFull v) Reg.dlmPlanExit w) Reg.dlmLast m) = quiet s := fun v w m => by
    rw [quiet_wrN (by decide), quiet_wrN (by decide), quiet_wrN (by decide)]
  unfold decisionShown
  dsimp only
  split
  · rw [quiet_exitEvents, hshown]
  · exact hshown _ _ _

/-! ### The operating point of the step (15 R685) -/

theorem lateOver_holds : (lateOver s).hif.rings = s.hif.rings ∧ (lateOver s).azl = s.azl ∧ (lateOver s).count = s.count := by
  unfold lateOver
  split
  · exact ⟨(raiseEv_rings ..).trans (by simp), by simp, by simp⟩
  · exact ⟨rfl, rfl, rfl⟩

theorem quiet_selectPoint (lean : Bool) : quiet (selectPoint s lean) = quiet s := by
  obtain ⟨hrings, hazl, hcount⟩ : (if lean then lateOver s else s).hif.rings = s.hif.rings ∧ (if lean then lateOver s else s).azl = s.azl
      ∧ (if lean then lateOver s else s).count = s.count := by
    split
    · exact lateOver_holds
    · exact ⟨rfl, rfl, rfl⟩
  exact quiet_of_regs (fun o ho => rdReg_selectPoint ho.1 lean) (by simp [selectPoint, hrings]) (by simp [selectPoint, hazl])
    (by simp [selectPoint, hcount]) (by simp)

theorem quiet_submitPoint (fit : Bool) : quiet (submitPoint s fit) = quiet s := by
  unfold submitPoint
  split
  · exact quiet_selectPoint _
  · rfl

theorem quiet_hbmWrite {a : Nat} {bs : List Byte} : quiet (hbmWrite s a bs) = quiet s :=
  quiet_of_regs (fun o _ => rdReg_congr (putHbm_regs ..) o) rfl rfl rfl rfl

theorem quiet_writeTables : quiet (writeTables s im b) = quiet s := each_keeps quiet _ (fun _ _ => quiet_hbmWrite) _ _

theorem quiet_stepAgreed (r : StepRec) : quiet (stepAgreed s im b r) = quiet s := by
  rw [stepAgreed, quiet_submitPoint]
  exact quiet_writeTables

end Sys2Proof.Machine

/-!
SUPPORT. The end of a boundary outside a group (06 R327, R330, R356, 08 R444), and a boundary with one context held.
-/
namespace Sys2Proof.Machine

variable {s t : State} {k c n o : Nat} {x y : Context} {j : Join} {im : Image} {b : List BatchEntry} {exited counted : Bool} {dur : Nat}

/-! ### Outside a group -/

/-- That a register lies aside can be decided for one that is named. -/
theorem aside_of_bounds
    (h : ((o < 0x11000 ∨ 0x20000 ≤ o) ∧ (o < 0x1000 ∨ 0x2000 ≤ o) ∧ (o < 0x180000 ∨ 0x181000 ≤ o)) ∧ o ∉ boundaryRegs) : Aside o := h

theorem inGroup_of_aside (h : asideRegs t = asideRegs s) : inGroup t = inGroup s := by
  have hmember : rdReg t Reg.azlMember = rdReg s Reg.azlMember := rdReg_of_aside h (aside_of_bounds (by decide))
  have hctl : rdReg t Reg.azlCtl = rdReg s Reg.azlCtl := rdReg_of_aside h (aside_of_bounds (by decide))
  have hstate : rdReg t Reg.azlState = rdReg s Reg.azlState := rdReg_of_aside h (aside_of_bounds (by decide))
  rw [inGroup, inGroup, groupSize, groupSize, rdF_congr hmember, rdB_congr hctl, rdF_congr hstate]

theorem azlState_of_aside (h : asideRegs t = asideRegs s) : azlState t = azlState s :=
  rdF_congr (rdReg_of_aside h (aside_of_bounds (by decide)))

/-- The package takes part in no group, and has flooded nothing. -/
def Alone (s : State) : Prop := inGroup s = false ∧ s.azl.floods = []

theorem Alone.of_quiet (h : Alone s) (hq : quiet t = quiet s) : Alone t :=
  ⟨(inGroup_of_aside (asideRegs_of_quiet hq)).trans h.1, (congrArg AzlState.floods (azl_of_quiet hq)).trans h.2⟩

theorem tableImages_of_alone (h : inGroup s = false) : tableImages s = [] := by rw [tableImages, h, if_neg Bool.false_ne_true]

theorem tellParks_of_alone (h : inGroup s = false) : tellParks s = s := by
  unfold tellParks
  dsimp only
  rw [tableImages_of_alone h, List.any_nil, Bool.and_false, if_neg Bool.false_ne_true]

theorem sendLaunch_of_alone (h : inGroup s = false) (r : StepRec) : sendLaunch s r = s := by rw [sendLaunch, h, if_neg Bool.false_ne_true]

/-- A package alone agrees its step with itself (06 R330). -/
theorem agreeStep_of_alone (h : Alone s) (hstate : azlState s ≠ 5) :
    agreeStep s im exited b dur = noteTold (stepAgreed s im b (agreedRec s im exited b dur)) := by
  rw [agreeStep_eq, applyAlts_of_no_floods h.2, if_neg hstate, sendLaunch_of_alone (h.of_quiet (quiet_stepAgreed _)).1]

theorem quiet_agreeStep (h : Alone s) : quiet (agreeStep s im exited b dur) = quiet s := by
  by_cases hstate : azlState s = 5
  · rw [agreeStep_eq, applyAlts_of_no_floods h.2, if_pos hstate]
  · rw [agreeStep_of_alone h hstate, quiet_noteTold, quiet_stepAgreed]

theorem quiet_decideStep (h : Alone s) : quiet (decideStep s im b) = quiet s := by
  rw [decideStep_eq, quiet_agreeStep (h.of_quiet quiet_decisionShown), quiet_decisionShown]

theorem quiet_deadlockClear : quiet (deadlockClear s) = quiet s := rfl

/-- The end of a boundary leaves what relief leaves. -/
theorem quiet_boundaryEnd (h : Alone s) (hrelieve : quiet (relieve (noteEligible s (eligibleSet s))) = quiet s) :
    quiet (boundaryEnd s im) = quiet s := by
  have hnote : quiet (deadlockClear (noteEligible s (eligibleSet s))) = quiet s := quiet_deadlockClear.trans quiet_noteEligible
  unfold boundaryEnd
  dsimp only
  split
  · rw [tellParks_of_alone (h.of_quiet hrelieve).1, hrelieve]
  · split
    · rw [quiet_decideStep (h.of_quiet hnote), hnote]
    · rw [tellParks_of_alone (h.of_quiet hnote).1, hnote]

theorem relieve_of_none_blocked (h : ∀ e ∈ shortCtxs s, e.2.blocked = false) : relieve s = deadlockClear s := by
  have hnone : ((shortCtxs s).filter fun x => x.2.blocked) = [] := List.filter_eq_nil_iff.mpr fun e he => by simp [h e he]
  unfold relieve
  dsimp only
  rw [hnone]
  rfl

/-! ### One context held -/

theorem Only.live (h : Only s n x) : x.st ≠ .idle := (mem_liveCtxs.mp (h.1 ▸ List.mem_singleton.mpr rfl : (n, x) ∈ liveCtxs s)).2

theorem Only.mem_shortCtxs (h : Only s n x) {e : Nat × Context} : e ∈ shortCtxs s ↔ e = (n, x) ∧ x.st = .decode ∧ x.short = true := by
  rw [shortCtxs, mem_sortBy, h.1, List.mem_filter, List.mem_singleton]
  constructor
  · rintro ⟨rfl, hs⟩
    exact ⟨rfl, by simpa using hs⟩
  · rintro ⟨rfl, hs⟩
    exact ⟨rfl, by simpa using hs⟩

theorem Only.shortCtxs_of_short (h : Only s n x) (hst : x.st = .decode) (hshort : x.short = true) : shortCtxs s = [(n, x)] := by
  rw [shortCtxs, h.1, List.filter_cons, if_pos (by rw [hst, hshort]; rfl)]
  rfl

/-- A context with the note of its place in a batch (06 R341). -/
def notedAs (e : Option BatchEntry) (y : Context) : Context :=
  { y with eligible := e.isSome, rows := match e with | some e => e.rows | none => 0 }

theorem Only.noteEligible (h : Only s n x) : ∃ y, Only (noteEligible s b) n y ∧ unnoted y = unnoted x := by
  have hnote : Machine.noteEligible s b = Machine.modCtx s n (notedAs (b.find? fun e => e.ctx == n)) := by
    unfold Machine.noteEligible
    rw [h.1]
    rfl
  exact ⟨notedAs _ x, by rw [hnote]; exact h.modCtx h.live, rfl⟩

/-- Where the context held does not wait for a page, relief changes nothing (08 R444). -/
theorem Only.quiet_boundaryEnd (h : Only s n x) (halone : Alone s) (hfree : ¬ (x.st = .decode ∧ x.short = true ∧ x.blocked = true)) :
    quiet (boundaryEnd s im) = quiet s := by
  obtain ⟨y, hy, hun⟩ := h.noteEligible (b := eligibleSet s)
  refine Machine.quiet_boundaryEnd halone ?_
  rw [relieve_of_none_blocked fun e he => ?_, quiet_deadlockClear, quiet_noteEligible]
  obtain ⟨rfl, hd, hs⟩ := hy.mem_shortCtxs.mp he
  rw [st_of_unnoted hun] at hd
  rw [short_of_unnoted hun] at hs
  show y.blocked = false
  rw [blocked_of_unnoted hun]
  simpa using fun hb => hfree ⟨hd, hs, hb⟩

/-! ### The joins of one context (06 R327 action 3) -/

/-- The bit of a hold in force is shown (06 R356). -/
def holdShown (s : State) : State := if s.gener.prio.isSome || swapWaits s then wrB s Reg.sluAdmitCtl 23 true else s

/-- The joins considered one after another (06 R335). -/
def joinsConsidered (s : State) (counted : Bool) : State := ((joinOrder s).foldl (considerJoin counted) (s, false)).1

theorem boundaryJoins_eq : boundaryJoins s counted = showDefer
    (if counted then beginHold (joinsConsidered (holdShown s) counted) else joinsConsidered (holdShown s) counted) := rfl

theorem quiet_holdShown : quiet (holdShown s) = quiet s := by
  unfold holdShown
  split
  · exact quiet_wrB (by decide)
  · rfl

theorem holdShown_gener : (holdShown s).gener = s.gener := by unfold holdShown; split <;> simp

theorem holdShown_of_none (hprio : s.gener.prio = none) (hswap : swapWaits s = false) : holdShown s = s := by
  rw [holdShown, hprio, hswap]
  rfl

theorem quiet_beginHold : quiet (beginHold s) = quiet s := by
  unfold beginHold
  dsimp only
  split
  · rfl
  · split
    · exact quiet_raiseEv (by decide)
    · rfl

/-- A hold that begins is all that changes in the generator (06 R335). -/
theorem beginHold_gener : ∃ p, (beginHold s).gener = { s.gener with prio := p } := by
  unfold beginHold
  dsimp only
  split
  · exact ⟨s.gener.prio, rfl⟩
  · split
    · next c j _ => exact ⟨some c, by rw [raiseEv_gener]; rfl⟩
    · exact ⟨s.gener.prio, rfl⟩

/-- What follows the joins shows them, and may begin a hold (06 R335, R356). -/
theorem boundaryJoins_shows : quiet (boundaryJoins s counted) = quiet (joinsConsidered (holdShown s) counted)
    ∧ ∃ p, (boundaryJoins s counted).gener = { (joinsConsidered (holdShown s) counted).gener with prio := p } := by
  rw [boundaryJoins_eq, quiet_showDefer, showDefer_gener]
  split
  · exact ⟨quiet_beginHold, beginHold_gener⟩
  · exact ⟨rfl, _, rfl⟩

/-- Where no context waits to join, no join is considered. -/
theorem joinOrder_of_none (h : ∀ e ∈ liveCtxs s, e.2.join = none) : joinOrder s = [] := by
  have hnone : ((liveCtxs s).filterMap fun x => x.2.join.map fun j => (x.1, j)) = [] :=
    List.filterMap_eq_nil_iff.mpr fun e he => by rw [h e he]; rfl
  unfold joinOrder
  dsimp only
  rw [hnone]
  rfl

theorem joinsConsidered_of_none (h : ∀ e ∈ liveCtxs s, e.2.join = none) : joinsConsidered (holdShown s) counted = holdShown s := by
  rw [joinsConsidered, joinOrder_of_none (liveCtxs_congr (congrArg Gener.ctxs (holdShown_gener (s := s))) ▸ h)]
  rfl

/-- A join alone is considered alone (06 R333). -/
theorem Only.joinOrder (h : Only s n x) (hjoin : x.join = some j) (hswap : j.swap = false) (hprio : s.gener.prio = none) :
    joinOrder s = [(n, j)] := by
  unfold Machine.joinOrder
  dsimp only
  rw [h.1]
  simp only [List.filterMap_cons, hjoin, Option.map_some, List.filterMap_nil, hprio]
  cases hrem : j.ref.remote <;> simp [hswap, hrem, byKey, sortBy, insBy, putJoin]

theorem Only.swapWaits (h : Only s n x) (hjoin : x.join = some j) (hswap : j.swap = false) : swapWaits s = false := by
  rw [Machine.swapWaits, h.1]
  simp [hjoin, hswap]

theorem Only.joinsConsidered (h : Only s n x) (hjoin : x.join = some j) (hswap : j.swap = false) (hprio : s.gener.prio = none) :
    joinsConsidered (holdShown s) counted = match admitTest s n j.unpark with
      | none => admitJoin s n j
      | some cause => if counted then deferJoin s n j cause else keepJoin s n := by
  rw [holdShown_of_none hprio (h.swapWaits hjoin hswap), Machine.joinsConsidered, h.joinOrder hjoin hswap hprio, List.foldl_cons, List.foldl_nil,
    considerJoin]
  cases admitTest s n j.unpark <;> rfl

/-! ### The boundary's beginning with one context that stays -/

theorem leaveCtx_of_stays (hst : (ctxOf s c).st ≠ .closing) (hpend : (ctxOf s c).parkPending = none) (hpark : (ctxOf s c).park = none) :
    leaveCtx s c = s := by
  unfold leaveCtx
  dsimp only
  rw [if_neg hst, hpend, hpark]

/-- Where nothing leaves and the gap stands, the boundary begins with DLM.PX_MAX (06 R336, R348). -/
theorem boundaryLeft_of_stays
    (hstay : ∀ e ∈ liveCtxs s, (ctxOf s e.1).st ≠ .closing ∧ (ctxOf s e.1).parkPending = none ∧ (ctxOf s e.1).park = none)
    (hgap : takeGap (boundaryTaken s counted) = boundaryTaken s counted) : boundaryLeft s counted = showPx (boundaryTaken s counted) := by
  have hleaves : ∀ xs ⊆ liveCtxs s, leaves xs (boundaryTaken s counted) = boundaryTaken s counted := fun xs => by
    induction xs with
    | nil => exact fun _ => rfl
    | cons e xs ih =>
      intro hsub
      obtain ⟨hst, hpend, hpark⟩ := hstay e (hsub List.mem_cons_self)
      show leaves xs (leaveCtx (boundaryTaken s counted) e.1) = _
      rw [leaveCtx_of_stays (s := boundaryTaken s counted) hst hpend hpark]
      exact ih fun a ha => hsub (List.mem_cons_of_mem _ ha)
  rw [boundaryLeft, hleaves (liveCtxs (boundaryTaken s counted)) (fun _ h => h), hgap]

theorem takeGap_of_admitted (h : admitted s none ≠ []) : takeGap s = s := by
  rw [takeGap, if_neg (by simpa using h)]

theorem takeGap_of_same (hgap : s.gener.gap = rdN s Reg.dlmGap) (hdl : s.gener.dlDef = rdN s Reg.dlmDlDefault) : takeGap s = s := by
  unfold takeGap
  rw [← hgap, ← hdl]
  split <;> rfl

theorem sparesGiven_of_none (h : ∀ e ∈ liveCtxs s, e.2.st ≠ .decode ∨ e.2.short = false) : sparesGiven s = s := by
  have hnone : shortCtxs s = [] := by
    refine List.eq_nil_iff_forall_not_mem.mpr fun e he => ?_
    have hin := List.mem_filter.mp (mem_sortBy.mp he)
    rcases h e hin.1 with hs | hs <;> simp [hs] at hin
  rw [sparesGiven, hnone]
  rfl

end Sys2Proof.Machine

/-!
SUPPORT. The boundary with one context held: its join is admitted or deferred, its spare given, or it is blocked (06 R331, R335, R336, 08 R444,
R448).
-/
namespace Sys2Proof.Machine

variable {s t : State} {k c n o m : Nat} {x y : Context} {j : Join} {im : Image} {counted : Bool}

theorem asideRegs_of_regs (h : t.regs = s.regs) : asideRegs t = asideRegs s := asideRegs_eq fun o _ => rdReg_congr h o

theorem Alone.of_aside (h : Alone s) (hregs : asideRegs t = asideRegs s) (hazl : t.azl = s.azl) : Alone t :=
  ⟨(inGroup_of_aside hregs).trans h.1, (congrArg AzlState.floods hazl).trans h.2⟩

/-- A counter below the pages of Azlink says nothing of the group. -/
theorem Alone.cntReg (h : Alone s) {off v : Nat} (hoff : off < Reg.pageAzl) : Alone (cntReg s off v) := by
  have hreg : ∀ o, Reg.pageAzl ≤ o → rdReg (Machine.cntReg s off v) o = rdReg s o := fun o ho => rdReg_cntReg (by omega)
  refine ⟨?_, by rw [cntReg_azl]; exact h.2⟩
  rw [← h.1, inGroup, inGroup, groupSize, groupSize, rdF_congr (hreg _ (by decide)), rdB_congr (hreg _ (by decide)), rdF_congr (hreg _ (by decide))]

/-! ### Before the joins -/

/-- The boundary has begun, and DLM.PX_MAX is shown (06 R336). -/
def boundaryBegun (s : State) (counted : Bool) : State := showPx (boundaryTaken s counted)

theorem boundaryBegun_ctxs : (boundaryBegun s counted).gener.ctxs = s.gener.ctxs := by
  rw [boundaryBegun, showPx_gener]
  rfl

theorem quiet_boundaryBegun : quiet (boundaryBegun s counted) = quiet s := quiet_showPx.trans rfl

theorem rdReg_boundaryBegun (ho : o ≠ Reg.dlmPxMax) : rdReg (boundaryBegun s counted) o = rdReg s o := rdReg_wrN ho

theorem Only.boundaryLeft (h : Only s n x) (hst : x.st ≠ .closing) (hpend : x.parkPending = none) (hpark : x.park = none)
    (hgap : takeGap (boundaryTaken s counted) = boundaryTaken s counted) : boundaryLeft s counted = boundaryBegun s counted := by
  refine boundaryLeft_of_stays (fun e he => ?_) hgap
  rw [h.1, List.mem_singleton] at he
  subst he
  rw [h.2]
  exact ⟨hst, hpend, hpark⟩

theorem freePages_boundaryBegun : freePages (boundaryBegun s counted) = freePages s := by
  have hpages : rdN (boundaryBegun s counted) Reg.kvpPages = rdN s Reg.kvpPages := rdN_congr (rdReg_boundaryBegun (by decide))
  rw [freePages, freePages, usedPages, usedPages, liveCtxs_congr boundaryBegun_ctxs, hpages]

theorem boundSF_boundaryBegun (tp : Nat) (lims : List Nat) : boundSF (boundaryBegun s counted) tp lims = boundSF s tp lims := by
  have hpages : rdN (boundaryBegun s counted) Reg.kvpPages = rdN s Reg.kvpPages := rdN_congr (rdReg_boundaryBegun (by decide))
  have hncl : ncl (boundaryBegun s counted) = ncl s := rdF_congr (rdReg_boundaryBegun (by decide))
  rw [boundSF, boundSF, hpages, hncl]

theorem pxOf_boundaryBegun (tp : Nat) (lims : List Nat) : pxOf (boundaryBegun s counted) tp lims = pxOf s tp lims := by
  have hreg : ∀ o, o ≠ Reg.dlmPxMax → rdN (boundaryBegun s counted) o = rdN s o := fun o ho => rdN_congr (rdReg_boundaryBegun ho)
  rw [pxOf, pxOf, boundSF_boundaryBegun, hreg _ (by decide), hreg _ (by decide), hreg _ (by decide), gap_of_quiet quiet_boundaryBegun]

theorem admitted_boundaryBegun (but : Option Nat) : admitted (boundaryBegun s counted) but = admitted s but := by
  rw [admitted, admitted, liveCtxs_congr boundaryBegun_ctxs]

theorem testNeed_boundaryBegun (unpark : Bool) : testNeed (boundaryBegun s counted) c x unpark = testNeed s c x unpark := by
  have hworst : rdB (boundaryBegun s counted) Reg.sluAdmitCtl 1 = rdB s Reg.sluAdmitCtl 1 := rdB_congr (rdReg_boundaryBegun (by decide))
  rw [testNeed, testNeed, hworst, admitted_boundaryBegun]

/-- The admission test does not look at DLM.PX_MAX (06 R336). -/
theorem admitTest_boundaryBegun (c : Nat) (unpark : Bool) : admitTest (boundaryBegun s counted) c unpark = admitTest s c unpark := by
  have hctx : ctxOf (boundaryBegun s counted) c = ctxOf s c := ctxOf_congr boundaryBegun_ctxs c
  have himage : (boundaryBegun s counted).gener.image = s.gener.image := by rw [boundaryBegun, showPx_gener]; rfl
  have hclosed : rdB (boundaryBegun s counted) Reg.sluAdmitCtl 0 = rdB s Reg.sluAdmitCtl 0 := rdB_congr (rdReg_boundaryBegun (by decide))
  have hreg : ∀ o, o ≠ Reg.dlmPxMax → rdN (boundaryBegun s counted) o = rdN s o := fun o ho => rdN_congr (rdReg_boundaryBegun ho)
  have hfld : ∀ o hi lo, o ≠ Reg.dlmPxMax → rdF (boundaryBegun s counted) o hi lo = rdF s o hi lo :=
    fun o _ _ ho => rdF_congr (rdReg_boundaryBegun ho)
  unfold admitTest
  dsimp only
  rw [hctx, himage, hclosed, admitted_boundaryBegun, testNeed_boundaryBegun, hreg Reg.kvpFree (by decide), hreg Reg.kvpFloor (by decide),
    hfld Reg.sluImage _ _ (by decide), hfld Reg.tilLimits _ _ (by decide), hfld Reg.tilLimits _ _ (by decide), pxOf_boundaryBegun,
    boundSF_boundaryBegun]

/-- Cause 4 is kept for the joins that a hold defers (06 R335). -/
theorem admitTest_ne_four (s : State) (c : Nat) (unpark : Bool) : admitTest s c unpark ≠ some 4 := by
  unfold admitTest
  dsimp only
  (repeat' split) <;> nofun

/-! ### Pages -/

theorem quiet_takePages : quiet (takePages s c m) = quiet (modCtx s c fun x => { x with pages := x.pages ++ (freePages s).take m }) :=
  quiet_showFree.trans quiet_hbmWrite

theorem takePages_ctxs : (takePages s c m).gener.ctxs = (modCtx s c fun x => { x with pages := x.pages ++ (freePages s).take m }).gener.ctxs := by
  rw [takePages, showFree_gener, writeList_gener]

/-- A context with the lowest free pages added (06 R323). -/
theorem Only.takePages (h : Only s n x) : Only (takePages s n m) n { x with pages := x.pages ++ (freePages s).take m } :=
  (h.modCtx (f := fun x => { x with pages := x.pages ++ (freePages s).take m }) h.live).congr takePages_ctxs

theorem asideRegs_takePages : asideRegs (takePages s c m) = asideRegs s :=
  (asideRegs_of_quiet quiet_takePages).trans (asideRegs_of_regs (modCtx_regs ..))

theorem azl_takePages : (takePages s c m).azl = s.azl := (azl_of_quiet quiet_takePages).trans (modCtx_azl ..)

/-! ### A join alone (06 R333 to R336) -/

theorem quiet_admitJoin (hunpark : j.unpark = false) (hswap : j.swap = false) : quiet (admitJoin s c j) = quiet (joinServed s c j) := by
  have hnoted : ∀ (u : State) need, quiet (joinNoted u c j (ctxOf s c) need) = quiet u := fun u need => by
    rw [joinNoted, hswap, if_neg Bool.false_ne_true]
    split
    · exact quiet_wrN (by decide)
    · exact quiet_wrF (by decide)
  have hread : readQueued (joinServed s c j) c j = joinServed s c j := by
    rw [readQueued, hunpark]
    rfl
  have hdrop : ∀ u : State, quiet (holdDropped u c) = quiet u := fun _ => rfl
  rw [admitJoin_eq, quiet_showPx, quiet_showPrio, hdrop, hnoted, hread]

theorem admitJoin_ctxs (hunpark : j.unpark = false) : (admitJoin s c j).gener.ctxs = (joinServed s c j).gener.ctxs := by
  have hread : readQueued (joinServed s c j) c j = joinServed s c j := by
    rw [readQueued, hunpark]
    rfl
  have hdrop : ∀ u : State, (holdDropped u c).gener.ctxs = u.gener.ctxs := fun _ => rfl
  rw [admitJoin_eq, showPx_gener, showPrio_gener, hdrop, joinNoted_gener, hread]

/-- The context of a join that is served (06 R317, R323). -/
def servedCtx (s : State) (j : Join) (x : Context) : Context :=
  admittedCtx s j { x with pages := x.pages ++ (freePages s).take (joinNeed x j.unpark) }

theorem Only.joinServed (h : Only s n x) (hunpark : j.unpark = false) : Only (joinServed s n j) n (servedCtx s j x) := by
  have hctx : (Machine.joinServed s n j).gener.ctxs
      = (Machine.modCtx (Machine.takePages s n (joinNeed x j.unpark)) n (admittedCtx s j)).gener.ctxs := by
    rw [Machine.joinServed, cntReg_gener, ringGoesOn_gener, h.2]
  refine Only.congr (h.takePages.modCtx ?_) hctx
  rw [admittedCtx, hunpark]
  nofun

theorem asideRegs_joinWaits : asideRegs (ringGoesOn (modCtx (takePages s c m) c (admittedCtx s j)) j.ref) = asideRegs s := by
  rw [asideRegs_of_regs (ringGoesOn_regs ..), asideRegs_of_regs (modCtx_regs ..), asideRegs_takePages]

theorem Alone.joinServed (h : Alone s) : Alone (joinServed s c j) := by
  refine Alone.cntReg (h.of_aside asideRegs_joinWaits ?_) (by decide)
  have hring : ∀ (u : State) r, (ringGoesOn u r).azl = u.azl := fun u r => by
    unfold ringGoesOn
    dsimp only
    split <;> simp
  rw [hring, modCtx_azl, azl_takePages]

/-- A join that is served counts in SLU.JOINS, and its ring goes on (06 R333, 13 R613). -/
theorem joinServed_holds : rdN (joinServed s c j) Reg.sluJoins = min (rdN s Reg.sluJoins + 1) (2 ^ 32 - 1)
    ∧ (j.ref.remote = false → (j.ref.era, j.ref.idx) ∉ (ringOf (joinServed s c j) j.ref.ring).busy) := by
  refine ⟨?_, fun hloc => ?_⟩
  · rw [joinServed, rdN_cntReg_same, rdN_congr (rdReg_of_aside asideRegs_joinWaits (aside_of_bounds (by decide)))]
  · rw [joinServed, ringOf_congr (by rw [cntReg_hif])]
    exact not_busy_ringGoesOn hloc

/-- The context of a join that is deferred, the deferral counted (06 R335). -/
def deferredCtx (j : Join) (cause : Nat) (x : Context) : Context :=
  { x with join := some { j with deferrals := min (j.deferrals + 1) 255, deferred := true, cause := cause } }

theorem deferredCtx_st {cause : Nat} : (deferredCtx j cause x).st = x.st := rfl

theorem deferredCtx_pages {cause : Nat} : (deferredCtx j cause x).pages = x.pages := rfl

/-- The context of a join that is marked deferred in a repetition (08 R448). -/
def markedCtx (x : Context) : Context := { x with join := x.join.map fun j => { j with deferred := true } }

theorem markedCtx_st : (markedCtx x).st = x.st := rfl

theorem markedCtx_pages : (markedCtx x).pages = x.pages := rfl

/-- The join is deferred, and the deferral counts (06 R335). -/
def joinDeferred (s : State) (c : Nat) (j : Join) (cause : Nat) : State := cntReg (modCtx s c (deferredCtx j cause)) Reg.sluDeferrals 1

theorem deferJoin_holds {cause : Nat} (hcause : cause ≠ 4) : quiet (deferJoin s c j cause) = quiet (joinDeferred s c j cause)
    ∧ (deferJoin s c j cause).gener.ctxs = (joinDeferred s c j cause).gener.ctxs := by
  have hsat : satAdd 8 j.deferrals 1 = min (j.deferrals + 1) 255 := rfl
  unfold deferJoin
  dsimp only
  rw [if_neg hcause, hsat, raiseEv_gener, quiet_raiseEv (by decide)]
  exact ⟨rfl, rfl⟩

theorem keepJoin_eq : keepJoin s c = modCtx s c markedCtx := rfl

/-- The boundary with a join alone goes through its beginning to that join (06 R327). -/
theorem boundaryActions_of_join (h : Only s n x) (hpend : x.parkPending = none) (hpark : x.park = none) (hst : x.st = .opened)
    (hgap : s.gener.gap = rdN s Reg.dlmGap) (hdl : s.gener.dlDef = rdN s Reg.dlmDlDefault) :
    boundaryActions s im counted = boundaryEnd (boundaryJoins (boundaryBegun s counted) counted) im := by
  have hbegun : Only (boundaryBegun s counted) n x := h.congr boundaryBegun_ctxs
  rw [boundaryActions_eq, h.boundaryLeft (by rw [hst]; nofun) hpend hpark (takeGap_of_same (s := boundaryTaken s counted) hgap hdl),
    sparesGiven_of_none fun e he => ?_]
  rw [hbegun.1, List.mem_singleton] at he
  subst he
  exact .inl (by rw [hst]; nofun)

section Alone
variable (h : Only s n x) (hpend : x.parkPending = none) (hpark : x.park = none)
include h hpend hpark

/-- What a boundary does with a join alone, its end included, is what is done in considering it. -/
theorem boundary_of_considered {u : State} {z : Context} (hst : x.st = .opened) (hgap : s.gener.gap = rdN s Reg.dlmGap)
    (hdl : s.gener.dlDef = rdN s Reg.dlmDlDefault)
    (hq : quiet (joinsConsidered (holdShown (boundaryBegun s counted)) counted) = quiet u)
    (hc : (joinsConsidered (holdShown (boundaryBegun s counted)) counted).gener.ctxs = u.gener.ctxs) (hu : Alone u) (hz : Only u n z)
    (hfree : z.st ≠ .decode) : quiet (boundaryActions s im counted) = quiet u := by
  obtain ⟨hquiet, p, hgener⟩ := boundaryJoins_shows (s := boundaryBegun s counted) (counted := counted)
  have hjoined : Only (boundaryJoins (boundaryBegun s counted) counted) n z := hz.congr ((congrArg Gener.ctxs hgener).trans hc)
  rw [boundaryActions_of_join h hpend hpark hst hgap hdl,
    hjoined.quiet_boundaryEnd (hu.of_quiet (hquiet.trans hq)) (fun hd => hfree hd.1), hquiet, hq]

variable (halone : Alone s)
include halone

/-- A join alone that the test admits has its pages, counts, and its ring goes on (06 R317, R333, R336). -/
theorem boundary_admits (hst : x.st = .opened) (hjoin : x.join = some j) (hunpark : j.unpark = false) (hswap : j.swap = false)
    (hprio : s.gener.prio = none) (hgap : s.gener.gap = rdN s Reg.dlmGap) (hdl : s.gener.dlDef = rdN s Reg.dlmDlDefault)
    (htest : admitTest s n false = none) :
    let t := boundaryActions s im counted
    (ctxOf t n).st = .prefill ∧ (ctxOf t n).join = none
      ∧ (ctxOf t n).pages = x.pages ++ (freePages s).take (pagesFor (x.len + x.waiting.length) + 1 - x.pages.length)
      ∧ rdN t Reg.sluJoins = min (rdN s Reg.sluJoins + 1) (2 ^ 32 - 1)
      ∧ (j.ref.remote = false → (j.ref.era, j.ref.idx) ∉ (ringOf t j.ref.ring).busy) := by
  have hbegun : Only (boundaryBegun s counted) n x := h.congr boundaryBegun_ctxs
  have hconsidered : joinsConsidered (holdShown (boundaryBegun s counted)) counted = admitJoin (boundaryBegun s counted) n j := by
    rw [hbegun.joinsConsidered hjoin hswap (by rw [boundaryBegun, showPx_gener]; exact hprio), hunpark, admitTest_boundaryBegun, htest]
  have hserved : Only (joinServed (boundaryBegun s counted) n j) n (servedCtx (boundaryBegun s counted) j x) := hbegun.joinServed hunpark
  have hctx : servedCtx (boundaryBegun s counted) j x = { x with
      st := .prefill, join := none, admitAt := (boundaryBegun s counted).gener.boundary, short := false, blocked := false
      pages := x.pages ++ (freePages s).take (pagesFor (x.len + x.waiting.length) + 1 - x.pages.length) } := by
    rw [servedCtx, admittedCtx, hunpark, freePages_boundaryBegun]
    rfl
  have hq : quiet (boundaryActions s im counted) = quiet (joinServed (boundaryBegun s counted) n j) :=
    boundary_of_considered h hpend hpark hst hgap hdl (by rw [hconsidered, quiet_admitJoin hunpark hswap])
      (by rw [hconsidered, admitJoin_ctxs hunpark]) (halone.of_quiet quiet_boundaryBegun).joinServed hserved (by rw [hctx]; nofun)
  have hn := ctxOf_of_quiet hq n
  rw [hserved.2, hctx] at hn
  obtain ⟨hcount, hring⟩ := joinServed_holds (s := boundaryBegun s counted) (c := n) (j := j)
  refine ⟨st_of_unnoted hn, join_of_unnoted hn, pages_of_unnoted hn, ?_, fun hloc => ?_⟩
  · rw [rdN_congr (rdReg_of_quiet hq (aside_of_bounds (by decide))), hcount, rdN_congr (rdReg_boundaryBegun (by decide))]
  · rw [ringOf_congr (rings_of_quiet hq)]
    exact hring hloc

/-- A join alone that fails the test stays: deferred and counted at a boundary, marked in a repetition (06 R335, 08 R448). -/
theorem boundary_defers {cause : Nat} (hst : x.st = .opened) (hjoin : x.join = some j) (hunpark : j.unpark = false) (hswap : j.swap = false)
    (hprio : s.gener.prio = none) (hgap : s.gener.gap = rdN s Reg.dlmGap) (hdl : s.gener.dlDef = rdN s Reg.dlmDlDefault)
    (htest : admitTest s n false = some cause) :
    let t := boundaryActions s im counted
    (ctxOf t n).st = .opened ∧ (ctxOf t n).pages = x.pages
      ∧ (counted = true → (ctxOf t n).join = some { j with deferrals := min (j.deferrals + 1) 255, deferred := true, cause := cause }
        ∧ rdN t Reg.sluDeferrals = min (rdN s Reg.sluDeferrals + 1) (2 ^ 32 - 1))
      ∧ (counted = false → (ctxOf t n).join = some { j with deferred := true } ∧ rdN t Reg.sluDeferrals = rdN s Reg.sluDeferrals) := by
  have hbegun : Only (boundaryBegun s counted) n x := h.congr boundaryBegun_ctxs
  have hbegunAlone : Alone (boundaryBegun s counted) := halone.of_quiet quiet_boundaryBegun
  have hconsidered : joinsConsidered (holdShown (boundaryBegun s counted)) counted
      = if counted then deferJoin (boundaryBegun s counted) n j cause else keepJoin (boundaryBegun s counted) n := by
    rw [hbegun.joinsConsidered hjoin hswap (by rw [boundaryBegun, showPx_gener]; exact hprio), hunpark, admitTest_boundaryBegun, htest]
  have hcause : cause ≠ 4 := fun h4 => admitTest_ne_four s n false (h4 ▸ htest)
  have hdeferred : rdN (boundaryBegun s counted) Reg.sluDeferrals = rdN s Reg.sluDeferrals := rdN_congr (rdReg_boundaryBegun (by decide))
  have hlive : x.st ≠ .decode := by rw [hst]; nofun
  cases counted with
  | true =>
    obtain ⟨hdefer, hdeferCtxs⟩ := deferJoin_holds (s := boundaryBegun s true) (c := n) (j := j) hcause
    have hu : Only (joinDeferred (boundaryBegun s true) n j cause) n (deferredCtx j cause x) :=
      (hbegun.modCtx (f := deferredCtx j cause) h.live).congr (congrArg Gener.ctxs (cntReg_gener ..))
    have hua : Alone (joinDeferred (boundaryBegun s true) n j cause) :=
      (hbegunAlone.of_aside (asideRegs_of_regs (modCtx_regs ..)) (modCtx_azl ..)).cntReg (by decide)
    have hq : quiet (boundaryActions s im true) = quiet (joinDeferred (boundaryBegun s true) n j cause) :=
      boundary_of_considered h hpend hpark hst hgap hdl (by rw [hconsidered, if_pos rfl, hdefer])
        (by rw [hconsidered, if_pos rfl, hdeferCtxs]) hua hu hlive
    have hn := ctxOf_of_quiet hq n
    rw [hu.2] at hn
    refine ⟨(st_of_unnoted hn).trans (deferredCtx_st.trans hst), (pages_of_unnoted hn).trans deferredCtx_pages,
      fun _ => ⟨join_of_unnoted hn, ?_⟩, nofun⟩
    rw [rdN_congr (rdReg_of_quiet hq (aside_of_bounds (by decide))), joinDeferred, rdN_cntReg_same, rdN_congr (rdReg_congr (modCtx_regs ..) _),
      hdeferred]
  | false =>
    have hu : Only (modCtx (boundaryBegun s false) n markedCtx) n (markedCtx x) := hbegun.modCtx (f := markedCtx) h.live
    have hua : Alone (modCtx (boundaryBegun s false) n markedCtx) :=
      hbegunAlone.of_aside (asideRegs_of_regs (modCtx_regs ..)) (modCtx_azl ..)
    have hq : quiet (boundaryActions s im false) = quiet (modCtx (boundaryBegun s false) n markedCtx) :=
      boundary_of_considered h hpend hpark hst hgap hdl (by rw [hconsidered, if_neg Bool.false_ne_true, keepJoin_eq])
        (by rw [hconsidered, if_neg Bool.false_ne_true, keepJoin_eq]) hua hu hlive
    have hn := ctxOf_of_quiet hq n
    rw [hu.2] at hn
    refine ⟨(st_of_unnoted hn).trans (markedCtx_st.trans hst), (pages_of_unnoted hn).trans markedCtx_pages, nofun,
      fun _ => ⟨(join_of_unnoted hn).trans ?_, ?_⟩⟩
    · show x.join.map _ = _
      rw [hjoin]
      rfl
    · rw [rdN_congr (rdReg_of_quiet hq (aside_of_bounds (by decide))), rdN_congr (rdReg_congr (modCtx_regs ..) _), hdeferred]

end Alone

end Sys2Proof.Machine

/-!
SUPPORT. The boundary with one short context: it has its spare, or it is blocked and then parked when it has a place (06 R331, 08 R444, R445).
-/
namespace Sys2Proof.Machine

variable {s t : State} {k c n o m : Nat} {x y : Context} {im : Image} {counted : Bool}

/-! ### A spare given, or none left (06 R331) -/

/-- A context that has its spare. -/
def unblockedCtx (x : Context) : Context := { x with short := false, blocked := false }

/-- A context for which no page is left. -/
def blockedCtx (x : Context) : Context := { x with blocked := true }

/-- The spare is taken from the pool. -/
def spareTaken (s : State) (c : Nat) : State := modCtx (takePages s c 1) c unblockedCtx

/-- The context is blocked, and the block counts. -/
def blockNoted (s : State) (c : Nat) : State := cntReg (modCtx s c blockedCtx) Reg.sluBlocks 1

theorem giveSpare_of_free (hfree : rdN s Reg.kvpFree ≠ 0) : quiet (giveSpare s c) = quiet (spareTaken s c)
    ∧ (giveSpare s c).gener = (spareTaken s c).gener := by
  unfold giveSpare
  dsimp only
  rw [if_neg hfree]
  split
  · exact ⟨quiet_raiseEv (by decide), sessEv_gener ..⟩
  · exact ⟨rfl, rfl⟩

theorem giveSpare_of_none (hfree : rdN s Reg.kvpFree = 0) (hb : (ctxOf s c).blocked = false) : quiet (giveSpare s c) = quiet (blockNoted s c)
    ∧ (giveSpare s c).gener = (blockNoted s c).gener := by
  unfold giveSpare
  dsimp only
  rw [if_pos hfree, hb, if_neg Bool.false_ne_true]
  exact ⟨quiet_raiseEv (by decide), sessEv_gener ..⟩

/-! ### Relief (08 R444, R445) -/

/-- The place of a context that is parked to let others go on (08 R444). -/
def swapPlace (x : Context) : ParkReq := { ref := {}, addr := x.parkAddr, swap := true, saved := false }

/-- A context that is parked to let others go on (08 R445). -/
def swappedCtx (s : State) (p : ParkReq) (x : Context) : Context :=
  { x with st := .parked, park := some p, blocked := false, short := false, swapSeq := s.gener.joinSeq, told := !inGroup s }

/-- A swap park, before it is told (08 R445). -/
def swapParked (s : State) (c : Nat) : State :=
  let s1 := modCtx s c (swappedCtx s (swapPlace (ctxOf s c)))
  addXfer (putGener s1 { s1.gener with joinSeq := s1.gener.joinSeq + 1 }) (.park c)

theorem swapPark_eq : swapPark s c = sessEv (swapParked s c) Reg.pageSlu 0 0x20 0x0007 (ctxOf s c)
    [c, rdN (swapParked s c) Reg.kvpFree, (liveCtxs s).countP fun y => y.2.blocked, 0] := rfl

theorem quiet_swapPark : quiet (swapPark s c) = quiet (swapParked s c) := by
  rw [swapPark_eq]
  exact quiet_raiseEv (by decide)

/-- A swap park saves the pages of the context, and queues the save (08 R431, R445). -/
theorem Only.swapPark (h : Only s n x) : ctxOf (swapPark s n) n = swappedCtx s (swapPlace x) x
    ∧ (swapPark s n).gener.xfers = s.gener.xfers ++ [⟨.park n, false, 0⟩] := by
  have hgener : (Machine.swapPark s n).gener = (swapParked s n).gener := by rw [swapPark_eq, sessEv_gener]
  have hctxs : (swapParked s n).gener.ctxs = (Machine.modCtx s n (swappedCtx s (swapPlace (ctxOf s n)))).gener.ctxs := rfl
  refine ⟨?_, by rw [hgener]; rfl⟩
  rw [ctxOf_congr ((congrArg Gener.ctxs hgener).trans hctxs), ctxOf_modCtx, if_pos rfl, h.2]

theorem asideRegs_swapPark : asideRegs (swapPark s c) = asideRegs s :=
  (asideRegs_of_quiet quiet_swapPark).trans (asideRegs_of_regs rfl)

/-- The one context held is blocked: it is parked when it has a place (08 R444). -/
theorem Only.relieve_of_place (h : Only s n x) (hst : x.st = .decode) (hshort : x.short = true) (hb : x.blocked = true) (hplace : x.parkAddr ≠ 0) :
    relieve s = Machine.swapPark (deadlockClear s) n := by
  unfold relieve
  rw [h.shortCtxs_of_short hst hshort]
  simp [hb, hplace, deadlockClear]

/-- A deadlock is reported at most, where no context has a place (08 R449). -/
theorem Only.relieve_of_no_place (h : Only s n x) (hst : x.st = .decode) (hshort : x.short = true) (hb : x.blocked = true) (hplace : x.parkAddr = 0) :
    quiet (relieve s) = quiet s := by
  unfold relieve
  rw [h.shortCtxs_of_short hst hshort]
  simp only [List.filter_cons, hb, if_true, List.filter_nil, List.isEmpty_cons, Bool.false_eq_true, if_false, List.find?_cons, hplace,
    bne_self_eq_false, List.find?_nil]
  split
  · rfl
  · exact quiet_raiseEv (by decide)

/-- A short context takes no part in the step (06 R337). -/
theorem Only.eligibleSet_of_short (h : Only s n x) (hst : x.st = .decode) (hshort : x.short = true) : eligibleSet s = [] := by
  have hnot : decodeEligible x = false := by simp [decodeEligible, hshort]
  unfold eligibleSet
  rw [h.1]
  simp [hnot, hst, sortBy, prefillRows]

/-- Where no join waits, the joins' part of the boundary shows registers alone. -/
theorem Only.boundaryJoins_of_none (h : Only s n x) (hjoin : x.join = none) : quiet (boundaryJoins s counted) = quiet s
    ∧ (boundaryJoins s counted).gener.ctxs = s.gener.ctxs ∧ (boundaryJoins s counted).gener.xfers = s.gener.xfers := by
  obtain ⟨hquiet, p, hgener⟩ := boundaryJoins_shows (s := s) (counted := counted)
  have hnone : ∀ e ∈ liveCtxs s, e.2.join = none := by simpa [h.1] using hjoin
  rw [joinsConsidered_of_none hnone] at hquiet hgener
  rw [hgener, holdShown_gener]
  exact ⟨hquiet.trans quiet_holdShown, rfl, rfl⟩

theorem noteEligible_xfers {b : List BatchEntry} : (noteEligible s b).gener.xfers = s.gener.xfers := by
  unfold noteEligible
  refine each_keeps (Gener.xfers ∘ State.gener) _ (fun _ _ => ?_) _ _
  rfl

theorem boundaryEnd_of_none_eligible (h : eligibleSet s = []) : boundaryEnd s im = tellParks (relieve (noteEligible s [])) := by
  rw [boundaryEnd, h]
  rfl

theorem parkAddr_of_unnoted (h : unnoted x = unnoted y) : x.parkAddr = y.parkAddr := (congrArg Context.parkAddr h :)

/-! ### The boundary with a short context alone -/

/-- The boundary of a short context with no page left, up to its relief (06 R327). -/
def shortBlocked (s : State) (counted : Bool) (c : Nat) : State :=
  noteEligible (boundaryJoins (giveSpare (boundaryBegun s counted) c) counted) []

section Short
variable (h : Only s n x) (hpend : x.parkPending = none) (hpark : x.park = none) (hst : x.st = .decode) (hshort : x.short = true)
include h hpend hpark hst hshort

/-- The boundary with a short context alone goes through its beginning to that context's spare (06 R327). -/
theorem boundaryActions_of_short : boundaryActions s im counted = boundaryEnd (boundaryJoins (giveSpare (boundaryBegun s counted) n) counted) im := by
  have hbegun : Only (boundaryBegun s counted) n x := h.congr boundaryBegun_ctxs
  have hadmitted : admitted (boundaryTaken s counted) none ≠ [] := by
    have hlive : liveCtxs (boundaryTaken s counted) = [(n, x)] := h.1
    rw [admitted, hlive]
    simp [hst]
  rw [boundaryActions_eq, h.boundaryLeft (by rw [hst]; nofun) hpend hpark (takeGap_of_admitted hadmitted), sparesGiven,
    hbegun.shortCtxs_of_short hst hshort]
  rfl

variable (halone : Alone s) (hjoin : x.join = none)
include halone hjoin

/-- A short context alone has the lowest free page as its spare (06 R331). -/
theorem boundary_gives_spare (hfree : rdN s Reg.kvpFree ≠ 0) :
    let t := boundaryActions s im counted
    (ctxOf t n).st = .decode ∧ (ctxOf t n).short = false ∧ (ctxOf t n).blocked = false
      ∧ (ctxOf t n).pages = x.pages ++ (freePages s).take 1 := by
  have hbegun : Only (boundaryBegun s counted) n x := h.congr boundaryBegun_ctxs
  have hbegunAlone : Alone (boundaryBegun s counted) := halone.of_quiet quiet_boundaryBegun
  have hpool : rdN (boundaryBegun s counted) Reg.kvpFree ≠ 0 := by rwa [rdN_congr (rdReg_boundaryBegun (by decide))]
  obtain ⟨hgive, hgiveGener⟩ := giveSpare_of_free (c := n) hpool
  have htaken : Only (spareTaken (boundaryBegun s counted) n) n
      (unblockedCtx { x with pages := x.pages ++ (freePages (boundaryBegun s counted)).take 1 }) :=
    hbegun.takePages.modCtx (f := unblockedCtx) h.live
  have hgiven := htaken.congr (congrArg Gener.ctxs hgiveGener)
  obtain ⟨hquiet, hctxs, -⟩ := hgiven.boundaryJoins_of_none (counted := counted) hjoin
  have halone' : Alone (boundaryJoins (giveSpare (boundaryBegun s counted) n) counted) := by
    refine Alone.of_quiet (hbegunAlone.of_aside (t := spareTaken (boundaryBegun s counted) n) ?_ ?_) (hquiet.trans hgive)
    · exact (asideRegs_of_regs (modCtx_regs ..)).trans asideRegs_takePages
    · exact (modCtx_azl ..).trans azl_takePages
  have hq : quiet (boundaryActions s im counted) = quiet (spareTaken (boundaryBegun s counted) n) := by
    rw [boundaryActions_of_short h hpend hpark hst hshort,
      (hgiven.congr hctxs).quiet_boundaryEnd halone' (fun hb => Bool.false_ne_true hb.2.1), hquiet, hgive]
  have hn := ctxOf_of_quiet hq n
  rw [htaken.2, freePages_boundaryBegun] at hn
  exact ⟨(st_of_unnoted hn).trans hst, short_of_unnoted hn, blocked_of_unnoted hn, pages_of_unnoted hn⟩

omit hpend hpark hst hshort halone in
/-- What the blocked context's boundary shows before relief: its block, and that block alone (06 R331). -/
theorem shortBlocked_holds (hfree : rdN s Reg.kvpFree = 0) (hb : x.blocked = false) :
    quiet (shortBlocked s counted n) = quiet (blockNoted (boundaryBegun s counted) n)
    ∧ (shortBlocked s counted n).gener.xfers = s.gener.xfers
    ∧ Only (boundaryJoins (giveSpare (boundaryBegun s counted) n) counted) n (blockedCtx x)
    ∧ ∃ w, Only (shortBlocked s counted n) n w ∧ unnoted w = unnoted (blockedCtx x) := by
  have hbegun : Only (boundaryBegun s counted) n x := h.congr boundaryBegun_ctxs
  have hpool : rdN (boundaryBegun s counted) Reg.kvpFree = 0 := by rwa [rdN_congr (rdReg_boundaryBegun (by decide))]
  obtain ⟨hgive, hgiveGener⟩ := giveSpare_of_none (c := n) hpool (by rw [hbegun.2]; exact hb)
  have hnoted : Only (blockNoted (boundaryBegun s counted) n) n (blockedCtx x) :=
    (hbegun.modCtx (f := blockedCtx) h.live).congr (congrArg Gener.ctxs (cntReg_gener ..))
  have hgiven := hnoted.congr (congrArg Gener.ctxs hgiveGener)
  obtain ⟨hquiet, hctxs, hxfers⟩ := hgiven.boundaryJoins_of_none (counted := counted) hjoin
  refine ⟨quiet_noteEligible.trans (hquiet.trans hgive), ?_, hgiven.congr hctxs, (hgiven.congr hctxs).noteEligible⟩
  rw [shortBlocked, noteEligible_xfers, hxfers, hgiveGener, blockNoted, cntReg_gener]
  show (boundaryBegun s counted).gener.xfers = _
  rw [boundaryBegun, showPx_gener]
  rfl

/-- A short context alone with no page left is blocked, and parked when it has a place (06 R331, 08 R444, R445). -/
theorem boundary_blocks (hfree : rdN s Reg.kvpFree = 0) (hb : x.blocked = false) :
    let t := boundaryActions s im counted
    (ctxOf t n).pages = x.pages ∧ rdN t Reg.sluBlocks = min (rdN s Reg.sluBlocks + 1) (2 ^ 32 - 1)
      ∧ (x.parkAddr = 0 → (ctxOf t n).st = .decode ∧ (ctxOf t n).blocked = true)
      ∧ (x.parkAddr ≠ 0 → (ctxOf t n).st = .parked ∧ (ctxOf t n).park = some ⟨{}, x.parkAddr, true, false⟩
        ∧ t.gener.xfers = s.gener.xfers ++ [⟨.park n, false, 0⟩]) := by
  obtain ⟨hq, hxfers, hjoined, w, hw, hun⟩ := shortBlocked_holds (counted := counted) h hjoin hfree hb
  have hwst : w.st = .decode := (st_of_unnoted hun).trans hst
  have hwshort : w.short = true := (short_of_unnoted hun).trans hshort
  have hwb : w.blocked = true := blocked_of_unnoted hun
  have hplace : w.parkAddr = x.parkAddr := parkAddr_of_unnoted (y := blockedCtx x) hun
  have hgroup : inGroup (blockNoted (boundaryBegun s counted) n) = false :=
    (((halone.of_quiet quiet_boundaryBegun).of_aside (asideRegs_of_regs (modCtx_regs ..)) (modCtx_azl ..)).cntReg (by decide)).1
  have hcount : rdN (blockNoted (boundaryBegun s counted) n) Reg.sluBlocks = min (rdN s Reg.sluBlocks + 1) (2 ^ 32 - 1) := by
    rw [blockNoted, rdN_cntReg_same, rdN_congr (rdReg_congr (modCtx_regs ..) _), rdN_congr (rdReg_boundaryBegun (by decide))]
  have hactions : boundaryActions s im counted = tellParks (relieve (shortBlocked s counted n)) := by
    rw [boundaryActions_of_short h hpend hpark hst hshort, boundaryEnd_of_none_eligible (hjoined.eligibleSet_of_short hst hshort), shortBlocked]
  have hblocks : ∀ {t : State}, asideRegs t = asideRegs (blockNoted (boundaryBegun s counted) n) →
      tellParks t = t ∧ rdN t Reg.sluBlocks = min (rdN s Reg.sluBlocks + 1) (2 ^ 32 - 1) := fun ht =>
    ⟨tellParks_of_alone ((inGroup_of_aside ht).trans hgroup), by rw [rdN_congr (rdReg_of_aside ht (aside_of_bounds (by decide))), hcount]⟩
  dsimp only
  by_cases hzero : x.parkAddr = 0
  · have hr := hw.relieve_of_no_place hwst hwshort hwb (hplace.trans hzero)
    have hn := (ctxOf_of_quiet hr n).trans ((congrArg unnoted hw.2).trans hun)
    obtain ⟨htold, hcounted⟩ := hblocks (asideRegs_of_quiet (hr.trans hq))
    rw [hactions, htold]
    exact ⟨pages_of_unnoted (y := blockedCtx x) hn, hcounted,
      fun _ => ⟨(st_of_unnoted (y := blockedCtx x) hn).trans hst, blocked_of_unnoted hn⟩, fun hne => absurd hzero hne⟩
  · have hclear : Only (deadlockClear (shortBlocked s counted n)) n w := hw.congr rfl
    obtain ⟨hctx, hqueued⟩ := hclear.swapPark
    obtain ⟨htold, hcounted⟩ := hblocks (asideRegs_swapPark.trans (asideRegs_of_quiet (quiet_deadlockClear.trans hq)))
    rw [hactions, hw.relieve_of_place hwst hwshort hwb (hplace ▸ hzero), htold, hctx, hqueued]
    refine ⟨pages_of_unnoted (x := w) (y := blockedCtx x) hun, hcounted, fun h0 => absurd h0 hzero,
      fun _ => ⟨rfl, ?_, congrArg (· ++ _) hxfers⟩⟩
    rw [← hplace]
    rfl

end Short

end Sys2Proof.Machine

/-!
SUPPORT. The decision of a boundary where every context held decodes, and the step it agrees (06 R330, R337, R342).
-/
namespace Sys2Proof.Machine

variable {s t : State} {im : Image} {b : List BatchEntry} {e : BatchEntry} {counted exited : Bool} {pf dur : Nat}

/-! ### What the decision reads -/

theorem rdN_of_quiet {o : Nat} (h : quiet t = quiet s) (ho : Aside o) : rdN t o = rdN s o := rdN_congr (rdReg_of_quiet h ho)

theorem stepTokens_of_quiet (h : quiet t = quiet s) (e : BatchEntry) : stepTokens t e = stepTokens s e := by
  have hctx := ctxOf_of_quiet h e.ctx
  have hlen : (ctxOf t e.ctx).len = (ctxOf s e.ctx).len := (congrArg Context.len hctx :)
  have hwaiting : (ctxOf t e.ctx).waiting = (ctxOf s e.ctx).waiting := (congrArg Context.waiting hctx :)
  rw [stepTokens, stepTokens, hlen, hwaiting]

theorem batchSF_of_quiet (h : quiet t = quiet s) (im : Image) (b : List BatchEntry) : batchSF t im b = batchSF s im b := by
  have hncl : ncl t = ncl s := rdF_congr (rdReg_of_quiet h (aside_of_bounds (by decide)))
  simp only [batchSF, batchTiles, hncl, stepTokens_of_quiet h]

theorem planOfBatch_of_quiet (h : quiet t = quiet s) (exited : Bool) (sf : Nat × Nat) : planOfBatch t exited sf = planOfBatch s exited sf := by
  simp only [planOfBatch, rdN_of_quiet h (o := Reg.dlmFullD0) (aside_of_bounds (by decide)),
    rdN_of_quiet h (o := Reg.dlmFullSa) (aside_of_bounds (by decide)),
    rdN_of_quiet h (o := Reg.dlmFullFc) (aside_of_bounds (by decide)), rdN_of_quiet h (o := Reg.dlmExitD0) (aside_of_bounds (by decide)),
    rdN_of_quiet h (o := Reg.dlmExitSa) (aside_of_bounds (by decide)), rdN_of_quiet h (o := Reg.dlmExitFc) (aside_of_bounds (by decide))]

theorem fullPlan_of_quiet (h : quiet t = quiet s) : fullPlan t im b = fullPlan s im b := by
  rw [fullPlan, fullPlan, batchSF_of_quiet h, planOfBatch_of_quiet h, gap_of_quiet h]

theorem lastCommit_of_quiet (h : quiet t = quiet s) : lastCommit t = lastCommit s := by
  have hlo : rdN t Reg.azlCommitLo = rdN s Reg.azlCommitLo := rdN_of_quiet h (aside_of_bounds (by decide))
  have hhi : rdN t (Reg.azlCommitLo + 4) = rdN s (Reg.azlCommitLo + 4) := rdN_of_quiet h (aside_of_bounds (by decide))
  rw [lastCommit, lastCommit, rd64, rd64, hlo, hhi]

theorem launchAfter_of_quiet (h : quiet t = quiet s) (hsched : t.sched = s.sched) (cdown : Nat) : launchAfter t cdown = launchAfter s cdown := by
  rw [launchAfter, launchAfter, hsched, gap_of_quiet h, count_of_quiet h]

theorem cDown_of_alone (h : inGroup s = false) : cDown s = 0 := by rw [cDown, h, if_neg Bool.false_ne_true]

/-- The record of what is decided, and what its decision shows (06 R342). -/
def decidedRec (s : State) (im : Image) (b : List BatchEntry) : StepRec :=
  agreedRec (decisionShown s im b) im (decided s im b).1 (decided s im b).2 (decidedDur s im b)

/-- A package alone agrees what it decides (06 R330). -/
theorem decideStep_of_alone (h : Alone s) (hstate : azlState s ≠ 5) : (decideStep s im b).sched.nextStep = some (decidedRec s im b)
    ∧ (decideStep s im b).sched.nextLaunch = some (decidedRec s im b).launch := by
  have hstate' : azlState (decisionShown s im b) ≠ 5 := (azlState_of_aside (asideRegs_of_quiet quiet_decisionShown)).trans_ne hstate
  rw [decideStep_eq, agreeStep_of_alone (h.of_quiet quiet_decisionShown) hstate', noteTold_sched]
  obtain ⟨hnext, hlaunch, -⟩ := stepAgreed_sched (s := decisionShown s im b) (im := im) (b := (decided s im b).2) (decidedRec s im b)
  exact ⟨hnext, hlaunch⟩

/-- What is decided is the step after the last committed one, and its S, F, planned duration and launch are as they stand (06 R330, R339). -/
theorem decidedRec_of_quiet (h : quiet t = quiet s) (hsched : t.sched = s.sched) (hgroup : inGroup s = false) :
    let r := decidedRec t im b
    r.step = lastCommit s + 1 ∧ r.launch = launchAfter s 0 ∧ (r.s, r.f) = batchSF s im r.batch
      ∧ r.planDur = planOfBatch s r.exitKind (r.s, r.f) := by
  have hq : quiet (decisionShown t im b) = quiet s := quiet_decisionShown.trans h
  have hcDown : cDown (decisionShown t im b) = 0 := cDown_of_alone ((inGroup_of_aside (asideRegs_of_quiet hq)).trans hgroup)
  have hsf : ∀ b', batchSF (decisionShown t im b) im b' = batchSF s im b' := batchSF_of_quiet hq im
  refine ⟨congrArg (· + 1) (lastCommit_of_quiet hq), ?_, hsf _, ?_⟩
  · show launchAfter _ (cDown _) = _
    rw [hcDown, launchAfter_of_quiet hq (decisionShown_holds.2.trans hsched)]
  · show decidedDur t im b = planOfBatch s (decided t im b).1 (batchSF (decisionShown t im b) im (decided t im b).2)
    rw [hsf, decidedDur, batchSF_of_quiet h, planOfBatch_of_quiet h]

/-! ### Late contexts (06 R342) -/

/-- The entry of a context that decodes (06 R337). -/
def decodeEntry (y : Nat × Context) : BatchEntry := { ctx := y.1, rows := 1, decode := true, tok := ((y.2.hist.getLast?).map (·.1)).getD 0 }

/-- The context would pass its deadline after this period (06 R342). -/
def lateBy (p : Nat) (y : Nat × Context) : Bool := decide (y.2.deadline < y.2.accrued + p)

/-- Whether a batch entry is late, by its context's row in the table (06 R342). -/
def entryLate (s : State) (e : BatchEntry) (p : Nat) : Bool := e.decode && decide ((ctxOf s e.ctx).deadline < (ctxOf s e.ctx).accrued + p)

theorem decideKind_eq (s : State) (b : List BatchEntry) (pf : Nat) : decideKind s b pf = if b.any fun e => entryLate s e pf then
    (true, (b.filter fun e => entryLate s e pf || entryLate s e (2 * rdN s Reg.dlmPxMax)).map fun e => { e with threat := entryLate s e pf })
    else (false, b) := rfl

section Decoding
variable {ys : List (Nat × Context)} (hys : ∀ y ∈ ys, unnoted (ctxOf t y.1) = unnoted y.2)
include hys

theorem entryLate_decodeEntry {y : Nat × Context} (hy : y ∈ ys) (p : Nat) : entryLate t (decodeEntry y) p = lateBy p y := by
  have hdeadline : (ctxOf t y.1).deadline = y.2.deadline := (congrArg Context.deadline (hys y hy) :)
  have haccrued : (ctxOf t y.1).accrued = y.2.accrued := (congrArg Context.accrued (hys y hy) :)
  rw [entryLate, lateBy, decodeEntry, hdeadline, haccrued, Bool.true_and]

theorem any_entryLate : ((ys.map decodeEntry).any fun e => entryLate t e pf) = ys.any (lateBy pf) := by
  rw [List.any_map, Bool.eq_iff_iff, List.any_eq_true, List.any_eq_true]
  exact exists_congr fun y => and_congr_right fun hy => by rw [Function.comp_apply, entryLate_decodeEntry hys hy]

/-- No context late: a full step of them all (06 R342). -/
theorem decideKind_of_timely (h : ∀ y ∈ ys, y.2.accrued + pf ≤ y.2.deadline) :
    decideKind t (ys.map decodeEntry) pf = (false, ys.map decodeEntry) := by
  have hnone : ys.any (lateBy pf) = false := List.any_eq_false.mpr fun y hy => by simpa [lateBy] using h y hy
  rw [decideKind_eq, any_entryLate hys, hnone, if_neg Bool.false_ne_true]

/-- A context late: an exit step of those that are or would soon be (06 R342). -/
theorem decideKind_of_late (h : ∃ y ∈ ys, y.2.deadline < y.2.accrued + pf) : (decideKind t (ys.map decodeEntry) pf).1 = true
    ∧ (decideKind t (ys.map decodeEntry) pf).2.map (·.ctx) = (ys.filter fun y => lateBy pf y || lateBy (2 * rdN t Reg.dlmPxMax) y).map (·.1) := by
  obtain ⟨y, hy, hlate⟩ := h
  have hany : ys.any (lateBy pf) = true := List.any_eq_true.mpr ⟨y, hy, by simpa [lateBy] using hlate⟩
  rw [decideKind_eq, any_entryLate hys, if_pos hany]
  refine ⟨rfl, ?_⟩
  rw [List.map_map, List.filter_map, List.map_map]
  refine congrArg _ (List.filter_congr fun z hz => ?_)
  rw [Function.comp_apply, entryLate_decodeEntry hys hz, entryLate_decodeEntry hys hz]

end Decoding

/-! ### Up to the decision -/

theorem eligibleSet_of_decoding (h : ∀ y ∈ liveCtxs s, decodeEligible y.2 = true) : eligibleSet s = (liveCtxs s).map decodeEntry := by
  unfold eligibleSet
  rw [← List.filterMap_eq_map]
  refine List.filterMap_congr fun y hy => ?_
  rw [if_pos (h y hy)]
  rfl

/-- The registers, host and schedule that stand until the decision. -/
def awaiting (s : State) := (quiet s, rdReg s Reg.dlmPxMax, s.boot, s.hif, s.sched)

theorem awaiting_wrReg {off : Nat} {v : Word} (h : off ∈ boundaryRegs) (hpx : Reg.dlmPxMax ≠ off) : awaiting (wrReg s off v) = awaiting s := by
  rw [awaiting, quiet_wrReg h, rdReg_wrReg, if_neg hpx, wrReg_boot, wrReg_hif, wrReg_sched]
  rfl

theorem awaiting_holdShown : awaiting (holdShown s) = awaiting s := by
  unfold holdShown
  split
  · exact awaiting_wrReg (by decide) (by decide)
  · rfl

theorem awaiting_showDefer : awaiting (showDefer s) = awaiting s := by
  unfold showDefer
  dsimp only
  split <;> exact (awaiting_wrReg (by decide) (by decide)).trans (awaiting_wrReg (by decide) (by decide))

theorem awaiting_modCtx {c : Nat} {f : Context → Context} (h : ∀ x, unnoted (f x) = unnoted x) : awaiting (modCtx s c f) = awaiting s := by
  rw [awaiting, quiet_modCtx h, rdReg_congr (modCtx_regs ..), modCtx_boot, modCtx_hif, modCtx_sched]
  rfl

theorem awaiting_noteEligible : awaiting (noteEligible s b) = awaiting s := by
  refine each_keeps awaiting _ (fun _ _ => ?_) _ _
  exact awaiting_modCtx fun _ => rfl

theorem beginHold_of_none (h : ∀ e ∈ liveCtxs s, e.2.join = none) : beginHold s = s := by
  unfold beginHold
  rw [joinOrder_of_none h]
  exact ite_self _

/-- Where no context waits to join, the joins' part only shows so. -/
theorem boundaryJoins_of_none (h : ∀ e ∈ liveCtxs s, e.2.join = none) : awaiting (boundaryJoins s counted) = awaiting s
    ∧ (boundaryJoins s counted).gener = s.gener := by
  have hheld : beginHold (holdShown s) = holdShown s :=
    beginHold_of_none (liveCtxs_congr (congrArg Gener.ctxs (holdShown_gener (s := s))) ▸ h)
  rw [boundaryJoins_eq, joinsConsidered_of_none h, hheld, ite_self, awaiting_showDefer, showDefer_gener]
  exact ⟨awaiting_holdShown, holdShown_gener⟩

theorem mayDecide_of_awaiting (h : awaiting t = awaiting s) : mayDecide t = mayDecide s := by
  obtain ⟨hq, hrest⟩ := Prod.mk.inj h
  obtain ⟨-, hrest⟩ := Prod.mk.inj hrest
  obtain ⟨hboot, hrest⟩ := Prod.mk.inj hrest
  obtain ⟨hhif, -⟩ := Prod.mk.inj hrest
  have hctl : rdB t Reg.sluCtl 0 = rdB s Reg.sluCtl 0 := rdB_congr (rdReg_of_quiet hq (aside_of_bounds (by decide)))
  rw [mayDecide, mayDecide, hctl, hboot, hhif, inGroup_of_aside (asideRegs_of_quiet hq), azlState_of_aside (asideRegs_of_quiet hq)]

theorem mayDecide_boundaryBegun : mayDecide (boundaryBegun s counted) = mayDecide s := by
  have haside := asideRegs_of_quiet (quiet_boundaryBegun (s := s) (counted := counted))
  have hctl : rdB (boundaryBegun s counted) Reg.sluCtl 0 = rdB s Reg.sluCtl 0 := rdB_congr (rdReg_boundaryBegun (by decide))
  have hmapped : (boundaryBegun s counted).boot.mapped = s.boot.mapped := by rw [boundaryBegun, showPx, wrN_boot]; rfl
  have hheld : (boundaryBegun s counted).hif.held = s.hif.held := by rw [boundaryBegun, showPx, wrN_hif]; rfl
  rw [mayDecide, mayDecide, hctl, hmapped, hheld, inGroup_of_aside haside, azlState_of_aside haside]

/-- The largest exit period of contexts that all decode, as the boundary shows it (06 R336). -/
theorem pxMax_boundaryBegun (himage : s.gener.image = some im) (hne : liveCtxs s ≠ []) (hst : ∀ y ∈ liveCtxs s, y.2.st = .decode) :
    rdN (boundaryBegun s counted) Reg.dlmPxMax = pxOf s (tilePages im) ((liveCtxs s).map fun y => y.2.limit) % 2 ^ 32 := by
  have hadmitted : admitted (boundaryTaken s counted) none = liveCtxs s :=
    List.filter_eq_self.mpr fun y hy => by simp [hst y hy]
  have himage' : (boundaryTaken s counted).gener.image = some im := himage
  have hempty : (liveCtxs s).isEmpty = false := by simpa using hne
  rw [boundaryBegun, showPx, hadmitted, himage', hempty, rdN_wrN_same, if_neg Bool.false_ne_true]
  exact Nat.mod_mod _ _

/-! ### The step agreed -/

/-- What is known of a context that decodes: no join, no spare to give, and it stays (06 R337). -/
theorem holds_of_decodeEligible {x : Context} (h : decodeEligible x = true) : x.st = .decode ∧ x.short = false ∧ x.join = none := by
  simp only [decodeEligible, Bool.and_eq_true, beq_iff_eq, Bool.not_eq_true', Option.isNone_iff_eq_none] at h
  obtain ⟨⟨⟨⟨⟨hst, -⟩, hshort⟩, -⟩, -⟩, hjoin⟩ := h
  exact ⟨hst, hshort, hjoin⟩

/-- The state in which the decision falls, where no context waits to join (06 R327). -/
def undecided (s : State) (counted : Bool) : State :=
  deadlockClear (noteEligible (boundaryJoins (boundaryBegun s counted) counted) ((liveCtxs s).map decodeEntry))

section Decoding
variable (hne : liveCtxs s ≠ [])
  (hall : ∀ y ∈ liveCtxs s, ctxOf s y.1 = y.2 ∧ decodeEligible y.2 = true ∧ y.2.parkPending = none ∧ y.2.park = none)
include hall

theorem awaiting_undecided : awaiting (undecided s counted) = awaiting (boundaryBegun s counted) := by
  have hjoins : ∀ e ∈ liveCtxs (boundaryBegun s counted), e.2.join = none := by
    rw [liveCtxs_congr boundaryBegun_ctxs]
    exact fun e he => (holds_of_decodeEligible (hall e he).2.1).2.2
  have hclear : ∀ u : State, awaiting (deadlockClear u) = awaiting u := fun _ => rfl
  rw [undecided, hclear, awaiting_noteEligible, (boundaryJoins_of_none hjoins).1]

include hne

/-- With every context decoding, and a step that may be decided, the boundary comes to its decision with them all (06 R327, R337). -/
theorem boundaryActions_of_decoding (hmay : mayDecide s = true) :
    boundaryActions s im counted = decideStep (undecided s counted) im ((liveCtxs s).map decodeEntry) := by
  have hdec : ∀ y ∈ liveCtxs s, y.2.st = .decode ∧ y.2.short = false ∧ y.2.join = none := fun y hy => holds_of_decodeEligible (hall y hy).2.1
  have hlive : liveCtxs (boundaryBegun s counted) = liveCtxs s := liveCtxs_congr boundaryBegun_ctxs
  have hadmitted : admitted (boundaryTaken s counted) none ≠ [] := by
    rw [admitted, List.filter_eq_self.mpr fun y hy => by simp [(hdec y hy).1]]
    exact hne
  have hleft : boundaryLeft s counted = boundaryBegun s counted := boundaryLeft_of_stays (fun y hy => by
    obtain ⟨hctx, -, hpend, hpark⟩ := hall y hy
    rw [hctx]
    exact ⟨by rw [(hdec y hy).1]; nofun, hpend, hpark⟩) (takeGap_of_admitted hadmitted)
  have hspares : sparesGiven (boundaryBegun s counted) = boundaryBegun s counted :=
    sparesGiven_of_none (hlive ▸ fun y hy => .inr (hdec y hy).2.1)
  have hjoined : liveCtxs (boundaryJoins (boundaryBegun s counted) counted) = liveCtxs s := by
    have hjoins := boundaryJoins_of_none (s := boundaryBegun s counted) (counted := counted) (hlive ▸ fun y hy => (hdec y hy).2.2)
    rw [liveCtxs_congr (congrArg Gener.ctxs hjoins.2), hlive]
  have helig : eligibleSet (boundaryJoins (boundaryBegun s counted) counted) = (liveCtxs s).map decodeEntry := by
    rw [eligibleSet_of_decoding (hjoined ▸ fun y hy => (hall y hy).2.1), hjoined]
  have hmay' : mayDecide (undecided s counted) = true := by
    rw [mayDecide_of_awaiting (awaiting_undecided hall), mayDecide_boundaryBegun, hmay]
  rw [boundaryActions_eq, hleft, hspares, boundaryEnd, helig, if_neg (by simpa using hne)]
  exact if_pos hmay'

/-- With every context decoding, the step that is agreed is a full one of them all when none would be late, and otherwise an exit step of those
that would be (06 R330, R339, R342). -/
theorem boundary_agrees (himage : s.gener.image = some im) (halone : Alone s) (hstate : azlState s ≠ 5) (hmay : mayDecide s = true) :
    let all := (liveCtxs s).map decodeEntry
    let pf := planOfBatch s false (batchSF s im all) + s.gener.gap
    let px := pxOf s (tilePages im) ((liveCtxs s).map fun y => y.2.limit) % 2 ^ 32
    let t := boundaryActions s im counted
    ∃ rec, t.sched.nextStep = some rec ∧ t.sched.nextLaunch = some rec.launch
      ∧ rec.step = lastCommit s + 1 ∧ rec.launch = launchAfter s 0 ∧ (rec.s, rec.f) = batchSF s im rec.batch
      ∧ rec.planDur = planOfBatch s rec.exitKind (rec.s, rec.f)
      ∧ ((∀ y ∈ liveCtxs s, y.2.accrued + pf ≤ y.2.deadline) → rec.exitKind = false ∧ rec.batch = all)
      ∧ ((∃ y ∈ liveCtxs s, y.2.deadline < y.2.accrued + pf) → rec.exitKind = true
        ∧ rec.batch.map (·.ctx) = ((liveCtxs s).filter fun y => lateBy pf y || lateBy (2 * px) y).map (·.1)) := by
  obtain ⟨hq, hpx, -, -, hsched⟩ : quiet (undecided s counted) = quiet (boundaryBegun s counted) ∧ _ := by
    simpa only [awaiting, Prod.mk.injEq] using awaiting_undecided (counted := counted) hall
  replace hq := hq.trans quiet_boundaryBegun
  replace hsched : (undecided s counted).sched = s.sched := hsched.trans (by rw [boundaryBegun, showPx_sched]; rfl)
  have hmax := (rdN_congr hpx).trans (pxMax_boundaryBegun himage hne fun y hy => (holds_of_decodeEligible (hall y hy).2.1).1)
  have hctx : ∀ y ∈ liveCtxs s, unnoted (ctxOf (undecided s counted) y.1) = unnoted y.2 := fun y hy => by
    rw [ctxOf_of_quiet hq, (hall y hy).1]
  obtain ⟨hnext, hlaunch⟩ := decideStep_of_alone (im := im) (b := (liveCtxs s).map decodeEntry) (halone.of_quiet hq)
    ((azlState_of_aside (asideRegs_of_quiet hq)).trans_ne hstate)
  obtain ⟨hstep, hat, hsf, hdur⟩ := decidedRec_of_quiet (im := im) (b := (liveCtxs s).map decodeEntry) hq hsched halone.1
  have hkind : decided (undecided s counted) im ((liveCtxs s).map decodeEntry)
      = decideKind (undecided s counted) ((liveCtxs s).map decodeEntry)
        (planOfBatch s false (batchSF s im ((liveCtxs s).map decodeEntry)) + s.gener.gap) := by rw [decided, fullPlan_of_quiet hq, fullPlan]
  rw [boundaryActions_of_decoding hne hall hmay]
  refine ⟨_, hnext, hlaunch, hstep, hat, hsf, hdur, fun htimely => ?_, fun hlate => ?_⟩
  · exact Prod.mk.inj (hkind.trans (decideKind_of_timely hctx htimely))
  · obtain ⟨hexit, hbatch⟩ := decideKind_of_late hctx hlate
    rw [← hkind] at hexit hbatch
    exact ⟨hexit, hbatch.trans (by rw [hmax])⟩

end Decoding

end Sys2Proof.Machine

/-!
STEP_BOUNDARY (06 R327): a switch that is due begins (07 R411), and O38 is put together from the boundary's parts.
-/
namespace Sys2Proof.Machine

variable {s : State} {im : Image} {counted : Bool}

/-! ### The switch (07 R411) -/

/-- The links of every port fall. -/
def linksDown (s : State) : State := each (List.range 8) (fun k s => setHs s k 0) s

theorem rdReg_linksDown {o : Nat} (ho : ∀ k < 8, o ≠ onPage Reg.portStatus k) : rdReg (linksDown s) o = rdReg s o :=
  each_keeps_of_mem (rdReg · o) (fun k hk _ => by
    rw [setHs, wrF, rdReg_wrReg, if_neg (ho k (List.mem_range.mp hk))]) s

theorem linksDown_sched : (linksDown s).sched = s.sched := by
  refine each_keeps State.sched _ (fun _ _ => ?_) _ _
  exact wrF_sched ..

/-- The firmware stops for the restart. -/
def restartBegun (s : State) : State :=
  putBoot (putAzl s { s.azl with restarting := true, reformed := false }) { s.boot with fwRunning := false }

theorem restartBegun_holds (s : State) : (restartBegun s).regs = s.regs ∧ (restartBegun s).boot.fwRunning = false
    ∧ (restartBegun s).azl.restarting = true ∧ (restartBegun s).sched = s.sched := ⟨rfl, rfl, rfl, rfl⟩

theorem switchNow_eq : switchNow s = wrB (restartBegun (linksDown (setAzl s 6))) Reg.mgtStatus 0 false := rfl

/-- A switch that begins enters state 6 with its firmware stopped, and keeps the schedule (07 R411). -/
theorem switchNow_holds (s : State) : azlState (switchNow s) = 6 ∧ (switchNow s).boot.fwRunning = false ∧ (switchNow s).azl.restarting = true
    ∧ rdB (switchNow s) Reg.mgtStatus 0 = false ∧ (switchNow s).sched = s.sched := by
  obtain ⟨hregs, hboot, hazl, hsched⟩ := restartBegun_holds (linksDown (setAzl s 6))
  have hdown : rdReg (linksDown (setAzl s 6)) Reg.azlState = rdReg (setAzl s 6) Reg.azlState := rdReg_linksDown (by decide)
  rw [switchNow_eq, wrB_boot, wrB_azl, wrB_sched]
  refine ⟨?_, hboot, hazl, rdB_wrB_same _ _ (by decide), hsched.trans (linksDown_sched.trans (wrF_sched ..))⟩
  rw [azlState, rdF_congr (((rdReg_wrB (by decide)).trans (rdReg_congr hregs _)).trans hdown), setAzl, rdF_wrF_same _ _ (by decide) (by decide)]
  rfl

/-! ### STEP_BOUNDARY -/

theorem exec_stepBoundary_of_switchDue (h : switchDue s = true) : exec .stepBoundary s = .next (switchNow s) := by
  show execStepBoundary s = _
  rw [execStepBoundary, if_pos h]

theorem exec_stepBoundary_of_open (h : switchDue s = false) (himage : s.gener.image = some im) (hopen : boundaryOpen s = true) :
    exec .stepBoundary s = .next (boundaryActions s im s.gener.atBoundary) := by
  show execStepBoundary s = _
  rw [execStepBoundary, h, himage, hopen]
  rfl

theorem nextStep_of_boundaryOpen (h : boundaryOpen s = true) : s.sched.nextStep = none := by
  simp only [boundaryOpen, Bool.and_eq_true, Option.isNone_iff_eq_none] at h
  obtain ⟨⟨⟨⟨-, hnext⟩, -⟩, -⟩, -⟩ := h
  exact hnext

/-- Settles O38: the boundary's leaves, its decision over contexts that all decode, its treatment of a join or of a short context that is alone,
and the switch, each by the lemma of its part. -/
theorem stepBoundaryRuns : Obligations.StepBoundaryRuns := by
  intro s im n x j
  refine ⟨fun hdue himage hopen => ?_, fun hdue => ⟨_, exec_stepBoundary_of_switchDue hdue, switchNow_holds s⟩⟩
  have hrun := exec_stepBoundary_of_open hdue himage hopen
  obtain ⟨htaken, hagreed, hclosed⟩ := boundaryActions_holds (im := im) (nextStep_of_boundaryOpen hopen) s.gener.atBoundary
  refine ⟨⟨_, hrun, htaken, hclosed, hagreed⟩, fun hgroup hstate hfloods hmay hne hall => ?_,
    fun hgroup hfloods hlive hctx hpend hpark _ => ⟨fun hst hjoin hunpark hswap hprio hgap hdl => ⟨fun htest => ?_, fun cause htest => ?_⟩,
      fun hst hjoin hshort => ⟨fun hfree => ?_, fun hfree hb => ?_⟩⟩⟩
  · obtain ⟨rec, hrec⟩ := boundary_agrees (counted := s.gener.atBoundary) hne hall himage ⟨hgroup, hfloods⟩ hstate hmay
    exact ⟨_, rec, hrun, hrec⟩
  · exact ⟨_, hrun, boundary_admits ⟨hlive, hctx⟩ hpend hpark ⟨hgroup, hfloods⟩ hst hjoin hunpark hswap hprio hgap hdl htest⟩
  · exact ⟨_, hrun, boundary_defers ⟨hlive, hctx⟩ hpend hpark ⟨hgroup, hfloods⟩ hst hjoin hunpark hswap hprio hgap hdl htest⟩
  · exact ⟨_, hrun, boundary_gives_spare ⟨hlive, hctx⟩ hpend hpark hst hshort ⟨hgroup, hfloods⟩ hjoin hfree⟩
  · exact ⟨_, hrun, boundary_blocks ⟨hlive, hctx⟩ hpend hpark hst hshort ⟨hgroup, hfloods⟩ hjoin hfree hb⟩

end Sys2Proof.Machine

/-!
SUPPORT. What sending a frame changes: the record of a port and its AZP.TX_FRAMES, and nothing else (07 R367 to R373, R394).
-/
namespace Sys2Proof.Machine

variable {s t u : State} {o k : Nat} {f : Frame}

/-- `t` is `s` after frames have left its ports or wait there: the records of the ports and their TX_FRAMES alone may differ. -/
structure Sent (s t : State) : Prop where
  rest : t = { s with regs := t.regs, azl := { s.azl with ports := t.azl.ports } }
  regs : ∀ o, (∀ k, o ≠ onPage Reg.portTxFrames k) → rdReg t o = rdReg s o

namespace Sent

theorem refl (s : State) : Sent s s := ⟨rfl, fun _ _ => rfl⟩

theorem trans (h : Sent s t) (h' : Sent t u) : Sent s u := by
  refine ⟨?_, fun o ho => (h'.regs o ho).trans (h.regs o ho)⟩
  rw [h'.rest, h.rest]

/-- A sequence of sends is a send. -/
theorem each {α : Type} {f : α → State → State} (h : ∀ a v, Sent v (f a v)) (xs : List α) (s : State) : Sent s (each xs f s) := by
  induction xs generalizing s with
  | nil => exact refl s
  | cons x xs ih => exact (h x s).trans (ih _)

theorem azl (h : Sent s t) : t.azl = { s.azl with ports := t.azl.ports } := congrArg State.azl h.rest
/-- What does not look at the ports of the group is kept. -/
theorem azlKeeps {β : Type} (h : Sent s t) (g : AzlState → β) (hg : ∀ a ps, g { a with ports := ps } = g a) : g t.azl = g s.azl := by
  rw [h.azl, hg]

theorem count (h : Sent s t) : t.count = s.count := (congrArg State.count h.rest :)
theorem sched (h : Sent s t) : t.sched = s.sched := (congrArg State.sched h.rest :)
theorem gener (h : Sent s t) : t.gener = s.gener := (congrArg State.gener h.rest :)
theorem hif (h : Sent s t) : t.hif = s.hif := (congrArg State.hif h.rest :)
theorem lock (h : Sent s t) : t.lock = s.lock := (congrArg State.lock h.rest :)
theorem boot (h : Sent s t) : t.boot = s.boot := (congrArg State.boot h.rest :)

/-- A register of the Azlink page is no port's TX_FRAMES. -/
theorem rdReg_azl (h : Sent s t) (ho : o < Reg.pageAzp) : rdReg t o = rdReg s o :=
  h.regs o fun k => by simp only [onPage, Reg.portTxFrames, Reg.pageAzp] at ho ⊢; omega

theorem azlState (h : Sent s t) : azlState t = azlState s := rdF_congr (h.rdReg_azl (by decide))
theorem groupSize (h : Sent s t) : groupSize t = groupSize s := rdF_congr (h.rdReg_azl (by decide))
theorem memberPos (h : Sent s t) : memberPos t = memberPos s := rdF_congr (h.rdReg_azl (by decide))
theorem entryPos (h : Sent s t) : entryPos t = entryPos s := rdF_congr (h.rdReg_azl (by decide))
theorem lastCommit (h : Sent s t) : lastCommit t = lastCommit s := by
  rw [Machine.lastCommit, Machine.lastCommit, rd64, rd64, rdN_congr (h.rdReg_azl (by decide)), rdN_congr (h.rdReg_azl (by decide))]
theorem isEntry (h : Sent s t) : isEntry t = isEntry s :=
  isEntry_congr (h.rdReg_azl (by decide)) (h.rdReg_azl (by decide)) (h.rdReg_azl (by decide))

end Sent

theorem sent_modPort (g : Port → Port) : Sent s (modPort s k g) := ⟨rfl, fun _ _ => rfl⟩

theorem sent_putOut : Sent s (putOut s k f) := by
  refine ⟨rfl, fun o ho => ?_⟩
  rw [putOut, rdReg_congr (modPort_regs ..), rdReg_cntReg (ho k)]

theorem sent_sendSeq : Sent s (sendSeq s k f) := by
  unfold sendSeq
  dsimp only
  split
  · exact .refl s
  · split
    · exact (sent_modPort _).trans sent_putOut
    · exact sent_modPort _

theorem sent_sendUp : Sent s (sendUp s f) := by
  unfold sendUp
  split
  · exact .refl s
  · exact sent_sendSeq

theorem sent_sendDown : Sent s (sendDown s f) := .each (fun _ _ => sent_sendSeq) _ _

theorem sent_flood (but : Option Nat) : Sent s (flood s but f) := .each (fun _ _ => sent_sendSeq) _ _

end Sys2Proof.Machine

/-!
STAGE_EPOCH, its end and SWITCH_EPOCH (07 R409 to R416, 14 R654).
-/
namespace Sys2Proof.Machine

variable {s s1 t : State} {c : Cmd} {ref : CmdRef} {bs : List Byte} {q : List (CmdRef × List Byte)} {o : Nat}

/-! ### The flash -/

/-- A cleared byte reads zero, and any other as before. -/
theorem memByte_memClear (m : Mem) (a n b : Nat) : memByte (memClear m a n) b = if a ≤ b ∧ b < a + n then 0 else memByte m b := by
  induction m with
  | nil => simp [memClear, memByte, dflt]
  | cons e m ih =>
    have hread : ∀ es : Mem, memByte (e :: es) b = if b = e.1 then e.2 else memByte es b := fun _ => rfl
    have hclear : memClear (e :: m) a n = if e.1 < a ∨ a + n ≤ e.1 then e :: memClear m a n else memClear m a n := by
      simp [memClear, List.filter_cons]
    rw [hclear]
    split
    · rw [hread, hread, ih]
      split
      · next h => rw [if_neg (by omega)]
      · rfl
    · rw [ih, hread]
      split
      · rfl
      · rw [if_neg (by omega)]

/-- Erased flash reads 0xFF in its range (14 R648). -/
theorem memByte_flashErase_of_in {m : Mem} {a n i : Nat} (hi : i < n) : ~~~ memByte (flashErase m a n) (a + i) = 0xFF#8 := by
  rw [flashErase, memByte_memClear, if_pos (by omega)]
  decide

theorem memByte_flashErase_of_out {m : Mem} {a n b : Nat} (h : b < a ∨ a + n ≤ b) : memByte (flashErase m a n) b = memByte m b := by
  rw [flashErase, memByte_memClear, if_neg (by omega)]

/-- An image programmed into an erased range reads back, with 0xFF behind it. -/
theorem memByte_flashStore_flashErase {m : Mem} {a n i : Nat} (hi : i < n) :
    ~~~ memByte (flashStore (flashErase m a n) a bs) (a + i) = bs.getD i 0xFF#8 := by
  by_cases hlen : i < bs.length
  · have h := memByte_memStore (m := flashErase m a n) (a := a) (i := i) (bs := bs.map (~~~ ·)) (by rwa [List.length_map])
    rw [flashStore, h, List.getElem_map, BitVec.not_not, List.getD_eq_getElem _ _ hlen]
  · rw [flashStore, memByte_memStore_other (by rw [List.length_map]; omega), memByte_flashErase_of_in hi,
      List.getD_eq_default _ _ (by omega)]

theorem memByte_flashStore_flashErase_of_out {m : Mem} {a n b : Nat} (hlen : bs.length ≤ n) (h : b < a ∨ a + n ≤ b) :
    memByte (flashStore (flashErase m a n) a bs) b = memByte m b := by
  rw [flashStore, memByte_memStore_other (by rw [List.length_map]; omega), memByte_flashErase_of_out h]

/-! ### Registers that no completion reaches -/

/-- A register at none of the page offsets that a completion writes in the pages of a ring and a queue (13 R638, R639, 17 R750, R751). -/
def Uncompleted (o : Nat) : Prop := ∀ x ∈ [0x14, 0x1C, 0x5C, 0x60], o % 0x1000 ≠ x

theorem uncompleted_iff : Uncompleted o ↔ o % 0x1000 ≠ 0x14 ∧ o % 0x1000 ≠ 0x1C ∧ o % 0x1000 ≠ 0x5C ∧ o % 0x1000 ≠ 0x60 := by
  simp [Uncompleted]

theorem Uncompleted.rdReg_complete1 (ho : Uncompleted o) (r : CmdRef) (status w6 w7 : Nat) :
    rdReg (complete1 s r status w6 w7) o = rdReg s o := by
  obtain ⟨h14, h1C, h5C, h60⟩ := uncompleted_iff.mp ho
  have hcount : rdReg (completionCounted s r status) o = rdReg s o := by
    rw [completionCounted, cntErr, rdReg_cntReg (by simp only [onPage, Reg.pageCmq]; omega),
      rdReg_cntReg (by simp only [onPage, Reg.cmqCompleted]; omega), rdReg_wrN (by simp only [onPage, Reg.cmqOutstanding]; omega),
      rdReg_congr (setRing_regs ..)]
  have hshow : ∀ (v : State) p, rdReg (showEvq v p) o = rdReg v o := fun v p => by
    rw [showEvq, rdReg_wrF (by simp only [onPage, Reg.evqStatus]; omega), rdReg_wrF (by simp only [onPage, Reg.evqStatus]; omega)]
  rw [complete1_eq]
  split
  · rw [freeSlot, hshow, rdReg_congr (setEvq_regs ..), hcount]
  · unfold pushRec
    dsimp only
    split
    · rw [rdReg_setEvt (by simp only [onPage, Reg.pageEvq]; omega), rdReg_cntReg (by simp only [onPage, Reg.evqLost]; omega),
        rdReg_congr (setEvq_regs ..), hcount]
    · rw [hshow, rdReg_congr (setEvq_regs ..), hcount]

theorem Uncompleted.rdReg_complete (ho : Uncompleted o) (r : CmdRef) (status w6 w7 : Nat) :
    rdReg (complete s r status w6 w7) o = rdReg s o := by
  unfold complete
  dsimp only
  split
  · rw [ho.rdReg_complete1, rdReg_congr (setRing_regs ..), ho.rdReg_complete1]
  · exact ho.rdReg_complete1 ..

/-! ### STAGE_EPOCH -/

/-- A command at its turn leaves all but the rings as it was (13 R603). -/
theorem rest_of_turn {r op : Nat} (hturn : Turn s r op s1 c) : s1 = putHif s s1.hif := by
  have hpop := hturn.1
  unfold popDesc at hpop
  dsimp only at hpop
  split at hpop
  · cases hpop
  · split at hpop
    · cases hpop
    · obtain ⟨rfl, -⟩ := Prod.mk.inj (Option.some.inj hpop)
      rfl

theorem boot_of_turn {r op : Nat} (hturn : Turn s r op s1 c) : s1.boot = s.boot := (congrArg State.boot (rest_of_turn hturn) :)

/-- STAGE_EPOCH of a sound image, or with LENGTH 0, waits behind the images under way (14 R654, log 57). -/
theorem doStageEpoch_of_pass (hlevel : 4 ≤ svcLevel s) (hidle : s.azl.epochTo = none)
    (hsound : c.len = 0 ∨ (512 ≤ c.len ∧ c.len = 512 + fwLength (memRange s.host c.addr c.len) ∧ fwStatus s (memRange s.host c.addr c.len) = 1)) :
    doStageEpoch s c = putBoot s { s.boot with staging := s.boot.staging ++ [(c.ref, memRange s.host c.addr c.len)] } := by
  have himage : (c.len != 0 && (decide (c.len < 512) || c.len != 512 + fwLength (stagedBytes s c.addr c.len)
      || fwStatus s (stagedBytes s c.addr c.len) != 1)) = false := by
    rcases hsound with h | ⟨hmin, hlen, hok⟩
    · rw [h]
      rfl
    · rw [stagedBytes, hok, ← hlen]
      simpa using fun _ => hmin
  rw [doStageEpoch, checked_of_pass]
  · rfl
  · simp only [List.forall_mem_cons]
    exact ⟨decide_eq_false (by omega), by rw [hidle]; rfl, himage, nofun⟩

/-! ### STAGE_DONE -/

theorem exec_stageDone_of_none {ok : Bool} (h : s.boot.staging = (ref, []) :: q) :
    exec (.stageDone ok) s = .next (stageEnds (putBoot s { s.boot with staging := q }) ref true 0x24) := by
  show Host.Outcome.next _ = _
  rw [h]

/-- The state in which the first image under way is programmed into the erased slot. -/
def slotProgrammed (s : State) (bs : List Byte) (q : List (CmdRef × List Byte)) : State :=
  let base := slotBase (inactiveSlot s)
  putBoot s { s.boot with staging := q, flash := flashStore (flashErase s.boot.flash base 0x200000) base bs }

/-- The state in which the slot stays erased. -/
def slotErased (s : State) (q : List (CmdRef × List Byte)) : State :=
  putBoot s { s.boot with staging := q, flash := flashErase s.boot.flash (slotBase (inactiveSlot s)) 0x200000 }

theorem slotProgrammed_flash : (slotProgrammed s bs q).boot.flash
    = flashStore (flashErase s.boot.flash (slotBase (inactiveSlot s)) 0x200000) (slotBase (inactiveSlot s)) bs := rfl

theorem slotErased_flash : (slotErased s q).boot.flash = flashErase s.boot.flash (slotBase (inactiveSlot s)) 0x200000 := rfl

theorem exec_stageDone_of_image {ok : Bool} (h : s.boot.staging = (ref, bs) :: q) (hbs : bs ≠ []) : exec (.stageDone ok) s
    = .next (if ok = true ∧ slotStatus (slotProgrammed s bs q) (inactiveSlot s) = 1 then stageEnds (slotProgrammed s bs q) ref true 0x25
      else stageEnds (slotErased s q) ref false 0x25) := by
  obtain ⟨b, bs, rfl⟩ := List.exists_cons_of_ne_nil hbs
  show Host.Outcome.next _ = _
  rw [h]
  refine congrArg Host.Outcome.next ?_
  show stageEnds (if (ok && slotStatus (slotProgrammed s (b :: bs) q) (inactiveSlot s) == 1) = true then slotProgrammed s (b :: bs) q
    else slotErased s q) ref (ok && slotStatus (slotProgrammed s (b :: bs) q) (inactiveSlot s) == 1) 0x25 = _
  by_cases hok : ok = true ∧ slotStatus (slotProgrammed s (b :: bs) q) (inactiveSlot s) = 1
  · rw [if_pos hok, hok.1, hok.2]
    rfl
  · have hno : (ok && slotStatus (slotProgrammed s (b :: bs) q) (inactiveSlot s) == 1) = false := by simpa using hok
    rw [if_neg hok, hno]
    rfl

theorem noteSlot_boot (slot st : Nat) : (noteSlot s slot st).boot = s.boot := by unfold noteSlot; split <;> exact wrF_boot ..

/-- The image in the slot is staged: the epoch is noted, and the entry learns of it (07 R409). -/
theorem stagedOk_holds (epoch : Nat) : (stagedOk s epoch).boot = s.boot ∧ rdF (stagedOk s epoch) Reg.azlEpoch 31 16 = epoch % 2 ^ 16 := by
  have hsent : Sent (noteStaged (wrF s Reg.azlEpoch 31 16 epoch) (memberPos s) epoch) (stagedOk s epoch) := by
    unfold stagedOk
    dsimp only
    split
    · exact sent_sendUp
    · exact .refl _
  refine ⟨hsent.boot, ?_⟩
  rw [rdF_congr (hsent.rdReg_azl (by decide)), noteStaged, rdF_congr (rdReg_congr (putAzl_regs ..) _),
    rdF_wrF_same _ _ (by decide) (by decide)]

/-- A slot that verifies completes its command with OK and stages its epoch (14 R654, 07 R409). -/
theorem stageEnds_of_valid {code : Nat} (h : slotStatus s (inactiveSlot s) = 1) : (stageEnds s ref true code).boot = s.boot
    ∧ Completed (stageEnds s ref true code) ref 0 0
    ∧ rdF (stageEnds s ref true code) Reg.azlEpoch 31 16 = fwEpoch (slotBytes s (inactiveSlot s)) % 2 ^ 16 := by
  have heq : stageEnds s ref true code
      = complete (stagedOk (noteSlot s (inactiveSlot s) 1) (fwEpoch (slotBytes s (inactiveSlot s)))) ref 0 0 0 := by simp [stageEnds, h]
  obtain ⟨hboot, hepoch⟩ := stagedOk_holds (s := noteSlot s (inactiveSlot s) 1) (fwEpoch (slotBytes s (inactiveSlot s)))
  rw [heq, complete_boot, hboot, noteSlot_boot]
  exact ⟨rfl, completed_complete .., by rw [rdF_congr (Uncompleted.rdReg_complete (by simp [Uncompleted, Reg.azlEpoch]) ..), hepoch]⟩

/-- One that does not verify, or was not programmed, completes it with a code and stages nothing (14 R654). -/
theorem stageEnds_of_invalid {ok : Bool} {code : Nat} (h : ok = false ∨ slotStatus s (inactiveSlot s) ≠ 1) :
    (stageEnds s ref ok code).boot = s.boot ∧ Completed (stageEnds s ref ok code) ref code 0
    ∧ rdF (stageEnds s ref ok code) Reg.azlEpoch 31 16 = 0 := by
  have hno : (ok && slotStatus s (inactiveSlot s) == 1) = false := by simpa [or_iff_not_imp_left] using h
  simp only [stageEnds, hno, Bool.false_eq_true, if_false]
  refine ⟨by rw [complete_boot, wrF_boot, noteSlot_boot], completed_complete .., ?_⟩
  rw [rdF_congr (Uncompleted.rdReg_complete (by simp [Uncompleted, Reg.azlEpoch]) ..), rdF_wrF_same _ _ (by decide) (by decide),
    Nat.zero_mod]

/-! ### SWITCH_EPOCH -/

/-- The epoch to come and its step are set (07 R411). -/
def switchSet (s : State) (e : Nat) : State := wr64 (putAzl s { s.azl with epochTo := some e }) Reg.azlSwitchLo (switchStep s)

/-- A group's members are told. -/
def switchTold (s : State) (e : Nat) : State :=
  let s1 := switchSet s e
  if inGroup s1 then sendDown s1 (mkFrame s1 0x1A e (lo32 (switchStep s)) (hi32 (switchStep s)) 0 []) else s1

theorem sent_switchTold (s : State) (e : Nat) : Sent (switchSet s e) (switchTold s e) := by
  unfold switchTold
  dsimp only
  split
  · exact sent_sendDown
  · exact .refl _

theorem switchTold_holds (s : State) (e : Nat) : (switchTold s e).azl.epochTo = some e ∧ (switchTold s e).boot = s.boot
    ∧ rd64 (switchTold s e) Reg.azlSwitchLo = switchStep s % 2 ^ 64 := by
  have h := sent_switchTold s e
  refine ⟨by rw [h.azl, switchSet, wr64_azl, putAzl_azl], by rw [h.boot, switchSet, wr64_boot, putAzl_boot], ?_⟩
  rw [rd64, rdN_congr (h.rdReg_azl (by decide)), rdN_congr (h.rdReg_azl (by decide)), ← rd64, switchSet, rd64_wr64_same]

/-- SWITCH_EPOCH sets the epoch and its step, tells the members and completes (07 R410, R411). -/
theorem doSwitchEpoch_of_pass (hentry : notEntry s = false) (hstaged : allStaged s (nthN c.w 6 % 2 ^ 16) = true)
    (hother : nthN c.w 6 % 2 ^ 16 ≠ runEpoch s) (hidle : s.azl.epochTo = none) :
    doSwitchEpoch s c = complete (switchTold s (nthN c.w 6 % 2 ^ 16)) c.ref 0 0 0 := by
  have hfld : fld (nthN c.w 6) 15 0 = nthN c.w 6 % 2 ^ 16 := rfl
  rw [doSwitchEpoch, checked_of_pass, hfld]
  · rfl
  · simp only [List.forall_mem_cons, hfld]
    exact ⟨by rw [hstaged]; rfl, by simpa using hother, by rw [hidle]; rfl, hentry, nofun⟩

/-- Settles O36: each command passes its checks; a staged image is programmed and judged as it reads back; a switch is set before its
completion. -/
theorem epochsAreStagedAndSwitched : Obligations.EpochsAreStagedAndSwitched := by
  intro s s1 c r ref bs q ok
  refine ⟨fun hturn hok hlevel hidle hsound => ?_, fun hstag hbs hlen => ⟨fun hdone hst => ?_, fun hfail => ?_⟩,
    fun hstag => ⟨fun hst => ?_, fun hst => ?_⟩, fun hturn hok hentry hstaged hother hidle => ?_⟩
  · have hhost : s1.host = s.host := (congrArg State.host (rest_of_turn hturn) :)
    rw [← boot_of_turn hturn]
    exact ⟨_, runCmd_of_turn hturn hok, by rw [doStageEpoch_of_pass hlevel hidle hsound]; exact ⟨rfl, rfl⟩⟩
  · obtain ⟨hboot, hcompl, hepoch⟩ := stageEnds_of_valid (s := slotProgrammed s bs q) (ref := ref) (code := 0x25) hst
    refine ⟨_, (exec_stageDone_of_image hstag hbs).trans (by rw [if_pos ⟨hdone, hst⟩]), ?_⟩
    dsimp only
    rw [hboot, slotProgrammed_flash]
    exact ⟨rfl, hcompl, hepoch, fun a ha => memByte_flashStore_flashErase_of_out hlen ha, fun i hi => memByte_flashStore_flashErase hi⟩
  · have hno : ¬ (ok = true ∧ slotStatus (slotProgrammed s bs q) (inactiveSlot s) = 1) := fun ⟨hdone, hst⟩ =>
      hfail.elim (fun h => by rw [hdone] at h; cases h) (· hst)
    obtain ⟨hboot, hcompl, hepoch⟩ := stageEnds_of_invalid (s := slotErased s q) (ref := ref) (ok := false) (code := 0x25) (.inl rfl)
    refine ⟨_, (exec_stageDone_of_image hstag hbs).trans (by rw [if_neg hno]), ?_⟩
    dsimp only
    rw [hboot, slotErased_flash]
    exact ⟨rfl, hcompl, hepoch, fun a ha => memByte_flashErase_of_out ha, fun i hi => memByte_flashErase_of_in hi⟩
  · obtain ⟨hboot, hcompl, hepoch⟩ := stageEnds_of_valid (s := putBoot s { s.boot with staging := q }) (ref := ref) (code := 0x24) hst
    exact ⟨_, exec_stageDone_of_none hstag, by rw [hboot]; rfl, by rw [hboot]; rfl, hcompl, hepoch⟩
  · obtain ⟨hboot, hcompl, hepoch⟩ := stageEnds_of_invalid (s := putBoot s { s.boot with staging := q }) (ref := ref) (ok := true) (code := 0x24)
      (.inr hst)
    exact ⟨_, exec_stageDone_of_none hstag, by rw [hboot]; rfl, by rw [hboot]; rfl, hcompl, hepoch⟩
  · obtain ⟨hto, hboot, hstep⟩ := switchTold_holds s1 (nthN c.w 6 % 2 ^ 16)
    refine ⟨doSwitchEpoch s1 c, runCmd_of_turn hturn (hifCheck_true hok), ?_⟩
    dsimp only
    rw [doSwitchEpoch_of_pass hentry hstaged hother hidle, complete_azl, complete_boot, hboot]
    refine ⟨hto, completed_complete .., boot_of_turn hturn, ?_⟩
    rw [← hstep, rd64, rdN_congr (Uncompleted.rdReg_complete (by simp [Uncompleted, Reg.azlSwitchLo]) ..),
      rdN_congr (Uncompleted.rdReg_complete (by simp [Uncompleted, Reg.azlSwitchLo]) ..), rd64]

end Sys2Proof.Machine

/-!
What a port does with a frame before its kind counts: what it notes, the acknowledgements it takes, and the order it keeps (07 R367 to R380).
-/
namespace Sys2Proof.Machine

variable {s s1 s2 t : State} {k kind : Nat} {f : Frame} {act : State → State}

/-! ### Frames with a sequence number -/

theorem rxSeqFrame_of_absent (h : portUp s k = false ∨ f.kind ≠ kind) : rxSeqFrame s k kind f act = .next s := by
  have hno : (portUp s k && f.kind == kind) = false := by simpa [or_iff_not_imp_left] using h
  rw [rxSeqFrame, hno]
  rfl

theorem rxSeqFrame_of_unaccepted (hfor : frameFor s k f = true) (h : hsOf s k ≠ 2 ∨ f.version ≠ 1) : rxSeqFrame s k kind f act = .next s := by
  have hno : (hsOf s k == 2 && f.version == 1) = false := by simpa [or_iff_not_imp_left] using h
  rw [rxSeqFrame, hfor, hno]
  simp

theorem rxSeqFrame_of_foreign (hup : portUp s k = true) (hk : f.kind = kind) (h : frameFor s k f = false) :
    rxSeqFrame s k kind f act = .next (discard s k) := by
  rw [rxSeqFrame, hup, hk, h]
  simp

/-- A frame that a port's accepted peer sent, as its sequence number lies (07 R372). -/
theorem rxSeqFrame_of_peer (hup : portUp s k = true) (hfor : frameFor s k f = true) (hhs : hsOf s k = 2) (hk : f.kind = kind)
    (hv : f.version = 1) (hs1 : takeAck (noteRx s k f) k f = s1) : rxSeqFrame s k kind f act = .next
      (if f.seq = ((portOf s1 k).rxSeq + 1) % 2 ^ 16 then
        let s2 := modPort s1 k fun p =>
          { p with rxSeq := ((portOf s1 k).rxSeq + 1) % 2 ^ 16, ackAt := some (p.ackAt.getD (s.count + 1250)) }
        if kindAllowed s k kind then act s2 else s2
      else if seqAfter f.seq (((portOf s1 k).rxSeq + 1) % 2 ^ 16) then sendNak s1 k
      else modPort s1 k fun p => { p with ackAt := some (p.ackAt.getD (s.count + 1250)) }) := by
  subst hs1
  rw [rxSeqFrame, hup, hfor, hhs, hk, hv]
  simp only [beq_self_eq_true, Bool.and_self, Bool.not_true, Bool.false_eq_true, if_false]

/-- An accepted frame is acted on (07 R372, R380). -/
theorem rxSeqFrame_of_accepted (h : Accepted s k kind f s2) : rxSeqFrame s k kind f act = .next (act s2) := by
  obtain ⟨hup, hfor, hhs, hk, hv, hseq, hs2, hkind⟩ := h
  rw [rxSeqFrame_of_peer hup hfor hhs hk hv rfl, if_pos hseq, hs2, ← hseq, hkind]
  rfl

/-- Each frame of the table is received under its kind (07 R368). -/
theorem exec_of_seqTable {p : (Fin 8 → Frame → Instr) × Nat} (hp : p ∈ seqTable) (k : Fin 8) (f : Frame) :
    (f.kind = p.2 → f.kind ≠ 1) ∧ ∃ act, ∀ s, exec (p.1 k f) s = rxSeqFrame s k.val p.2 f act := by
  simp only [seqTable, List.mem_cons, List.not_mem_nil, or_false] at hp
  rcases hp with rfl | rfl | rfl | rfl | rfl | rfl | rfl | rfl | rfl | rfl | rfl | rfl | rfl | rfl | rfl
  · exact ⟨fun h => h ▸ by decide, _, fun s => Eq.refl (execPartialSum k f s)⟩
  · exact ⟨fun h => h ▸ by decide, _, fun s => Eq.refl (execLedger k f s)⟩
  · exact ⟨fun h => h ▸ by decide, _, fun s => Eq.refl (execVerdict k f s)⟩
  · exact ⟨fun h => h ▸ by decide, _, fun s => Eq.refl (execLaunch k f s)⟩
  · exact ⟨fun h => h ▸ by decide, _, fun s => Eq.refl (execCommitted k f s)⟩
  · exact ⟨fun h => h ▸ by decide, _, fun s => Eq.refl (execHold k f s)⟩
  · exact ⟨fun h => h ▸ by decide, _, fun s => Eq.refl (execLoss k f s)⟩
  · exact ⟨fun h => h ▸ by decide, _, fun s => Eq.refl (execForm k f s)⟩
  · exact ⟨fun h => h ▸ by decide, _, fun s => Eq.refl (execFormed k f s)⟩
  · exact ⟨fun h => h ▸ by decide, _, fun s => Eq.refl (execStaged k f s)⟩
  · exact ⟨fun h => h ▸ by decide, _, fun s => Eq.refl (execSwitch k f s)⟩
  · exact ⟨fun h => h ▸ by decide, _, fun s => Eq.refl (execRejoin k f s)⟩
  · exact ⟨fun h => h ▸ by decide, _, fun s => Eq.refl (execJoin k f s)⟩
  · exact ⟨fun h => h ▸ by decide, _, fun s => Eq.refl (execTwin k f s)⟩
  · exact ⟨fun h => h ▸ by decide, _, fun s => Eq.refl (execLinkLost k f s)⟩

/-! ### Acknowledgements -/

/-- The sequence numbers of the frames that a port keeps (07 R373). -/
def keptSeqs (s : State) (k : Nat) : List Nat := (portOf s k).replay.map (·.frame.seq)

theorem keptSeqs_modPort (g : Port → Port) (h : ∀ p, (g p).replay.map (·.frame.seq) = p.replay.map (·.frame.seq)) :
    keptSeqs (modPort s k g) k = keptSeqs s k := by
  unfold keptSeqs
  rw [portOf_modPort]
  split
  · exact h _
  · rfl

theorem keptSeqs_putOut : keptSeqs (putOut s k f) k = keptSeqs s k := keptSeqs_modPort _ fun _ => rfl

theorem keptSeqs_putKept (x : TxFrame) : keptSeqs (putKept s k x) k = keptSeqs s k := by
  refine keptSeqs_modPort _ fun p => ?_
  rw [List.map_map]
  refine List.map_congr_left fun y _ => ?_
  dsimp only [Function.comp_apply]
  split
  · next h => exact h.symm
  · rfl

/-- Frames sent for the first time keep their places (07 R373). -/
theorem keptSeqs_sendWaiting : keptSeqs (sendWaiting s k) k = keptSeqs s k :=
  each_keeps (keptSeqs · k) _ (fun _ _ => keptSeqs_putOut.trans (keptSeqs_putKept _)) _ _

theorem replay_noteRx : (portOf (noteRx s k f) k).replay = (portOf s k).replay := by
  rw [noteRx, portOf_modPort]
  split <;> rfl

theorem takeAck_of_none (h : f.ackValid = false) : takeAck s k f = s := by rw [takeAck, h]; rfl

/-- An acknowledgement drops the frames it acknowledges and keeps the others in order (07 R373). -/
theorem keptSeqs_takeAck (hack : f.ackValid = true) (hnak : f.nak = false) :
    keptSeqs (takeAck s k f) k = ((portOf s k).replay.filter fun x => seqAfter x.frame.seq f.ack).map (·.frame.seq) := by
  simp only [takeAck, hack, hnak, Bool.not_true, Bool.false_eq_true, if_false]
  rw [keptSeqs_sendWaiting, keptSeqs, portOf_modPort]
  split
  · rfl
  · next h =>
    have hempty : portOf s k = {} := by
      rw [portOf, nth, List.getElem?_eq_none (by simpa using h)]
      rfl
    rw [hempty]
    rfl

/-! ### KEEPALIVE and ACK -/

theorem rxPlain_of_taken (hup : portUp s k = true) (hk : f.kind = kind) (hfor : frameFor s k f = true) (hv : f.version = 1 ∨ kind = 1) :
    rxPlain s k kind f act = .next (act (takeAck (noteRx s k f) k f)) := by
  have hver : (f.version == 1 || kind == 1) = true := by simpa using hv
  rw [rxPlain, hup, hk, hfor, hver]
  simp

theorem countsPort_noteRx : CountsPort s (noteRx s k f) Reg.portRxFrames k := by
  rw [CountsPort, noteRx, rdN_congr (rdReg_congr (modPort_regs ..) _), rdN_cntReg_same,
    rdN_congr (rdReg_cntReg (by simp only [onPage, Reg.portRxFrames, Reg.portFecCorr]; omega))]

theorem countsPort_putOut : CountsPort s (putOut s k f) Reg.portTxFrames k := by
  rw [CountsPort, putOut, rdN_congr (rdReg_congr (modPort_regs ..) _), rdN_cntReg_same]

theorem noteRx_sched : (noteRx s k f).sched = s.sched := by rw [noteRx, modPort_sched, cntReg_sched, cntReg_sched]

/-- Settles O39: a frame of each kind takes the way of its port, its address and its sequence number; KEEPALIVE and ACK have their
acknowledgement alone. -/
theorem linkRetryRules : Obligations.LinkRetryRules := by
  intro s k f s1 want nak
  refine ⟨fun p hp => ?_, fun hup hfor hv p hp hk => ?_⟩
  · obtain ⟨hhello, act, hexec⟩ := exec_of_seqTable hp k f
    refine ⟨fun h => ?_, fun hup hk hother => ?_, fun hup hfor hhs hk hv hseq => ⟨fun hgap => ⟨?_, countsPort_putOut⟩, fun hold => ?_⟩,
      fun hup hfor hhs hk hv hseq hno => ?_⟩
    · rw [hexec]
      rcases h with h | h | ⟨hfor, h⟩
      · exact rxSeqFrame_of_absent (.inl h)
      · exact rxSeqFrame_of_absent (.inr h)
      · exact rxSeqFrame_of_unaccepted hfor h
    · have hforeign : frameFor s k.val f = false := by
        rw [frameFor, typeOk, dstOk, if_neg (hhello hk)]
        simpa [or_iff_not_imp_left] using hother
      exact ⟨_, (hexec s).trans (rxSeqFrame_of_foreign hup hk hforeign), rdN_cntReg_same _, cntReg_azl .., cntReg_sched .., cntReg_gener ..⟩
    · rw [hexec, rxSeqFrame_of_peer hup hfor hhs hk hv rfl, if_neg hseq, if_pos hgap]
      rfl
    · refine ⟨_, (hexec s).trans (rxSeqFrame_of_peer hup hfor hhs hk hv rfl), ?_⟩
      rw [if_neg hseq, if_neg (by rw [hold]; decide)]
      refine ⟨modPort_regs .., modPort_sched .., modPort_gener .., ?_, fun hlt => ?_⟩
      · rw [portOf_modPort]
        split <;> rfl
      · rw [portOf_modPort, if_pos ⟨rfl, hlt⟩]
    · refine ⟨_, (hexec s).trans (rxSeqFrame_of_peer hup hfor hhs hk hv rfl), ?_⟩
      rw [if_pos hseq, hno]
      exact ⟨modPort_regs .., modPort_sched .., modPort_gener ..⟩
  · have hexec : exec (p.1 k f) s = .next (takeAck (noteRx s k.val f) k.val f) := by
      simp only [List.mem_cons, List.not_mem_nil, or_false] at hp
      rcases hp with rfl | rfl
      · exact rxPlain_of_taken (act := id) hup hk hfor (.inl hv)
      · exact rxPlain_of_taken (act := id) hup hk hfor (.inl hv)
    refine ⟨_, hexec, fun hack => ?_, fun hack hnak => ?_⟩
    · rw [takeAck_of_none hack]
      exact ⟨countsPort_noteRx, noteRx_sched⟩
    · rw [← replay_noteRx (s := s) (k := k.val) (f := f)]
      exact keptSeqs_takeAck hack hnak

end Sys2Proof.Machine

/-!
SUPPORT. What the declaration of a loss leaves in the registers of the ports (07 R375, R405, R415), and a field or bit of a register after the
write of another.
-/
namespace Sys2Proof.Machine

variable {s : State} {o off hi lo hi' lo' n m k : Nat}

/-! ### Fields of registers -/

theorem rfld_putFld_other (w : Word) (v : Nat) (hi32 : hi < 32) (hle : lo ≤ hi) (hlo : lo' ≤ hi') (h : hi' < lo ∨ hi < lo') :
    rfld (putFld w hi lo v) hi' lo' = rfld w hi' lo' := by
  refine Nat.eq_of_testBit_eq fun i => ?_
  have hbit := getLsbD_putFld w v (lo' + i) hi32 hle
  rw [BitVec.getLsbD, BitVec.getLsbD] at hbit
  rw [rfld, rfld, fld, fld, Nat.testBit_mod_two_pow, Nat.testBit_mod_two_pow, Nat.testBit_shiftRight, Nat.testBit_shiftRight, hbit]
  by_cases hi : i < hi' - lo' + 1
  · rw [if_neg (by omega)]
  · simp [hi]

theorem rdF_wrF_other (s : State) (v : Nat) (hi32 : hi < 32) (hle : lo ≤ hi) (hlo : lo' ≤ hi') (h : hi' < lo ∨ hi < lo') :
    rdF (wrF s off hi lo v) off hi' lo' = rdF s off hi' lo' := by
  rw [rdF, wrF, rdReg_wrReg, if_pos rfl, rfld_putFld_other _ _ hi32 hle hlo h, rdF]

theorem rdF_wrB_other (s : State) (b : Bool) (hn : n < 32) (hlo : lo' ≤ hi') (h : hi' < n ∨ n < lo') :
    rdF (wrB s off n b) off hi' lo' = rdF s off hi' lo' := by
  rw [rdF, wrB, rdReg_wrReg, if_pos rfl, putBit, rfld_putFld_other _ _ hn le_rfl hlo h, rdF]

theorem rdB_wrB_other (s : State) (b : Bool) (hn : n < 32) (h : m ≠ n) : rdB (wrB s off n b) off m = rdB s off m := by
  rw [rdB, wrB, rdReg_wrReg, if_pos rfl, putBit, rbit_putFld_other _ _ hn le_rfl (by omega), rdB]

/-! ### Registers of the ports -/

/-- A register of the pages of the ports that counts no frame sent. -/
def PortReg (o : Nat) : Prop := Reg.pageAzp ≤ o ∧ ∀ k, o ≠ onPage Reg.portTxFrames k

theorem portReg_status : PortReg (onPage Reg.portStatus k) :=
  ⟨by simp only [onPage, Reg.portStatus, Reg.pageAzp]; omega, fun _ => by simp only [onPage, Reg.portStatus, Reg.portTxFrames]; omega⟩

namespace PortReg

variable (ho : PortReg o)
include ho

theorem high : 0x20000 ≤ o := le_trans (by decide) ho.1

theorem rdReg_of_sent {t : State} (h : Sent s t) : rdReg t o = rdReg s o := h.regs o ho.2

theorem ne {a : Nat} (h : a < Reg.pageAzp) : o ≠ a := fun he => absurd ho.1 (by rw [he]; exact Nat.not_le.mpr h)

theorem rdReg_raiseEv {page bits type inst code w1 : Nat} {d : List Nat} (hp : page + 0x14 < Reg.pageAzp) :
    rdReg (raiseEv s page bits .block type inst code w1 d) o = rdReg s o :=
  rdReg_raiseEv_block ho.high (ho.ne hp)

theorem rdReg_twinLost : rdReg (twinLost s k) o = rdReg s o := by
  rw [twinLost, lockHalt, rdReg_fireHalt ho.high, rdReg_wr64 (ho.ne (by decide)) (ho.ne (by decide)), rdReg_wrB (ho.ne (by decide)),
    ho.rdReg_raiseEv (by decide), rdReg_wrB (ho.ne (by decide))]

theorem rdReg_reroute (w : LinkWait) : rdReg (reroute s w) o = rdReg s o := by
  rw [reroute, azlEv, ho.rdReg_raiseEv (by decide)]
  split
  · exact rdReg_congr (by simp) o
  · exact rdReg_congr (by simp) o

end PortReg

theorem dropRunning_regs : (dropRunning s).regs = s.regs := by unfold dropRunning; split <;> simp

theorem noteLoss_regs (a b : Nat) : (noteLoss s a b).regs = s.regs := by unfold noteLoss; split <;> simp

theorem PortReg.rdReg_enterWait (ho : PortReg o) (pos phase port : Nat) (mine known : Bool) :
    rdReg (enterWait s pos phase port mine known) o = rdReg s o := by
  rw [enterWait, azlEv, ho.rdReg_raiseEv (by decide), setAzl, rdReg_wrF (ho.ne (by decide)), rdReg_congr (putAzl_regs ..),
    rdReg_wrN (ho.ne (by decide)), rdReg_congr dropRunning_regs, rdReg_stopExec (ho.ne (by decide)) (ho.ne (by decide)) (ho.ne (by decide))]

theorem PortReg.rdReg_partnerLoss (ho : PortReg o) : rdReg (partnerLoss s k) o = rdReg s o := by
  unfold partnerLoss
  dsimp only
  split
  · rw [ho.rdReg_of_sent (sent_flood _), rdReg_congr (noteLoss_regs ..)]
  · rw [ho.rdReg_enterWait, ho.rdReg_of_sent (sent_flood _), rdReg_congr (noteLoss_regs ..)]

/-- A port that declares loss has no accepted peer and shows the loss (07 R375, R417). -/
theorem rdReg_declareLoss_status (h : rdB s (onPage Reg.portStatus k) 19 = false) : rdReg (declareLoss s k) (onPage Reg.portStatus k)
    = rdReg (wrB (setHs s k 0) (onPage Reg.portStatus k) 19 true) (onPage Reg.portStatus k) := by
  have ho : PortReg (onPage Reg.portStatus k) := portReg_status
  have hevt : ∀ t : State, rdReg (setEvt t (portPage k) 4) (onPage Reg.portStatus k) = rdReg t (onPage Reg.portStatus k) := fun t =>
    rdReg_setEvt (by simp only [portPage, onPage, Reg.portStatus, Reg.pageAzp]; omega)
  have hazl : ∀ (t : State) a, rdReg (putAzl t a) (onPage Reg.portStatus k) = rdReg t (onPage Reg.portStatus k) := fun t a =>
    rdReg_congr (putAzl_regs ..) _
  have hport : ∀ (t : State) g, rdReg (modPort t k g) (onPage Reg.portStatus k) = rdReg t (onPage Reg.portStatus k) := fun t g =>
    rdReg_congr (modPort_regs ..) _
  unfold declareLoss
  rw [h]
  dsimp only
  rw [if_neg Bool.false_ne_true]
  split
  · rw [ho.rdReg_twinLost, hport, hevt]
  · split
    · rw [hport, hevt]
    · split
      · split
        · rw [ho.rdReg_reroute, ho.rdReg_of_sent (sent_flood _), hazl, hport, hevt]
        · rw [hazl, ho.rdReg_of_sent (sent_flood _), hazl, hport, hevt]
      · rw [ho.rdReg_partnerLoss, hport, hevt]

end Sys2Proof.Machine

/-!
The timers of a link, its loss, and the stop of a group (07 R372 to R379, R405, R408, R415, R417).
-/
namespace Sys2Proof.Machine

variable {s t : State} {k : Nat} {x : TxFrame} {xs : List TxFrame}

/-! ### Counters of a port -/

/-- A frame sent counts, whatever was done before that leaves the counter. -/
theorem countsPort_putOut_of (h : rdReg t (onPage Reg.portTxFrames k) = rdReg s (onPage Reg.portTxFrames k)) (f : Frame) :
    CountsPort s (putOut t k f) Reg.portTxFrames k := by
  rw [CountsPort, putOut, rdN_congr (rdReg_congr (modPort_regs ..) _), rdN_cntReg_same, rdN_congr h]

theorem countsPort_of_rdReg {u : State} {reg : Nat} (h : CountsPort s t reg k) (hu : rdReg u (onPage reg k) = rdReg t (onPage reg k)) :
    CountsPort s u reg k := (rdN_congr hu).trans h

/-! ### Frames sent again -/

/-- A kept frame once it has been sent again (07 R373). -/
def sentAgain (s : State) (k : Nat) (x : TxFrame) : TxFrame := { x with sentAt := txStart s k, sends := x.sends + 1 }

/-- A frame without DUE that is sent again is counted in RETRIES (07 R373). -/
theorem retryFrame_of_kept (hmem : x ∈ (portOf s k).replay) (hnodup : ((portOf s k).replay.map (·.frame.seq)).Nodup) (hsends : x.sends < 8)
    (hdue : x.due = none) : retryFrame s k x.frame.seq = cntReg (resend s k x) (onPage Reg.portRetries k) 1 := by
  have hfind : ((portOf s k).replay.find? fun y => y.frame.seq == x.frame.seq) = some x := by
    refine List.find?_eq_some_iff_append.mpr ?_
    obtain ⟨as, bs, hsplit⟩ := List.append_of_mem hmem
    refine ⟨by simp, as, bs, hsplit, fun a ha => ?_⟩
    rw [hsplit, List.map_append, List.map_cons] at hnodup
    have hne : a.frame.seq ≠ x.frame.seq := fun he =>
      (List.nodup_append.mp hnodup).2.2 _ (List.mem_map_of_mem ha) _ List.mem_cons_self he
    simpa using hne
  rw [retryFrame, hfind]
  simp only [hdue, if_neg (Nat.not_le.mpr hsends)]

theorem replay_putOut (f : Frame) : (portOf (putOut s k f) k).replay = (portOf s k).replay := by
  rw [putOut, portOf_modPort]
  split <;> rfl

theorem replay_resend (hlt : k < s.azl.ports.length) :
    (portOf (resend s k x) k).replay = (portOf s k).replay.map fun y => if y.frame.seq = x.frame.seq then sentAgain s k x else y := by
  rw [resend, replay_putOut, putKept, portOf_modPort, if_pos ⟨rfl, hlt⟩]
  rfl

theorem lt_length_of_kept (h : x ∈ (portOf s k).replay) : k < s.azl.ports.length := by
  by_contra hk
  rw [portOf, nth, List.getElem?_eq_none (Nat.not_lt.mp hk)] at h
  exact List.not_mem_nil h

/-- A frame sent again keeps its place and what it carries (07 R373). -/
theorem frames_resend (hmem : x ∈ (portOf s k).replay) (hnodup : ((portOf s k).replay.map (·.frame.seq)).Nodup) :
    (portOf (resend s k x) k).replay.map (·.frame) = (portOf s k).replay.map (·.frame) := by
  rw [replay_resend (lt_length_of_kept hmem), List.map_map]
  refine List.map_congr_left fun y hy => ?_
  rw [Function.comp_apply]
  split
  · next h => rw [List.inj_on_of_nodup_map hnodup hy hmem h]; rfl
  · rfl

theorem portReg_retries : PortReg (onPage Reg.portRetries k) :=
  ⟨by simp only [onPage, Reg.portRetries, Reg.pageAzp]; omega, fun _ => by simp only [onPage, Reg.portRetries, Reg.portTxFrames]; omega⟩

theorem sent_resend : Sent s (resend s k x) := (sent_modPort _).trans sent_putOut

/-- Kept frames without DUE, none of them sent eight times, that are sent again are each counted in RETRIES, and all stay kept (07 R373). -/
theorem retryAll_of_kept (hnodup : ((portOf s k).replay.map (·.frame.seq)).Nodup) (hxs : (xs.map (·.frame.seq)).Nodup)
    (h : ∀ x ∈ xs, x ∈ (portOf s k).replay ∧ x.sends < 8 ∧ x.due = none) :
    (retryAll s k xs).sched = s.sched ∧ (portOf (retryAll s k xs) k).replay.map (·.frame) = (portOf s k).replay.map (·.frame)
      ∧ rdN (retryAll s k xs) (onPage Reg.portRetries k) = min (rdN s (onPage Reg.portRetries k) + xs.length) (2 ^ 32 - 1) := by
  induction xs generalizing s with
  | nil =>
    refine ⟨rfl, rfl, ?_⟩
    have hlt : rdN s (onPage Reg.portRetries k) < 2 ^ 32 := BitVec.isLt _
    change rdN s _ = min (rdN s _ + 0) _
    omega
  | cons x xs ih =>
    obtain ⟨hmem, hsends, hdue⟩ := h x List.mem_cons_self
    obtain ⟨hx, hrest⟩ := List.nodup_cons.mp hxs
    have hport : portOf (cntReg (resend s k x) (onPage Reg.portRetries k) 1) k = portOf (resend s k x) k := by rw [portOf, cntReg_azl, portOf]
    have hframes := frames_resend hmem hnodup
    have hseqs : ∀ ys : List TxFrame, ys.map (·.frame.seq) = (ys.map (·.frame)).map (·.seq) := fun ys => by rw [List.map_map]; rfl
    have hall : retryAll s k (x :: xs) = retryAll (cntReg (resend s k x) (onPage Reg.portRetries k) 1) k xs := by
      rw [← retryFrame_of_kept hmem hnodup hsends hdue]
      rfl
    have ih := ih (s := cntReg (resend s k x) (onPage Reg.portRetries k) 1)
      (by rwa [hport, hseqs, hframes, ← hseqs]) hrest fun y hy => by
        obtain ⟨hymem, hy'⟩ := h y (List.mem_cons_of_mem _ hy)
        refine ⟨?_, hy'⟩
        rw [hport, replay_resend (lt_length_of_kept hmem)]
        refine List.mem_map.mpr ⟨y, hymem, if_neg fun he => hx ?_⟩
        exact List.mem_map.mpr ⟨y, hy, he⟩
    obtain ⟨ihsched, ihframes, ihcount⟩ := ih
    rw [hall, ihsched, ihframes, ihcount, hport, hframes, rdN_cntReg_same, rdN_congr (portReg_retries.rdReg_of_sent sent_resend), List.length_cons]
    refine ⟨by rw [cntReg_sched, sent_resend.sched], rfl, by omega⟩

/-! ### Losses and stops -/

theorem sent_sendHello (cause : Nat) : Sent s (sendHello s k cause) := sent_putOut.trans (sent_modPort _)

theorem linkWaits_noteLoss (a b : Nat) : (noteLoss s a b).azl.linkWaits = s.azl.linkWaits := by unfold noteLoss; split <;> simp

theorem dropRunning_azl : (dropRunning s).azl = s.azl := by unfold dropRunning; split <;> simp

theorem stopExec_azl (cause cl : Nat) : (stopExec s cause cl).azl = s.azl := by
  unfold stopExec
  dsimp only
  split <;> simp

theorem linkWaits_partnerLoss : (partnerLoss s k).azl.linkWaits = s.azl.linkWaits := by
  have hflood : ∀ (t : State) f, (flood t none f).azl.linkWaits = t.azl.linkWaits := fun t f =>
    (sent_flood none).azlKeeps AzlState.linkWaits fun _ _ => rfl
  unfold partnerLoss
  dsimp only
  split
  · rw [hflood, linkWaits_noteLoss]
  · simp only [enterWait, azlEv, raiseEv_azl, setAzl, wrF_azl, putAzl_azl, wrN_azl, dropRunning_azl, stopExec_azl]
    rw [hflood, linkWaits_noteLoss]

theorem setLevel_azl (n : Nat) : (setLevel s n).azl = s.azl := by
  unfold setLevel
  dsimp only
  (repeat' split) <;> simp

/-- A change of the service level shows in the pages of the global block alone (14 R642). -/
theorem rdReg_setLevel {o n : Nat} (ho : 0x20000 ≤ o) (hn : n < 0x1000) : rdReg (setLevel s n) o = rdReg s o := by
  have hne : ∀ a, a < 0x20000 → o ≠ a := fun a ha he => absurd ho (by omega)
  unfold setLevel
  dsimp only
  split
  · rfl
  · rw [rdReg_raiseEv_block ho (hne _ (by decide))]
    split
    · rw [rdReg_wr64 (hne _ (by simp only [Reg.glbLevel]; omega)) (hne _ (by simp only [Reg.glbLevel]; omega)), rdReg_wrF (hne _ (by decide)),
        rdReg_wrF (hne _ (by decide))]
    · rw [rdReg_wrF (hne _ (by decide))]

/-- What a running execution becomes by a loss or a stop: a step of the group is discarded too (07 R406, R408). -/
theorem exec_dropRunning_stopExec (hrun : s.sched.exec.running = true) : (dropRunning (stopExec s 0 0)).sched.exec.stopped = true
    ∧ (s.sched.exec.kind = .step → (dropRunning (stopExec s 0 0)).sched.exec.dropped = true) := by
  have hstop : (stopExec s 0 0).sched.exec.running = true ∧ (stopExec s 0 0).sched.exec.stopped = true
      ∧ (stopExec s 0 0).sched.exec.kind = s.sched.exec.kind := by
    cases hstopped : s.sched.exec.stopped with
    | true =>
      have hsame : stopExec s 0 0 = s := by rw [stopExec, hstopped, Bool.not_true, Bool.and_false, if_neg Bool.false_ne_true]
      rw [hsame]
      exact ⟨hrun, hstopped, rfl⟩
    | false =>
      rw [(stopExec_of_running hrun hstopped).1]
      exact ⟨hrun, rfl, rfl⟩
  obtain ⟨hrunning, hstopped, hkind⟩ := hstop
  rw [dropRunning, hrunning, hkind, Bool.true_and]
  split
  · exact ⟨hstopped, fun _ => rfl⟩
  · next h => exact ⟨hstopped, fun hk => absurd (by rw [hk]; rfl) h⟩

/-- The scheduler's and Azlink's parts that a stop of the group empties (07 R404, R408). -/
theorem stopGroup_holds : azlState (stopGroup s) = 5 ∧ (stopGroup s).azl.releaseQ = [] ∧ (stopGroup s).azl.waitSince = none
    ∧ (stopGroup s).sched.nextStep = none ∧ (stopGroup s).sched.nextLaunch = none
    ∧ (stopGroup s).sched.exec = (dropRunning (stopExec s 0 0)).sched.exec := by
  have hstate : ∀ (t : State) bits code pos d, azlState (azlEvBeside (setAzl t 5) bits code pos d) = 5 := fun t bits code pos d => by
    rw [azlState, azlEvBeside, raiseBeside, rdF_congr (rdReg_raiseEv_block (by decide) (by decide)), rdF_congr (rdReg_setEvt (by decide)),
      setAzl, rdF_wrF_same _ _ (by decide) (by decide)]
    rfl
  unfold stopGroup
  dsimp only
  split
  · refine ⟨(rdF_congr (rdReg_setLevel (by decide) (by decide))).trans (hstate ..), ?_⟩
    simp [azlEvBeside, raiseBeside, setAzl, setLevel_azl]
  · refine ⟨hstate .., ?_⟩
    simp [azlEvBeside, raiseBeside, setAzl]

/-- A port whose PCS has lost lock is down, and has no accepted peer (07 R375, R417). -/
theorem pcsDown_holds (k : Fin 8) (hup : rdB s (onPage Reg.portStatus k.val) 0 = true) : ∃ t, exec (.pcsDown k) s = .next t
    ∧ portUp t k.val = false ∧ rdB t (onPage Reg.portStatus k.val) 1 = false ∧ rdB t (portPage k.val + 0x14) 1 = true
    ∧ (hsOf s k.val = 2 → rdB t (onPage Reg.portStatus k.val) 19 = true) ∧ (hsOf s k.val ≠ 2 → hsOf t k.val = 0) := by
  have hpage : onPage Reg.portStatus k.val ≠ portPage k.val + 0x14 := by simp only [portPage, onPage, Reg.portStatus, Reg.pageAzp]; omega
  have hevt : ∀ u, rdReg (setEvt u (portPage k.val) 2) (onPage Reg.portStatus k.val) = rdReg u (onPage Reg.portStatus k.val) := fun u =>
    rdReg_setEvt hpage
  have hexec : exec (.pcsDown k) s = .next (setEvt (wrB (wrB (if hsOf s k.val = 2 then declareLoss s k.val else setHs s k.val 0)
      (onPage Reg.portStatus k.val) 0 false) (onPage Reg.portStatus k.val) 1 false) (portPage k.val) 2) := by
    change execPcsDown k s = _
    rw [execPcsDown]
    dsimp only
    rw [hup]
    rfl
  refine ⟨_, hexec, ?_, ?_, rdB_setEvt (by decide) (by decide), fun hhs => ?_, fun hhs => ?_⟩
  · rw [portUp, rdB_congr (hevt _) (n := 0), rdB_wrB_other _ _ (by decide) (by decide), rdB_wrB_same _ _ (by decide), Bool.and_false]
  · rw [rdB_congr (hevt _), rdB_wrB_same _ _ (by decide)]
  · rw [rdB_congr (hevt _), rdB_wrB_other _ _ (by decide) (by decide), rdB_wrB_other _ _ (by decide) (by decide), if_pos hhs]
    cases h : rdB s (onPage Reg.portStatus k.val) 19 with
    | true => rw [declareLoss, h, if_pos rfl, h]
    | false => rw [rdB_congr (rdReg_declareLoss_status h), rdB_wrB_same _ _ (by decide)]
  · rw [hsOf, rdF_congr (hevt _), rdF_wrB_other _ _ (by decide) (by decide) (by decide), rdF_wrB_other _ _ (by decide) (by decide) (by decide),
      if_neg hhs, setHs, rdF_wrF_same _ _ (by decide) (by decide)]
    rfl

/-- A port whose PCS has lock measures its delay anew, and handshakes when that is known (07 R376, R417). -/
theorem pcsUp_holds (k : Fin 8) (corr : Nat) (hon : rdB s (onPage Reg.portCtl k.val) 0 = true)
    (hdown : rdB s (onPage Reg.portStatus k.val) 0 = false) (hq : k.val ∉ s.boot.qPorts) (hlt : k.val < s.azl.ports.length) :
    ∃ t, exec (.pcsUp k corr) s = .next t
      ∧ rdN t (onPage Reg.portFecCorr k.val) = min (rdN s (onPage Reg.portFecCorr k.val) + corr) (2 ^ 32 - 1) ∧ portUp t k.val = true
      ∧ rdB t (portPage k.val + 0x14) 0 = true ∧ rdB t (onPage Reg.portStatus k.val) 1 = false
      ∧ (portOf t k.val).ptp = {} ∧ (portOf t k.val).ptpAt = s.count ∧ hsOf t k.val = hsOf s k.val := by
  have hexec : exec (.pcsUp k corr) s = .next (modPort (setEvt (cntReg (wrB (wrB s (onPage Reg.portStatus k.val) 0 true)
      (onPage Reg.portStatus k.val) 1 false) (onPage Reg.portFecCorr k.val) corr) (portPage k.val) 1) k.val
      fun p => { p with ptp := {}, ptpAt := s.count, txFree := s.count, early := none }) := by
    change execPcsUp k corr s = _
    rw [execPcsUp]
    dsimp only
    rw [hon, hdown, List.contains_eq_mem, decide_eq_false hq]
    rfl
  have hread : ∀ u o, o ≠ portPage k.val + 0x14 → o ≠ onPage Reg.portFecCorr k.val →
      rdReg (modPort (setEvt (cntReg u (onPage Reg.portFecCorr k.val) corr) (portPage k.val) 1) k.val
        fun p => { p with ptp := {}, ptpAt := s.count, txFree := s.count, early := none }) o = rdReg u o := fun u o ho hc => by
    rw [rdReg_congr (modPort_regs ..), rdReg_setEvt ho, rdReg_cntReg hc]
  have hstatus := fun u => hread u (onPage Reg.portStatus k.val) (by simp only [portPage, onPage, Reg.portStatus, Reg.pageAzp]; omega)
    (by simp only [onPage, Reg.portStatus, Reg.portFecCorr]; omega)
  have hport : portOf (modPort (setEvt (cntReg (wrB (wrB s (onPage Reg.portStatus k.val) 0 true)
      (onPage Reg.portStatus k.val) 1 false) (onPage Reg.portFecCorr k.val) corr) (portPage k.val) 1) k.val
      fun p => { p with ptp := {}, ptpAt := s.count, txFree := s.count, early := none }) k.val
      = { portOf s k.val with ptp := {}, ptpAt := s.count, txFree := s.count, early := none } := by
    rw [portOf_modPort, if_pos ⟨rfl, hlt⟩]
    rfl
  refine ⟨_, hexec, ?_, ?_, ?_, ?_, ?_, ?_, ?_⟩
  · rw [rdN_congr (rdReg_congr (modPort_regs ..) _), rdN_congr (rdReg_setEvt (by simp only [portPage, onPage, Reg.portFecCorr, Reg.pageAzp]; omega)),
      rdN_cntReg_same, rdN_congr (rdReg_wrB (by simp only [onPage, Reg.portStatus, Reg.portFecCorr]; omega)),
      rdN_congr (rdReg_wrB (by simp only [onPage, Reg.portStatus, Reg.portFecCorr]; omega))]
  · have hne : onPage Reg.portCtl k.val ≠ onPage Reg.portStatus k.val := by simp only [onPage, Reg.portStatus, Reg.portCtl]; omega
    rw [portUp, rdB_congr (hread _ _ (by simp only [portPage, onPage, Reg.portCtl, Reg.pageAzp]; omega)
      (by simp only [onPage, Reg.portCtl, Reg.portFecCorr]; omega)), rdB_congr (rdReg_wrB hne), rdB_congr (rdReg_wrB hne), hon, rdB_congr (hstatus _),
      rdB_wrB_other _ _ (by decide) (by decide), rdB_wrB_same _ _ (by decide), Bool.and_self]
  · rw [rdB_congr (rdReg_congr (modPort_regs ..) _), rdB_setEvt (by decide) (by decide)]
  · rw [rdB_congr (hstatus _), rdB_wrB_same _ _ (by decide)]
  · rw [hport]
  · rw [hport]
  · rw [hsOf, rdF_congr (hstatus _), rdF_wrB_other _ _ (by decide) (by decide) (by decide),
      rdF_wrB_other _ _ (by decide) (by decide) (by decide), hsOf]

/-- A port that is not accepted sends its HELLO again in time (07 R379). -/
theorem handshakeRetry_holds (k : Fin 8) (hup : portUp s k.val = true) (hdelay : rdB s (onPage Reg.portStatus k.val) 1 = true)
    (hhs : hsOf s k.val ≠ 2) (hdue : ∀ t, (portOf s k.val).helloAt = some t → t + 1250000 ≤ s.count) (hfw : s.boot.fwRunning = true) :
    ∃ t, exec (.handshakeRetry k) s = .next t ∧ hsOf t k.val = 1 ∧ CountsPort s t Reg.portTxFrames k.val := by
  have hexec : exec (.handshakeRetry k) s = .next (sendHello (setHs s k.val 1) k.val 0) := by
    change execHandshakeRetry k s = _
    have hdue' : (match (portOf s k.val).helloAt with | some t => decide (t + 1250000 ≤ s.count) | none => true) = true := by
      split
      · next t ht => exact decide_eq_true (hdue t ht)
      · rfl
    have hgo : (portUp s k.val && rdB s (onPage Reg.portStatus k.val) 1 && hsOf s k.val != 2
        && (match (portOf s k.val).helloAt with | some t => decide (t + 1250000 ≤ s.count) | none => true) && s.boot.fwRunning) = true := by
      rw [hdue', hup, hdelay, hfw, bne_iff_ne.mpr hhs]
      rfl
    rw [execHandshakeRetry]
    exact congrArg Host.Outcome.next (if_pos hgo)
  refine ⟨_, hexec, ?_, ?_⟩
  · rw [hsOf, rdF_congr (portReg_status.rdReg_of_sent (sent_sendHello _)), setHs, rdF_wrF_same _ _ (by decide) (by decide)]
    rfl
  · have hcount := countsPort_putOut_of (t := setHs s k.val 1) (s := s) (k := k.val)
      (rdReg_wrF (by simp only [onPage, Reg.portStatus, Reg.portTxFrames]; omega)) (helloFrame (setHs s k.val 1) k.val 0)
    exact countsPort_of_rdReg hcount (rdReg_congr (modPort_regs ..) _)

/-- A frame that fails its FCS check, or holds an uncorrectable codeword, is counted, and an accepted peer hears a NAK (07 R372, R417). -/
theorem fcsErr_holds (k : Fin 8) (hup : portUp s k.val = true) (fec : Bool) : ∃ t, exec (.fcsErr k fec) s = .next t
    ∧ CountsPort s t (if fec then Reg.portFecUncorr else Reg.portFcsErr) k.val ∧ (hsOf s k.val = 2 → CountsPort s t Reg.portTxFrames k.val) := by
  have hexec : ∃ reg ∈ [Reg.portFecUncorr, Reg.portFcsErr], (if fec then Reg.portFecUncorr else Reg.portFcsErr) = reg
      ∧ exec (.fcsErr k fec) s = .next (if hsOf s k.val = 2 then sendNak (cntErr (cntReg s (onPage reg k.val) 1) (portPage k.val) 1) k.val
          else cntErr (cntReg s (onPage reg k.val) 1) (portPage k.val) 1) := by
    refine ⟨_, ?_, rfl, ?_⟩
    · cases fec <;> simp
    · change execFcsErr k s fec = _
      rw [execFcsErr, hup]
      rfl
  obtain ⟨reg, hreg, heq, hexec⟩ := hexec
  have herr : onPage reg k.val ≠ portPage k.val + 0x1C ∧ onPage reg k.val ≠ onPage Reg.portTxFrames k.val := by
    simp only [List.mem_cons, List.not_mem_nil, or_false] at hreg
    rcases hreg with rfl | rfl
    · simp only [portPage, onPage, Reg.portFecUncorr, Reg.pageAzp, Reg.portTxFrames]; omega
    · simp only [portPage, onPage, Reg.portFcsErr, Reg.pageAzp, Reg.portTxFrames]; omega
  rw [heq]
  have hcounts : CountsPort s (cntErr (cntReg s (onPage reg k.val) 1) (portPage k.val) 1) reg k.val := by
    rw [CountsPort, cntErr, rdN_congr (rdReg_cntReg herr.1), rdN_cntReg_same]
  refine ⟨_, hexec, ?_, fun hhs => ?_⟩
  · split
    · refine countsPort_of_rdReg hcounts ?_
      rw [sendNak, putOut, rdReg_congr (modPort_regs ..), rdReg_cntReg herr.2]
    · exact hcounts
  · rw [if_pos hhs]
    refine countsPort_putOut_of ?_ _
    rw [cntErr, rdReg_cntReg (by simp only [portPage, onPage, Reg.pageAzp, Reg.portTxFrames]; omega), rdReg_cntReg herr.2.symm]

/-- Settles O42: each timer by its own condition; the loss by what a declaration leaves in the port's status. -/
theorem linksAreTimedAndLost : Obligations.LinksAreTimedAndLost := by
  intro s k n w st late lost
  refine ⟨fun hack => ?_, fun hup hhs hkeep => ?_, fun hup hnodup hlate => ?_, fun hup hlate => ?_, fun hup hhs hquiet => ?_,
    fun hup hhs hat hbeyond hdue => ?_, fun h => ⟨?_, ?_⟩, pcsDown_holds k, fun hon hdown hq hlt corr => pcsUp_holds k corr hon hdown hq hlt,
    handshakeRetry_holds k, fun hw => ?_, fun hup => ⟨fcsErr_holds k hup, ?_⟩, fun hwait hstate hdue => ?_, fun hin hentry => ⟨?_, ?_⟩, ?_⟩
  · refine ⟨_, congrArg Host.Outcome.next (if_pos (Option.isSome_iff_ne_none.mpr hack)), countsPort_putOut⟩
  · have hgo : (portUp s k.val && hsOf s k.val == 2 && decide ((portOf s k.val).lastKeep + 12500 ≤ s.count)) = true := by
      rw [hup, hhs, decide_eq_true hkeep]
      rfl
    exact ⟨_, congrArg Host.Outcome.next (if_pos hgo), countsPort_of_rdReg countsPort_putOut (rdReg_congr (modPort_regs ..) _)⟩
  · have hsub : late.Sublist (portOf s k.val).replay := List.filter_sublist
    have hexec : exec (.retryTimeout k) s = .next (retryAll s k.val late) := by
      have hany : (late.any fun t => decide (8 ≤ t.sends)) = false :=
        List.any_eq_false.mpr fun x hx => by simpa using (hlate x hx).1
      change execRetryTimeout k s = _
      rw [execRetryTimeout, hup]
      dsimp only
      rw [hany]
      rfl
    obtain ⟨hsched, hframes, hcount⟩ := retryAll_of_kept hnodup (hnodup.sublist (hsub.map _)) fun x hx => ⟨hsub.subset hx, hlate x hx⟩
    exact ⟨_, hexec, hsched, hcount, hframes⟩
  · have hany : (late.any fun t => decide (8 ≤ t.sends)) = true := by simpa using hlate
    change execRetryTimeout k s = _
    rw [execRetryTimeout, hup]
    dsimp only
    rw [hany]
    rfl
  · have hgo : (portUp s k.val && hsOf s k.val == 2 && decide ((portOf s k.val).lastRx + 37500 ≤ s.count)) = true := by
      rw [hup, hhs, decide_eq_true hquiet]
      rfl
    exact congrArg Host.Outcome.next (if_pos hgo)
  · have hgo : (portUp s k.val && hsOf s k.val == 2 && beyondTol s k.val && decide (n + 1250000 ≤ s.count)) = true := by
      rw [hup, hhs, hbeyond, decide_eq_true hdue]
      rfl
    change execSyncOffsetTimeout k s = _
    rw [execSyncOffsetTimeout, hat]
    exact congrArg Host.Outcome.next (if_pos hgo)
  · rw [rdB_congr (rdReg_declareLoss_status h), rdB_wrB_same _ _ (by decide)]
  · rw [hsOf, rdF_congr (rdReg_declareLoss_status h), rdF_wrB_other _ _ (by decide) (by decide) (by decide), setHs,
      rdF_wrF_same _ _ (by decide) (by decide)]
    rfl
  · refine ⟨partnerLoss (putAzl s { s.azl with linkWaits := s.azl.linkWaits.filter fun x => x != w }) k.val, ?_, ?_⟩
    · change execLinkLostTimeout k s = _
      rw [execLinkLostTimeout, hw]
    · rw [linkWaits_partnerLoss, putAzl_azl]
  · exact ⟨_, congrArg Host.Outcome.next (if_pos hup), rdN_cntReg_same _, cntReg_azl .., cntReg_sched ..⟩
  · have hgo : ((azlState s == 4 || azlState s == 6) && decide (n + rdN s Reg.azlRejoinWait ≤ s.count)) = true := by
      rw [decide_eq_true hdue, Bool.and_true]
      rcases hstate with h | h
      · rw [h]; rfl
      · rw [h]; rfl
    change execRejoinTimeout s = _
    rw [execRejoinTimeout, hwait]
    exact congrArg Host.Outcome.next (if_pos hgo)
  · exact congrArg Host.Outcome.next (if_pos (by rw [hin, hentry]; rfl))
  · exact ⟨_, rfl, (sent_flood none).sched, (sent_flood none).azlKeeps AzlState.releaseQ fun _ _ => rfl⟩
  · obtain ⟨hstate, hq, hwait, hstep, hlaunch, hexec⟩ := stopGroup_holds (s := s)
    refine ⟨hstate, hq, hwait, hstep, hlaunch, fun hrun => ?_⟩
    rw [hexec]
    exact exec_dropRunning_stopExec hrun

end Sys2Proof.Machine

/-!
SUPPORT. What the handshake of a port leaves of its measurements and of its handshake state (07 R376 to R379), and the status bit of an event.
-/
namespace Sys2Proof.Machine

variable {s t : State} {o j k : Nat} {f : Frame}

/-- An event that is raised shows in its page's EVTSTA (17 R751). -/
theorem rdB_raiseEv_evtsta {page bits n type inst code w1 : Nat} {d : List Nat} (hpage : page + 0x14 < 0x11000 ∨ 0x20000 ≤ page + 0x14)
    (hn : n < 32) (hbit : bits.testBit n = true) : rdB (raiseEv s page bits .block type inst code w1 d) (page + 0x14) n = true := by
  have hbits : bits ≠ 0 := fun h => by rw [h, Nat.zero_testBit] at hbit; exact Bool.false_ne_true hbit
  have hset : rdB (setEvt s page bits) (page + 0x14) n = true := rdB_setEvt hn hbit
  have hpush : ∀ (u : State) q r, q < 8 → rdReg (pushRec u q false r) (page + 0x14) = rdReg u (page + 0x14) := fun u q r hq =>
    hpage.elim (fun h => rdReg_pushRec_low h) fun h => rdReg_pushRec h hq
  unfold raiseEv
  dsimp only
  rw [if_neg hbits]
  split
  · exact hset
  · split
    · next q hq => rw [rdB_congr (hpush _ _ _ (routeOf_lt hq)), hset]
    · exact hset

/-! ### What sending keeps of a port -/

/-- A send changes of a port what the link retry keeps, and no more. -/
theorem portOf_putOut_keeps {β : Type} (g : Port → β) (hg : ∀ p l a x, g { p with last := l, ackAt := a, txFree := x } = g p) :
    g (portOf (putOut s k f) j) = g (portOf s j) := by
  rw [putOut, portOf_modPort]
  split
  · next h => rw [h.1]; exact hg ..
  · rfl

theorem portOf_sendSeq_keeps {β : Type} (g : Port → β) (hg : ∀ p l a x, g { p with last := l, ackAt := a, txFree := x } = g p)
    (hr : ∀ p n r, g { p with txSeq := n, replay := r } = g p) : g (portOf (sendSeq s k f) j) = g (portOf s j) := by
  have hmod : ∀ n r, g (portOf (modPort s k fun p => { p with txSeq := n, replay := p.replay ++ r }) j) = g (portOf s j) := fun n r => by
    rw [portOf_modPort]
    split
    · next h => rw [h.1]; exact hr ..
    · rfl
  unfold sendSeq
  dsimp only
  split
  · rfl
  · split
    · rw [portOf_putOut_keeps g hg, hmod]
    · exact hmod ..

/-! ### What the handshake keeps -/

/-- Of a port: its delay as measured, whether it is, its side of IEEE 1588, the HELLO it keeps, and when it sent its own. -/
def linkView (s : State) (k : Nat) : Word × Bool × PtpSide × Option Frame × Option Nat :=
  let p := portOf s k
  (rdReg s (onPage Reg.portDelay k), rdB s (onPage Reg.portStatus k) 1, p.ptp, p.early, p.helloAt)

theorem portReg_delay : PortReg (onPage Reg.portDelay k) :=
  ⟨by simp only [onPage, Reg.portDelay, Reg.pageAzp]; omega, fun _ => by simp only [onPage, Reg.portDelay, Reg.portTxFrames]; omega⟩

theorem linkView_eq (hd : rdReg t (onPage Reg.portDelay k) = rdReg s (onPage Reg.portDelay k))
    (hs : rdB t (onPage Reg.portStatus k) 1 = rdB s (onPage Reg.portStatus k) 1)
    (hp : (fun p : Port => (p.ptp, p.early, p.helloAt)) (portOf t k) = (fun p : Port => (p.ptp, p.early, p.helloAt)) (portOf s k)) :
    linkView t k = linkView s k := by
  obtain ⟨hptp, hearly, hhello⟩ : (portOf t k).ptp = (portOf s k).ptp ∧ (portOf t k).early = (portOf s k).early
    ∧ (portOf t k).helloAt = (portOf s k).helloAt := by simpa using hp
  simp only [linkView, hd, hs, hptp, hearly, hhello]

theorem linkView_putAzl {a : AzlState} (h : a.ports = s.azl.ports) : linkView (putAzl s a) k = linkView s k :=
  linkView_eq rfl rfl (by simp only [portOf, putAzl_azl, h])

theorem linkView_sendSeq : linkView (sendSeq s j f) k = linkView s k :=
  linkView_eq (portReg_delay.rdReg_of_sent sent_sendSeq) (rdB_congr (portReg_status.rdReg_of_sent sent_sendSeq))
    (portOf_sendSeq_keeps (fun p => (p.ptp, p.early, p.helloAt)) (fun _ _ _ _ => rfl) fun _ _ _ => rfl)

theorem linkView_sendUp : linkView (sendUp s f) k = linkView s k := by
  unfold sendUp
  split
  · rfl
  · exact linkView_sendSeq

theorem linkView_sendDown : linkView (sendDown s f) k = linkView s k := each_keeps (linkView · k) _ (fun _ _ => linkView_sendSeq) _ _

/-- A write of a field of PORT_STATUS beside DELAY_VALID. -/
theorem linkView_wrF_status {hi lo v : Nat} (hi32 : hi < 32) (hle : lo ≤ hi) (h1 : 1 < lo) :
    linkView (wrF s (onPage Reg.portStatus k) hi lo v) k = linkView s k :=
  linkView_eq (rdReg_wrF (by simp only [onPage, Reg.portDelay, Reg.portStatus]; omega)) (rdB_wrF_other _ _ hi32 hle (.inl h1)) rfl

theorem linkView_wrB_status {n : Nat} {b : Bool} (hn : n < 32) (h1 : 1 ≠ n) : linkView (wrB s (onPage Reg.portStatus k) n b) k = linkView s k :=
  linkView_eq (rdReg_wrB (by simp only [onPage, Reg.portDelay, Reg.portStatus]; omega)) (rdB_wrB_other _ _ hn h1) rfl

theorem linkView_answerForm : linkView (answerForm s) k = linkView s k := by
  unfold answerForm
  split
  · exact (linkView_putAzl rfl).trans linkView_sendUp
  · rfl

theorem linkView_startForm : linkView (startForm s) k = linkView s k := by
  unfold startForm
  split
  · exact (linkView_putAzl rfl).trans linkView_sendDown
  · rfl

theorem linkView_askRejoin : linkView (askRejoin s j) k = linkView s k := by
  unfold askRejoin
  split
  · exact linkView_sendUp
  · rfl

theorem linkView_modPort {g : Port → Port} (hg : ∀ p, (g p).ptp = p.ptp ∧ (g p).early = p.early ∧ (g p).helloAt = p.helloAt) :
    linkView (modPort s j g) k = linkView s k := by
  refine linkView_eq (rdReg_congr (modPort_regs ..) _) (rdB_congr (rdReg_congr (modPort_regs ..) _)) ?_
  rw [portOf_modPort]
  split
  · next h =>
    obtain ⟨hptp, hearly, hhello⟩ := hg (portOf s j)
    dsimp only
    rw [h.1, hptp, hearly, hhello]
  · rfl

/-- An accepted peer's link begins anew; what was measured of it stays (07 R372, R378). -/
theorem linkView_acceptPeer : linkView (acceptPeer s k f) k = linkView s k := by
  have hport : ∀ u : State, linkView (modPort (forgetLink u k) k fun p => { p with
      peerSa := f.sa, txSeq := 0, rxSeq := 0, replay := [], ackAt := none, beyondAt := none, lastRx := s.count, lastKeep := s.count }) k
      = linkView u k := fun u => by
    refine (linkView_modPort ?_).trans ?_
    · exact fun _ => ⟨rfl, rfl, rfl⟩
    · exact linkView_putAzl rfl
  have hstatus : linkView (wrB (wrB (wrF (wrF (wrF (setHs s k 2) (onPage Reg.portStatus k) 7 4 0) (onPage Reg.portStatus k) 15 8 f.src)
      (onPage Reg.portStatus k) 18 16 (fld f.w6 10 8)) (onPage Reg.portStatus k) 19 false) (onPage Reg.portStatus k) 20 (twinPort s k)) k
      = linkView s k := by
    rw [linkView_wrB_status (by decide) (by decide), linkView_wrB_status (by decide) (by decide),
      linkView_wrF_status (by decide) (by decide) (by decide), linkView_wrF_status (by decide) (by decide) (by decide),
      linkView_wrF_status (by decide) (by decide) (by decide), setHs, linkView_wrF_status (by decide) (by decide) (by decide)]
  unfold acceptPeer
  dsimp only
  split
  · rw [hport, hstatus]
  · rw [linkView_askRejoin, linkView_answerForm, linkView_startForm, hport, hstatus]

theorem linkView_refusePeer (cause pos : Nat) : linkView (refusePeer s k cause pos) k = linkView s k := by
  have hevt : ∀ (u : State) d, linkView (azlEv (setEvt u (portPage k) 8) 0 0x0002 pos d) k = linkView u k := fun u d => by
    have hread : ∀ o, PortReg o → o ≠ portPage k + 0x14 → rdReg (azlEv (setEvt u (portPage k) 8) 0 0x0002 pos d) o = rdReg u o :=
      fun o ho hp => by rw [azlEv, ho.rdReg_raiseEv (by decide), rdReg_setEvt hp]
    refine linkView_eq (hread _ portReg_delay ?_) (rdB_congr (hread _ portReg_status ?_)) ?_
    · simp only [portPage, onPage, Reg.portDelay, Reg.pageAzp]; omega
    · simp only [portPage, onPage, Reg.portStatus, Reg.pageAzp]; omega
    · rw [portOf, azlEv, raiseEv_azl, setEvt_azl, portOf]
  rw [refusePeer, hevt, linkView_wrF_status (by decide) (by decide) (by decide), linkView_wrF_status (by decide) (by decide) (by decide), setHs,
    linkView_wrF_status (by decide) (by decide) (by decide)]

/-- A HELLO that is sent is noted with its time, and nothing else that was measured changes. -/
theorem linkView_sendHello (cause : Nat) (hk : k < s.azl.ports.length) :
    linkView (sendHello s k cause) k = ((linkView s k).1, (linkView s k).2.1, (linkView s k).2.2.1, (linkView s k).2.2.2.1, some s.count) := by
  have hport := portOf_putOut_keeps (s := s) (k := k) (f := helloFrame s k cause) (j := k) (fun p : Port => (p.ptp, p.early)) fun _ _ _ _ => rfl
  obtain ⟨hptp, hearly⟩ := Prod.mk.injEq .. ▸ hport
  have hlen : k < (putOut s k (helloFrame s k cause)).azl.ports.length := by
    simpa [putOut, modPort, length_listMod] using hk
  simp only [linkView, portReg_delay.rdReg_of_sent (sent_sendHello cause), rdB_congr (portReg_status.rdReg_of_sent (sent_sendHello cause))]
  rw [sendHello, portOf_modPort, if_pos ⟨rfl, hlen⟩]
  simp only [hptp, hearly]

end Sys2Proof.Machine

/-!
Measurements, pulses per second, the reference and the transition window (07 R376 to R378, 15 R684 to R700).
-/
namespace Sys2Proof.Machine

variable {s : State} {k : Nat}

/-! ### IEEE 1588 -/

theorem w32_wrapN (z : Int) : w32 (wrapN 32 z) = BitVec.ofInt 32 z := by
  refine BitVec.eq_of_toNat_eq ?_
  rw [w32, wrapN, BitVec.toNat_ofInt, BitVec.toNat_ofNat]
  omega

/-- Of a port that exchanges IEEE 1588, a message of the domain is counted and taken (07 R376, 15 R699). -/
theorem ptpMessage_of_domain (k : Fin 8) {m : PtpMsg} (hon : ptpOn s k.val = true) (hdom : m.domain = rdF s Reg.gctPtpDomain 7 0) :
    exec (.ptpMessage k m) s = .next (ptpIn (cntReg s (onPage Reg.portRxFrames k.val) 1) k.val m) := by
  have hgo : (!ptpOn s k.val || m.domain != rdF s Reg.gctPtpDomain 7 0) = false := by simp [hon, hdom]
  exact congrArg Host.Outcome.next (if_neg (by rw [hgo]; exact Bool.false_ne_true))

theorem portOf_cntReg {o n j : Nat} : portOf (cntReg s o n) j = portOf s j := by rw [portOf, cntReg_azl, portOf]

theorem portOf_wrN {o n j : Nat} : portOf (wrN s o n) j = portOf s j := by rw [portOf, wrN_azl, portOf]

theorem portOf_setPtp (hk : k < s.azl.ports.length) (x : PtpSide) : portOf (setPtp s k x) k = { portOf s k with ptp := x } := by
  rw [setPtp, portOf_modPort, if_pos ⟨rfl, hk⟩]

theorem length_setPtp (x : PtpSide) : (setPtp s k x).azl.ports.length = s.azl.ports.length := length_listMod ..

theorem ptpOf_ptpSend (hk : k < s.azl.ports.length) (ms : List PtpMsg) (x : PtpSide) :
    (portOf (ptpSend s k ms x) k).ptp = { x with out := ms } := by
  rw [ptpSend, portOf_setPtp (by rwa [cntReg_azl])]

theorem portOf_noteOffset (hk : k < s.azl.ports.length) (e : Int) : portOf (noteOffset s k e) k = { portOf s k with
    beyondAt := if rdF s Reg.azlSyncTol 15 0 < e.natAbs then some ((portOf s k).beyondAt.getD s.count) else none } := by
  rw [noteOffset, portOf_modPort, if_pos ⟨rfl, by rwa [wrN_azl]⟩, portOf_wrN]
  simp only [decide_eq_true_eq]

theorem rdReg_noteOffset (e : Int) : rdReg (noteOffset s k e) (onPage Reg.portOffset k) = BitVec.ofInt 32 e := by
  rw [noteOffset, rdReg_congr (modPort_regs ..), wrN, rdReg_wrReg, if_pos rfl, w32_wrapN]

/-- The measured offset of a port that is not the slave of this package's time is shown, and nothing more (07 R377, 15 R694). -/
theorem followUp_of_heard {t1 t2 q : Nat} {d : Int} (hheard : (portOf s k).ptp.heard = some (q, t2)) (hd : (portOf s k).ptp.d2 = some d)
    (hrole : ptpRole s k ≠ 2 ∨ rdF s Reg.gctCtl 1 0 ≠ 2) : followUp s k t1
      = noteOffset (setPtp s k { (portOf s k).ptp with heard := none, t12 := some (t1, t2) }) k (ptpOffset d (t1, t2)) := by
  have hslave : (ptpRole s k == 2 && rdF s Reg.gctCtl 1 0 == 2) = false := by
    rcases hrole with h | h
    · rw [beq_eq_false_iff_ne.mpr h, Bool.false_and]
    · rw [beq_eq_false_iff_ne.mpr h, Bool.and_false]
  unfold followUp ptpOf
  dsimp only
  rw [hheard, hd]
  dsimp only
  rw [hslave, if_neg Bool.false_ne_true]

/-- The state once a Delay_Resp has measured the delay of a port (07 R376, R377). -/
def delayed (s : State) (k : Nat) (d2 : Int) (t12 : Nat × Nat) : State :=
  noteOffset (wrN (setPtp s k { (portOf s k).ptp with asked := none, d2 := some d2 }) (onPage Reg.portDelay k) (ceilDiv d2.toNat 2)) k
    (ptpOffset d2 t12)

theorem delayResp_of_asked {t1 t2 t3 t4 q : Nat} (h12 : (portOf s k).ptp.t12 = some (t1, t2)) (hasked : (portOf s k).ptp.asked = some (q, t3)) :
    let d := delayed s k (max 0 ((t2 : Int) - (t1 : Int) + ((t4 : Int) - (t3 : Int)))) (t1, t2)
    delayResp s k t4 = if rdB d (onPage Reg.portStatus k) 1 then d else firstHello d k := by
  unfold delayResp ptpOf
  dsimp only
  split
  · next h12' hasked' =>
    obtain ⟨rfl, rfl⟩ := Prod.mk.inj (Option.some.inj (h12'.symm.trans h12))
    obtain ⟨-, rfl⟩ := Prod.mk.inj (Option.some.inj (hasked'.symm.trans hasked))
    rfl
  · next hno => exact absurd hasked (hno _ _ _ _ h12)

theorem portOf_delayed (hk : k < s.azl.ports.length) (d2 : Int) (t12 : Nat × Nat) : ∃ b, portOf (delayed s k d2 t12) k
    = { portOf s k with ptp := { (portOf s k).ptp with asked := none, d2 := some d2 }, beyondAt := b } := by
  have h := portOf_noteOffset (s := wrN (setPtp s k { (portOf s k).ptp with asked := none, d2 := some d2 }) (onPage Reg.portDelay k)
    (ceilDiv d2.toNat 2)) (by rwa [wrN_azl, length_setPtp]) (ptpOffset d2 t12)
  rw [portOf_wrN, portOf_setPtp hk] at h
  exact ⟨_, h⟩

theorem rdReg_delayed_status (d2 : Int) (t12 : Nat × Nat) :
    rdReg (delayed s k d2 t12) (onPage Reg.portStatus k) = rdReg s (onPage Reg.portStatus k) := by
  rw [delayed, noteOffset, rdReg_congr (modPort_regs ..), rdReg_wrN (by simp only [onPage, Reg.portStatus, Reg.portOffset]; omega),
    rdReg_wrN (by simp only [onPage, Reg.portStatus, Reg.portDelay]; omega), setPtp, rdReg_congr (modPort_regs ..)]

theorem rdReg_delayed_delay (d2 : Int) (t12 : Nat × Nat) :
    rdReg (delayed s k d2 t12) (onPage Reg.portDelay k) = w32 (ceilDiv d2.toNat 2) := by
  rw [delayed, noteOffset, rdReg_congr (modPort_regs ..), rdReg_wrN (by simp only [onPage, Reg.portDelay, Reg.portOffset]; omega), wrN,
    rdReg_wrReg, if_pos rfl]

/-! ### The first HELLO -/

/-- A HELLO that comes to a port whose delay is known and which has just sent its own changes nothing that was measured (07 R378). -/
theorem linkView_helloIn {f : Frame} (hk : k < s.azl.ports.length) (hbit : rdB s (onPage Reg.portStatus k) 1 = true)
    (hat : (portOf s k).helloAt = some s.count) : linkView (helloIn s k f) k = linkView s k := by
  have hsend : ∀ b : Bool, linkView (if b then sendHello s k (refusal s k f) else s) k = linkView s k := fun b => by
    split
    · rw [linkView_sendHello _ hk, ← hat]
      rfl
    · rfl
  unfold helloIn
  dsimp only
  rw [hbit, Bool.not_true, if_neg Bool.false_ne_true]
  split
  · rw [linkView_refusePeer, hsend]
  · split
    · rw [linkView_refusePeer, hsend]
    · rw [linkView_acceptPeer, hsend]

/-- The state of a port whose delay has been measured for the first time, once its HELLO is out (07 R378). -/
def greeted (s : State) (k : Nat) : State := sendHello (setHs (wrB s (onPage Reg.portStatus k) 1 true) k 1) k 0

theorem linkView_greeted (hk : k < s.azl.ports.length) : linkView (greeted s k) k
    = (rdReg s (onPage Reg.portDelay k), true, (portOf s k).ptp, (portOf s k).early, some s.count) := by
  have hne : onPage Reg.portDelay k ≠ onPage Reg.portStatus k := by simp only [onPage, Reg.portDelay, Reg.portStatus]; omega
  have hview : linkView (setHs (wrB s (onPage Reg.portStatus k) 1 true) k 1) k
      = (rdReg s (onPage Reg.portDelay k), true, (portOf s k).ptp, (portOf s k).early, (portOf s k).helloAt) := by
    rw [setHs, linkView_wrF_status (by decide) (by decide) (by decide), linkView, rdReg_wrB hne, rdB_wrB_same _ _ (by decide)]
    rfl
  rw [greeted, linkView_sendHello _ (by exact hk), hview]
  rfl

theorem length_greeted : (greeted s k).azl.ports.length = s.azl.ports.length :=
  (length_listMod ..).trans (length_listMod ..)

theorem greeted_count : (greeted s k).count = s.count := (sent_sendHello 0).count

/-- The first measurement of the delay lets the port greet its peer, and takes the HELLO that came before (07 R378, log 31). -/
theorem linkView_firstHello (hk : k < s.azl.ports.length) : linkView (firstHello s k) k
    = (rdReg s (onPage Reg.portDelay k), true, (portOf s k).ptp, none, some s.count) := by
  have hgreet := linkView_greeted hk
  have hlen : k < (greeted s k).azl.ports.length := by rwa [length_greeted]
  have heq : firstHello s k = match (portOf s k).early with
    | some f => helloIn (modPort (greeted s k) k fun p => { p with early := none }) k f
    | none => greeted s k := rfl
  rw [heq]
  split
  · next f hearly =>
    have hclear : linkView (modPort (greeted s k) k fun p => { p with early := none }) k
        = (rdReg s (onPage Reg.portDelay k), true, (portOf s k).ptp, none, some s.count) := by
      have hptp : (portOf (greeted s k) k).ptp = (portOf s k).ptp := congrArg (fun v => v.2.2.1) hgreet
      have hhello : (portOf (greeted s k) k).helloAt = some s.count := congrArg (fun v => v.2.2.2.2) hgreet
      have hdelay : rdReg (greeted s k) (onPage Reg.portDelay k) = rdReg s (onPage Reg.portDelay k) := congrArg Prod.fst hgreet
      have hbit : rdB (greeted s k) (onPage Reg.portStatus k) 1 = true := congrArg (fun v => v.2.1) hgreet
      simp only [linkView, portOf_modPort, hlen, and_self, if_true, rdReg_congr (modPort_regs ..), rdB_congr (rdReg_congr (modPort_regs ..) _),
        hptp, hhello, hdelay, hbit]
    refine (linkView_helloIn (by rwa [modPort, putAzl_azl, length_listMod]) ?_ ?_).trans hclear
    · exact congrArg (fun v => v.2.1) hclear
    · rw [modPort_count, greeted_count]
      exact congrArg (fun v => v.2.2.2.2) hclear
  · next hearly => rw [← hearly]; exact hgreet

theorem hsOf_firstHello (hearly : (portOf s k).early = none) : hsOf (firstHello s k) k = 1 := by
  rw [firstHello, hearly]
  dsimp only
  rw [hsOf, rdF_congr (portReg_status.rdReg_of_sent (sent_sendHello _)), setHs, rdF_wrF_same _ _ (by decide) (by decide)]
  rfl

/-! ### The messages of a port (07 R376 to R378, 15 R694, R699) -/

section Messages

variable {k : Fin 8} {m : PtpMsg} (hon : ptpOn s k.val = true) (hk : k.val < s.azl.ports.length)
  (hdom : m.domain = rdF s Reg.gctPtpDomain 7 0)
include hon hk hdom

theorem sync_holds (hkind : m.kind = .sync) : ∃ t, exec (.ptpMessage k m) s = .next t
    ∧ (portOf t k.val).ptp = { (portOf s k.val).ptp with heard := some (m.seq, s.count) } := by
  refine ⟨_, ptpMessage_of_domain k hon hdom, ?_⟩
  rw [ptpIn, hkind]
  dsimp only
  rw [portOf_setPtp (by rwa [cntReg_azl]), ptpOf, portOf_cntReg, cntReg_count]

theorem followUp_holds {t2 : Nat} {d : Int} (hkind : m.kind = .followUp) (hheard : (portOf s k.val).ptp.heard = some (m.seq, t2))
    (hd : (portOf s k.val).ptp.d2 = some d) (hrole : ptpRole s k.val ≠ 2 ∨ rdF s Reg.gctCtl 1 0 ≠ 2) :
    ∃ t, exec (.ptpMessage k m) s = .next t
      ∧ rdReg t (onPage Reg.portOffset k.val) = BitVec.ofInt 32 (ptpOffset d (m.time, t2))
      ∧ (portOf t k.val).ptp = { (portOf s k.val).ptp with heard := none, t12 := some (m.time, t2) }
      ∧ (portOf t k.val).beyondAt = if rdF s Reg.azlSyncTol 15 0 < (ptpOffset d (m.time, t2)).natAbs
          then some ((portOf s k.val).beyondAt.getD s.count) else none := by
  have hread : ∀ {o}, o < Reg.pageAzp → rdReg (cntReg s (onPage Reg.portRxFrames k.val) 1) o = rdReg s o := fun {o} ho =>
    rdReg_cntReg (by simp only [onPage, Reg.portRxFrames, Reg.pageAzp] at ho ⊢; omega)
  have hport : portOf (cntReg s (onPage Reg.portRxFrames k.val) 1) k.val = portOf s k.val := portOf_cntReg
  have hfollow := followUp_of_heard (s := cntReg s (onPage Reg.portRxFrames k.val) 1) (k := k.val) (t1 := m.time)
    (by rw [hport, hheard]) (by rw [hport, hd]) (by rwa [ptpRole, rdF_congr (hread (by decide)), rdF_congr (hread (by decide)), ← ptpRole])
  rw [hport] at hfollow
  refine ⟨_, ptpMessage_of_domain k hon hdom, ?_⟩
  have htake : ptpIn (cntReg s (onPage Reg.portRxFrames k.val) 1) k.val m = followUp (cntReg s (onPage Reg.portRxFrames k.val) 1) k.val m.time := by
    rw [ptpIn, hkind]
    dsimp only
    rw [ptpOf, hport, hheard]
    exact if_pos (by simp)
  have hlen : k.val < (cntReg s (onPage Reg.portRxFrames k.val) 1).azl.ports.length := by rwa [cntReg_azl]
  rw [htake, hfollow, portOf_noteOffset (by rwa [length_setPtp]), portOf_setPtp hlen, hport]
  refine ⟨rdReg_noteOffset _, rfl, ?_⟩
  rw [rdF_congr (t := setPtp _ _ _) (rdReg_congr (modPort_regs ..) _), rdF_congr (hread (by decide)), setPtp, modPort_count, cntReg_count]

theorem delayReq_holds (hkind : m.kind = .delayReq) : ∃ t, exec (.ptpMessage k m) s = .next t
    ∧ (portOf t k.val).ptp = { (portOf s k.val).ptp with
        out := [⟨rdF s Reg.gctPtpDomain 7 0, .delayResp, m.seq % 2 ^ 16, s.count, clockId s⟩] } := by
  refine ⟨_, ptpMessage_of_domain k hon hdom, ?_⟩
  rw [ptpIn, hkind]
  dsimp only
  rw [ptpOf_ptpSend (by rwa [cntReg_azl]), ptpOf, portOf_cntReg, ptpMsg, cntReg_count,
    rdF_congr (rdReg_cntReg (by simp only [onPage, Reg.portRxFrames, Reg.gctPtpDomain]; omega))]
  rfl

theorem delayResp_holds {t1 t2 t3 : Nat} (hkind : m.kind = .delayResp) (hasked : (portOf s k.val).ptp.asked = some (m.seq, t3))
    (h12 : (portOf s k.val).ptp.t12 = some (t1, t2)) : let d2 : Int := max 0 ((t2 : Int) - t1 + (m.time - t3))
    ∃ t, exec (.ptpMessage k m) s = .next t ∧ rdN t (onPage Reg.portDelay k.val) = (d2.toNat + 1) / 2 % 2 ^ 32
      ∧ (portOf t k.val).ptp.d2 = some d2 ∧ rdB t (onPage Reg.portStatus k.val) 1 = true
      ∧ (rdB s (onPage Reg.portStatus k.val) 1 = true → hsOf t k.val = hsOf s k.val)
      ∧ (rdB s (onPage Reg.portStatus k.val) 1 = false → (portOf t k.val).helloAt = some s.count ∧ (portOf t k.val).early = none
        ∧ ((portOf s k.val).early = none → hsOf t k.val = 1)) := by
  intro d2
  have hport : portOf (cntReg s (onPage Reg.portRxFrames k.val) 1) k.val = portOf s k.val := portOf_cntReg
  have hlen : k.val < (cntReg s (onPage Reg.portRxFrames k.val) 1).azl.ports.length := by rwa [cntReg_azl]
  have htake : ptpIn (cntReg s (onPage Reg.portRxFrames k.val) 1) k.val m = delayResp (cntReg s (onPage Reg.portRxFrames k.val) 1) k.val m.time := by
    rw [ptpIn, hkind]
    dsimp only
    rw [ptpOf, hport, hasked]
    exact if_pos (by simp)
  have hresp := delayResp_of_asked (s := cntReg s (onPage Reg.portRxFrames k.val) 1) (k := k.val) (t4 := m.time)
    (by rw [hport, h12]) (by rw [hport, hasked])
  obtain ⟨b, hb⟩ := portOf_delayed hlen d2 (t1, t2)
  have hstatus : rdReg (delayed (cntReg s (onPage Reg.portRxFrames k.val) 1) k.val d2 (t1, t2)) (onPage Reg.portStatus k.val)
      = rdReg s (onPage Reg.portStatus k.val) := by
    rw [rdReg_delayed_status, rdReg_cntReg (by simp only [onPage, Reg.portStatus, Reg.portRxFrames]; omega)]
  have hdelay : ∀ t, rdReg t (onPage Reg.portDelay k.val) = w32 (ceilDiv d2.toNat 2) → rdN t (onPage Reg.portDelay k.val)
      = (d2.toNat + 1) / 2 % 2 ^ 32 := fun t h => by rw [rdN, h, w32, BitVec.toNat_ofNat, ceilDiv]; rfl
  have hlen' : k.val < (delayed (cntReg s (onPage Reg.portRxFrames k.val) 1) k.val d2 (t1, t2)).azl.ports.length := by
    rwa [delayed, noteOffset, modPort, putAzl_azl, length_listMod, wrN_azl, wrN_azl, length_setPtp]
  refine ⟨_, ptpMessage_of_domain k hon hdom, ?_⟩
  rw [htake, hresp, rdB_congr hstatus]
  rw [hport] at hb
  split
  · next hbit =>
    refine ⟨hdelay _ (rdReg_delayed_delay ..), by rw [hb], by rw [rdB_congr hstatus, hbit], fun _ => rdF_congr hstatus, fun hno => ?_⟩
    exact absurd (hbit.symm.trans hno) (by decide)
  · next hbit =>
    have hview := linkView_firstHello hlen'
    rw [rdReg_delayed_delay, hb] at hview
    refine ⟨hdelay _ (congrArg Prod.fst hview), ?_, congrArg (fun v => v.2.1) hview, fun h => absurd h hbit, fun _ => ⟨?_, ?_, fun hearly => ?_⟩⟩
    · exact congrArg (fun v => v.2.2.1.d2) hview
    · exact congrArg (fun v => v.2.2.2.2) hview
    · exact congrArg (fun v => v.2.2.2.1) hview
    · exact hsOf_firstHello (by rw [hb]; exact hearly)

end Messages

end Sys2Proof.Machine

/-!
The package's time: pulses per second, the counter's load, the reference and the point (15 R684 to R700).
-/
namespace Sys2Proof.Machine

variable {s : State}

/-! ### The timer of IEEE 1588 -/

/-- A due timer sends Sync with its Follow_Up, and a Delay_Req once a Sync of the peer has been timed (07 R376, 15 R699). -/
theorem ptpSendTimer_holds (k : Fin 8) (hon : ptpOn s k.val = true) (hk : k.val < s.azl.ports.length) (hdue : (portOf s k.val).ptpAt ≤ s.count) :
    let p := portOf s k.val
    let dom := rdF s Reg.gctPtpDomain 7 0
    ∃ t, exec (.ptpSendTimer k false) s = .next t ∧ (portOf t k.val).ptpAt = s.count + 156250000
      ∧ (portOf t k.val).ptp.out = [⟨dom, .sync, p.ptp.syncSeq % 2 ^ 16, 0, clockId s⟩, ⟨dom, .followUp, p.ptp.syncSeq % 2 ^ 16, s.count, clockId s⟩]
        ++ (if p.ptp.t12.isSome then [⟨dom, .delayReq, p.ptp.reqSeq % 2 ^ 16, 0, clockId s⟩] else [])
      ∧ (portOf t k.val).ptp.asked = if p.ptp.t12.isSome then some (p.ptp.reqSeq % 2 ^ 16, s.count) else none := by
  intro p dom
  have hexec : exec (.ptpSendTimer k false) s = .next (ptpRound (modPort s k.val fun p => { p with ptpAt := s.count + 156250000 }) k.val) := by
    change execPtpSendTimer k false s = _
    rw [execPtpSendTimer, hon]
    exact congrArg Host.Outcome.next (if_pos hdue)
  have hport : portOf (modPort s k.val fun p => { p with ptpAt := s.count + 156250000 }) k.val = { p with ptpAt := s.count + 156250000 } := by
    rw [portOf_modPort, if_pos ⟨rfl, hk⟩]
  have hlen : k.val < (modPort s k.val fun p => { p with ptpAt := s.count + 156250000 }).azl.ports.length := by
    rwa [modPort, putAzl_azl, length_listMod]
  refine ⟨_, hexec, ?_⟩
  rw [ptpRound, ptpSend, portOf_setPtp (by rwa [cntReg_azl]), portOf_cntReg, ptpOf, hport]
  refine ⟨rfl, ?_, rfl⟩
  dsimp only
  split
  · rfl
  · rfl

/-! ### Pulses per second and the counter's load -/

theorem lockEv_count (bits code : Nat) (e : Int) : (lockEv s bits code e).count = s.count := raiseEv_count ..

theorem lockStep_count (e : Int) : (lockStep s e).count = s.count := by
  unfold lockStep
  dsimp only
  split
  · split
    · rw [lockEv_count]; rfl
    · rfl
  · split
    · rw [lockEv_count]; rfl
    · rfl

theorem steer_count (e : Int) : (steer s e).count = s.count := by unfold steer; split <;> rfl

theorem falboLoaded_count : (falboLoaded s).count = s.count := by
  refine each_keeps State.count _ (fun j t => ?_) _ _
  split
  · exact setPulse_count ..
  · rfl

theorem loadCounter_count (e : Int) : (loadCounter s e).count = loadedCount s e := by
  rw [loadCounter, raiseEv_count, wrF_count, falboLoaded_count, wrN_count, wrN_count, cntReg_count]
  rfl

theorem deferLoad_count (e : Int) (why : Nat) : (deferLoad s e why).count = s.count := by
  unfold deferLoad
  dsimp only
  split
  · rfl
  · rw [putPower_count, raiseEv_count]; rfl

/-- A measurement moves the global counter only by a load, which a group, an execution and the lock-step bar (15 R697). -/
theorem measure_count (e : Int) : (measure s e).count
    = if rdN s Reg.gctLoadThr < e.natAbs ∧ rdB s Reg.gctCtl 2 = true ∧ loadBar s = 0 then loadedCount s e else s.count := by
  have hslew : ∀ b : Bool, (if b then keepSteer (lockStep (wrN s Reg.gctOffset (wrapN 32 (clampZ (-(2 ^ 31)) (2 ^ 31 - 1) e))) e)
      else steer (lockStep (wrN s Reg.gctOffset (wrapN 32 (clampZ (-(2 ^ 31)) (2 ^ 31 - 1) e))) e) e).count = s.count := fun b => by
    split
    · exact lockStep_count e
    · rw [steer_count, lockStep_count]; rfl
  have hlocked : ∀ n, loadedCount (lockStep (wrN s Reg.gctOffset n) e) e = loadedCount s e := fun n => by
    rw [loadedCount, lockStep_count]; rfl
  unfold measure
  dsimp only
  split
  · next h =>
    split
    · next hbar => rw [loadCounter_count, hlocked, if_pos ⟨h.1, h.2, hbar⟩]
    · next hbar => rw [deferLoad_count, hslew, if_neg fun hall => hbar hall.2.2]
  · next h =>
    rw [putPower_count, wrF_count, hslew, if_neg fun hall => h ⟨hall.1, hall.2.1⟩]

/-- A pulse of PPS_IN that is no second after its predecessor is counted and measures nothing (15 R711). -/
theorem ppsInEdge_of_invalid (h : ppsValid s = false) :
    exec .ppsInEdge s = .next (cntReg (putPower s { s.power with lastPps := some s.count }) Reg.gctPpsReject 1) := by
  change execPpsInEdge s = _
  rw [execPpsInEdge, h]
  rfl

theorem ppsInEdge_of_source (h : ppsValid s = true) (hsrc : rdF s Reg.gctCtl 1 0 = 1) : exec .ppsInEdge s
    = .next (wr64 (notePps (measure (putPower s { s.power with lastPps := some s.count })
        ((rd64 s Reg.gctPpsSecLo * 1250000000 : Nat) - (s.count : Int)))) Reg.gctPpsSecLo (rd64 s Reg.gctPpsSecLo + 1)) := by
  change execPpsInEdge s = _
  rw [execPpsInEdge, h]
  dsimp only
  rw [Bool.not_true, if_neg Bool.false_ne_true, if_pos hsrc]

theorem ppsInEdge_of_other (h : ppsValid s = true) (hsrc : rdF s Reg.gctCtl 1 0 ≠ 1) :
    exec .ppsInEdge s = .next (putPower s { s.power with lastPps := some s.count }) := by
  change execPpsInEdge s = _
  rw [execPpsInEdge, h]
  dsimp only
  rw [Bool.not_true, if_neg Bool.false_ne_true, if_neg hsrc]

/-- A load by its distance from a count leaves the counter there (15 R697). -/
theorem loadedCount_of_target (n : Nat) : loadedCount s ((n : Int) - (s.count : Int)) = n % 2 ^ 64 := by
  rw [loadedCount, wrapN, add_sub_cancel, ← Int.natCast_mod, Int.toNat_natCast]

/-! ### The reference, the window and the point -/

theorem lateOver_power : (lateOver s).power = { s.power with lateFrom := none } := by
  unfold lateOver
  split
  · rw [raiseEv_power, cntReg_power, putPower_power]
  · next h =>
    cases s
    simp only at h
    rw [← h]

theorem selectPoint_leanEn (b : Bool) : (selectPoint s b).power.leanEn = s.power.leanEn := by
  unfold selectPoint
  dsimp only
  split
  · rw [putPower_power, wrB_power, wrB_power, lateOver_power]
  · rw [putPower_power, wrB_power, wrB_power]

/-- LEAN_EN is in force from here on (15 R684, R687). -/
theorem fixPoint_leanEn : (fixPoint s).power.leanEn = rdB s Reg.lspCtl 0 := by
  unfold fixPoint
  dsimp only
  split
  · rw [selectPoint_leanEn, putPower_power]
  · split
    · rw [selectPoint_leanEn, putPower_power]
    · rfl

/-- A choice of the point shows in the clocks' page alone (15 R684, R713). -/
theorem rdReg_selectPoint_high {o : Nat} (ho : 0x20000 ≤ o) (b : Bool) : rdReg (selectPoint s b) o = rdReg s o := by
  have hne : ∀ a, a < 0x20000 → o ≠ a := fun a ha he => absurd ho (by omega)
  have hlate : rdReg (lateOver s) o = rdReg s o := by
    unfold lateOver
    split
    · rw [rdReg_raiseEv_block ho (hne _ (by decide)), rdReg_cntReg (hne _ (by decide)), rdReg_congr (putPower_regs ..)]
    · rfl
  unfold selectPoint
  dsimp only
  rw [rdReg_congr (putPower_regs ..), rdReg_wrB (hne _ (by decide)), rdReg_wrB (hne _ (by decide))]
  split
  · exact hlate
  · rfl

theorem rdReg_fixPoint_high {o : Nat} (ho : 0x20000 ≤ o) : rdReg (fixPoint s) o = rdReg s o := by
  unfold fixPoint
  dsimp only
  split
  · rw [rdReg_selectPoint_high ho, rdReg_congr (putPower_regs ..)]
  · split
    · rw [rdReg_selectPoint_high ho, rdReg_congr (putPower_regs ..)]
    · exact rdReg_congr (putPower_regs ..) o

theorem leanEnWrite_of_allowed {on : Bool} (h : on = false ∨ 125000 ≤ rdN s Reg.dlmGap) : exec (.leanEnWrite on) s
    = .next (if s.sched.exec.running || s.power.leanEn == on then wrB s Reg.lspCtl 0 on else fixPoint (wrB s Reg.lspCtl 0 on)) := by
  have hgo : (on && decide (rdN s Reg.dlmGap < 125000)) = false := by
    rcases h with h | h
    · rw [h, Bool.false_and]
    · rw [decide_eq_false (Nat.not_lt.mpr h), Bool.and_false]
  exact congrArg Host.Outcome.next (if_neg (by rw [hgo]; exact Bool.false_ne_true))

/-- LEAN_EN is stored, and fixes the point at once when no execution runs (15 R684, R687). -/
theorem leanEnWrite_holds {on : Bool} (h : on = false ∨ 125000 ≤ rdN s Reg.dlmGap) : ∃ t, exec (.leanEnWrite on) s = .next t
    ∧ rdB t Reg.lspCtl 0 = on ∧ (s.sched.exec.running = true → t.power = s.power) ∧ (s.sched.exec.running = false → t.power.leanEn = on) := by
  have hset : rdB (wrB s Reg.lspCtl 0 on) Reg.lspCtl 0 = on := rdB_wrB_same _ _ (by decide)
  refine ⟨_, leanEnWrite_of_allowed h, ?_⟩
  split
  · next hkeep =>
    refine ⟨hset, fun _ => rfl, fun hrun => ?_⟩
    rw [hrun, Bool.false_or] at hkeep
    exact eq_of_beq hkeep
  · next hfix =>
    refine ⟨(rdB_congr (rdReg_fixPoint_high (by decide))).trans hset, fun hrun => absurd (by rw [hrun]; rfl) hfix, fun _ => ?_⟩
    exact fixPoint_leanEn.trans hset

/-- The end of the window with VMTX below its nominal value delays the launches (15 R684, R686). -/
theorem leanWindowEnd_holds {w mv : Nat} (hw : s.power.window = some w) (hdue : w ≤ s.count) : ∃ t, exec (.leanWindowEnd mv) s = .next t
    ∧ t.power.window = none ∧ rdB t Reg.clkStatus 4 = false ∧ t.power.toNominal = false
    ∧ t.power.lateFrom = if s.power.toNominal = true ∧ mv < 735 then some (s.power.lateFrom.getD s.count) else none := by
  have hlate : ∀ u : State, rdReg (lateOver u) Reg.clkStatus = rdReg u Reg.clkStatus := fun u => by
    unfold lateOver
    split
    · rw [rdReg_raiseEv_low (by decide) (by decide), rdReg_cntReg (by decide), rdReg_congr (putPower_regs ..)]
    · rfl
  have hexec : exec (.leanWindowEnd mv) s = .next
      (let u := putPower (wrB s Reg.clkStatus 4 false) { s.power with
        window := none, toNominal := false, vmtxEnd := if s.power.toNominal then mv else s.power.vmtxEnd }
      if s.power.toNominal && decide (mv < 735) then putPower u { u.power with lateFrom := some (s.power.lateFrom.getD s.count) }
      else lateOver u) := by
    change execLeanWindowEnd mv s = _
    rw [execLeanWindowEnd, hw]
    dsimp only
    rw [if_neg (Nat.not_lt.mpr hdue)]
    rfl
  refine ⟨_, hexec, ?_⟩
  dsimp only
  split
  · next h =>
    rw [Bool.and_eq_true, decide_eq_true_eq] at h
    rw [rdB_congr (rdReg_congr (putPower_regs ..) _), rdB_congr (rdReg_congr (putPower_regs ..) _), rdB_wrB_same _ _ (by decide), if_pos h]
    exact ⟨rfl, rfl, rfl, rfl⟩
  · next h =>
    rw [Bool.and_eq_true, decide_eq_true_eq] at h
    rw [rdB_congr (hlate _), lateOver_power, if_neg h, rdB_congr (rdReg_congr (putPower_regs ..) _), rdB_wrB_same _ _ (by decide)]
    exact ⟨rfl, rfl, rfl, rfl⟩

/-- Three seconds without a measurement lose lock, and the steering stays (15 R696). -/
theorem measurementTimeout_holds (hlocked : rdB s Reg.gctStatus 0 = true) (hdue : s.power.lastMeas + 3750000000 ≤ s.count) :
    ∃ t, exec .measurementTimeout s = .next t ∧ rdB t Reg.gctStatus 0 = false ∧ rdB t (Reg.pageGct + 0x14) 4 = true
      ∧ rdReg t Reg.clkSteer = rdReg s Reg.clkSteer := by
  have hgo : (rdB s Reg.gctStatus 0 && decide (s.power.lastMeas + 3750000000 ≤ s.count)) = true := by rw [hlocked, decide_eq_true hdue, Bool.and_self]
  refine ⟨_, congrArg Host.Outcome.next (if_pos hgo), ?_, ?_, ?_⟩
  · rw [rdB_congr (rdReg_raiseEv_low (by decide) (by decide)), rdB_congr (rdReg_congr (putPower_regs ..) _), unlock,
      rdB_congr (rdReg_congr (putPower_regs ..) _), rdB_wrB_same _ _ (by decide)]
  · exact rdB_raiseEv_evtsta (.inl (by decide)) (by decide) (by decide)
  · rw [rdReg_raiseEv_low (by decide) (by decide), rdReg_congr (putPower_regs ..), unlock, rdReg_congr (putPower_regs ..), rdReg_wrB (by decide),
      keepSteer, rdReg_congr (putPower_regs ..)]

/-- A lost reference sets HOLDOVER; the counter goes on (15 R691). -/
theorem refLost_holds (hon : rdB s Reg.clkStatus 2 = false) (hpll : s.power.pll = true) : ∃ t, exec .refLost s = .next t
    ∧ rdB t Reg.clkStatus 2 = true ∧ rdN t Reg.clkRefLosses = min (rdN s Reg.clkRefLosses + 1) (2 ^ 32 - 1)
    ∧ rdB t (Reg.pageClk + 0x14) 0 = true ∧ t.count = s.count := by
  refine ⟨_, congrArg Host.Outcome.next (if_neg (by rw [hon, hpll]; decide)), ?_, ?_, ?_, ?_⟩
  · rw [rdB_congr (rdReg_raiseEv_low (by decide) (by decide)), keepSteer, rdB_congr (rdReg_congr (putPower_regs ..) _),
      rdB_congr (rdReg_congr (putPower_regs ..) _), rdB_congr (rdReg_cntReg (by decide)), rdB_wrB_other _ _ (by decide) (by decide),
      rdB_wrB_same _ _ (by decide)]
  · rw [rdN_congr (rdReg_raiseEv_low (by decide) (by decide)), keepSteer, rdN_congr (rdReg_congr (putPower_regs ..) _),
      rdN_congr (rdReg_congr (putPower_regs ..) _), rdN_cntReg_same, rdN_congr (rdReg_wrB (by decide)), rdN_congr (rdReg_wrB (by decide))]
  · exact rdB_raiseEv_evtsta (.inl (by decide)) (by decide) (by decide)
  · rw [raiseEv_count]
    rfl

/-- A restored reference ends HOLDOVER (15 R691). -/
theorem refRestored_holds {n : Nat} (h : s.power.holdoverAt = some n) : ∃ t, exec .refRestored s = .next t ∧ rdB t Reg.clkStatus 2 = false
    ∧ rdB t (Reg.pageClk + 0x14) 1 = true ∧ t.power = { s.power with holdoverAt := none } := by
  have hexec : exec .refRestored s = .next (raiseEv (putPower (wrB (wrB s Reg.clkStatus 2 false) Reg.clkStatus 1 true)
      { s.power with holdoverAt := none }) Reg.pageClk 2 .block 0x02 0 0x0002 0 [lo32 (s.count - n), hi32 (s.count - n), 0, 0]) := by
    change execRefRestored s = _
    rw [execRefRestored, h]
    rfl
  refine ⟨_, hexec, ?_, rdB_raiseEv_evtsta (.inl (by decide)) (by decide) (by decide), ?_⟩
  · rw [rdB_congr (rdReg_raiseEv_low (by decide) (by decide)), rdB_congr (rdReg_congr (putPower_regs ..) _),
      rdB_wrB_other _ _ (by decide) (by decide), rdB_wrB_same _ _ (by decide)]
  · rw [raiseEv_power]
    rfl

/-- VMTX at its nominal value ends the delay, which is counted (15 R686, R716). -/
theorem vmtxReached_holds {n : Nat} (h : s.power.lateFrom = some n) : ∃ t, exec .vmtxReached s = .next t ∧ t.power.lateFrom = none
    ∧ rdB t (Reg.pageClk + 0x14) 2 = true ∧ rdN t Reg.clkVmtxLate = min (rdN s Reg.clkVmtxLate + (s.count - n)) (2 ^ 32 - 1) := by
  have heq : lateOver s = raiseEv (cntReg (putPower s { s.power with lateFrom := none }) Reg.clkVmtxLate (s.count - n)) Reg.pageClk 4 .block 0x02 0
      0x0003 0 [s.power.vmtxEnd % 2 ^ 16, s.count - n, 0, 0] := by rw [lateOver, h]
  refine ⟨lateOver s, rfl, by rw [lateOver_power], ?_, ?_⟩
  · rw [heq]
    exact rdB_raiseEv_evtsta (.inl (by decide)) (by decide) (by decide)
  · rw [heq, rdN_congr (rdReg_raiseEv_low (by decide) (by decide)), rdN_cntReg_same, rdN_congr (rdReg_congr (putPower_regs ..) _)]

theorem ppsMay_of (hon : rdB s Reg.gctCtl 3 = true) (hlocked : rdB s Reg.gctStatus 0 = true) (hreset : s.power.resetN = true) :
    ppsMay s = true := by rw [ppsMay, hon, hlocked, hreset]; rfl

/-- A pulse of PPS_IN, as it is counted, measures, or is another source's (15 R694, R697, R711). -/
theorem ppsInEdge_holds : (ppsValid s = false → ∃ t, exec .ppsInEdge s = .next t
      ∧ rdN t Reg.gctPpsReject = min (rdN s Reg.gctPpsReject + 1) (2 ^ 32 - 1) ∧ t.count = s.count)
    ∧ (ppsValid s = true → rdF s Reg.gctCtl 1 0 = 1 →
      let e : Int := (rd64 s Reg.gctPpsSecLo * 1250000000 : Nat) - (s.count : Int)
      ∃ t, exec .ppsInEdge s = .next t ∧ rd64 t Reg.gctPpsSecLo = (rd64 s Reg.gctPpsSecLo + 1) % 2 ^ 64
        ∧ t.count = if rdN s Reg.gctLoadThr < e.natAbs ∧ rdB s Reg.gctCtl 2 = true ∧ loadBar s = 0 then rd64 s Reg.gctPpsSecLo * 1250000000 % 2 ^ 64
          else s.count)
    ∧ (ppsValid s = true → rdF s Reg.gctCtl 1 0 ≠ 1 → ∃ t, exec .ppsInEdge s = .next t ∧ t.power.lastPps = some s.count ∧ t.regs = s.regs) := by
  refine ⟨fun h => ?_, fun h hsrc => ?_, fun h hsrc => ?_⟩
  · exact ⟨_, ppsInEdge_of_invalid h, rdN_cntReg_same _, rfl⟩
  · refine ⟨_, ppsInEdge_of_source h hsrc, rd64_wr64_same .., ?_⟩
    rw [wr64_count, notePps, noteHw_count, noteHw_count, measure_count, ← loadedCount_of_target (s := s)]
    rfl
  · exact ⟨_, ppsInEdge_of_other h hsrc, rfl, rfl⟩

/-- Settles O44: each clause by what its own operation leaves. -/
theorem timeAndClocksRun : Obligations.TimeAndClocksRun := by
  intro s k m mv w n t1 t2 t3 d on p dom st
  refine ⟨fun hon hk => ⟨fun hother => ?_, sync_holds hon hk, ?_, delayReq_holds hon hk, ?_, ptpSendTimer_holds k hon hk⟩,
    ppsInEdge_holds, measurementTimeout_holds, fun hon hlocked hreset => ⟨fun h => ?_, fun h => ?_⟩, refLost_holds, refRestored_holds,
    leanWindowEnd_holds, vmtxReached_holds, leanEnWrite_holds, fun hgap => ?_⟩
  · have hno : (!ptpOn s k.val || m.domain != rdF s Reg.gctPtpDomain 7 0) = true := by simpa [hon] using hother
    exact congrArg Host.Outcome.next (if_pos hno)
  · exact fun hdom hkind hheard hd hrole => followUp_holds hon hk hdom hkind hheard hd hrole
  · exact fun hdom hkind hasked h12 => delayResp_holds hon hk hdom hkind hasked h12
  · refine ⟨_, congrArg Host.Outcome.next (if_pos ?_), rfl, rfl⟩
    rw [ppsMay_of hon hlocked hreset, h]
    rfl
  · refine ⟨_, congrArg Host.Outcome.next (if_pos ?_), rfl, rfl⟩
    rw [decide_eq_true h, Bool.or_true]
  · exact congrArg Host.Outcome.next (if_pos (by rw [decide_eq_true hgap]; rfl))

end Sys2Proof.Machine

/-!
SUPPORT. The closed step, the ledgers held at the entry and the boundary over a commit, an abandonment and a rollback (07 R402 to R407, 09 R466
to R475): what follows the judgement of a step leaves them as the judgement set them.
-/
namespace Sys2Proof.Machine

variable {s t : State} {f : Frame} {c : Nat} {x : Context}

/-- The closed step, the ledgers that are held, and whether the package stands at a step boundary. -/
def judgedView (s : State) : Option DoneStep × List (Nat × Ledger) × Bool := (s.sched.done, s.azl.ledgers, s.gener.atBoundary)

theorem judgedView_congr (hs : t.sched = s.sched) (ha : t.azl = s.azl) (hg : t.gener = s.gener) : judgedView t = judgedView s := by
  rw [judgedView, hs, ha, hg, judgedView]

theorem judgedView_of_sent (h : Sent s t) : judgedView t = judgedView s := by
  rw [judgedView, h.sched, h.azl, h.gener, judgedView]

@[simp] theorem judgedView_wrN (off v : Nat) : judgedView (wrN s off v) = judgedView s := rfl
@[simp] theorem judgedView_wr64 (off v : Nat) : judgedView (wr64 s off v) = judgedView s := rfl
@[simp] theorem judgedView_wrF (off hi lo v : Nat) : judgedView (wrF s off hi lo v) = judgedView s := rfl
@[simp] theorem judgedView_wrB (off n : Nat) (b : Bool) : judgedView (wrB s off n b) = judgedView s := rfl
@[simp] theorem judgedView_cntReg (off n : Nat) : judgedView (cntReg s off n) = judgedView s := rfl
@[simp] theorem judgedView_setAzl (v : Nat) : judgedView (setAzl s v) = judgedView s := rfl
@[simp] theorem judgedView_setHs (k v : Nat) : judgedView (setHs s k v) = judgedView s := rfl
@[simp] theorem judgedView_setEvt (page bits : Nat) : judgedView (setEvt s page bits) = judgedView s := rfl
@[simp] theorem judgedView_modPort (k : Nat) (g : Port → Port) : judgedView (modPort s k g) = judgedView s := rfl
@[simp] theorem judgedView_modCl (p : Nat) (g : Cluster → Cluster) : judgedView (modCl s p g) = judgedView s := rfl
@[simp] theorem judgedView_putLock (l : LockStep) : judgedView (putLock s l) = judgedView s := rfl
@[simp] theorem judgedView_putBoot (b : Boot) : judgedView (putBoot s b) = judgedView s := rfl
@[simp] theorem judgedView_modExec (g : Exec → Exec) : judgedView (modExec s g) = judgedView s := rfl

theorem judgedView_putAzl {x : AzlState} (h : x.ledgers = s.azl.ledgers) : judgedView (putAzl s x) = judgedView s := by
  rw [judgedView, putAzl_azl, h]
  rfl

theorem judgedView_putSched {x : Sched} (h : x.done = s.sched.done) : judgedView (putSched s x) = judgedView s := by
  rw [judgedView, putSched_sched, h]
  rfl

@[simp] theorem judgedView_raiseEv {page bits type inst code w1 : Nat} {dst : Dest} {d : List Nat} :
    judgedView (raiseEv s page bits dst type inst code w1 d) = judgedView s :=
  judgedView_congr (raiseEv_sched ..) (raiseEv_azl ..) (raiseEv_gener ..)

/-! ### Halts, losses and levels -/

@[simp] theorem judgedView_takeHalt (r : HaltRec) : judgedView (takeHalt s r) = judgedView s := by
  unfold takeHalt
  dsimp only
  rw [judgedView_raiseEv, judgedView_congr (showHalt_sched ..) (showHalt_azl ..) (showHalt_gener ..)]
  rfl

@[simp] theorem judgedView_fireHalt (r : HaltRec) : judgedView (fireHalt s r) = judgedView s := by
  have hshow : judgedView (showHalt (putDbgp s { s.dbgp with halt := some r }) r) = judgedView s :=
    (judgedView_congr (showHalt_sched ..) (showHalt_azl ..) (showHalt_gener ..)).trans rfl
  unfold fireHalt
  split
  · split
    · split
      · exact hshow
      · rfl
    · rfl
  · split
    · exact judgedView_takeHalt r
    · split
      · split <;> rfl
      · rfl

@[simp] theorem judgedView_lockHalt (h : Nat) : judgedView (lockHalt s h) = judgedView s := by
  rw [lockHalt, judgedView_fireHalt, judgedView_wr64, judgedView_wrB]

@[simp] theorem judgedView_twinLost (k : Nat) : judgedView (twinLost s k) = judgedView s := by
  rw [twinLost, judgedView_lockHalt, judgedView_raiseEv]
  rfl

@[simp] theorem judgedView_setLevel (n : Nat) : judgedView (setLevel s n) = judgedView s :=
  judgedView_congr (setLevel_sched n) (setLevel_azl n) (setLevel_gener n)

@[simp] theorem judgedView_stopExec (cause cl : Nat) : judgedView (stopExec s cause cl) = judgedView s := by
  unfold stopExec
  dsimp only
  split <;> rfl

@[simp] theorem judgedView_dropRunning : judgedView (dropRunning s) = judgedView s := by unfold dropRunning; split <;> rfl

@[simp] theorem judgedView_noteLoss (a b : Nat) : judgedView (noteLoss s a b) = judgedView s := by unfold noteLoss; split <;> rfl

@[simp] theorem judgedView_enterWait (pos phase port : Nat) (mine known : Bool) : judgedView (enterWait s pos phase port mine known) = judgedView s := by
  rw [enterWait, azlEv, judgedView_raiseEv, judgedView_setAzl, judgedView_putAzl, judgedView_wrN, judgedView_dropRunning, judgedView_stopExec]
  dsimp only

/-! ### Quarantine, write-backs and the remap (09 R456, R466, R472 to R475) -/

@[simp] theorem judgedView_allCl (g : Cluster → Cluster) : judgedView (allCl s g) = judgedView s := allCl_keeps _ judgedView _ fun _ _ => rfl

@[simp] theorem judgedView_quarantine (kind num : Nat) : judgedView (quarantine s kind num) = judgedView s := by
  have hmark : ∀ u : State, judgedView (markQuar u kind num) = judgedView u := fun u => by
    unfold markQuar
    (repeat' split) <;> rfl
  have hpush : ∀ n v, judgedView (storePush s n v false) = judgedView s := fun n v => by
    unfold storePush
    split <;> rfl
  unfold quarantine
  dsimp only
  split
  · rfl
  · rw [judgedView_raiseEv, judgedView_cntReg, hmark, hpush]

@[simp] theorem judgedView_quarantine_if (b : Prop) [Decidable b] (kind num : Nat) : judgedView (if b then quarantine s kind num else s) = judgedView s := by
  split
  · exact judgedView_quarantine ..
  · rfl

@[simp] theorem judgedView_quarClusters : judgedView (quarClusters s) = judgedView s := by
  have hcount : ∀ (u : State) p n, judgedView (if n = (clOf u p).ueExecs then u
      else modCl u p fun c => { c with ueExecs := n, ueThis := false }) = judgedView u := fun u p n => by split <;> rfl
  unfold quarClusters
  refine (judgedView_modExec _).trans (each_keeps judgedView _ (fun p u => ?_) _ _)
  exact (judgedView_quarantine_if ..).trans (hcount u p _)

@[simp] theorem judgedView_quarStacks : judgedView (quarStacks s) = judgedView s :=
  each_keeps judgedView _ (fun _ _ => (judgedView_quarantine_if ..).trans (judgedView_putBoot _)) _ _

@[simp] theorem judgedView_writeBack : judgedView (writeBack s) = judgedView s := by
  refine each_keeps judgedView _ (fun a u => ?_) _ s
  split <;> rfl

@[simp] theorem judgedView_clearFaults : judgedView (clearFaults s) = judgedView s := by
  unfold clearFaults
  dsimp only
  rw [judgedView_allCl]
  split <;> rfl

@[simp] theorem judgedView_portsLost : judgedView (portsLost s) = judgedView s := by
  have hpartners : judgedView (partnersLost s) = judgedView s := by
    have hports : ∀ ks : List Nat, judgedView (each ks (fun k t => setEvt (wrB t (onPage Reg.portStatus k) 19 true) (portPage k) 4) s) = judgedView s :=
      fun ks => each_keeps judgedView _ (fun _ _ => by simp) ks s
    unfold partnersLost
    dsimp only
    split
    · rw [judgedView_twinLost, hports]
    · exact hports _
  rcases portsLost_cases s with h | ⟨pos, phase, port, h⟩
  · rw [h, hpartners]
  · rw [h, judgedView_enterWait, judgedView_noteLoss, hpartners]

@[simp] theorem judgedView_remapFailed (block : Nat) : judgedView (remapFailed s block) = judgedView s := by
  have hlevel : ∀ u : State, judgedView (if 4 < svcLevel u then setLevel u 4 else u) = judgedView u := fun u => by
    split
    · exact judgedView_setLevel 4
    · rfl
  unfold remapFailed
  dsimp only
  rw [judgedView_allCl, judgedView_putBoot, hlevel]
  exact (each_keeps judgedView _ (fun _ _ => by simp) _ _).trans (judgedView_portsLost.trans judgedView_raiseEv)

@[simp] theorem judgedView_remapNow : judgedView (remapNow s) = judgedView s := by
  unfold remapNow
  split
  · split
    · exact (each_keeps judgedView _ (fun _ _ => by simp) _ _).trans (judgedView_allCl _)
    · exact judgedView_remapFailed _
  · rfl

@[simp] theorem judgedView_recover : judgedView (recover s) = judgedView s := by
  have hafter : ∀ u : State, judgedView (afterReloads u) = judgedView u := fun u => by
    unfold afterReloads
    split
    · exact judgedView_writeBack
    · rfl
  unfold recover
  dsimp only
  rw [hafter, judgedView_putSched, judgedView_putSched, judgedView_remapNow, judgedView_clearFaults, judgedView_quarStacks, judgedView_quarClusters]
  · dsimp only
  · dsimp only

/-! ### Sessions and their tokens -/

@[simp] theorem judgedView_finish (r : CmdRef) (status w6 w7 : Nat) : judgedView (finish s r status w6 w7) = judgedView s := by
  unfold finish
  split
  · rfl
  · exact judgedView_congr (complete_sched ..) (complete_azl ..) (complete_gener ..)

@[simp] theorem judgedView_cancelRef (r : Option CmdRef) : judgedView (cancelRef s r) = judgedView s := by
  cases r with
  | none => rfl
  | some r => exact judgedView_finish ..

@[simp] theorem judgedView_releaseTok (r : TokRec) : judgedView (releaseTok s r) = judgedView s := by
  have hafter : ∀ u : State, judgedView (afterTok u r) = judgedView u := fun u => by
    have hev : ∀ (b : Bool) d, judgedView (if b then raiseEv u Reg.pageSlu 8 (.ring r.ring) 0x20 0 0x0005 r.sid d else u) = judgedView u := fun b d => by
      split
      · exact judgedView_raiseEv
      · rfl
    unfold afterTok
    dsimp only
    split
    · exact (judgedView_finish ..).trans (hev _ _)
    · exact hev _ _
  unfold releaseTok
  split
  · rw [hafter]
    split
    · exact judgedView_congr (hostWords_sched ..) (hostWords_azl ..) (hostWords_gener ..)
    · rfl
  · rfl

@[simp] theorem judgedView_releaseToks (n : Nat) (ts : List TokRec) : judgedView (releaseToks s n ts) = judgedView s := by
  unfold releaseToks
  dsimp only
  rw [judgedView_putAzl, judgedView_wrN, each_keeps judgedView _ fun _ _ => judgedView_releaseTok _]
  dsimp only

@[simp] theorem judgedView_releaseSome (k : Nat) : judgedView (releaseSome k s) = judgedView s := by
  induction k generalizing s with
  | zero => rfl
  | succ k ih =>
    unfold releaseSome
    split
    · rfl
    · split
      · rw [ih, judgedView_releaseToks]
        rfl
      · rfl

@[simp] theorem judgedView_releaseAll : judgedView (releaseAll s) = judgedView s := judgedView_releaseSome _

@[simp] theorem judgedView_lockAlign : judgedView (lockAlign s) = judgedView s := by
  unfold lockAlign
  (repeat' split) <;> rfl

@[simp] theorem judgedView_lockCompare : judgedView (lockCompare s) = judgedView s := by
  unfold lockCompare
  dsimp only
  (repeat' split) <;> simp

end Sys2Proof.Machine

/-!
SUPPORT. A commit, an abandonment and a rollback as a whole (07 R402 to R406, 09 R465 to R470).
-/
namespace Sys2Proof.Machine

variable {s t : State} {f : Frame} {c : Nat} {x : Context}

/-! ### The parts of a commit (06 R341, R344, R351) -/

@[simp] theorem judgedView_setCtx : judgedView (setCtx s c x) = judgedView s := rfl
@[simp] theorem judgedView_modCtx (g : Context → Context) : judgedView (modCtx s c g) = judgedView s := rfl
@[simp] theorem judgedView_putDraw (n : Nat) : judgedView (putDraw s n) = judgedView s := rfl
@[simp] theorem judgedView_writeExit (n : Nat) (b : Bool) : judgedView (writeExit s c n b) = judgedView s := rfl

theorem judgedView_putGener {g : Gener} (h : g.atBoundary = s.gener.atBoundary) : judgedView (putGener s g) = judgedView s := by
  rw [judgedView, putGener_gener, h]
  rfl

@[simp] theorem judgedView_commitToken (tok mark : Nat) (exited : Bool) : judgedView (commitToken s c tok exited mark).1 = judgedView s := by
  simp [commitToken]

theorem judgedView_commitEntry (exited exact : Bool) (a : State × List TokRec) (e : BatchEntry) :
    judgedView (commitEntry exited exact a e).1 = judgedView a.1 := by
  have hexits : ∀ (u : State) m n, judgedView (each (List.range m) (fun i s => writeExit s e.ctx (n + i) false) u) = judgedView u := fun u m n =>
    each_keeps judgedView _ (fun _ _ => judgedView_writeExit ..) _ _
  unfold commitEntry
  dsimp only
  split
  · rw [judgedView_commitToken, hexits, judgedView_putDraw, judgedView_setCtx]
  · rw [hexits, judgedView_putDraw, judgedView_setCtx]

theorem judgedView_commitEntries (exited exact : Bool) (es : List BatchEntry) (a : State × List TokRec) :
    judgedView (es.foldl (commitEntry exited exact) a).1 = judgedView a.1 := by
  induction es generalizing a with
  | nil => rfl
  | cons e es ih => exact (ih _).trans (judgedView_commitEntry ..)

theorem judgedView_accrue (period : Nat) (ts : List TokRec) (before : SMap Context) : judgedView (accrue period ts before s) = judgedView s := by
  refine each_keeps judgedView _ (fun e u => ?_) _ s
  dsimp only
  (repeat' split) <;> rfl

theorem judgedView_markShort : judgedView (markShort s) = judgedView s := by
  refine each_keeps judgedView _ (fun e u => ?_) _ s
  split <;> rfl

theorem judgedView_lockCommit (step digest : Nat) : judgedView (lockCommit s step digest) = judgedView s := by
  unfold lockCommit
  dsimp only
  split
  · rfl
  · rw [judgedView_of_sent sent_sendSeq, judgedView_putLock, judgedView_wrB]

theorem judgedView_variance : judgedView (variance s) = judgedView s := by
  unfold variance
  dsimp only
  split
  · rfl
  · rw [judgedView_raiseEv]
    rfl

theorem judgedView_clearLate : judgedView (clearLate s) = judgedView s := rfl

theorem judgedView_closed {g : Gener} {p : Sched} (hp : p.done = none) (hg : g.atBoundary = true) :
    judgedView (putSched (putGener s g) p) = (none, s.azl.ledgers, true) := by
  rw [judgedView, putSched_sched, putSched_azl, putSched_gener, putGener_azl, putGener_gener, hp, hg]

/-- A commit closes the step at a boundary, whatever its lock-step comparison and a remap do behind it (07 R402). -/
theorem judgedView_commitStep (d : DoneStep) : judgedView (commitStep s d) = (none, s.azl.ledgers, true) := by
  have hcount : ∀ (u : State) (b : Bool) n, judgedView (if b then cntReg (cntReg u Reg.dlmExitSteps 1) Reg.dlmFallbacks n else u) = judgedView u :=
    fun u b n => by split <;> rfl
  have hqueue : ∀ (u : State) (b : Bool) q, judgedView (if b then putAzl u { u.azl with releaseQ := q } else u) = judgedView u :=
    fun u b q => by split <;> rfl
  have hsaves : ∀ (u : State) v, judgedView (putGener u { u.gener with saves := v }) = judgedView u := fun _ _ => rfl
  unfold commitStep
  extract_lets r before saved s0 g0 p0 s1
  have h0 : s0.azl = s.azl := by rw [wr64_azl, wr64_azl]
  have h1 : judgedView s1 = (none, s.azl.ledgers, true) := by
    rw [judgedView_closed, h0]
    · dsimp only
    · dsimp only
  have h2 : judgedView (r.batch.foldl (commitEntry r.exitKind d.exact) (s1, [])).1 = (none, s.azl.ledgers, true) :=
    (judgedView_commitEntries ..).trans h1
  split
  next s2 ts0 hfold =>
  rw [hfold] at h2
  extract_lets ts s3 s4 dg s5 n g5 s6 s7 s8 a8 s9
  have h3 : judgedView s3 = (none, s.azl.ledgers, true) := judgedView_markShort.trans ((judgedView_accrue ..).trans h2)
  have h4 : judgedView s4 = (none, s.azl.ledgers, true) := (hcount ..).trans h3
  have h5 : judgedView s5 = (none, s.azl.ledgers, true) := (judgedView_lockCommit ..).trans h4
  have h6 : judgedView s6 = (none, s.azl.ledgers, true) := judgedView_variance.trans ((hsaves ..).trans h5)
  have h7 : judgedView s7 = (none, s.azl.ledgers, true) := (judgedView_wrF ..).trans ((judgedView_setAzl _).trans h6)
  have h8 : judgedView s8 = (none, s.azl.ledgers, true) :=
    judgedView_remapNow.trans (judgedView_clearLate.trans (judgedView_quarClusters.trans (judgedView_writeBack.trans h7)))
  have h9 : judgedView s9 = (none, s.azl.ledgers, true) := (hqueue ..).trans h8
  rw [judgedView_lockCompare, judgedView_lockAlign, judgedView_releaseAll, h9]

/-! ### Sessions that end (06 R317) -/

@[simp] theorem judgedView_showFree : judgedView (showFree s) = judgedView s := by
  refine judgedView_congr showFree_sched ?_ showFree_gener
  unfold showFree
  dsimp only
  (repeat' split) <;> simp

@[simp] theorem judgedView_finishBehind (r : CmdRef) (status w6 w7 : Nat) : judgedView (finishBehind s c x r status w6 w7) = judgedView s := by
  unfold finishBehind
  dsimp only
  split
  · rfl
  · split
    · rfl
    · exact judgedView_finish ..

theorem judgedView_endGen (status lost : Nat) : judgedView (endGen s c status lost) = judgedView s := by
  unfold endGen
  dsimp only
  split
  · rw [judgedView_modCtx, judgedView_finishBehind]
  · rfl

theorem judgedView_showPrio : judgedView (showPrio s) = judgedView s := judgedView_wrB ..

theorem judgedView_showDefer : judgedView (showDefer s) = judgedView s := by
  unfold showDefer
  dsimp only
  split <;> rw [judgedView_wrN, judgedView_wrN]

theorem judgedView_cancelJoin : judgedView (cancelJoin s c) = judgedView s := by
  have hcancel : ∀ (b : Bool) r, judgedView (if b then cancelRef s r else s) = judgedView s := fun b r => by
    split
    · exact judgedView_cancelRef r
    · rfl
  unfold cancelJoin
  split
  · dsimp only
    rw [judgedView_showPrio, judgedView_putGener, judgedView_showDefer, judgedView_modCtx, hcancel]
    rfl
  · rfl

theorem judgedView_idleCtx : judgedView (idleCtx s c) = judgedView s := by
  unfold idleCtx
  dsimp only
  rw [judgedView_showFree, judgedView_setCtx, judgedView_putGener, judgedView_cancelRef, judgedView_cancelRef, judgedView_cancelRef,
    judgedView_cancelJoin, judgedView_endGen]
  rfl

/-! ### What is left after a judgement (07 R404, R406, R408, 09 R466, R470) -/

/-- An abandoned step is closed, and its session is lost (09 R470). -/
theorem judgedView_abandonStep : judgedView (abandonStep s c) = (none, s.azl.ledgers, s.gener.atBoundary) := by
  have hclosed : ∀ g : Gener, g.atBoundary = s.gener.atBoundary → ∀ p : Sched, p.done = none →
      judgedView (putGener (putSched s p) g) = (none, s.azl.ledgers, s.gener.atBoundary) := fun g hg p hp => by
    rw [judgedView, putGener_sched, putSched_sched, putGener_azl, putSched_azl, putGener_gener, hp, hg]
  have hev : ∀ (u : State) (b : Bool) y d, judgedView (if b then sessEv u Reg.pageLdg 0x20 0x08 0x0006 y d else u) = judgedView u :=
    fun u b y d => by
      split
      · exact judgedView_raiseEv
      · rfl
  unfold abandonStep
  dsimp only
  rw [judgedView_clearLate, judgedView_recover, judgedView_wrF, hev, judgedView_idleCtx, judgedView_cntReg]
  exact hclosed _ rfl _ rfl

/-- A stop of the group closes the step and drops the ledgers (07 R404, R408). -/
theorem judgedView_stopGroup : judgedView (stopGroup s) = (none, [], s.gener.atBoundary) := by
  have hgener : (dropRunning (stopExec s 0 0)).gener = s.gener := by rw [dropRunning_gener, stopExec_gener]
  have hstop : ∀ (u : State) l a p bits code pos d, u.gener = s.gener → a.ledgers = [] → p.done = none →
      judgedView (azlEvBeside (setAzl (putLock (putSched (putAzl u a) p) l) 5) bits code pos d) = (none, [], s.gener.atBoundary) :=
    fun u l a p bits code pos d hg ha hp => by
      rw [azlEvBeside, raiseBeside, judgedView_raiseEv, judgedView_setEvt, judgedView_setAzl, judgedView_putLock, judgedView, putSched_sched,
        putSched_azl, putAzl_azl, putSched_gener, putAzl_gener, hp, ha, hg]
  unfold stopGroup
  dsimp only
  split
  · rw [judgedView_setLevel]
    exact hstop _ _ _ _ _ _ _ _ hgener rfl rfl
  · exact hstop _ _ _ _ _ _ _ _ hgener rfl rfl

theorem judgedView_stopAll : judgedView (stopAll s) = (none, [], s.gener.atBoundary) := by
  rw [stopAll, judgedView_stopGroup, (sent_flood none).gener]

theorem loadGroupRegs_azl (g : List Nat) : (loadGroupRegs s g).azl = s.azl := by
  unfold loadGroupRegs
  dsimp only
  rw [each_keeps State.azl _ fun _ _ => by simp]
  simp

theorem judgedView_useAlt (a : AltRoute) : judgedView (useAlt a s) = judgedView s := by
  unfold useAlt
  split
  · dsimp only
    rw [judgedView_cntReg, judgedView_congr (loadGroupRegs_sched _) (loadGroupRegs_azl _) (loadGroupRegs_gener _)]
    rfl
  · rfl

/-- A step is closed, and no ledger is held. -/
def Judged (s : State) : Prop := s.sched.done = none ∧ s.azl.ledgers = []

theorem judged_of_view {b : Bool} (h : judgedView s = (none, [], b)) : Judged s := by
  obtain ⟨hdone, hrest⟩ := Prod.mk.inj h
  exact ⟨hdone, (Prod.mk.inj hrest).1⟩

theorem Judged.view (h : Judged s) : judgedView s = (none, [], s.gener.atBoundary) := by rw [judgedView, h.1, h.2]

/-- A change of routes leaves a judged step judged, by a stop of the group too (07 R415). -/
theorem Judged.applyAlts (h : Judged s) : Judged (applyAlts s) := by
  have heach : judgedView (each (altsDue s) useAlt s) = judgedView s := each_keeps judgedView _ (fun a _ => judgedView_useAlt a) _ _
  rw [applyAlts_eq]
  split
  · exact judged_of_view judgedView_stopAll
  · exact judged_of_view (heach.trans h.view)

theorem judged_abandonStep (h : s.azl.ledgers = []) : Judged (abandonStep s c) :=
  judged_of_view (b := s.gener.atBoundary) (by rw [judgedView_abandonStep, h])

/-- A rollback closes the step (07 R404). -/
theorem judged_rollBack {d : DoneStep} {launch positions : Nat} (h : s.azl.ledgers = []) : Judged (rollBack s d launch positions) := by
  have hclosed : ∀ p : Sched, p.done = none → judgedView (putSched s p) = (none, [], s.gener.atBoundary) := fun p hp => by
    rw [judgedView, putSched_sched, putSched_azl, putSched_gener, hp, h]
  unfold rollBack
  dsimp only
  refine Judged.applyAlts (judged_of_view (b := s.gener.atBoundary) ?_)
  rw [judgedView_recover, azlEv, judgedView_raiseEv, judgedView_wrF, judgedView_setAzl, judgedView_cntReg]
  exact hclosed _ rfl

/-- The judgement of a step closes it and holds no ledger any longer (07 R401, R404). -/
theorem judged_judge (ls : List (Nat × Ledger)) (d : DoneStep) : Judged (judge s ls d) := by
  have hdown : ∀ (u : State) (b : Bool) f, judgedView (if b then sendDown u f else u) = judgedView u := fun u b f => by
    split
    · exact judgedView_of_sent sent_sendDown
    · rfl
  have hledgers : ∀ (u : State) (b : Bool) f, (if b then sendDown (putAzl u { u.azl with ledgers := [] }) f
      else putAzl u { u.azl with ledgers := [] }).azl.ledgers = [] := fun u b f => congrArg (fun v => v.2.1) (hdown _ b f)
  unfold judge
  dsimp only
  split
  · exact judged_of_view (judgedView_commitStep _)
  · split
    · exact judged_abandonStep (hledgers ..)
    · split
      · exact judged_of_view judgedView_stopAll
      · exact judged_rollBack (hledgers ..)

end Sys2Proof.Machine

/-!
SUPPORT. The release of tokens (06 R353, 07 R403), and the forming and the going on of a group (07 R381, R407): what they leave.
-/
namespace Sys2Proof.Machine

variable {s t : State} {n : Nat} {f : Frame}

/-! ### A bit of AZL.EVTSTA, once set -/

/-- A bit of AZL.EVTSTA is set (07 R416, 17 R751). -/
def AzlRaised (n : Nat) (s : State) : Prop := rdB s (Reg.pageAzl + 0x14) n = true

theorem AzlRaised.congr (h : AzlRaised n s) (hr : rdReg t (Reg.pageAzl + 0x14) = rdReg s (Reg.pageAzl + 0x14)) : AzlRaised n t :=
  (rdB_congr hr).trans h

/-- An event sets bits and clears none (17 R751). -/
theorem AzlRaised.setEvt (h : AzlRaised n s) (page bits : Nat) : AzlRaised n (setEvt s page bits) := by
  by_cases hp : Reg.pageAzl + 0x14 = page + 0x14
  · rw [AzlRaised, rdB, rbit_eq_getLsbD] at h ⊢
    rw [Machine.setEvt, rdReg_wrReg, if_pos hp, BitVec.getLsbD_or, ← hp, h, Bool.true_or]
  · exact h.congr (rdReg_setEvt hp)

theorem AzlRaised.pushRec (h : AzlRaised n s) (q : Nat) (c : Bool) (r : EvRec) : AzlRaised n (pushRec s q c r) := by
  unfold Machine.pushRec
  dsimp only
  split
  · refine AzlRaised.setEvt ?_ _ _
    refine h.congr ?_
    rw [rdReg_cntReg (by simp only [onPage, Reg.evqLost, Reg.pageAzl]; omega), rdReg_congr (setEvq_regs ..)]
  · refine h.congr ?_
    rw [showEvq, rdReg_wrF (by simp only [onPage, Reg.evqStatus, Reg.pageAzl]; omega),
      rdReg_wrF (by simp only [onPage, Reg.evqStatus, Reg.pageAzl]; omega), rdReg_congr (setEvq_regs ..)]

theorem AzlRaised.raiseEv (h : AzlRaised n s) (page bits : Nat) (dst : Dest) (type inst code w1 : Nat) (d : List Nat) :
    AzlRaised n (raiseEv s page bits dst type inst code w1 d) := by
  have hset : AzlRaised n (if bits = 0 then s else Machine.setEvt s page bits) := by
    split
    · exact h
    · exact h.setEvt _ _
  unfold Machine.raiseEv
  dsimp only
  split
  · exact hset
  · split
    · exact hset.pushRec ..
    · split
      · exact hset.pushRec ..
      · exact hset

theorem AzlRaised.complete1 (h : AzlRaised n s) (c : CmdRef) (status w6 w7 : Nat) : AzlRaised n (complete1 s c status w6 w7) := by
  have hcount : AzlRaised n (completionCounted s c status) := by
    refine h.congr ?_
    rw [completionCounted, cntErr, rdReg_cntReg (by simp only [onPage, Reg.pageCmq, Reg.pageAzl]; omega),
      rdReg_cntReg (by simp only [onPage, Reg.cmqCompleted, Reg.pageAzl]; omega),
      rdReg_wrN (by simp only [onPage, Reg.cmqOutstanding, Reg.pageAzl]; omega), rdReg_congr (setRing_regs ..)]
  rw [complete1_eq]
  split
  · refine hcount.congr ?_
    rw [freeSlot, showEvq, rdReg_wrF (by simp only [onPage, Reg.evqStatus, Reg.pageAzl]; omega),
      rdReg_wrF (by simp only [onPage, Reg.evqStatus, Reg.pageAzl]; omega), rdReg_congr (setEvq_regs ..)]
  · exact hcount.pushRec ..

theorem AzlRaised.finish (h : AzlRaised n s) (c : CmdRef) (status w6 w7 : Nat) : AzlRaised n (finish s c status w6 w7) := by
  unfold Machine.finish complete
  dsimp only
  split
  · exact h
  · split
    · exact ((h.complete1 ..).congr (rdReg_congr (setRing_regs ..) _)).complete1 ..
    · exact h.complete1 ..

/-! ### The release of tokens (06 R352, R353, 07 R403) -/

theorem finish_azl (c : CmdRef) (status w6 w7 : Nat) : (finish s c status w6 w7).azl = s.azl := by
  unfold finish
  split
  · rfl
  · exact complete_azl ..

/-- What a release of tokens leaves: the scheduler, the contexts, Azlink, and what has been raised there. -/
structure Released (n : Nat) (s t : State) : Prop where
  sched : t.sched = s.sched
  gener : t.gener = s.gener
  azl : t.azl = s.azl
  raised : AzlRaised n s → AzlRaised n t

theorem Released.refl (n : Nat) (s : State) : Released n s s := ⟨rfl, rfl, rfl, id⟩

theorem Released.trans {u : State} (h : Released n s t) (h' : Released n t u) : Released n s u :=
  ⟨h'.sched.trans h.sched, h'.gener.trans h.gener, h'.azl.trans h.azl, h'.raised ∘ h.raised⟩

theorem released_afterTok (r : TokRec) : Released n s (afterTok s r) := by
  have hev : ∀ (b : Bool) d, Released n s (if b then raiseEv s Reg.pageSlu 8 (.ring r.ring) 0x20 0 0x0005 r.sid d else s) := fun b d => by
    split
    · exact ⟨raiseEv_sched .., raiseEv_gener .., raiseEv_azl .., fun h => h.raiseEv ..⟩
    · exact .refl n s
  unfold afterTok
  dsimp only
  split
  · exact (hev _ _).trans ⟨finish_sched .., finish_gener .., finish_azl .., fun h => h.finish ..⟩
  · exact hev _ _

theorem released_releaseTok (r : TokRec) : Released n s (releaseTok s r) := by
  unfold releaseTok
  split
  · refine Released.trans ?_ (released_afterTok r)
    split
    · exact ⟨hostWords_sched .., hostWords_gener .., hostWords_azl .., fun h => h.congr (rdReg_congr (hostWords_regs ..) _)⟩
    · exact .refl n s
  · exact ⟨rfl, rfl, rfl, id⟩

theorem released_tokens (ts : List TokRec) : Released n s (each ts (fun t s => releaseTok s t) s) := by
  induction ts generalizing s with
  | nil => exact .refl n s
  | cons t ts ih => exact (released_releaseTok t).trans ih

/-- A step whose tokens have gone is the last released (07 R403, R416). -/
theorem releaseToks_holds (step : Nat) (ts : List TokRec) : (releaseToks s step ts).azl = { s.azl with released := step }
    ∧ rdN (releaseToks s step ts) Reg.azlReleasedLo = step % 2 ^ 32 := by
  have hazl := (released_tokens (n := 0) (s := s) ts).azl
  constructor
  · rw [releaseToks, putAzl_azl, wrN_azl, hazl]
  · rw [releaseToks, rdN_congr (rdReg_congr (putAzl_regs ..) _), rdN_wrN_same, lo32, Nat.mod_mod]

/-- Waiting steps that are released leave all but themselves and the number of the last released (07 R403). -/
theorem releaseSome_holds (k : Nat) : (releaseSome k s).sched = s.sched ∧ (releaseSome k s).gener = s.gener
    ∧ (∃ q r, (releaseSome k s).azl = { s.azl with releaseQ := q, released := r }) ∧ (AzlRaised n s → AzlRaised n (releaseSome k s)) := by
  induction k generalizing s with
  | zero => exact ⟨rfl, rfl, ⟨_, _, rfl⟩, id⟩
  | succ k ih =>
    unfold releaseSome
    split
    · exact ⟨rfl, rfl, ⟨_, _, rfl⟩, id⟩
    · next step ts q _ =>
      split
      · have htoks := released_tokens (n := n) (s := putAzl s { s.azl with releaseQ := q }) ts
        obtain ⟨hsched, hgener, ⟨q', r, hazl⟩, hraised⟩ := ih (s := releaseToks (putAzl s { s.azl with releaseQ := q }) step ts)
        refine ⟨hsched.trans htoks.sched, hgener.trans htoks.gener, ⟨q', r, ?_⟩, fun h => hraised ?_⟩
        · rw [hazl, (releaseToks_holds step ts).1]
          rfl
        · have hput : AzlRaised n (putAzl s { s.azl with releaseQ := q }) := h.congr (rdReg_congr (putAzl_regs ..) _)
          refine (htoks.raised hput).congr ?_
          rw [releaseToks, rdReg_congr (putAzl_regs ..), rdReg_wrN (by decide)]
      · exact ⟨rfl, rfl, ⟨_, _, rfl⟩, id⟩

/-! ### The forming of a group (07 R381) -/

theorem becomeGrouped_holds (base : Nat) : (becomeGrouped s base).azl.formed = [] ∧ (becomeGrouped s base).azl.stepBase = base
    ∧ (becomeGrouped s base).azl.reformed = true ∧ (becomeGrouped s base).azl.waitSince = none
    ∧ (becomeGrouped s base).gener = { s.gener with again := true } := by
  have hazl : ∀ u : State, (if svcLevel u = 4 then setLevel u 5 else u).azl = u.azl := fun u => by
    split
    · exact setLevel_azl 5
    · rfl
  have hgener : ∀ u : State, (if svcLevel u = 4 then setLevel u 5 else u).gener = u.gener := fun u => by
    split
    · exact setLevel_gener 5
    · rfl
  unfold becomeGrouped
  dsimp only
  rw [hazl, hgener, azlEv, raiseEv_azl, raiseEv_gener, putGener_azl, putAzl_azl, putGener_gener, wr64_gener, setAzl, wrF_gener]
  exact ⟨rfl, rfl, rfl, rfl, rfl⟩

end Sys2Proof.Machine

/-!
What the entry does with the frames of its members (07 R381, R400 to R419).
-/
namespace Sys2Proof.Machine

variable {s t : State} {n pos step : Nat} {f : Frame}

/-! ### LEDGER (07 R400, R401) -/

/-- A ledger of the current step is held, and with every position's held and the step done it is judged. -/
theorem ledgerIn_of_current (hentry : isEntry s = true) (hwait : azlState s ≠ 4) (hstop : azlState s ≠ 5) (hstep : f45 f = currentStep s)
    (hnew : ∀ l ∈ s.azl.ledgers, l.1 ≠ f.src) : let ls := s.azl.ledgers ++ [(f.src, ledgerOf f.payload)]
    let u := putAzl s { s.azl with ledgers := ls }
    ledgerIn s f = match s.sched.done with
      | some d => if ls.length = groupSize s then judge u (sortBy (fun a b => decide (a.1 ≤ b.1)) ls) d else u
      | none => u := by
  have hany : ¬ (azlState s = 4 ∨ azlState s = 5 ∨ f45 f ≠ currentStep s ∨ s.azl.ledgers.any (fun l => l.1 == f.src) = true) := by
    rintro (h | h | h | h)
    · exact hwait h
    · exact hstop h
    · exact h hstep
    · obtain ⟨l, hl, hsrc⟩ := List.any_eq_true.mp h
      exact hnew l hl (eq_of_beq hsrc)
  unfold ledgerIn
  rw [hentry, if_neg hany]
  rfl

/-! ### COMMITTED (07 R402, R403) -/

/-- What a position has committed is known from its COMMITTED, and what the others have stays known (07 R402). -/
theorem committed_noteCommitted : let c := (noteCommitted s pos step).azl.committed
    (∃ m, (pos, m) ∈ c ∧ step ≤ m) ∧ ∀ p ≠ pos, ∀ m, (p, m) ∈ c ↔ (p, m) ∈ s.azl.committed := by
  refine ⟨⟨_, List.mem_cons_self, le_max_right ..⟩, fun p hp m => ?_⟩
  simp [noteCommitted, hp]

/-- Every other position of the group has committed a step. -/
def AllCommitted (s : State) (n : Nat) : Prop :=
  ∀ p < groupSize s, p ≠ memberPos s → ∃ x ∈ s.azl.committed, x.1 = p ∧ n ≤ x.2

theorem mayRelease_iff (hin : inGroup s = true) : mayRelease s n = true
    ↔ (∀ h ∈ s.lock.held, h.2 ≠ n) ∧ n ∉ s.lock.orphans ∧ AllCommitted s n := by
  simp [mayRelease, hin, AllCommitted, or_iff_not_imp_left, and_assoc]

theorem releaseAll_of_barred {ts : List TokRec} {q : List (Nat × List TokRec)} (hq : s.azl.releaseQ = (n, ts) :: q)
    (h : mayRelease s n = false) : releaseAll s = s := by
  rw [releaseAll, hq, List.length_cons, releaseSome, hq]
  dsimp only
  rw [h, if_neg Bool.false_ne_true]

theorem releaseAll_of_last {ts : List TokRec} (hq : s.azl.releaseQ = [(n, ts)]) (h : mayRelease s n = true) :
    releaseAll s = releaseToks (putAzl s { s.azl with releaseQ := [] }) n ts := by
  rw [releaseAll, hq, List.length_cons, releaseSome, hq]
  dsimp only
  rw [h, if_pos rfl, List.length_nil, releaseSome]

/-! ### FORMED (07 R381) -/

theorem formedIn_of_new (hmember : memberPart s = false) (hnew : f.src ∉ s.azl.formed) (hforming : s.azl.formed ≠ []) :
    let u := putAzl s { s.azl with formed := f.src :: s.azl.formed }
    formedIn s f = if s.azl.formed.length + 1 < groupSize s then u else becomeGrouped (sendDown u (formFrame u 0x17)) (lastCommit u) := by
  have hempty : s.azl.formed.isEmpty = false := by simpa using hforming
  unfold formedIn
  dsimp only
  rw [hmember, if_neg Bool.false_ne_true, List.contains_eq_mem, decide_eq_false hnew, if_neg Bool.false_ne_true, hempty, List.length_cons]
  simp only [Bool.false_eq_true, or_false]

/-! ### REJOIN (07 R407) -/

/-- The state once a member's return has been noted (07 R407, R419). -/
def memberBack (s : State) (pos step : Nat) : State :=
  let u := azlEv (noteCommitted s pos step) 0x20 0x0007 pos [lo32 step, hi32 step, 0, 0]
  putAzl u { u.azl with losses := u.azl.losses.filter fun l => l.2 != pos }

theorem azl_azlEv (bits code : Nat) (d : List Nat) : (azlEv s bits code pos d).azl = s.azl := raiseEv_azl ..

theorem memberBack_holds : (memberBack s pos step).sched = s.sched ∧ (memberBack s pos step).gener = s.gener
    ∧ (memberBack s pos step).azl = { (noteCommitted s pos step).azl with losses := s.azl.losses.filter fun l => l.2 != pos }
    ∧ AzlRaised 5 (memberBack s pos step) ∧ ∀ o, 0x20000 ≤ o → o ≠ Reg.pageAzl + 0x14 → rdReg (memberBack s pos step) o = rdReg s o := by
  have hazl := azl_azlEv (s := noteCommitted s pos step) (pos := pos) 0x20 0x0007 [lo32 step, hi32 step, 0, 0]
  refine ⟨?_, ?_, ?_, ?_, fun o ho hne => ?_⟩
  · rw [memberBack, putAzl_sched, azlEv, raiseEv_sched]
    rfl
  · rw [memberBack, putAzl_gener, azlEv, raiseEv_gener]
    rfl
  · rw [memberBack, putAzl_azl, hazl]
    rfl
  · exact rdB_raiseEv_evtsta (.inr (by decide)) (by decide) (by decide)
  · rw [memberBack, rdReg_congr (putAzl_regs ..), azlEv, rdReg_raiseEv_block ho hne]
    rfl

/-- The return that answers the last loss but the entry's own, its ports accepted again, lets the group go on (07 R407). -/
theorem rejoined_eq : rejoined s pos step
    = if ((memberBack s pos step).azl.losses.all fun l => l.2 == memberPos s) && portsReady (memberBack s pos step)
      then releaseAll (acceptRejoin (memberBack s pos step)) else memberBack s pos step := rfl

theorem portsReady_congr (hg : t.gener = s.gener) (hr : ∀ k, rdReg t (onPage Reg.portStatus k) = rdReg s (onPage Reg.portStatus k)) :
    portsReady t = portsReady s := by
  have hports : groupPorts t = groupPorts s := by rw [groupPorts, groupRec, hg, groupPorts, groupRec]
  have hhs : (fun k => hsOf t k == 2) = fun k => hsOf s k == 2 := funext fun k => by rw [hsOf, rdF_congr (hr k), hsOf]
  rw [portsReady, hports, hhs, portsReady]

theorem discarded_congr (hs : t.sched = s.sched) (hc : lastCommit t = lastCommit s) : discarded t = discarded s := by
  rw [discarded, hs, hc, discarded]

/-- The group goes on: no loss and no ledger is left, and the step that the loss discarded is replayed (07 R392, R407). -/
theorem acceptRejoin_holds : (acceptRejoin s).azl.waitSince = none ∧ (acceptRejoin s).azl.ledgers = [] ∧ (acceptRejoin s).azl.losses = []
    ∧ (AzlRaised n s → AzlRaised n (acceptRejoin s)) ∧ (discarded s = none → (acceptRejoin s).gener.again = true)
    ∧ ∀ r, discarded s = some r → (acceptRejoin s).sched.replay = true
      ∧ ∃ l, (acceptRejoin s).sched.nextStep = some { r with launch := l } ∧ (acceptRejoin s).sched.nextLaunch = some l := by
  have hdown : Sent s (sendDown s (formFrame s 0x17)) := sent_sendDown
  have hdisc : ∀ a, discarded (putAzl (setAzl (sendDown s (formFrame s 0x17)) 2) a) = discarded s := fun a => by
    refine discarded_congr hdown.sched ?_
    have hreg : ∀ o, o < Reg.pageAzp → o ≠ Reg.azlState →
        rdReg (putAzl (setAzl (sendDown s (formFrame s 0x17)) 2) a) o = rdReg s o := fun o ho hne => by
      rw [rdReg_congr (putAzl_regs ..), setAzl, rdReg_wrF hne, hdown.rdReg_azl ho]
    rw [lastCommit, rd64, rdN_congr (hreg _ (by decide) (by decide)), rdN_congr (hreg _ (by decide) (by decide)), lastCommit, rd64]
  have hraised : ∀ (u : State) v, AzlRaised n u → AzlRaised n (setAzl u v) := fun u v h => h.congr (rdReg_wrF (by decide))
  have hsent : ∀ (u : State) f, AzlRaised n u → AzlRaised n (sendDown u f) := fun u f h => h.congr (sent_sendDown.rdReg_azl (by decide))
  unfold acceptRejoin
  dsimp only
  split
  · next r hr =>
    rw [hdisc] at hr
    refine ⟨?_, ?_, ?_, fun h => ?_, fun hno => ?_, fun r' hr' => ?_⟩
    · exact (sent_sendDown.azlKeeps AzlState.waitSince fun _ _ => rfl)
    · exact (sent_sendDown.azlKeeps AzlState.ledgers fun _ _ => rfl)
    · exact (sent_sendDown.azlKeeps AzlState.losses fun _ _ => rfl)
    · exact hsent _ _ ((hraised _ 3 ((hraised _ 2 (hsent _ _ h)).congr (rdReg_congr (putAzl_regs ..) _))).congr (rdReg_congr (putSched_regs ..) _))
    · rw [hr] at hno
      cases hno
    · rw [hr] at hr'
      obtain rfl := Option.some.inj hr'
      rw [sent_sendDown.sched]
      exact ⟨rfl, _, rfl, rfl⟩
  · next hr =>
    rw [hdisc] at hr
    refine ⟨rfl, rfl, rfl, fun h => ?_, fun _ => rfl, fun r' hr' => ?_⟩
    · exact (hraised _ 2 (hsent _ _ h)).congr ((rdReg_congr (putGener_regs ..) _).trans (rdReg_congr (putAzl_regs ..) _))
    · rw [hr] at hr'
      cases hr'

theorem losses_memberBack : (memberBack s pos step).azl.losses = s.azl.losses.filter fun l => l.2 != pos := by
  rw [memberBack_holds.2.2.1]

theorem portsReady_memberBack : portsReady (memberBack s pos step) = portsReady s :=
  portsReady_congr memberBack_holds.2.1 fun k => memberBack_holds.2.2.2.2 _ (by simp only [onPage, Reg.portStatus]; omega)
    (by simp only [onPage, Reg.portStatus, Reg.pageAzl]; omega)

/-- A member that is back where others are still awaited is noted, and the package waits on (07 R407). -/
theorem rejoined_of_awaited (h : ¬ ((∀ l ∈ s.azl.losses.filter fun l => l.2 != pos, l.2 = memberPos s) ∧ portsReady s = true)) :
    rejoined s pos step = memberBack s pos step := by
  rw [rejoined_eq, losses_memberBack, portsReady_memberBack, if_neg]
  simpa [or_iff_not_imp_left] using h

theorem rejoined_of_last (hall : ∀ l ∈ s.azl.losses.filter fun l => l.2 != pos, l.2 = memberPos s) (hready : portsReady s = true) :
    rejoined s pos step = releaseAll (acceptRejoin (memberBack s pos step)) := by
  rw [rejoined_eq, losses_memberBack, portsReady_memberBack, hready, if_pos]
  simpa [or_iff_not_imp_left] using hall

/-! ### JOIN (07 R414) -/

/-- CLOSE_SESSION that a site forwards ends its session at the entry (06 R317, 07 R414). -/
theorem ctxOf_doClose_of_opened {c : Cmd} {y : Context} (hentry : isEntry s = true) (hfn : c.fn = 0) (himage : s.gener.image ≠ none)
    (hsid : ctxBySid s c.sid = some (n, y)) (hst : y.st = .opened) (hclose : y.closeAfter = false) : ctxOf (doClose s c) n = {} := by
  have hsess : findSess s c = some (n, y) := by rw [findSess, hsid, hfn]; rfl
  have hdeny : notEntry s = false := by rw [notEntry, hentry, Bool.not_true, Bool.and_false]
  rw [doClose_of_pass hdeny himage hsess (by rw [hst]; decide) (by rw [hst]; decide) hclose, closeAsked, if_pos hst, ctxOf, finish_gener, ← ctxOf,
    ctxOf_idleCtx_same]

/-- Settles O40: each kind of frame by what the entry does with it once it is accepted. -/
theorem entryFramesRun : Obligations.EntryFramesRun := by
  intro s s2 k f hentry
  refine ⟨fun hacc hwait hstop hstep hnew => ?_, fun n ts q hacc hin hq => ?_, fun hacc hmember hnew hforming => ?_, fun hacc => ?_,
    fun hacc hwait => ?_, fun hacc => ?_⟩
  · have hexec : exec (.ledger k f) s = .next (ledgerIn s2 f) := rxSeqFrame_of_accepted (act := fun s => ledgerIn s f) hacc
    rw [ledgerIn_of_current hentry hwait hstop hstep hnew] at hexec
    refine ⟨fun h => ?_, fun hdone hall => ?_⟩
    · split at hexec
      · next d hd =>
        rw [if_neg (h.resolve_left (by rw [hd]; nofun))] at hexec
        exact ⟨_, hexec, rfl, rfl⟩
      · exact ⟨_, hexec, rfl, rfl⟩
    · split at hexec
      · next d hd =>
        rw [if_pos (by exact hall)] at hexec
        obtain ⟨hnone, hempty⟩ := judged_judge _ d
        exact ⟨_, hexec, hnone, hempty⟩
      · next hd => exact absurd hd hdone
  · have hexec : exec (.committed k f) s = .next (releaseAll (noteCommitted s2 f.src (f45 f))) := by
      have h : exec (.committed k f) s = .next (committedIn s2 f) := rxSeqFrame_of_accepted (act := fun s => committedIn s f) hacc
      rw [h, committedIn, hentry]
      rfl
    obtain ⟨hsrc, hothers⟩ := committed_noteCommitted (s := s2) (pos := f.src) (step := f45 f)
    have hmay := mayRelease_iff (s := noteCommitted s2 f.src (f45 f)) (n := n) hin
    refine ⟨hsrc, hothers, fun hdone => ?_, fun hdone hheld horphan hlast => ?_⟩
    · rw [releaseAll_of_barred (s := noteCommitted s2 f.src (f45 f)) hq (Bool.eq_false_iff.mpr fun h => hdone (hmay.mp h).2.2)] at hexec
      exact ⟨_, hexec, rfl, rfl, rfl⟩
    · rw [releaseAll_of_last (by rw [← hlast]; exact hq) (hmay.mpr ⟨hheld, horphan, hdone⟩)] at hexec
      obtain ⟨hazl, hreg⟩ := releaseToks_holds (s := putAzl (noteCommitted s2 f.src (f45 f))
        { (noteCommitted s2 f.src (f45 f)).azl with releaseQ := [] }) n ts
      exact ⟨_, hexec, by rw [hazl]; rfl, by rw [hazl]; rfl, by rw [hazl], hreg⟩
  · have hexec : exec (.formed k f) s = .next (formedIn s2 f) := rxSeqFrame_of_accepted (act := fun s => formedIn s f) hacc
    rw [formedIn_of_new hmember hnew hforming] at hexec
    refine ⟨fun hmore => ?_, fun hfull => ?_⟩
    · rw [if_pos hmore] at hexec
      exact ⟨_, hexec, rfl⟩
    · rw [if_neg (Nat.not_lt.mpr hfull)] at hexec
      obtain ⟨hformed, hbase, hreformed, hwaits, -⟩ := becomeGrouped_holds (s := sendDown (putAzl s2 { s2.azl with formed := f.src :: s2.azl.formed })
        (formFrame (putAzl s2 { s2.azl with formed := f.src :: s2.azl.formed }) 0x17)) (lastCommit s2)
      exact ⟨_, hexec, hformed, hbase, hreformed, hwaits⟩
  · have hexec : exec (.staged k f) s = .next (if isEntry s2 then noteStaged s2 f.src (fld f.w4 15 0) else sendUp s2 f) :=
      rxSeqFrame_of_accepted (act := fun s => if isEntry s then noteStaged s f.src (fld f.w4 15 0) else sendUp s f) hacc
    rw [hentry, if_pos rfl] at hexec
    exact ⟨_, hexec, rfl⟩
  · have hexec : exec (.rejoin k f) s = .next (rejoinIn s2 f) := rxSeqFrame_of_accepted (act := fun s => rejoinIn s f) hacc
    obtain ⟨hsched, hgener, hazl, hraised, hregs⟩ := memberBack_holds (s := s2) (pos := f.src) (step := f45 f)
    have hback : f45 f = lastCommit s2 → exec (.rejoin k f) s = .next (rejoined s2 f.src (f45 f)) := fun h => by
      rw [hexec, rejoinIn, hentry, Bool.not_true, if_neg Bool.false_ne_true, if_neg (not_not.mpr hwait), if_pos h]
    have hcommit : lastCommit (memberBack s2 f.src (f45 f)) = lastCommit s2 := by
      rw [lastCommit, rd64, rdN_congr (hregs _ (by decide) (by decide)), rdN_congr (hregs _ (by decide) (by decide)), lastCommit, rd64]
    refine ⟨fun hstep hmore => ?_, fun hstep hall hready => ?_, fun hstep hlost => ?_⟩
    · rw [hback hstep, rejoined_of_awaited hmore]
      exact ⟨_, rfl, by rw [hazl], (rdF_congr (hregs _ (by decide) (by decide))).trans hwait, hsched, hraised⟩
    · rw [hback hstep, rejoined_of_last hall hready]
      obtain ⟨hwaits, hledgers, hlosses, hkeeps, hagain, hreplay⟩ := acceptRejoin_holds (n := 5) (s := memberBack s2 f.src (f45 f))
      obtain ⟨hrsched, hrgener, ⟨q, r, hrazl⟩, hrraised⟩ := releaseSome_holds (n := 5) (s := acceptRejoin (memberBack s2 f.src (f45 f)))
        (acceptRejoin (memberBack s2 f.src (f45 f))).azl.releaseQ.length
      rw [discarded_congr hsched hcommit] at hagain hreplay
      rw [releaseAll]
      refine ⟨_, rfl, ?_, ?_, ?_, hrraised (hkeeps hraised), fun h => ?_, fun r' h => ?_⟩
      · rw [hrazl, hwaits]
      · rw [hrazl, hledgers]
      · rw [hrazl, hlosses]
      · rw [hrgener, hagain h]
      · rw [hrsched]
        exact hreplay r' h
    · rw [hexec, rejoinIn, hentry, Bool.not_true, if_neg Bool.false_ne_true, if_neg (not_not.mpr hwait), if_neg hstep, if_neg hlost]
  · have hexec : exec (.join k f) s = .next (joinIn s2 f) := rxSeqFrame_of_accepted (act := fun s => joinIn s f) hacc
    rw [joinIn, hentry] at hexec
    refine ⟨_, hexec, rfl, fun n y hop himage hsid hst hclose => ?_⟩
    have hclose' := ctxOf_doClose_of_opened (c := ⟨{ remote := true, tag := fld (nthN f.payload 0) 15 0, op := opcodeOf f.payload }, f.payload, 0⟩)
      hentry rfl himage hsid hst hclose
    rw [hop] at hclose' ⊢
    exact hclose'

end Sys2Proof.Machine

/-!
SUPPORT. What neither the counter nor the image's presence feels of received frames (07 R371 to R374), and the handshake state that a HELLO leaves
(07 R378, R379).
-/
namespace Sys2Proof.Machine

variable {s t : State} {k : Nat} {f : Frame}

/-! ### The global counter over a received frame (00 R4) -/

theorem dropRunning_count : (dropRunning s).count = s.count := by unfold dropRunning; split <;> rfl

theorem noteLoss_count (a b : Nat) : (noteLoss s a b).count = s.count := by unfold noteLoss; split <;> rfl

theorem enterWait_count (pos phase port : Nat) (mine known : Bool) : (enterWait s pos phase port mine known).count = s.count := by
  rw [enterWait, azlEv, raiseEv_count, setAzl, wrF_count, putAzl_count, wrN_count, dropRunning_count, stopExec_count]

theorem partnerLoss_count : (partnerLoss s k).count = s.count := by
  unfold partnerLoss
  dsimp only
  split
  · rw [(sent_flood none).count, noteLoss_count]
  · rw [enterWait_count, (sent_flood none).count, noteLoss_count]

theorem twinLost_count : (twinLost s k).count = s.count := by
  rw [twinLost, lockHalt, fireHalt_count, wr64_count, wrB_count, raiseEv_count, wrB_count]

theorem reroute_count (w : LinkWait) : (reroute s w).count = s.count := by
  rw [reroute, azlEv, raiseEv_count]
  split <;> rfl

theorem declareLoss_count : (declareLoss s k).count = s.count := by
  have hmod : ∀ (u : State) g, (modPort u k g).count = u.count := fun _ _ => rfl
  unfold declareLoss
  dsimp only
  split
  · rfl
  · split
    · rw [twinLost_count, hmod, setEvt_count, wrB_count, setHs, wrF_count]
    · split
      · rw [hmod, setEvt_count, wrB_count, setHs, wrF_count]
      · split
        · split
          · rw [reroute_count, (sent_flood none).count, putAzl_count, hmod, setEvt_count, wrB_count, setHs, wrF_count]
          · rw [putAzl_count, (sent_flood none).count, putAzl_count, hmod, setEvt_count, wrB_count, setHs, wrF_count]
        · rw [partnerLoss_count, hmod, setEvt_count, wrB_count, setHs, wrF_count]

theorem floodHold_count (start len : Nat) (c : FreezeCause) : (floodHold s start len c).count = s.count := by
  rw [floodHold, azlEvBeside, raiseBeside, raiseEv_count, setEvt_count, cntReg_count, stretchDue_count, addFreeze, putSched_count,
    (sent_flood none).count, putAzl_count]

theorem retryFrame_count (seq : Nat) : (retryFrame s k seq).count = s.count := by
  unfold retryFrame
  split
  · rfl
  · dsimp only
    split
    · exact declareLoss_count
    · split
      · split
        · rw [cntReg_count, sent_resend.count]
        · rw [setEvt_count, cntReg_count, floodHold_count, sent_resend.count]
      · rw [cntReg_count, sent_resend.count]

theorem takeAck_count : (takeAck s k f).count = s.count := by
  have hall : ∀ (u : State) xs, (retryAll u k xs).count = u.count := fun u xs => each_keeps State.count _ (fun _ _ => retryFrame_count _) xs u
  have hwait : ∀ u : State, (sendWaiting u k).count = u.count := fun u =>
    each_keeps State.count _ (fun _ _ => (sent_putOut.count.trans (sent_modPort _).count :)) _ u
  unfold takeAck
  dsimp only
  split
  · rfl
  · rw [hwait]
    split
    · rw [hall]; rfl
    · rfl

/-- An accepted frame comes in the count in which it is received (00 R4). -/
theorem count_of_accepted {kind : Nat} (h : Accepted s k kind f t) : t.count = s.count := by
  obtain ⟨-, -, -, -, -, -, hs2, -⟩ := h
  rw [hs2, modPort_count, takeAck_count]
  rfl

/-! ### Alternate routes (07 R415) -/

theorem stopGroup_count : (stopGroup s).count = s.count := by
  have hlevel : ∀ (u : State) n, (setLevel u n).count = u.count := fun u n => by
    unfold setLevel
    dsimp only
    (repeat' split) <;> simp
  unfold stopGroup
  dsimp only
  split
  · rw [hlevel, azlEvBeside, raiseBeside, raiseEv_count, setEvt_count, setAzl, wrF_count, putLock_count, putSched_count, putAzl_count,
      dropRunning_count, stopExec_count]
  · rw [azlEvBeside, raiseBeside, raiseEv_count, setEvt_count, setAzl, wrF_count, putLock_count, putSched_count, putAzl_count,
      dropRunning_count, stopExec_count]

theorem stopAll_count : (stopAll s).count = s.count := by rw [stopAll, stopGroup_count, (sent_flood none).count]

/-- A change of routes keeps the counter, and a package with an image has one still (07 R415). -/
def imaged (s : State) : Nat × Bool := (s.count, s.gener.image.isSome)

theorem imaged_useAlt (a : AltRoute) : imaged (useAlt a s) = imaged s := by
  have hcount : ∀ (u : State) g, (loadGroupRegs u g).count = u.count := fun u g => by
    unfold loadGroupRegs
    dsimp only
    rw [each_keeps State.count _ fun _ _ => by simp]
    simp
  unfold useAlt
  split
  · next im him =>
    dsimp only
    rw [imaged, cntReg_count, cntReg_gener, hcount, loadGroupRegs_gener, putGener_count, putGener_gener, imaged, him]
    rfl
  · rfl

theorem imaged_applyAlts : imaged (applyAlts s) = imaged s := by
  have heach : imaged (each (altsDue s) useAlt s) = imaged s := each_keeps imaged _ (fun a _ => imaged_useAlt a) _ _
  rw [applyAlts_eq]
  split
  · rw [← heach, imaged, stopAll_count, stopAll_holds.1, imaged]
  · exact heach

/-! ### The handshake state that a HELLO leaves (07 R378, R379) -/

theorem rdReg_status_answerForm : rdReg (answerForm s) (onPage Reg.portStatus k) = rdReg s (onPage Reg.portStatus k) := by
  unfold answerForm
  split
  · exact (rdReg_congr (putAzl_regs ..) _).trans (portReg_status.rdReg_of_sent sent_sendUp)
  · rfl

theorem rdReg_status_startForm : rdReg (startForm s) (onPage Reg.portStatus k) = rdReg s (onPage Reg.portStatus k) := by
  unfold startForm
  split
  · exact (rdReg_congr (putAzl_regs ..) _).trans (portReg_status.rdReg_of_sent sent_sendDown)
  · rfl

theorem rdReg_status_askRejoin {j : Nat} : rdReg (askRejoin s j) (onPage Reg.portStatus k) = rdReg s (onPage Reg.portStatus k) := by
  unfold askRejoin
  split
  · exact portReg_status.rdReg_of_sent sent_sendUp
  · rfl

/-- An accepted peer's port says so (07 R378, R417). -/
theorem hsOf_acceptPeer : hsOf (acceptPeer s k f) k = 2 := by
  have hport : ∀ (u : State) g, rdReg (modPort (forgetLink u k) k g) (onPage Reg.portStatus k) = rdReg u (onPage Reg.portStatus k) := fun u g =>
    (rdReg_congr (modPort_regs ..) _).trans (rdReg_congr (putAzl_regs ..) _)
  have hhs : ∀ (u : State) a v b, hsOf (wrB (wrB (wrF (wrF (wrF (setHs u k 2) (onPage Reg.portStatus k) 7 4 0) (onPage Reg.portStatus k) 15 8 a)
      (onPage Reg.portStatus k) 18 16 v) (onPage Reg.portStatus k) 19 false) (onPage Reg.portStatus k) 20 b) k = 2 := fun u a v b => by
    rw [hsOf, rdF_wrB_other _ _ (by decide) (by decide) (by decide), rdF_wrB_other _ _ (by decide) (by decide) (by decide),
      rdF_wrF_other _ _ (by decide) (by decide) (by decide) (by decide), rdF_wrF_other _ _ (by decide) (by decide) (by decide) (by decide),
      rdF_wrF_other _ _ (by decide) (by decide) (by decide) (by decide), setHs, rdF_wrF_same _ _ (by decide) (by decide)]
    rfl
  unfold acceptPeer
  dsimp only
  split
  · rw [hsOf, rdF_congr (hport _ _)]
    exact hhs _ _ _ _
  · rw [hsOf, rdF_congr rdReg_status_askRejoin, rdF_congr rdReg_status_answerForm, rdF_congr rdReg_status_startForm, rdF_congr (hport _ _)]
    exact hhs _ _ _ _

/-- A refused peer's port says so, with the cause (07 R378, R417). -/
theorem hsOf_refusePeer (cause pos : Nat) : hsOf (refusePeer s k cause pos) k = 3
    ∧ rdF (refusePeer s k cause pos) (onPage Reg.portStatus k) 7 4 = cause % 16 := by
  have hevt : ∀ (u : State) d, rdReg (azlEv (setEvt u (portPage k) 8) 0 0x0002 pos d) (onPage Reg.portStatus k) = rdReg u (onPage Reg.portStatus k) :=
    fun u d => by
      rw [azlEv, portReg_status.rdReg_raiseEv (by decide), rdReg_setEvt (by simp only [portPage, onPage, Reg.portStatus, Reg.pageAzp]; omega)]
  constructor
  · rw [hsOf, refusePeer, rdF_congr (hevt _ _), rdF_wrF_other _ _ (by decide) (by decide) (by decide) (by decide),
      rdF_wrF_other _ _ (by decide) (by decide) (by decide) (by decide), setHs, rdF_wrF_same _ _ (by decide) (by decide)]
    rfl
  · rw [refusePeer, rdF_congr (hevt _ _), rdF_wrF_other _ _ (by decide) (by decide) (by decide) (by decide),
      rdF_wrF_same _ _ (by decide) (by decide)]
    rfl

theorem refusal_lt (s : State) (k : Nat) (f : Frame) : refusal s k f < 16 := by
  unfold refusal
  dsimp only
  (repeat' split) <;> decide

/-- A HELLO on a port with its delay measured is accepted or refused, by R378. -/
theorem helloIn_of_measured (hbit : rdB s (onPage Reg.portStatus k) 1 = true) :
    (refusal s k f = 0 → bitN f.w6 16 = false → hsOf (helloIn s k f) k = 2)
      ∧ (refusal s k f ≠ 0 → hsOf (helloIn s k f) k = 3 ∧ rdF (helloIn s k f) (onPage Reg.portStatus k) 7 4 = refusal s k f) := by
  have hhello : helloIn s k f = (let s1 := if answersHello s k (refusal s k f) f then sendHello s k (refusal s k f) else s
      if refusal s k f ≠ 0 then refusePeer s1 k (refusal s k f) f.src
      else if bitN f.w6 16 then refusePeer s1 k (fld f.w7 3 0) f.src else acceptPeer s1 k f) := by
    rw [helloIn, hbit]
    rfl
  rw [hhello]
  dsimp only
  refine ⟨fun hok hbit => ?_, fun hbad => ?_⟩
  · rw [if_neg (not_not.mpr hok), hbit, if_neg Bool.false_ne_true]
    exact hsOf_acceptPeer
  · rw [if_pos hbad]
    obtain ⟨hhs, hcause⟩ := hsOf_refusePeer (s := if answersHello s k (refusal s k f) f then sendHello s k (refusal s k f) else s) (k := k)
      (refusal s k f) f.src
    exact ⟨hhs, hcause.trans (Nat.mod_eq_of_lt (refusal_lt s k f))⟩

end Sys2Proof.Machine

/-!
PROOF. O41: what a member does with the frames of the entry, and with flooded frames (07 R371, R378, R381, R393, R396, R402, R405, R407, R411).
-/
namespace Sys2Proof.Machine

variable {s t : State} {k : Nat} {f : Frame}

/-! ### LAUNCH (07 R393, R414) -/

/-- The waits of a site's session commands leave the schedule and the contexts. -/
theorem siteCheck_holds : (siteCheck s).sched = s.sched ∧ (siteCheck s).gener = s.gener := by
  have hgen : ∀ (w : SiteWait) (u : State), ((siteGen u w).sched, (siteGen u w).gener) = (u.sched, u.gener) := fun w u => by
    unfold siteGen
    dsimp only
    (repeat' split) <;> simp [setSite]
  have hmove : ∀ (w : SiteWait) (u : State), ((siteMove u w).sched, (siteMove u w).gener) = (u.sched, u.gener) := fun w u => by
    unfold siteMove
    (repeat' split) <;> simp [setSite]
  have hall := each_keeps (fun u : State => (u.sched, u.gener)) (fun (w : SiteWait) u => if w.ref.op = 0x12 then siteGen u w else siteMove u w)
    (fun w u => by
      split
      · exact hgen w u
      · exact hmove w u) s.azl.siteWaits s
  exact ⟨congrArg (·.1) hall, congrArg (·.2) hall⟩

theorem takeImage_sched (i : CtxImage) : (takeImage s i).sched = s.sched := by
  unfold takeImage
  dsimp only
  (repeat' split) <;> simp [addXfer]

theorem takeImages_sched (xs : List CtxImage) : (takeImages s xs).sched = s.sched := by
  have hfree : ∀ (u : State) (ys : List (Nat × Context)), (each ys (fun y u => setCtx u y.1 {}) u).sched = u.sched := fun u ys =>
    each_keeps State.sched _ (fun _ _ => setCtx_sched ..) ys u
  have htake : ∀ u : State, (each xs (fun i u => takeImage u i) u).sched = u.sched := fun u =>
    each_keeps State.sched _ (fun _ _ => takeImage_sched _) xs u
  rw [takeImages, showFree_sched, htake, hfree]

/-- The step of a LAUNCH with a batch, at a package with an image, comes next, and is late when its count has passed (07 R393). -/
theorem takeLaunch_holds {r : StepRec} (himage : s.gener.image.isSome = true) (hbatch : r.batch ≠ []) :
    (takeLaunch s r).sched.nextStep = some r ∧ (takeLaunch s r).sched.nextLaunch = some r.launch ∧ (takeLaunch s r).sched.launchReady = true
      ∧ (takeLaunch s r).sched.done = none ∧ (takeLaunch s r).sched.recordLate = decide (r.launch < s.count) := by
  have halts : imaged (applyAlts s) = imaged s := imaged_applyAlts
  obtain ⟨hcount, him⟩ := Prod.mk.inj halts
  rw [himage] at him
  obtain ⟨im, him⟩ := Option.isSome_iff_exists.mp him
  have hne : r.batch.isEmpty = false := by simpa using hbatch
  rw [← hcount, takeLaunch, him]
  dsimp only
  rw [hne, if_neg Bool.false_ne_true, submitPoint_sched, putSched_sched]
  exact ⟨rfl, rfl, rfl, rfl, rfl⟩

/-- A LAUNCH without a batch tells of the contexts and brings no step (log 32). -/
theorem takeLaunch_of_empty {r : StepRec} (hbatch : r.batch = []) (hfloods : s.azl.floods = []) : (takeLaunch s r).sched = s.sched := by
  unfold takeLaunch
  rw [applyAlts_of_no_floods hfloods, hbatch]
  dsimp only
  split
  · rfl
  · exact siteCheck_holds.1.trans (takeImages_sched _)

/-! ### FORM, SWITCH and what goes on toward the entry (07 R381, R411) -/

theorem memberPart_of_not_entry (h : isEntry s = false) : memberPart s = true := by
  simp only [isEntry, inGroup, Bool.or_eq_false_iff, Bool.not_eq_false', Bool.and_eq_true, beq_eq_false_iff_ne, decide_eq_true_eq] at h
  simp only [memberPart, Bool.and_eq_true, decide_eq_true_eq, bne_iff_ne]
  obtain ⟨⟨hsize, -⟩, hpos⟩ := h
  exact ⟨hsize, hpos⟩

/-- What FORM leaves of the answer: the entry's position is noted, and the member's own instead once its ports are accepted (07 R381). -/
theorem formed_answerForm (hentry : isEntry s = false) (hformed : s.azl.formed = [entryPos s]) (hpos : memberPos s ≠ entryPos s) :
    (answerForm s).azl.formed = if portsReady s then [memberPos s] else [entryPos s] := by
  unfold answerForm
  rw [hentry, hformed, beq_self_eq_true, bne_iff_ne.mpr hpos, Bool.and_true, Bool.not_false, Bool.true_and, Bool.true_and]
  split
  · rfl
  · exact hformed

theorem formIn_of_wait (hpart : memberPart s = true) (hstate : azlState s = 4) :
    formIn s f = becomeGrouped (if lastCommit (sendDown s f) = 0 then sendDown s f else sendCommitted (sendDown s f) (lastCommit (sendDown s f))) (f45 f) := by
  have hdown : azlState (sendDown s f) = 4 := sent_sendDown.azlState.trans hstate
  rw [formIn, hpart, Bool.not_true, if_neg Bool.false_ne_true]
  dsimp only
  rw [hdown, if_neg (by decide), if_pos rfl]

/-- The first FORM, at a package that is neither waiting nor stopped, is answered when its ports are ready (07 R381). -/
theorem formIn_of_first (hpart : memberPart s = true) (hwait : azlState s ≠ 4) (hstop : azlState s ≠ 5) (hfirst : s.azl.formed ≠ [memberPos s]) :
    formIn s f = answerForm (putAzl (sendDown s f) { (sendDown s f).azl with formed := [entryPos s] }) := by
  have hdown : azlState (sendDown s f) = azlState s := sent_sendDown.azlState
  have hformed : (sendDown s f).azl.formed = s.azl.formed := sent_sendDown.azlKeeps AzlState.formed fun _ _ => rfl
  rw [formIn, hpart, Bool.not_true, if_neg Bool.false_ne_true]
  dsimp only
  rw [hdown, if_neg hstop, if_neg hwait, hformed, if_neg hfirst]

theorem formIn_of_second (hpart : memberPart s = true) (hwait : azlState s ≠ 4) (hstop : azlState s ≠ 5) (hformed : s.azl.formed = [memberPos s]) :
    formIn s f = becomeGrouped (sendDown s f) (f45 f) := by
  have hdown : azlState (sendDown s f) = azlState s := sent_sendDown.azlState
  have hsame : (sendDown s f).azl.formed = s.azl.formed := sent_sendDown.azlKeeps AzlState.formed fun _ _ => rfl
  rw [formIn, hpart, Bool.not_true, if_neg Bool.false_ne_true]
  dsimp only
  rw [hdown, if_neg hstop, if_neg hwait, hsame, if_pos hformed]

theorem epochTo_switchNow : (switchNow s).azl.epochTo = s.azl.epochTo := by
  have hdown : (linksDown (setAzl s 6)).azl = s.azl := each_keeps State.azl _ (fun _ _ => wrF_azl ..) _ _
  rw [switchNow_eq, wrB_azl, restartBegun, putBoot_azl, putAzl_azl, hdown]

/-- A frame that a port with room keeps is sent at once (07 R372, R373). -/
theorem countsPort_sendSeq (hroom : (portOf s k).replay.length < 1024) (hplain : rdB s (onPage Reg.portStatus k) 20 = false) :
    CountsPort s (sendSeq s k f) Reg.portTxFrames k := by
  unfold sendSeq
  rw [hplain, Bool.false_and, if_neg Bool.false_ne_true]
  dsimp only
  rw [if_pos hroom]
  exact countsPort_putOut_of (rdReg_congr (modPort_regs ..) _) _

theorem sendUp_of_member (h : isEntry s = false) : sendUp s f = sendSeq s (parentPort s) f := by
  rw [sendUp, h, if_neg Bool.false_ne_true]

/-! ### Floods (07 R371, R396, R405) -/

/-- The state after a new flooded frame has been noted and has gone on over the other ports of the tree (07 R371). -/
def flooded (s : State) (k : Nat) (f : Frame) (key : Nat × Nat × Nat) : State :=
  flood (putAzl s { s.azl with floods := key :: s.azl.floods }) (some k) f

theorem floodOn_of_new {key : Nat × Nat × Nat} (h : s.azl.floods.contains key = false) : floodOn s k f key = some (flooded s k f key) := by
  rw [floodOn, h, if_neg Bool.false_ne_true, flooded]

theorem flooded_holds (key : Nat × Nat × Nat) : azlState (flooded s k f key) = azlState s ∧ (flooded s k f key).sched = s.sched
    ∧ (flooded s k f key).azl.floods = key :: s.azl.floods :=
  ⟨(sent_flood _).azlState.trans (rdF_congr (rdReg_congr (putAzl_regs ..) _)), (sent_flood _).sched.trans (putAzl_sched ..),
    (sent_flood _).azlKeeps AzlState.floods fun _ _ => rfl⟩

theorem floodOn_of_seen {key : Nat × Nat × Nat} (h : s.azl.floods.contains key = true) : floodOn s k f key = none := by
  rw [floodOn, h, if_pos rfl]

/-- The DUEs of kept frames grow; the windows, the schedule and the floods are kept (07 R396). -/
theorem stretchDue_holds (start len : Nat) : (stretchDue s start len).sched = s.sched ∧ (stretchDue s start len).azl.floods = s.azl.floods := by
  unfold stretchDue
  dsimp only
  constructor
  · exact each_keeps State.sched _ (fun _ _ => modPort_sched ..) _ _
  · refine each_keeps (fun u : State => u.azl.floods) _ (fun _ _ => ?_) _ _
    rfl

/-- A HOLD that has not been seen, before its start, adds its window and is noted (07 R396). -/
theorem holdIn_of_new (hnew : s.azl.floods.contains (0x15, fld f.w7 7 0, fld f.w7 31 8) = false) (hearly : s.count < f45 f) :
    (holdIn s k f).sched.freezes = s.sched.freezes ++ [⟨f45 f, f.w6, .group, false⟩]
      ∧ (0x15, fld f.w7 7 0, fld f.w7 31 8) ∈ (holdIn s k f).azl.floods := by
  unfold holdIn
  rw [floodOn_of_new hnew]
  dsimp only
  rw [if_pos hearly, azlEvBeside, raiseBeside, raiseEv_sched, raiseEv_azl, setEvt_sched, setEvt_azl, cntReg_sched, cntReg_azl]
  obtain ⟨-, hsched, hfloods⟩ := flooded_holds (s := s) (k := k) (f := f) (0x15, fld f.w7 7 0, fld f.w7 31 8)
  rw [(stretchDue_holds _ _).1, (stretchDue_holds _ _).2, addFreeze, putSched_sched, hsched, putSched_azl, hfloods]
  exact ⟨rfl, List.mem_cons_self ..⟩

theorem noteLoss_sched (a b : Nat) : (noteLoss s a b).sched = s.sched := by unfold noteLoss; split <;> rfl

/-- A package that waits is in state 4, with a time to wait and its execution stopped (07 R405, R406). -/
theorem enterWait_holds (pos phase port : Nat) (mine known : Bool) : azlState (enterWait s pos phase port mine known) = 4
    ∧ (enterWait s pos phase port mine known).azl.waitSince ≠ none
    ∧ (s.sched.exec.running = true → (enterWait s pos phase port mine known).sched.exec.stopped = true) := by
  rw [enterWait, azlState, azlEv, rdF_congr (rdReg_raiseEv_block (by decide) (by decide)), setAzl, rdF_wrF_same _ _ (by decide) (by decide),
    raiseEv_azl, raiseEv_sched, wrF_azl, wrF_sched, putAzl_azl, putAzl_sched, wrN_sched]
  exact ⟨rfl, Option.some_ne_none _, fun hrun => (exec_dropRunning_stopExec hrun).1⟩

/-- A LOSS that has not been seen, at a package of the group that does not wait yet, makes it wait (07 R405). -/
theorem lossIn_of_new (hnew : s.azl.floods.contains (0x16, fld f.w4 15 8, fld f.w4 18 16) = false) (halone : azlState s ≠ 0)
    (hwait : azlState s ≠ 4) (hstop : azlState s ≠ 5) : azlState (lossIn s k f) = 4 ∧ (lossIn s k f).azl.waitSince ≠ none
      ∧ (s.sched.exec.running = true → (lossIn s k f).sched.exec.stopped = true) := by
  have hnoted : ∀ (u : State) a b, azlState (if bitN f.w4 19 then noteLoss u a b else u) = azlState u
      ∧ (if bitN f.w4 19 then noteLoss u a b else u).sched = u.sched := fun u a b => by
    split
    · exact ⟨rdF_congr (rdReg_congr (noteLoss_regs ..) _), noteLoss_sched ..⟩
    · exact ⟨rfl, rfl⟩
  obtain ⟨hstate, hsched, -⟩ := flooded_holds (s := s) (k := k) (f := f) (0x16, fld f.w4 15 8, fld f.w4 18 16)
  unfold lossIn
  rw [floodOn_of_new hnew]
  generalize flooded s k f (0x16, fld f.w4 15 8, fld f.w4 18 16) = u at hstate hsched ⊢
  dsimp only
  obtain ⟨hnstate, hnsched⟩ := hnoted u (fld f.w4 15 8) (fld f.w4 7 0)
  rw [hstate, if_neg (not_or.mpr ⟨halone, hstop⟩), hnstate, hstate, if_neg hwait, ← hsched, ← hnsched]
  exact enterWait_holds ..

end Sys2Proof.Machine

/-!
PROOF. O41: each frame of the entry at a member, and each flooded frame, once it is accepted (07 R371, R378, R381, R393, R396, R402, R405, R407,
R411, R414).
-/
namespace Sys2Proof.Machine

variable {s s2 : State} {k : Fin 8} {f : Frame}

/-- What a package does with an accepted LAUNCH (07 R393): it goes on down the tree, and a member that is grouped or replays takes its step. -/
def launchIn (s : State) (f : Frame) : State :=
  if isEntry s then s
  else
    let s1 := sendDown s f
    match f.ctl with
    | some r => if azlState s1 = 2 ∨ azlState s1 = 3 then takeLaunch s1 r else s1
    | none => s1

theorem exec_launch_of_accepted (hacc : Accepted s k.val 0x13 f s2) : exec (.launch k f) s = .next (launchIn s2 f) :=
  rxSeqFrame_of_accepted (act := fun s => launchIn s f) hacc

theorem launchIn_of_step {r : StepRec} (hentry : isEntry s2 = false) (hctl : f.ctl = some r) (hstate : azlState s2 = 2 ∨ azlState s2 = 3) :
    launchIn s2 f = takeLaunch (sendDown s2 f) r := by
  rw [launchIn, hentry, if_neg Bool.false_ne_true, hctl]
  dsimp only
  rw [sent_sendDown.azlState, if_pos hstate]

theorem launchIn_of_idle (hentry : isEntry s2 = false) (hgrouped : azlState s2 ≠ 2) (hreplay : azlState s2 ≠ 3) :
    launchIn s2 f = sendDown s2 f := by
  rw [launchIn, hentry, if_neg Bool.false_ne_true]
  cases f.ctl with
  | none => rfl
  | some r =>
    dsimp only
    rw [sent_sendDown.azlState, if_neg (not_or.mpr ⟨hgrouped, hreplay⟩)]

/-- A commit VERDICT of the completed step commits it (07 R402). -/
theorem verdictIn_of_commit {d : DoneStep} (hentry : isEntry s2 = false) (hdone : s2.sched.done = some d) (hstep : d.record.step = f45 f)
    (hcommit : bitN f.w6 0 = true) : (verdictIn s2 f).sched.done = none ∧ (verdictIn s2 f).gener.atBoundary = true := by
  have hsame : (sendDown s2 f).sched.done = some d := by rw [sent_sendDown.sched, hdone]
  rw [verdictIn, hentry, if_neg Bool.false_ne_true]
  dsimp only
  rw [hsame]
  dsimp only
  rw [if_neg (not_not.mpr hstep), if_pos hcommit, siteCheck_holds.1, siteCheck_holds.2, sendCommitted, sent_sendUp.sched, sent_sendUp.gener]
  have hview := judgedView_commitStep (s := showLed (sendDown s2 f) Reg.ldgLastStep d.ledger) d
  exact ⟨congrArg (·.1) hview, congrArg (·.2.2) hview⟩

/-- The first FORM at a member: its answer goes when its ports are ready, and is owed until then (07 R381). -/
theorem formed_formIn_of_first (hentry : isEntry s2 = false) (hwait : azlState s2 ≠ 4) (hstop : azlState s2 ≠ 5)
    (hfirst : s2.azl.formed ≠ [memberPos s2]) (hpos : memberPos s2 ≠ entryPos s2) :
    (formIn s2 f).azl.formed = if portsReady s2 then [memberPos s2] else [entryPos s2] := by
  have hregs := putAzl_regs (sendDown s2 f) { (sendDown s2 f).azl with formed := [entryPos s2] }
  rw [formIn_of_first (memberPart_of_not_entry hentry) hwait hstop hfirst]
  generalize hu : putAzl (sendDown s2 f) { (sendDown s2 f).azl with formed := [entryPos s2] } = u at hregs ⊢
  have hmember : memberPos u = memberPos s2 := (rdF_congr (rdReg_congr hregs _)).trans sent_sendDown.memberPos
  have hentrypos : entryPos u = entryPos s2 := (rdF_congr (rdReg_congr hregs _)).trans sent_sendDown.entryPos
  have hnot : isEntry u = false :=
    (isEntry_congr (rdReg_congr hregs _) (rdReg_congr hregs _) (rdReg_congr hregs _)).trans (sent_sendDown.isEntry.trans hentry)
  have hready : portsReady u = portsReady s2 := portsReady_congr (by rw [← hu, putAzl_gener, sent_sendDown.gener]) fun j =>
    (rdReg_congr hregs _).trans (portReg_status.rdReg_of_sent sent_sendDown)
  rw [formed_answerForm hnot (by rw [hentrypos, ← hu]; rfl) (by rw [hmember, hentrypos]; exact hpos), hready, hmember, hentrypos]

/-- FORM before the member's group is enabled: it is kept, and its answer is owed (07 R381, log 41). -/
theorem formed_formIn_of_unenabled (hentry : isEntry s2 = true) (hpart : memberPart s2 = true) (hstate : azlState s2 = 0)
    (hfirst : s2.azl.formed ≠ [memberPos s2]) : (formIn s2 f).azl.formed = [entryPos s2] := by
  have hregs := putAzl_regs (sendDown s2 f) { (sendDown s2 f).azl with formed := [entryPos s2] }
  have hentry' : isEntry (putAzl (sendDown s2 f) { (sendDown s2 f).azl with formed := [entryPos s2] }) = true :=
    (isEntry_congr (rdReg_congr hregs _) (rdReg_congr hregs _) (rdReg_congr hregs _)).trans (sent_sendDown.isEntry.trans hentry)
  rw [formIn_of_first hpart (by rw [hstate]; decide) (by rw [hstate]; decide) hfirst, answerForm, hentry']
  rfl

/-- What a package does with an accepted SWITCH (07 R411): it goes on down the tree, and a member switches when the step has come. -/
def switchIn (s : State) (f : Frame) : State :=
  if isEntry s then s
  else
    let s1 := sendDown s f
    let s2 := wr64 (putAzl s1 { s1.azl with epochTo := some (fld f.w4 15 0) }) Reg.azlSwitchLo (f.w5 + f.w6 * 2 ^ 32)
    if switchDue s2 then switchNow s2 else s2

theorem exec_switch_of_accepted (hacc : Accepted s k.val 0x1A f s2) : exec (.switch k f) s = .next (switchIn s2 f) :=
  rxSeqFrame_of_accepted (act := fun s => switchIn s f) hacc

/-- A SWITCH sets the epoch to come, whether or not it begins at once (07 R411). -/
theorem epochTo_switchIn (hentry : isEntry s2 = false) : (switchIn s2 f).azl.epochTo = some (fld f.w4 15 0) := by
  rw [switchIn, hentry, if_neg Bool.false_ne_true]
  dsimp only
  split
  · exact epochTo_switchNow
  · rfl

/-- At a member, what is meant for the entry goes on over the parent port (07 R367, R381, R409, R414). -/
theorem exec_of_forwarded {p : (Fin 8 → Frame → Instr) × Nat}
    (hp : p ∈ [(Instr.ledger, 0x11), (Instr.committed, 0x14), (Instr.formed, 0x18), (Instr.staged, 0x19), (Instr.rejoin, 0x1B), (Instr.join, 0x1C)])
    (hacc : Accepted s k.val p.2 f s2) (hentry : isEntry s2 = false) : exec (p.1 k f) s = .next (sendSeq s2 (parentPort s2) f) := by
  have hup : sendUp s2 f = sendSeq s2 (parentPort s2) f := sendUp_of_member hentry
  simp only [List.mem_cons, List.not_mem_nil, or_false] at hp
  rcases hp with rfl | rfl | rfl | rfl | rfl | rfl
  · refine (rxSeqFrame_of_accepted (act := fun s => ledgerIn s f) hacc).trans ?_
    rw [ledgerIn, hentry, Bool.not_false, if_pos rfl, hup]
  · refine (rxSeqFrame_of_accepted (act := fun s => committedIn s f) hacc).trans ?_
    rw [committedIn, hentry, Bool.not_false, if_pos rfl, hup]
  · refine (rxSeqFrame_of_accepted (act := fun s => formedIn s f) hacc).trans ?_
    rw [formedIn, memberPart_of_not_entry hentry, if_pos rfl]
  · refine (rxSeqFrame_of_accepted (act := fun s => if isEntry s then noteStaged s f.src (fld f.w4 15 0) else sendUp s f) hacc).trans ?_
    rw [hentry, if_neg Bool.false_ne_true, hup]
  · refine (rxSeqFrame_of_accepted (act := fun s => rejoinIn s f) hacc).trans ?_
    rw [rejoinIn, hentry, Bool.not_false, if_pos rfl, hup]
  · refine (rxSeqFrame_of_accepted (act := fun s => joinIn s f) hacc).trans ?_
    rw [joinIn, hentry, Bool.not_false, if_pos rfl, hup]

/-- A HELLO that comes before the port's delay is measured is kept, and its handshake stands (log 31). -/
theorem helloIn_of_unmeasured {k : Nat} (hbit : rdB s (onPage Reg.portStatus k) 1 = false) :
    helloIn s k f = modPort s k fun p => { p with early := some f } := by
  rw [helloIn, hbit, Bool.not_false, if_pos rfl]

theorem rdReg_status_noteRx {k : Nat} : rdReg (noteRx s k f) (onPage Reg.portStatus k) = rdReg s (onPage Reg.portStatus k) := by
  rw [noteRx, rdReg_congr (modPort_regs ..), rdReg_cntReg (by simp only [onPage, Reg.portStatus, Reg.portRxFrames]; omega),
    rdReg_cntReg (by simp only [onPage, Reg.portStatus, Reg.portFecCorr]; omega)]

theorem length_ports_noteRx {k : Nat} : (noteRx s k f).azl.ports.length = s.azl.ports.length := by
  rw [noteRx, modPort, putAzl_azl]
  exact length_listMod ..

/-- Settles O41: each kind of frame by what a member, or any package for a flooded one, does with it once it is accepted. -/
theorem memberFramesRun : Obligations.MemberFramesRun := by
  intro s s2 k f
  refine ⟨fun hentry => ⟨fun r im hacc hctl hstate himage => ?_, fun hacc h2 h3 => ?_,
    fun d hacc hdone hstep hbit => ?_, fun hacc hstop => ?_, fun hacc => ?_, fun p hp hacc hroom hplain => ?_⟩, fun hacc => ?_,
    fun hacc hnew h0 h4 h5 => ?_, fun hacc hentry hpart hstate hfirst => ?_, fun hup hfor hkind hack hbit hlen => ?_,
    fun hup hfor hkind hack hbit => ?_⟩
  · have hexec := exec_launch_of_accepted hacc
    rw [launchIn_of_step hentry hctl hstate] at hexec
    refine ⟨fun hbatch => ?_, fun hbatch hfloods => ⟨_, hexec, ?_⟩⟩
    · have himage' : (sendDown s2 f).gener.image.isSome = true := by rw [sent_sendDown.gener, himage]; rfl
      obtain ⟨hnext, hlaunch, hready, hdone, hlate⟩ := takeLaunch_holds (s := sendDown s2 f) himage' hbatch
      rw [sent_sendDown.count, count_of_accepted hacc] at hlate
      exact ⟨_, hexec, hnext, hlaunch, hready, hdone, hlate⟩
    · have hnone : (sendDown s2 f).azl.floods = [] := (sent_sendDown.azlKeeps AzlState.floods fun _ _ => rfl).trans hfloods
      exact (takeLaunch_of_empty hbatch hnone).trans sent_sendDown.sched
  · refine ⟨_, exec_launch_of_accepted hacc, ?_⟩
    rw [launchIn_of_idle hentry h2 h3, sent_sendDown.sched]
  · have hexec : exec (.verdict k f) s = .next (verdictIn s2 f) := rxSeqFrame_of_accepted (act := fun s => verdictIn s f) hacc
    exact ⟨_, hexec, verdictIn_of_commit hentry hdone hstep hbit⟩
  · have hexec : exec (.form k f) s = .next (formIn s2 f) := rxSeqFrame_of_accepted (act := fun s => formIn s f) hacc
    have hgrouped : ∀ u : State, (becomeGrouped u (f45 f)).azl.formed = [] ∧ (becomeGrouped u (f45 f)).azl.stepBase = f45 f
        ∧ (becomeGrouped u (f45 f)).azl.waitSince = none ∧ (becomeGrouped u (f45 f)).gener.again = true := fun u => by
      obtain ⟨hformed, hbase, -, hwaits, hgener⟩ := becomeGrouped_holds (s := u) (f45 f)
      exact ⟨hformed, hbase, hwaits, by rw [hgener]⟩
    refine ⟨fun h => ⟨_, hexec, ?_⟩, fun hwait hfirst hpos => ⟨_, hexec, formed_formIn_of_first hentry hwait hstop hfirst hpos⟩⟩
    by_cases hwait : azlState s2 = 4
    · rw [formIn_of_wait (memberPart_of_not_entry hentry) hwait]
      exact hgrouped _
    · rw [formIn_of_second (memberPart_of_not_entry hentry) hwait hstop (h.resolve_left hwait)]
      exact hgrouped _
  · exact ⟨_, exec_switch_of_accepted hacc, (epochTo_switchIn hentry).trans (by simp [fld])⟩
  · exact ⟨exec_of_forwarded hp hacc hentry, countsPort_sendSeq hroom hplain⟩
  · have hexec : exec (.hold k f) s = .next (holdIn s2 k.val f) := rxSeqFrame_of_accepted (act := fun s => holdIn s k.val f) hacc
    have hkey : (0x15, fld f.w7 7 0, fld f.w7 31 8) = (0x15, f.w7 % 2 ^ 8, f.w7 / 2 ^ 8 % 2 ^ 24) := by simp [fld, Nat.shiftRight_eq_div_pow]
    rw [← hkey]
    refine ⟨fun hseen => ?_, fun hnew hearly => ⟨_, hexec, holdIn_of_new hnew hearly⟩⟩
    rw [hexec, holdIn, floodOn_of_seen hseen]
  · have hexec : exec (.loss k f) s = .next (lossIn s2 k.val f) := rxSeqFrame_of_accepted (act := fun s => lossIn s k.val f) hacc
    have hkey : (0x16, fld f.w4 15 8, fld f.w4 18 16) = (0x16, f.w4 / 2 ^ 8 % 2 ^ 8, f.w4 / 2 ^ 16 % 2 ^ 3) := by simp [fld, Nat.shiftRight_eq_div_pow]
    rw [← hkey] at hnew
    exact ⟨_, hexec, lossIn_of_new hnew h0 h4 h5⟩
  · have hexec : exec (.form k f) s = .next (formIn s2 f) := rxSeqFrame_of_accepted (act := fun s => formIn s f) hacc
    exact ⟨_, hexec, formed_formIn_of_unenabled hentry hpart hstate hfirst⟩
  · have hexec : exec (.hello k f) s = .next (helloIn (takeAck (noteRx s k.val f) k.val f) k.val f) :=
      rxPlain_of_taken (act := fun s => helloIn s k.val f) hup hkind hfor (.inr rfl)
    rw [takeAck_of_none hack, helloIn_of_unmeasured ((rdB_congr rdReg_status_noteRx).trans hbit)] at hexec
    refine ⟨_, hexec, ?_, (rdF_congr (rdReg_congr (modPort_regs ..) _)).trans (rdF_congr rdReg_status_noteRx)⟩
    rw [portOf_modPort, if_pos ⟨rfl, by rw [length_ports_noteRx]; exact hlen⟩]
  · have hexec : exec (.hello k f) s = .next (helloIn (takeAck (noteRx s k.val f) k.val f) k.val f) :=
      rxPlain_of_taken (act := fun s => helloIn s k.val f) hup hkind hfor (.inr rfl)
    rw [takeAck_of_none hack] at hexec
    exact ⟨_, hexec, helloIn_of_measured ((rdB_congr rdReg_status_noteRx).trans hbit)⟩

end Sys2Proof.Machine

/-!
SUPPORT. A cold reset (14 R641), and the registers that neither an event nor a completion touches (13 R621, R623).
-/
namespace Sys2Proof.Machine

variable {s t : State} {o : Nat}

/-! ### Events -/

theorem Uncompleted.rdReg_pushRec (ho : Uncompleted o) {q : Nat} {completion : Bool} {r : EvRec} : rdReg (pushRec s q completion r) o = rdReg s o := by
  obtain ⟨h14, -, h5C, h60⟩ := uncompleted_iff.mp ho
  unfold Machine.pushRec
  dsimp only
  split
  · rw [rdReg_setEvt (by simp only [onPage, Reg.pageEvq]; omega), rdReg_cntReg (by simp only [onPage, Reg.evqLost]; omega),
      rdReg_congr (setEvq_regs ..)]
  · rw [showEvq, rdReg_wrF (by simp only [onPage, Reg.evqStatus]; omega), rdReg_wrF (by simp only [onPage, Reg.evqStatus]; omega),
      rdReg_congr (setEvq_regs ..)]

theorem Uncompleted.rdReg_raiseEv (ho : Uncompleted o) {page bits type inst code w1 : Nat} {dst : Dest} {d : List Nat} (hp : o ≠ page + 0x14) :
    rdReg (raiseEv s page bits dst type inst code w1 d) o = rdReg s o := by
  have hset : rdReg (if bits = 0 then s else setEvt s page bits) o = rdReg s o := by
    split
    · rfl
    · exact rdReg_setEvt hp
  unfold Machine.raiseEv
  dsimp only
  split
  · exact hset
  · split
    · exact ho.rdReg_pushRec.trans hset
    · split
      · exact ho.rdReg_pushRec.trans hset
      · exact hset

/-! ### A change of the service level (14 R642) -/

/-- A change of the level is shown at once, and touches the level's registers alone (14 R642). -/
theorem svcLevel_setLevel (n : Nat) (hn : n < 8) : svcLevel (setLevel s n) = n := by
  have hev : Uncompleted Reg.glbServiceLevel := by simp [Uncompleted, Reg.glbServiceLevel]
  unfold setLevel
  dsimp only
  split
  · next h => exact h
  · split
    · rw [svcLevel, rdF_congr (hev.rdReg_raiseEv (by decide)), wr64, rdF_congr (rdReg_wrN (by simp only [Reg.glbServiceLevel, Reg.glbLevel]; omega)),
        rdF_congr (rdReg_wrN (by simp only [Reg.glbServiceLevel, Reg.glbLevel]; omega)), rdF_wrF_other _ _ (by decide) (by decide) (by decide) (by decide),
        rdF_wrF_same _ _ (by decide) (by decide)]
      exact Nat.mod_eq_of_lt hn
    · rw [svcLevel, rdF_congr (hev.rdReg_raiseEv (by decide)), rdF_wrF_same _ _ (by decide) (by decide)]
      exact Nat.mod_eq_of_lt hn

/-! ### Cold reset (14 R641, R647) -/

/-- What a cold reset leaves: each register at its cold-reset value but for the cause, and of the state what R641 keeps, nothing else. -/
structure ColdFrom (s t : State) (cause : Nat) (high : Bool) : Prop where
  regs : ∀ off, off ≠ Reg.glbResetCause → rdReg t off = coldReg off
  cause : rdN t Reg.glbResetCause = cause
  rest : ∃ regs boot, t = { State.reset with regs := regs, boot := boot, draw := s.draw + 1, pending := s.pending, host := s.host,
                                             gener := { blocks := s.gener.blocks }, power := { resetN := high } }
    ∧ boot.flash = s.boot.flash
    ∧ (s.boot.queue = [] → boot.store = s.boot.store ∧ boot.older = s.boot.older ∧ boot.wear = s.boot.wear)

theorem coldFrom_coldReset (cause : Nat) (high : Bool) (hcause : cause < 2 ^ 32) : ColdFrom s (coldReset s cause high) cause high := by
  unfold coldReset
  refine ⟨fun off hoff => ?_, (rdN_wrN_same ..).trans (Nat.mod_eq_of_lt hcause), _, _, rfl, rfl, fun hq => ?_⟩
  · rw [rdReg_wrN hoff]
    rfl
  · rw [hq]
    exact ⟨rfl, rfl, rfl⟩

end Sys2Proof.Machine

/-!
SUPPORT. The load of the persistent store (14 R656, 09 R472) and level 1 (14 R664, 12 R575).
-/
namespace Sys2Proof.Machine

variable {s t : State} {o w j n : Nat}

/-- What every step of a fold keeps true stays true. -/
theorem each_preserves {σ α : Type} {P : σ → Prop} {f : α → σ → σ} (h : ∀ a t, P t → P (f a t)) (xs : List α) {s : σ} (hs : P s) :
    P (each xs f s) := by
  induction xs generalizing s with
  | nil => exact hs
  | cons x xs ih => exact ih (h x s hs)

/-- What one step of a fold sets, and no other step of it takes back, holds after the fold. -/
theorem each_reaches {σ α : Type} {P : σ → Prop} {f : α → σ → σ} {xs : List α} {a : α} (ha : a ∈ xs) (hset : ∀ t, P (f a t))
    (hkeep : ∀ b t, b ≠ a → P t → P (f b t)) (s : σ) : P (each xs f s) := by
  have hstep : ∀ b t, P t → P (f b t) := fun b t h => by
    by_cases hb : b = a
    · exact hb ▸ hset t
    · exact hkeep b t hb h
  induction xs generalizing s with
  | nil => cases ha
  | cons x xs ih =>
    rcases List.mem_cons.mp ha with rfl | hx
    · exact each_preserves hstep xs (hset s)
    · exact ih hx _

/-! ### The load of the store -/

theorem markQuar_cluster (p : Nat) : markQuar s 0 p = modCl s p fun c => { c with quarantined := true } := rfl

/-- The map of the store quarantines the clusters that it names; the load touches no register (09 R472). -/
theorem loadMap_holds : (∀ p < 144, rbit (storeVal s (0x40 + p / 32)) (p % 32) = true → (clOf (loadMap s) p).quarantined = true)
    ∧ (loadMap s).regs = s.regs ∧ (loadMap s).boot.pstLoaded = s.boot.pstLoaded := by
  have hregs : ∀ ps : List Nat, (each ps (fun p t => markQuar t 0 p) s).regs = s.regs := fun ps =>
    each_keeps State.regs _ (fun p t => (congrArg State.regs (markQuar_cluster p)).trans (modCl_regs ..)) ps s
  have hboot : ∀ ps : List Nat, (each ps (fun p t => markQuar t 0 p) s).boot = s.boot := fun ps =>
    each_keeps State.boot _ (fun p t => (congrArg State.boot (markQuar_cluster p)).trans (modCl_boot ..)) ps s
  unfold loadMap
  dsimp only
  refine ⟨fun p hp hbit => ?_, (putBoot_regs ..).trans (hregs _), ?_⟩
  · rw [clOf_congr (putBoot_clusters ..)]
    refine each_reaches (P := fun u => (clOf u p).quarantined = true) (List.mem_filter.mpr ⟨List.mem_range.mpr hp, hbit⟩) (fun u => ?_)
      (fun q u hq h => ?_) s
    · rw [markQuar_cluster, clOf_modCl, if_pos rfl]
    · rw [markQuar_cluster, clOf_modCl, if_neg (Ne.symm hq)]
      exact h
  · rw [putBoot_boot, hboot]

/-! ### Level 1: the Weirs' defaults -/

/-- A Weir that has its default's configuration, and is blanked if that enables it (12 R575). -/
def WeirGuarded (s : State) (w cfg : Nat) : Prop := (weirOf s w).cfg = cfg ∧ (bitN cfg 0 = true → (weirOf s w).blankUntil ≠ none)

theorem WeirGuarded.congr {cfg : Nat} (h : WeirGuarded s w cfg) (he : weirOf t w = weirOf s w) : WeirGuarded t w cfg := by
  rw [WeirGuarded, he]
  exact h

theorem evalWeir_of_enabled (h : (weirOf s w).enabled = true) : (weirOf (evalWeir s w) w).cfg = (weirOf s w).cfg
    ∧ (weirOf (evalWeir s w) w).blankUntil = (weirOf s w).blankUntil := by
  unfold evalWeir
  have hput : ∀ (u : State) d, weirOf (putDraw u d) w = weirOf u w := fun _ _ => rfl
  dsimp only
  rw [h, Bool.not_true, if_neg Bool.false_ne_true, hput, weirOf_setWeir, if_pos rfl]
  exact ⟨rfl, rfl⟩

theorem weirOf_evalWeir_other (h : j ≠ w) : weirOf (evalWeir s w) j = weirOf s j := by
  have hput : ∀ (u : State) d, weirOf (putDraw u d) j = weirOf u j := fun _ _ => rfl
  unfold evalWeir
  dsimp only
  split
  · rw [weirOf_setWeir, if_neg h]
  · rw [hput, weirOf_setWeir, if_neg h]

theorem evalWeir_regs : (evalWeir s w).regs = s.regs := by
  unfold evalWeir
  dsimp only
  split <;> rfl

theorem weirGuarded_guardWeir (cfg thr : Nat) : WeirGuarded (guardWeir cfg thr w s) w cfg := by
  unfold guardWeir
  dsimp only
  split
  · next hon =>
    refine ⟨?_, fun _ => ?_⟩
    · rw [(evalWeir_of_enabled (by rw [blankWeir, weirOf_setWeir, if_pos rfl, weirOf_setWeir, if_pos rfl]; exact hon)).1, blankWeir, weirOf_setWeir,
        if_pos rfl, weirOf_setWeir, if_pos rfl]
    · rw [(evalWeir_of_enabled (by rw [blankWeir, weirOf_setWeir, if_pos rfl, weirOf_setWeir, if_pos rfl]; exact hon)).2, blankWeir, weirOf_setWeir,
        if_pos rfl]
      exact Option.some_ne_none _
  · next hoff =>
    rw [WeirGuarded, weirOf_setWeir, if_pos rfl]
    exact ⟨rfl, fun hon => absurd hon hoff⟩

theorem weirOf_guardWeir_other (cfg thr : Nat) (h : j ≠ w) : weirOf (guardWeir cfg thr w s) j = weirOf s j := by
  have hwr : ∀ (u : State) o v, weirOf (wrN u o v) j = weirOf u j := fun _ _ _ => rfl
  unfold guardWeir
  dsimp only
  split
  · rw [weirOf_evalWeir_other h, blankWeir, weirOf_setWeir, if_neg h, weirOf_setWeir, if_neg h, hwr, hwr]
  · rw [weirOf_setWeir, if_neg h, hwr, hwr]

theorem rdReg_guardWeir (cfg thr : Nat) (ho : o < 0x20000) : rdReg (guardWeir cfg thr w s) o = rdReg s o := by
  have hset : ∀ (u : State) x, (setWeir u w x).regs = u.regs := fun _ _ => rfl
  unfold guardWeir
  dsimp only
  split
  · rw [rdReg_congr evalWeir_regs, blankWeir, rdReg_congr (hset ..), rdReg_congr (hset ..), rdReg_wrN (by simp only [weirReg, Reg.wirThr]; omega),
      rdReg_wrN (by simp only [weirReg, Reg.wirCfg]; omega)]
  · rw [rdReg_congr (hset ..), rdReg_wrN (by simp only [weirReg, Reg.wirThr]; omega), rdReg_wrN (by simp only [weirReg, Reg.wirCfg]; omega)]

/-! ### Level 1: the pulse generators' defaults -/

/-- A pulse generator that has its default trip mask, and is tripped and unarmed if its default enables it (12 R575). -/
def PulseGuarded (s : State) (j mask : Nat) (on : Bool) : Prop := rdN s (pgReg Reg.pgTripMask j) = mask
  ∧ (on = true → (pulseOf s j).tripped = true ∧ (pulseOf s j).armed = false)

theorem drivePin_holds (i : Nat) : (pulseOf (drivePin s j) i).tripped = (pulseOf s i).tripped ∧ (pulseOf (drivePin s j) i).armed = (pulseOf s i).armed
    ∧ (drivePin s j).regs = s.regs ∧ (drivePin s j).falbo.weirs = s.falbo.weirs := by
  refine ⟨?_, ?_, rfl, rfl⟩ <;>
  · rw [drivePin, pulseOf_setPulse]
    split
    · next h => rw [h]
    · rfl

/-- A trip trips its generator and no other; of the registers outside the event pages it writes the generator's own records (12 R572). -/
theorem tripPulse_holds (cause : Nat) : (pulseOf (tripPulse s j cause) j).tripped = true ∧ (pulseOf (tripPulse s j cause) j).armed = false
    ∧ (∀ i ≠ j, (pulseOf (tripPulse s j cause) i).tripped = (pulseOf s i).tripped ∧ (pulseOf (tripPulse s j cause) i).armed = (pulseOf s i).armed)
    ∧ (tripPulse s j cause).falbo.weirs = s.falbo.weirs
    ∧ ∀ o, Uncompleted o → (∀ r ∈ [Reg.pgTripAtLo, Reg.pgTripAtHi, Reg.pgTripCause, Reg.pgTrips], o ≠ pgReg r j) →
      rdReg (tripPulse s j cause) o = rdReg s o := by
  have hev : ∀ (u : State) (b : Bool) d, (if b then raiseEv u (onPage Reg.pagePg (j / 8)) (2 ^ 17) .block 0x45 j 0x0003 0 d else u).falbo = u.falbo :=
    fun u b d => by
      split
      · exact raiseEv_falbo ..
      · rfl
  have hevreg : ∀ (u : State) (b : Bool) d o, Uncompleted o →
      rdReg (if b then raiseEv u (onPage Reg.pagePg (j / 8)) (2 ^ 17) .block 0x45 j 0x0003 0 d else u) o = rdReg u o := fun u b d o ho => by
    split
    · exact ho.rdReg_raiseEv (by have := (uncompleted_iff.mp ho).1; simp only [onPage, Reg.pagePg]; omega)
    · rfl
  have hwr : ∀ (u : State) o v i, pulseOf (wrN u o v) i = pulseOf u i := fun _ _ _ _ => rfl
  have hcnt : ∀ (u : State) o v i, pulseOf (cntReg u o v) i = pulseOf u i := fun _ _ _ _ => rfl
  have hput : ∀ (u : State) d i, pulseOf (putDraw u d) i = pulseOf u i := fun _ _ _ => rfl
  have hpulse : ∀ (u : State) (b : Bool) d i,
      pulseOf (if b then raiseEv u (onPage Reg.pagePg (j / 8)) (2 ^ 17) .block 0x45 j 0x0003 0 d else u) i = pulseOf u i := fun u b d i => by
    rw [pulseOf, hev, pulseOf]
  unfold tripPulse
  dsimp only
  refine ⟨?_, ?_, fun i hi => ⟨?_, ?_⟩, ?_, fun o ho hne => ?_⟩
  · rw [hpulse, (drivePin_holds _).1, hcnt, hwr, hwr, hwr, pulseOf_setPulse, if_pos rfl]
  · rw [hpulse, (drivePin_holds _).2.1, hcnt, hwr, hwr, hwr, pulseOf_setPulse, if_pos rfl]
  · rw [hpulse, (drivePin_holds _).1, hcnt, hwr, hwr, hwr, pulseOf_setPulse, if_neg hi, hput]
  · rw [hpulse, (drivePin_holds _).2.1, hcnt, hwr, hwr, hwr, pulseOf_setPulse, if_neg hi, hput]
  · rw [hev, (drivePin_holds 0).2.2.2]
    rfl
  · rw [hevreg _ _ _ _ ho, rdReg_congr (drivePin_holds 0).2.2.1, rdReg_cntReg (hne _ (by simp)), rdReg_wrN (hne _ (by simp)),
      rdReg_wrN (hne _ (by simp)), rdReg_wrN (hne _ (by simp))]
    rfl

/-- A generator's defaults: its mask is shown, and an enabled one starts tripped (12 R575). -/
theorem guardPulse_holds (ctl mask : Nat) : (bitN ctl 0 = true → (pulseOf (guardPulse ctl mask j s) j).tripped = true
      ∧ (pulseOf (guardPulse ctl mask j s) j).armed = false)
    ∧ (∀ i ≠ j, (pulseOf (guardPulse ctl mask j s) i).tripped = (pulseOf s i).tripped
      ∧ (pulseOf (guardPulse ctl mask j s) i).armed = (pulseOf s i).armed)
    ∧ (guardPulse ctl mask j s).falbo.weirs = s.falbo.weirs ∧ rdN (guardPulse ctl mask j s) (pgReg Reg.pgTripMask j) = mask % 2 ^ 32
    ∧ ∀ o, Uncompleted o → (∀ r ∈ [Reg.pgCtl, Reg.pgTripMask, Reg.pgTripAtLo, Reg.pgTripAtHi, Reg.pgTripCause, Reg.pgTrips], o ≠ pgReg r j) →
      rdReg (guardPulse ctl mask j s) o = rdReg s o := by
  have hon : bitN (ctl % 2 ^ 24 / 2 ^ 12 * 2 ^ 12 + ctl % 2 ^ 8) 0 = bitN ctl 0 := by
    simp only [bitN, Nat.shiftRight_zero]
    rw [show (ctl % 2 ^ 24 / 2 ^ 12 * 2 ^ 12 + ctl % 2 ^ 8) % 2 = ctl % 2 by omega]
  have hmask : Uncompleted (pgReg Reg.pgTripMask j) := uncompleted_iff.mpr (by simp only [pgReg, Reg.pgTripMask]; omega)
  have hother : ∀ r ∈ [Reg.pgTripAtLo, Reg.pgTripAtHi, Reg.pgTripCause, Reg.pgTrips], pgReg Reg.pgTripMask j ≠ pgReg r j := by
    simp [pgReg, Reg.pgTripMask, Reg.pgTripAtLo, Reg.pgTripAtHi, Reg.pgTripCause, Reg.pgTrips]
  have hwr : ∀ (u : State) o v i, pulseOf (wrN u o v) i = pulseOf u i := fun _ _ _ _ => rfl
  have hset : ∀ (u : State) x o, rdReg (setPulse u j x) o = rdReg u o := fun _ _ _ => rfl
  unfold guardPulse
  dsimp only
  rw [hon]
  split
  · next h =>
    generalize hu : wrN (wrN s (pgReg Reg.pgCtl j) (ctl % 2 ^ 24 / 2 ^ 12 * 2 ^ 12 + ctl % 2 ^ 8)) (pgReg Reg.pgTripMask j) mask = u
    obtain ⟨htrip, harm, hkeep, hweirs, hregs⟩ :=
      tripPulse_holds (s := setPulse u j { pulseOf u j with clear := bitN (pgCtlOf u j) 4 }) (j := j) 8
    rw [startPulse]
    refine ⟨fun _ => ⟨htrip, harm⟩, fun i hi => ?_, hweirs.trans (by rw [← hu]; rfl), ?_, fun o ho hne => ?_⟩
    · rw [(hkeep i hi).1, (hkeep i hi).2, pulseOf_setPulse, if_neg hi, ← hu, hwr, hwr]
      exact ⟨rfl, rfl⟩
    · rw [rdN_congr (hregs _ hmask hother), rdN_congr (hset ..), ← hu, rdN_wrN_same]
    · rw [hregs o ho fun r hr => hne r (List.mem_cons_of_mem _ (List.mem_cons_of_mem _ hr)), hset, ← hu, rdReg_wrN (hne _ (by simp)),
        rdReg_wrN (hne _ (by simp))]
  · next h =>
    refine ⟨fun h' => absurd h' h, fun i hi => ?_, rfl, ?_, fun o ho hne => ?_⟩
    · rw [(drivePin_holds i).1, (drivePin_holds i).2.1]
      exact ⟨rfl, rfl⟩
    · rw [rdN_congr (rdReg_congr (drivePin_holds 0).2.2.1 _), rdN_wrN_same]
    · rw [rdReg_congr (drivePin_holds 0).2.2.1, rdReg_wrN (hne _ (by simp)), rdReg_wrN (hne _ (by simp))]

theorem pulseGuarded_guardPulse (ctl mask : Nat) (hmask : mask < 2 ^ 32) : PulseGuarded (guardPulse ctl mask j s) j mask (bitN ctl 0) := by
  obtain ⟨hon, -, -, hm, -⟩ := guardPulse_holds (s := s) (j := j) ctl mask
  exact ⟨hm.trans (Nat.mod_eq_of_lt hmask), hon⟩

theorem PulseGuarded.guardPulse_other {mask : Nat} {on : Bool} (h : PulseGuarded s j mask on) {i : Nat} (hi : i ≠ j) (ctl mask' : Nat) :
    PulseGuarded (guardPulse ctl mask' i s) j mask on := by
  obtain ⟨-, hkeep, -, -, hregs⟩ := guardPulse_holds (s := s) (j := i) ctl mask'
  have hreg : rdReg (guardPulse ctl mask' i s) (pgReg Reg.pgTripMask j) = rdReg s (pgReg Reg.pgTripMask j) := by
    refine hregs _ (uncompleted_iff.mpr (by simp only [pgReg, Reg.pgTripMask]; omega)) ?_
    simp only [List.forall_mem_cons, List.not_mem_nil, false_imp_iff, implies_true, and_true, pgReg, Reg.pgCtl, Reg.pgTripMask, Reg.pgTripAtLo,
      Reg.pgTripAtHi, Reg.pgTripCause, Reg.pgTrips]
    omega
  obtain ⟨htrip, harm⟩ := hkeep j (Ne.symm hi)
  rw [PulseGuarded, rdN_congr hreg, htrip, harm]
  exact h

end Sys2Proof.Machine

/-!
SUPPORT. Quarantine (09 R472, R475), and the start of the firmware (14 R649, R655).
-/
namespace Sys2Proof.Machine

variable {s t : State} {o : Nat}

/-! ### What quarantine keeps and sets -/

theorem isQuar_congr (hc : t.clusters = s.clusters) (hb : (t.boot.qRouters, t.boot.qStacks, t.boot.qPorts) = (s.boot.qRouters, s.boot.qStacks, s.boot.qPorts))
    (k n : Nat) : isQuar t k n = isQuar s k n := by
  obtain ⟨hr, hs, hp⟩ : t.boot.qRouters = s.boot.qRouters ∧ t.boot.qStacks = s.boot.qStacks ∧ t.boot.qPorts = s.boot.qPorts := by
    simpa [Prod.ext_iff] using hb
  rw [isQuar, isQuar, clOf_congr hc, hr, hs, hp]

theorem isQuar_markQuar_same (k n : Nat) : isQuar (markQuar s k n) k n = true := by
  unfold isQuar markQuar
  split
  · simp
  · split
    · simp
    · split <;> simp

theorem isQuar_markQuar_of_isQuar {k n : Nat} (h : isQuar s k n = true) (kind num : Nat) : isQuar (markQuar s kind num) k n = true := by
  by_cases hk : k = 0
  · subst hk
    have hold : (clOf s n).quarantined = true := h
    change (clOf (markQuar s kind num) n).quarantined = true
    unfold markQuar
    split
    · rw [clOf_modCl]
      split
      · rfl
      · exact hold
    · (repeat' split) <;> exact hold
  · unfold isQuar at h ⊢
    rw [if_neg hk] at h ⊢
    unfold markQuar
    (repeat' split) <;> simp_all

theorem storePush_holds (n : Nat) (v : Word) (host : Bool) : (storePush s n v host).clusters = s.clusters
    ∧ (storePush s n v host).boot.fwRunning = s.boot.fwRunning
    ∧ ((storePush s n v host).boot.qRouters, (storePush s n v host).boot.qStacks, (storePush s n v host).boot.qPorts)
      = (s.boot.qRouters, s.boot.qStacks, s.boot.qPorts)
    ∧ ∀ o, o ≠ Reg.pstStatus → rdReg (storePush s n v host) o = rdReg s o := by
  unfold storePush
  split
  · exact ⟨rfl, rfl, rfl, fun _ _ => rfl⟩
  · refine ⟨rfl, rfl, rfl, fun o ho => ?_⟩
    rw [showQueue, rdReg_wrF ho, rdReg_wrB ho, rdReg_congr (putBoot_regs ..)]

theorem quarantine_of_new {kind num : Nat} (h : ¬ (unitCount kind ≤ num ∨ isQuar s kind num = true)) :
    ∃ v d, quarantine s kind num
      = raiseEv (cntReg (markQuar (storePush s (mapBit kind num).1 v false) kind num) Reg.ldgQuarantines 1) Reg.pageLdg 8 .block 0x08 0 0x0004 0 d :=
  ⟨_, _, if_neg h⟩

/-- A unit of the package that is quarantined is so (09 R472). -/
theorem isQuar_quarantine_same {kind num : Nat} (hn : num < unitCount kind) : isQuar (quarantine s kind num) kind num = true := by
  by_cases h : unitCount kind ≤ num ∨ isQuar s kind num = true
  · rw [quarantine, if_pos h]
    exact h.resolve_left (Nat.not_le.mpr hn)
  · obtain ⟨v, d, hq⟩ := quarantine_of_new h
    rw [hq, isQuar_congr (raiseEv_clusters ..) (by rw [raiseEv_boot]), isQuar_congr (cntReg_clusters ..) (by rw [cntReg_boot])]
    exact isQuar_markQuar_same ..

theorem isQuar_quarantine_of_isQuar {k n : Nat} (hold : isQuar s k n = true) (kind num : Nat) : isQuar (quarantine s kind num) k n = true := by
  by_cases h : unitCount kind ≤ num ∨ isQuar s kind num = true
  · rw [quarantine, if_pos h]
    exact hold
  · obtain ⟨v, d, hq⟩ := quarantine_of_new h
    obtain ⟨hc, -, hb, -⟩ := storePush_holds (s := s) (mapBit kind num).1 v false
    rw [hq, isQuar_congr (raiseEv_clusters ..) (by rw [raiseEv_boot]), isQuar_congr (cntReg_clusters ..) (by rw [cntReg_boot])]
    exact isQuar_markQuar_of_isQuar ((isQuar_congr hc hb k n).trans hold) kind num

/-- The units of a kind that are to be quarantined are so, besides those that were, and those that were stay so. -/
theorem isQuar_each_quarantine {k : Nat} (kind : Nat) {xs : List Nat} {n : Nat}
    (h : isQuar s k n = true ∨ (k = kind ∧ n < unitCount kind ∧ n ∈ xs)) : isQuar (each xs (fun n t => quarantine t kind n) s) k n = true := by
  rcases h with h | ⟨rfl, hn, hx⟩
  · exact each_preserves (P := fun u => isQuar u k n = true) (fun _ _ h => isQuar_quarantine_of_isQuar h ..) xs h
  · exact each_reaches (P := fun u => isQuar u k n = true) hx (fun _ => isQuar_quarantine_same hn) (fun _ _ _ h => isQuar_quarantine_of_isQuar h ..) s

/-! ### The mapping at level 3 (09 R475) -/

theorem applyMapping_holds (m : List (Nat × Nat)) : (applyMapping s m).regs = s.regs ∧ (applyMapping s m).boot = s.boot
    ∧ ∀ p, (clOf (applyMapping s m) p).quarantined = (clOf s p).quarantined := by
  unfold applyMapping
  refine ⟨?_, ?_, fun p => ?_⟩
  · exact (each_keeps State.regs _ (fun _ _ => modCl_regs ..) m _).trans (allCl_keeps s State.regs _ fun _ _ => modCl_regs ..)
  · exact (each_keeps State.boot _ (fun _ _ => modCl_boot ..) m _).trans (allCl_keeps s State.boot _ fun _ _ => modCl_boot ..)
  · have hlogical : ∀ (u : State) q (l : Option Nat), (clOf (modCl u q fun c => { c with logical := l }) p).quarantined = (clOf u p).quarantined :=
      fun u q l => by
        rw [clOf_modCl]
        split
        · next h => rw [h]
        · rfl
    exact (each_keeps (fun u : State => (clOf u p).quarantined) _ (fun x u => hlogical u x.2 (some x.1)) m _).trans
      (allCl_keeps s (fun u : State => (clOf u p).quarantined) _ fun u q => hlogical u q none)

/-- The mapping changes no quarantine, and of the registers GLB.IDENT alone (09 R475, R666). -/
theorem mapAtBoot_holds : (∀ k n, isQuar (mapAtBoot s) k n = isQuar s k n) ∧ (mapAtBoot s).boot.selfTested = s.boot.selfTested
    ∧ ∀ o, o ≠ Reg.glbIdent → rdReg (mapAtBoot s) o = rdReg s o := by
  have hmapped : ∀ (u : State) m, (∀ k n, isQuar u k n = isQuar s k n) → u.boot.selfTested = s.boot.selfTested →
      (∀ o, o ≠ Reg.glbIdent → rdReg u o = rdReg s o) →
      (∀ k n, isQuar (putBoot (applyMapping u m) { (applyMapping u m).boot with mapped := true }) k n = isQuar s k n)
        ∧ (putBoot (applyMapping u m) { (applyMapping u m).boot with mapped := true }).boot.selfTested = s.boot.selfTested
        ∧ ∀ o, o ≠ Reg.glbIdent → rdReg (putBoot (applyMapping u m) { (applyMapping u m).boot with mapped := true }) o = rdReg s o :=
    fun u m hquar hself hregs => by
      obtain ⟨hr, hb, hc⟩ := applyMapping_holds (s := u) m
      rw [hb]
      refine ⟨fun k n => ?_, hself, fun o ho => (rdReg_congr ((putBoot_regs ..).trans hr) o).trans (hregs o ho)⟩
      rw [← hquar, isQuar, isQuar, clOf_congr (putBoot_clusters ..), hc]
      rfl
  unfold mapAtBoot
  dsimp only
  split
  · exact hmapped _ _ (fun _ _ => rfl) rfl fun _ _ => rfl
  · split
    · exact hmapped _ _ (fun _ _ => rfl) rfl fun o ho => (rdReg_wrB ho).trans (rdReg_wrF ho)
    · exact ⟨fun _ _ => rfl, rfl, fun _ _ => rfl⟩

/-! ### The start of the firmware -/

theorem runningSlot_lt (s : State) : runningSlot s < 2 := by
  rw [runningSlot, rdF, rfld, fld]
  omega

theorem noteSlot_holds (slot st : Nat) : (noteSlot s slot st).boot = s.boot ∧ ∀ o, o ≠ Reg.glbBoot → rdReg (noteSlot s slot st) o = rdReg s o := by
  unfold noteSlot
  split
  · exact ⟨rfl, fun o ho => rdReg_wrF ho⟩
  · exact ⟨rfl, fun o ho => rdReg_wrF ho⟩

/-- The firmware that starts runs from its slot (14 R649). -/
theorem startFirmware_holds {slot : Nat} (hslot : slot < 2) : (startFirmware s slot).boot.fwRunning = true
    ∧ (startFirmware s slot).boot = { s.boot with fwRunning := true } ∧ runningSlot (startFirmware s slot) = slot
    ∧ ∀ o, o ≠ Reg.glbBoot → o ≠ Reg.mgtStatus → o ≠ Reg.azlEpoch → rdReg (startFirmware s slot) o = rdReg s o := by
  unfold startFirmware
  dsimp only
  refine ⟨rfl, rfl, ?_, fun o hb hm ha => ?_⟩
  · rw [runningSlot, rdF_congr (rdReg_congr (putBoot_regs ..) _), rdF_congr (rdReg_wrF (by decide)), rdF_congr (rdReg_wrF (by decide)),
      rdF_congr (rdReg_wrB (by decide)), rdF_wrF_other _ _ (by decide) (by decide) (by decide) (by decide), rdF_wrF_same _ _ (by decide) (by decide)]
    exact Nat.mod_eq_of_lt hslot
  · rw [rdReg_congr (putBoot_regs ..), rdReg_wrF ha, rdReg_wrF hm, rdReg_wrB hm, rdReg_wrF hb, rdReg_wrF hb]

theorem speedChange_holds : (speedChange s).boot = s.boot ∧ ∀ o, Uncompleted o → o ≠ Reg.hifStatus → rdReg (speedChange s) o = rdReg s o := by
  have hshow : ∀ up speed width, (showLink s up speed width).boot = s.boot
      ∧ ∀ o, Uncompleted o → o ≠ Reg.hifStatus → rdReg (showLink s up speed width) o = rdReg s o := fun up speed width => by
    unfold showLink
    refine ⟨raiseEv_boot .., fun o ho hne => ?_⟩
    obtain ⟨h14, -, -, -⟩ := uncompleted_iff.mp ho
    rw [ho.rdReg_raiseEv (by simp only [Reg.pageHif]; omega), rdReg_setEvt (by simp only [Reg.pageHif]; omega), rdReg_wrF hne, rdReg_wrF hne,
      rdReg_wrB hne]
  unfold speedChange
  split
  · exact hshow ..
  · exact ⟨rfl, fun _ _ _ => rfl⟩

/-- Outside its own registers a change of the level touches no register but status bits (14 R642). -/
theorem Uncompleted.rdReg_setLevel (ho : Uncompleted o) {n : Nat} (hlevel : o ≠ Reg.glbServiceLevel)
    (hcount : o ≠ Reg.glbLevel + 8 * (n - 1) ∧ o ≠ Reg.glbLevel + 8 * (n - 1) + 4) : rdReg (setLevel s n) o = rdReg s o := by
  obtain ⟨h14, -, -, -⟩ := uncompleted_iff.mp ho
  unfold Machine.setLevel
  dsimp only
  split
  · rfl
  · rw [ho.rdReg_raiseEv (by simp only [Reg.pageGlb]; omega)]
    split
    · rw [wr64, rdReg_wrN hcount.2, rdReg_wrN hcount.1, rdReg_wrF hlevel, rdReg_wrF hlevel]
    · exact rdReg_wrF hlevel

end Sys2Proof.Machine

/-!
PROOF. O51: the levels of bring-up, each from the one below it (14 R647, R649, R655, R664, R666, 12 R575, 09 R472), and the restart of the firmware
(07 R411, R416).
-/
namespace Sys2Proof.Machine

variable {s t : State}

/-! ### The store and level 1 -/

theorem exec_pstLoadDone_of_lock (hpll : s.power.pll = true) (hload : s.boot.pstLoaded = false) : ∃ t, exec .pstLoadDone s = .next t
    ∧ t.boot.pstLoaded = true ∧ (∀ p < 144, rbit (storeVal s (0x40 + p / 32)) (p % 32) = true → (clOf t p).quarantined = true)
    ∧ rdF t Reg.glbIdent 15 8 = rfld (storeVal s 0) 15 8 ∧ rdF t Reg.glbIdent 0 0 = rfld (storeVal s 0) 0 0
    ∧ rdB t Reg.pstStatus 6 = rbit (storeVal s 1) 0 := by
  have hexec : exec .pstLoadDone s = .next (wrB (wrF (wrF (loadMap (putBoot s { s.boot with pstLoaded := true })) Reg.glbIdent 0 0
      (rfld (storeVal s 0) 0 0)) Reg.glbIdent 15 8 (gradeCount s)) Reg.pstStatus 6 (rbit (storeVal s 1) 0)) := by
    change execPstLoadDone s = _
    rw [execPstLoadDone, hpll, hload]
    rfl
  obtain ⟨hquar, -, hloaded⟩ := loadMap_holds (s := putBoot s { s.boot with pstLoaded := true })
  refine ⟨_, hexec, ?_, fun p hp hbit => ?_, ?_, ?_, rdB_wrB_same _ _ (by decide)⟩
  · rw [wrB_boot, wrF_boot, wrF_boot, hloaded]
    rfl
  · rw [clOf_congr (wrB_clusters ..), clOf_congr (wrF_clusters ..), clOf_congr (wrF_clusters ..)]
    exact hquar p hp hbit
  · rw [rdF_congr (rdReg_wrB (by decide)), rdF_wrF_same _ _ (by decide) (by decide)]
    exact Nat.mod_mod _ _
  · rw [rdF_congr (rdReg_wrB (by decide)), rdF_wrF_other _ _ (by decide) (by decide) (by decide) (by decide), rdF_wrF_same _ _ (by decide) (by decide)]
    exact Nat.mod_mod _ _

/-- Level 1 loads the defaults of the Weirs and of the pulse generators from the store (12 R575, 14 R664). -/
theorem exec_levelGuard_of_loaded (hload : s.boot.pstLoaded = true) (hlevel : svcLevel s = 0) : ∃ t, exec .levelGuard s = .next t ∧ svcLevel t = 1
    ∧ (∀ w < 32, WeirGuarded t w (storeVal s (0x50 + 2 * w)).toNat)
    ∧ ∀ j < 16, PulseGuarded t j (storeVal s (0x91 + 2 * j)).toNat (bitN (storeVal s (0x90 + 2 * j)).toNat 0) := by
  have hexec : exec .levelGuard s = .next (each (List.range 16) (fun j => guardPulse (storeVal s (0x90 + 2 * j)).toNat (storeVal s (0x91 + 2 * j)).toNat j)
      (each (List.range 32) (fun w => guardWeir (storeVal s (0x50 + 2 * w)).toNat (storeVal s (0x51 + 2 * w)).toNat w) (setLevel s 1))) := by
    change execLevelGuard s = _
    rw [execLevelGuard, hload, hlevel]
    rfl
  have hpulseReg : ∀ (u : State) j ctl mask, rdReg (guardPulse ctl mask j u) Reg.glbServiceLevel = rdReg u Reg.glbServiceLevel := fun u j ctl mask =>
    (guardPulse_holds ctl mask).2.2.2.2 _ (by simp [Uncompleted, Reg.glbServiceLevel]) (by
      simp only [List.forall_mem_cons, List.not_mem_nil, false_imp_iff, implies_true, and_true, pgReg, Reg.glbServiceLevel, Reg.pgCtl, Reg.pgTripMask,
        Reg.pgTripAtLo, Reg.pgTripAtHi, Reg.pgTripCause, Reg.pgTrips]
      omega)
  refine ⟨_, hexec, ?_, fun w hw => ?_, fun j hj => ?_⟩
  · rw [svcLevel, rdF_congr (each_keeps (rdReg · Reg.glbServiceLevel) _ (fun j u => hpulseReg u j _ _) _ _),
      rdF_congr (each_keeps (rdReg · Reg.glbServiceLevel) _ (fun w u => rdReg_guardWeir _ _ (by decide)) _ _)]
    exact svcLevel_setLevel 1 (by decide)
  · refine each_preserves (P := fun u => WeirGuarded u w (storeVal s (0x50 + 2 * w)).toNat) (fun j u h => h.congr ?_) _ ?_
    · rw [weirOf, (guardPulse_holds _ _).2.2.1, weirOf]
    · exact each_reaches (P := fun u => WeirGuarded u w (storeVal s (0x50 + 2 * w)).toNat) (List.mem_range.mpr hw) (fun _ => weirGuarded_guardWeir ..)
        (fun i u hi h => h.congr (weirOf_guardWeir_other _ _ (Ne.symm hi))) _
  · exact each_reaches (P := fun u => PulseGuarded u j (storeVal s (0x91 + 2 * j)).toNat (bitN (storeVal s (0x90 + 2 * j)).toNat 0))
      (List.mem_range.mpr hj) (fun _ => pulseGuarded_guardPulse _ _ (BitVec.isLt _)) (fun i u hi h => h.guardPulse_other hi ..) _

/-! ### Level 2: the firmware -/

/-- What the ROM leaves before level 2 is shown: the firmware of the active slot, of the other one, or recovery (14 R649). -/
def romStarted (s : State) : State :=
  let a := activeSlot s
  let s1 := noteSlot s a (slotStatus s a)
  if slotStatus s a = 1 then startFirmware s1 a
  else
    let t := noteSlot s1 (1 - a) (slotStatus s (1 - a))
    if slotStatus s (1 - a) = 1 then wrB (startFirmware t (1 - a)) Reg.glbBoot 1 true
    else putBoot t { t.boot with recovery := true }

theorem exec_firmwareBoot_of_guard (hlevel : svcLevel s = 1) : exec .firmwareBoot s = .next (speedChange (setLevel (romStarted s) 2)) := by
  change execFirmwareBoot s = _
  rw [execFirmwareBoot, if_neg (not_not.mpr hlevel)]
  rfl

theorem romStarted_holds : (slotStatus s (activeSlot s) = 1 → (romStarted s).boot.fwRunning = true ∧ runningSlot (romStarted s) = activeSlot s)
    ∧ (slotStatus s (activeSlot s) ≠ 1 → slotStatus s (1 - activeSlot s) = 1 →
      (romStarted s).boot.fwRunning = true ∧ runningSlot (romStarted s) = 1 - activeSlot s ∧ rdB (romStarted s) Reg.glbBoot 1 = true)
    ∧ (slotStatus s (activeSlot s) ≠ 1 → slotStatus s (1 - activeSlot s) ≠ 1 →
      (romStarted s).boot.recovery = true ∧ (romStarted s).boot.fwRunning = s.boot.fwRunning) := by
  have hslot : activeSlot s < 2 := Nat.mod_lt _ (by decide)
  have hother : 1 - activeSlot s < 2 := by omega
  unfold romStarted
  dsimp only
  refine ⟨fun hok => ?_, fun hbad hok => ?_, fun hbad hbad' => ?_⟩
  · obtain ⟨hrun, -, hruns, -⟩ := startFirmware_holds (s := noteSlot s (activeSlot s) (slotStatus s (activeSlot s))) hslot
    rw [if_pos hok]
    exact ⟨hrun, hruns⟩
  · obtain ⟨hrun, -, hruns, -⟩ := startFirmware_holds (s := noteSlot (noteSlot s (activeSlot s) (slotStatus s (activeSlot s))) (1 - activeSlot s)
      (slotStatus s (1 - activeSlot s))) hother
    rw [if_neg hbad, if_pos hok]
    exact ⟨hrun, (rdF_wrB_other _ _ (by decide) (by decide) (by decide)).trans hruns, rdB_wrB_same _ _ (by decide)⟩
  · rw [if_neg hbad, if_neg hbad', (noteSlot_holds ..).1, (noteSlot_holds ..).1]
    exact ⟨rfl, rfl⟩

theorem setLevel_boot (n : Nat) : (setLevel s n).boot = s.boot := by
  unfold setLevel
  dsimp only
  (repeat' split) <;> simp

theorem setLevel_clusters (n : Nat) : (setLevel s n).clusters = s.clusters := by
  unfold setLevel
  dsimp only
  (repeat' split) <;> simp

/-- Level 2 is shown with what the ROM started (14 R649, R664). -/
theorem levelTwo_holds : svcLevel (speedChange (setLevel s 2)) = 2 ∧ (speedChange (setLevel s 2)).boot = s.boot
    ∧ rdReg (speedChange (setLevel s 2)) Reg.glbBoot = rdReg s Reg.glbBoot := by
  obtain ⟨hboot, hregs⟩ := speedChange_holds (s := setLevel s 2)
  refine ⟨?_, hboot.trans (setLevel_boot 2), ?_⟩
  · rw [svcLevel, rdF_congr (hregs _ (by simp [Uncompleted, Reg.glbServiceLevel]) (by decide))]
    exact svcLevel_setLevel 2 (by decide)
  · exact (hregs _ (by simp [Uncompleted, Reg.glbBoot]) (by decide)).trans
      (Uncompleted.rdReg_setLevel (by simp [Uncompleted, Reg.glbBoot]) (by decide) (by decide))

/-! ### Levels 3 and 4: the self-test and the mapping -/

theorem isQuar_setLevel (n k m : Nat) : isQuar (setLevel s n) k m = isQuar s k m :=
  isQuar_congr (setLevel_clusters n) (by rw [setLevel_boot]) k m

/-- The clusters and the routers that the self-test failed, quarantined where they were not (09 R472, 14 R666). -/
def narrowQuarantined (s : State) (clusters routers : List Nat) : State :=
  each ((List.range 144).filter fun p => routers.contains p && !isQuar s 1 p) (fun p t => quarantine t 1 p)
    (each ((List.range 144).filter fun p => clusters.contains p && !isQuar s 0 p) (fun p t => quarantine t 0 p) s)

theorem isQuar_narrowQuarantined {clusters routers : List Nat} {p : Nat} (hp : p < 144) :
    (p ∈ clusters → isQuar (narrowQuarantined s clusters routers) 0 p = true)
      ∧ (p ∈ routers → isQuar (narrowQuarantined s clusters routers) 1 p = true) := by
  have hin : ∀ (xs : List Nat) k, p ∈ xs →
      isQuar s k p = true ∨ p ∈ (List.range 144).filter fun q => xs.contains q && !isQuar s k q := fun xs k hx => by
    cases hq : isQuar s k p with
    | true => exact .inl rfl
    | false => exact .inr (List.mem_filter.mpr ⟨List.mem_range.mpr hp, by rw [List.contains_iff_mem.mpr hx, hq]; rfl⟩)
  unfold narrowQuarantined
  refine ⟨fun hx => isQuar_each_quarantine 1 (.inl (isQuar_each_quarantine 0 ?_)), fun hx => isQuar_each_quarantine 1 ?_⟩
  · exact (hin clusters 0 hx).imp_right fun h => ⟨rfl, hp, h⟩
  · exact (hin routers 1 hx).imp (fun h => isQuar_each_quarantine 0 (.inl h)) fun h => ⟨rfl, hp, h⟩

/-- The self-test's counts and its end are noted, and the clusters are mapped: what level 3 is shown over (09 R475, 14 R666). -/
def narrowTested (s : State) (a b : Nat) : State :=
  let t := wrF (wrF s Reg.glbPost 7 0 a) Reg.glbPost 15 8 b
  mapAtBoot (putBoot t { t.boot with selfTested := true })

theorem narrowTested_holds (a b : Nat) : (∀ k n, isQuar (narrowTested s a b) k n = isQuar s k n) ∧ (narrowTested s a b).boot.selfTested = true := by
  unfold narrowTested
  dsimp only
  refine ⟨fun k n => ?_, mapAtBoot_holds.2.1.trans rfl⟩
  rw [mapAtBoot_holds.1]
  exact isQuar_congr rfl rfl k n

/-- Level 3 is entered with what the self-test found quarantined and the clusters mapped (09 R475, 14 R664, R666). -/
theorem exec_levelNarrow_of_running {clusters routers : List Nat} (hlevel : svcLevel s = 2) (hrec : s.boot.recovery = false)
    (hrun : s.boot.fwRunning = true) : ∃ t, exec (.levelNarrow clusters routers) s = .next t ∧ svcLevel t = 3 ∧ t.boot.selfTested = true
      ∧ (∀ p < 144, p ∈ clusters → isQuar t 0 p = true) ∧ ∀ p < 144, p ∈ routers → isQuar t 1 p = true := by
  have hgo : ¬ (svcLevel s ≠ 2 ∨ s.boot.recovery = true ∨ s.boot.fwRunning = false) := by simp [hlevel, hrec, hrun]
  have hexec : ∃ a b : Nat,
      exec (.levelNarrow clusters routers) s = .next (setLevel (narrowTested (narrowQuarantined s clusters routers) a b) 3) :=
    ⟨_, _, if_neg hgo⟩
  obtain ⟨a, b, hexec⟩ := hexec
  obtain ⟨hquar, htested⟩ := narrowTested_holds (s := narrowQuarantined s clusters routers) a b
  refine ⟨_, hexec, svcLevel_setLevel 3 (by decide), by rw [setLevel_boot, htested], fun p hp hx => ?_, fun p hp hx => ?_⟩
  · rw [isQuar_setLevel, hquar]
    exact (isQuar_narrowQuarantined hp).1 hx
  · rw [isQuar_setLevel, hquar]
    exact (isQuar_narrowQuarantined hp).2 hx

/-- The stacks and the ports that the self-test failed, quarantined where they were not (09 R472, 14 R664). -/
def fullQuarantined (s : State) (stackOk portOk : Nat) : State :=
  each ((List.range 8).filter fun k => !bitN portOk k && !isQuar s 3 k) (fun k t => quarantine t 3 k)
    (each ((List.range 6).filter fun h => !bitN stackOk h && !isQuar s 2 h) (fun h t => quarantine t 2 h) s)

theorem isQuar_fullQuarantined {stackOk portOk p : Nat} :
    (p < 6 → bitN stackOk p = false → isQuar (fullQuarantined s stackOk portOk) 2 p = true)
      ∧ (p < 8 → bitN portOk p = false → isQuar (fullQuarantined s stackOk portOk) 3 p = true) := by
  have hin : ∀ m n k, p < n → bitN m p = false →
      isQuar s k p = true ∨ p ∈ (List.range n).filter fun q => !bitN m q && !isQuar s k q := fun m n k hp hx => by
    cases hq : isQuar s k p with
    | true => exact .inl rfl
    | false => exact .inr (List.mem_filter.mpr ⟨List.mem_range.mpr hp, by rw [hx, hq]; rfl⟩)
  unfold fullQuarantined
  refine ⟨fun hp hx => isQuar_each_quarantine 3 (.inl (isQuar_each_quarantine 2 ?_)), fun hp hx => isQuar_each_quarantine 3 ?_⟩
  · exact (hin stackOk 6 2 hp hx).imp_right fun h => ⟨rfl, hp, h⟩
  · exact (hin portOk 8 3 hp hx).imp (fun h => isQuar_each_quarantine 2 (.inl h)) fun h => ⟨rfl, hp, h⟩

/-- Level 4 is entered with the stacks and the ports that the self-test failed quarantined (09 R472, 14 R664). -/
theorem exec_levelFull_of_narrow {stackOk portOk : Nat} (hlevel : svcLevel s = 3) : ∃ t, exec (.levelFull stackOk portOk) s = .next t ∧ svcLevel t = 4
    ∧ (∀ h < 6, bitN stackOk h = false → isQuar t 2 h = true) ∧ ∀ k < 8, bitN portOk k = false → isQuar t 3 k = true := by
  have hgo : ¬ svcLevel s ≠ 3 := not_not.mpr hlevel
  have hexec : ∃ a b : Nat, exec (.levelFull stackOk portOk) s
      = .next (setLevel (wrF (wrF (fullQuarantined s stackOk portOk) Reg.glbPost 21 16 a) Reg.glbPost 31 24 b) 4) :=
    ⟨_, _, if_neg hgo⟩
  obtain ⟨a, b, hexec⟩ := hexec
  have hkept : ∀ (u : State) k n, isQuar (setLevel (wrF (wrF u Reg.glbPost 21 16 a) Reg.glbPost 31 24 b) 4) k n = isQuar u k n := fun u k n =>
    (isQuar_setLevel ..).trans (isQuar_congr rfl rfl k n)
  refine ⟨_, hexec, svcLevel_setLevel 4 (by decide), fun h hh hx => ?_, fun k hk hx => ?_⟩
  · rw [hkept]
    exact isQuar_fullQuarantined.1 hh hx
  · rw [hkept]
    exact isQuar_fullQuarantined.2 hk hx

/-! ### The restart of the firmware (07 R411, R416) -/

theorem switchEnd_holds : (switchEnd s).boot = s.boot ∧ ∀ o, o ≠ Reg.azlState → rdReg (switchEnd s) o = rdReg s o := by
  unfold switchEnd
  split
  · exact ⟨rfl, fun _ _ => rfl⟩
  · refine ⟨rfl, fun o ho => ?_⟩
    dsimp only
    rw [rdReg_congr (putGener_regs ..), setAzl, rdReg_wrF ho, rdReg_congr (putAzl_regs ..)]

/-- The end of a switch runs the staged slot, or the one that ran when the staged one fails (07 R411, 14 R655). -/
theorem exec_firmwareRestarted_of_switch (hswitch : s.azl.restarting = true) (hstopped : s.boot.fwRunning = false) :
    ∃ t, exec .firmwareRestarted s = .next t ∧ t.boot.fwRunning = true
      ∧ (slotStatus s (inactiveSlot s) = 1 → runningSlot t = inactiveSlot s ∧ rdF t Reg.azlEpoch 31 16 = 0)
      ∧ (slotStatus s (inactiveSlot s) ≠ 1 → runningSlot t = runningSlot s) := by
  have hexec : exec .firmwareRestarted s = execFirmwareRestarted s := rfl
  have hgo : (!s.azl.restarting || s.boot.fwRunning) = false := by rw [hswitch, hstopped]; rfl
  rw [hexec, execFirmwareRestarted, hgo, if_neg Bool.false_ne_true]
  dsimp only
  by_cases hok : slotStatus s (inactiveSlot s) = 1
  · rw [if_pos hok]
    have hslot : inactiveSlot s < 2 := by rw [inactiveSlot]; omega
    obtain ⟨hrun, -, hruns, -⟩ := startFirmware_holds (s := noteSlot s (inactiveSlot s) 1) hslot
    generalize startFirmware (noteSlot s (inactiveSlot s) 1) (inactiveSlot s) = u at hrun hruns ⊢
    obtain ⟨-, hprun, -, hpregs⟩ := storePush_holds (s := wrF u Reg.azlEpoch 31 16 0) 0x4C (w32 (inactiveSlot s)) false
    generalize storePush (wrF u Reg.azlEpoch 31 16 0) 0x4C (w32 (inactiveSlot s)) false = p at hprun hpregs ⊢
    obtain ⟨hboot, hregs⟩ := switchEnd_holds (s := p)
    have hev : ∀ o d, Uncompleted o → rdReg (azlEvBeside (switchEnd p) 0x40 0x0008 (memberPos s) d) o = rdReg (switchEnd p) o := fun o d ho => by
      obtain ⟨h14, -, -, -⟩ := uncompleted_iff.mp ho
      rw [azlEvBeside, raiseBeside, ho.rdReg_raiseEv (by simp only [Reg.pageAzl]; omega), rdReg_setEvt (by simp only [Reg.pageAzl]; omega)]
    refine ⟨_, rfl, ?_, fun _ => ⟨?_, ?_⟩, fun hno => absurd hok hno⟩
    · rw [azlEvBeside, raiseBeside, raiseEv_boot, setEvt_boot, hboot, hprun, wrF_boot, hrun]
    · rw [runningSlot, rdF_congr (hev _ _ (by simp [Uncompleted, Reg.glbBoot])), rdF_congr (hregs _ (by decide)), rdF_congr (hpregs _ (by decide)),
        rdF_congr (rdReg_wrF (by decide))]
      exact hruns
    · rw [rdF_congr (hev _ _ (by simp [Uncompleted, Reg.azlEpoch])), rdF_congr (hregs _ (by decide)), rdF_congr (hpregs _ (by decide)),
        rdF_wrF_same _ _ (by decide) (by decide)]
      rfl
  · rw [if_neg hok]
    obtain ⟨hrun, -, hruns, -⟩ := startFirmware_holds (s := noteSlot s (inactiveSlot s) (slotStatus s (inactiveSlot s))) (runningSlot_lt s)
    generalize startFirmware (noteSlot s (inactiveSlot s) (slotStatus s (inactiveSlot s))) (runningSlot s) = u at hrun hruns ⊢
    obtain ⟨hboot, hregs⟩ := switchEnd_holds (s := u)
    refine ⟨_, rfl, ?_, fun h => absurd h hok, fun _ => ?_⟩
    · rw [raiseEv_boot, hboot, hrun]
    · rw [runningSlot, rdF_congr (Uncompleted.rdReg_raiseEv (by simp [Uncompleted, Reg.glbBoot]) (by decide)), rdF_congr (hregs _ (by decide))]
      exact hruns

end Sys2Proof.Machine

/-!
SUPPORT. Warm reset (14 R641): the registers that it takes to their cold-reset values and those that it keeps.
-/
namespace Sys2Proof.Machine

variable {s t : State} {o n : Nat}

/-! ### Canonical registers -/

/-- The registers are in canonical form. -/
def RegsWf (s : State) : Prop := smWf coldReg s.regs = true

theorem RegsWf.congr (h : RegsWf s) (he : t.regs = s.regs) : RegsWf t := by rw [RegsWf, he]; exact h

theorem RegsWf.wrReg (h : RegsWf s) (off : Nat) (v : Word) : RegsWf (wrReg s off v) := smWf_smSet h

theorem RegsWf.pushRec (h : RegsWf s) (q : Nat) (completion : Bool) (r : EvRec) : RegsWf (pushRec s q completion r) := by
  unfold Machine.pushRec
  dsimp only
  split
  · exact ((h.congr (setEvq_regs ..)).wrReg _ _).wrReg _ _
  · exact ((h.congr (setEvq_regs ..)).wrReg _ _).wrReg _ _

theorem RegsWf.raiseEv (h : RegsWf s) (page bits : Nat) (dst : Dest) (type inst code w1 : Nat) (d : List Nat) :
    RegsWf (raiseEv s page bits dst type inst code w1 d) := by
  have hset : RegsWf (if bits = 0 then s else setEvt s page bits) := by
    split
    · exact h
    · exact h.wrReg _ _
  unfold Machine.raiseEv
  dsimp only
  split
  · exact hset
  · split
    · exact hset.pushRec ..
    · split
      · exact hset.pushRec ..
      · exact hset

/-- What is stored under a key of a sorted map is what the map gives for it. -/
theorem smGet_of_mem {α : Type} {d : Nat → α} {m : SMap α} {lo : Option Nat} {k : Nat} {v : α} (h : smSorted lo m = true) (hm : (k, v) ∈ m) :
    (∀ l ∈ lo, l < k) ∧ smGet d m k = v := by
  induction m generalizing lo with
  | nil => cases hm
  | cons e m ih =>
    obtain ⟨a, x⟩ := e
    simp only [smSorted, Bool.and_eq_true] at h
    obtain ⟨hlo, hm'⟩ := h
    have ha : ∀ l ∈ lo, l < a := fun l hl => by
      rw [Option.mem_def.mp hl] at hlo
      exact of_decide_eq_true hlo
    rcases List.mem_cons.mp hm with he | hin
    · obtain ⟨rfl, rfl⟩ := Prod.mk.inj he
      exact ⟨ha, if_pos rfl⟩
    · obtain ⟨hlt, hget⟩ := ih hm' hin
      have hak : a < k := hlt a rfl
      exact ⟨fun l hl => (ha l hl).trans hak, (if_neg (by omega)).trans hget⟩

/-! ### The parts of the state over a warm reset -/

/-- The parts of the state that a warm reset deals with beside the registers: first those that it keeps, or all but keeps. -/
def warmView (s : State) : (Nat × Falbo × Mem × Power × List TokRec) × Boot × SMap Cluster × Gener × Sched × AzlState :=
  ((s.count, s.falbo, s.hbm, s.power, s.hif.held), s.boot, s.clusters, s.gener, s.sched, s.azl)

@[simp] theorem warmView_wrN (off v : Nat) : warmView (wrN s off v) = warmView s := rfl
@[simp] theorem warmView_wrF (off hi lo v : Nat) : warmView (wrF s off hi lo v) = warmView s := rfl
@[simp] theorem warmView_wrB (off n : Nat) (b : Bool) : warmView (wrB s off n b) = warmView s := rfl
@[simp] theorem warmView_wr64 (off v : Nat) : warmView (wr64 s off v) = warmView s := rfl
@[simp] theorem warmView_noteHw (off : Nat) (bits : Word) : warmView (noteHw s off bits) = warmView s := rfl
@[simp] theorem warmView_setEvt (page bits : Nat) : warmView (setEvt s page bits) = warmView s := rfl

theorem pushRec_held (q : Nat) (completion : Bool) (r : EvRec) : (pushRec s q completion r).hif.held = s.hif.held := by
  unfold pushRec
  dsimp only
  split <;> rfl

theorem raiseEv_held (page bits : Nat) (dst : Dest) (type inst code w1 : Nat) (d : List Nat) :
    (raiseEv s page bits dst type inst code w1 d).hif.held = s.hif.held := by
  have hset : (if bits = 0 then s else setEvt s page bits).hif.held = s.hif.held := by split <;> rfl
  unfold raiseEv
  dsimp only
  split
  · exact hset
  · split
    · rw [pushRec_held, hset]
    · split
      · rw [pushRec_held, hset]
      · exact hset

theorem warmView_raiseEv (page bits : Nat) (dst : Dest) (type inst code w1 : Nat) (d : List Nat) :
    warmView (raiseEv s page bits dst type inst code w1 d) = warmView s := by
  simp only [warmView, raiseEv_count, raiseEv_falbo, raiseEv_hbm, raiseEv_power, raiseEv_held, raiseEv_boot, raiseEv_clusters, raiseEv_gener,
    raiseEv_sched, raiseEv_azl]

theorem complete1_held (c : CmdRef) (status w6 w7 : Nat) : (complete1 s c status w6 w7).hif.held = s.hif.held := by
  unfold complete1
  dsimp only
  split
  · rfl
  · exact pushRec_held ..

theorem complete_held (c : CmdRef) (status w6 w7 : Nat) : (complete s c status w6 w7).hif.held = s.hif.held := by
  unfold complete
  dsimp only
  split
  · exact (complete1_held ..).trans (complete1_held ..)
  · exact complete1_held ..

theorem warmView_complete (c : CmdRef) (status w6 w7 : Nat) : warmView (complete s c status w6 w7) = warmView s := by
  simp only [warmView, complete_count, complete_falbo, complete_hbm, complete_power, complete_held, complete_boot, complete_clusters, complete_gener,
    complete_sched, complete_azl]

theorem warmView_setLevel (n : Nat) : warmView (setLevel s n) = warmView s := by
  unfold setLevel
  dsimp only
  split
  · rfl
  · rw [warmView_raiseEv]
    split <;> simp

theorem warmView_showFree : warmView (showFree s) = warmView s := by
  unfold showFree
  dsimp only
  (repeat' split) <;> simp

theorem warmView_unloadRegs : warmView (unloadRegs s) = warmView s := by
  rw [unloadRegs, setAzl, warmView_wrF, warmView_wrF, warmView_showFree]
  simp

/-! ### The store is drained (14 R667) -/

theorem programStore_holds (n : Nat) (v : Option Word) (times : Nat) : (warmView (programStore s n v times)).1 = (warmView s).1
    ∧ (programStore s n v times).clusters = s.clusters ∧ (programStore s n v times).boot.fwRunning = s.boot.fwRunning
    ∧ (RegsWf s → RegsWf (programStore s n v times))
    ∧ ∀ o, Uncompleted o → o ≠ Reg.pstWrites → o ≠ Reg.pstStatus → rdReg (programStore s n v times) o = rdReg s o := by
  unfold programStore
  extract_lets w0 w older src s0 s1 s2
  obtain ⟨hview, hcl, hrun, hwf, hregs⟩ : (warmView s2).1 = (warmView s).1 ∧ s2.clusters = s.clusters ∧ s2.boot.fwRunning = s.boot.fwRunning
      ∧ (RegsWf s → RegsWf s2) ∧ ∀ o, o ≠ Reg.pstWrites → o ≠ Reg.pstStatus → rdReg s2 o = rdReg s o := by
    by_cases hn : n = 1
    · rw [show s2 = wrB s1 Reg.pstStatus 6 (rbit (storeVal s1 1) 0) from if_pos hn]
      exact ⟨rfl, rfl, rfl, fun h => ((h.congr (putBoot_regs ..)).wrReg _ _).wrReg _ _, fun o hw hs => (rdReg_wrB hs).trans (rdReg_cntReg hw)⟩
    · rw [show s2 = s1 from if_neg hn]
      exact ⟨rfl, rfl, rfl, fun h => (h.congr (putBoot_regs ..)).wrReg _ _, fun o hw _ => rdReg_cntReg hw⟩
  split
  · refine ⟨by rw [warmView_raiseEv, hview], by rw [raiseEv_clusters, hcl], by rw [raiseEv_boot, hrun], fun h => (hwf h).raiseEv .., fun o ho hw hs => ?_⟩
    rw [ho.rdReg_raiseEv (by have := (uncompleted_iff.mp ho).1; simp only [Reg.pagePst]; omega), hregs o hw hs]
  · exact ⟨hview, hcl, hrun, hwf, fun o _ hw hs => hregs o hw hs⟩

end Sys2Proof.Machine

/-!
PROOF. O51: a warm reset, stage by stage, and the resets and levels together (14 R641, R647, R649, R655, R664, R666, R667, 07 R408, 09 R472, 12 R575,
15 R681).
-/
namespace Sys2Proof.Machine

variable {s t : State} {o n : Nat}

/-! ### The stages of a warm reset (14 R641) -/

/-- The queued writes of the store complete: what a warm reset keeps is kept, and the queue is empty (14 R667). -/
theorem drainStore_holds : (warmView (drainStore s)).1 = (warmView s).1 ∧ (drainStore s).boot.queue = []
    ∧ (drainStore s).boot.fwRunning = s.boot.fwRunning ∧ (RegsWf s → RegsWf (drainStore s))
    ∧ ∀ o, Uncompleted o → o ≠ Reg.pstWrites → o ≠ Reg.pstStatus → rdReg (drainStore s) o = rdReg s o := by
  have hkeep : ∀ {β : Type} (g : State → β), (∀ (u : State) n v k, g (programStore u n v k) = g u) →
      g (each s.boot.queue (fun w t => if storeVal t w.reg = w.val then t else programStore t w.reg (some w.val) 1) s) = g s := fun g hg =>
    each_keeps g _ (fun w u => by
      split
      · rfl
      · exact hg u _ _ _) _ _
  have hview := hkeep (fun u => (warmView u).1) fun _ _ _ _ => (programStore_holds ..).1
  have hrun := hkeep (fun u => u.boot.fwRunning) fun _ _ _ _ => (programStore_holds ..).2.2.1
  unfold drainStore showQueue
  refine ⟨hview, rfl, hrun, fun h => ?_, fun o ho hw hs => ?_⟩
  · have hwf : RegsWf (each s.boot.queue (fun w t => if storeVal t w.reg = w.val then t else programStore t w.reg (some w.val) 1) s) :=
      each_preserves (P := RegsWf) (fun w u hu => by
        split
        · exact hu
        · exact (programStore_holds ..).2.2.2.1 hu) _ h
    exact ((hwf.congr (putBoot_regs ..)).wrReg _ _).wrReg _ _
  · rw [rdReg_wrF hs, rdReg_wrB hs, rdReg_congr (putBoot_regs ..)]
    exact hkeep (rdReg · o) fun _ _ _ _ => (programStore_holds ..).2.2.2.2 o ho hw hs

/-- A warm reset keeps the level in its register (14 R641). -/
theorem level_warmReg (v : Word) : rfld (warmReg Reg.glbServiceLevel v) 2 0 = rfld v 2 0 := by
  have hreg : warmReg Reg.glbServiceLevel v = (v &&& w32 0x707) ||| (coldReg Reg.glbServiceLevel &&& ~~~ (w32 0x707)) := rfl
  have hcold : coldReg Reg.glbServiceLevel = 0#32 := by decide
  rw [hreg, hcold, BitVec.zero_and, BitVec.or_zero, rfld, rfld, BitVec.toNat_and, fld, fld, Nat.shiftRight_zero, Nat.shiftRight_zero]
  change (v.toNat &&& 0x707) % 2 ^ 3 = v.toNat % 2 ^ 3
  rw [Nat.and_mod_two_pow, show (0x707 : Nat) % 2 ^ 3 = 2 ^ 3 - 1 from rfl, Nat.and_two_pow_sub_one_eq_mod, Nat.mod_mod]

/-- Canonical registers that are taken to their warm-reset values show the level that they showed. -/
theorem svcLevel_warmRegs (h : RegsWf s) : svcLevel (warmRegs s) = svcLevel s := by
  have hsorted : smSorted none s.regs = true := by
    rw [RegsWf, smWf, Bool.and_eq_true] at h
    exact h.1
  have hall : ∀ (m : SMap Word) (u : State), (∀ e ∈ m, e.1 = Reg.glbServiceLevel → rfld e.2 2 0 = svcLevel s) → svcLevel u = svcLevel s →
      svcLevel (each m (fun e t => wrReg t e.1 (warmReg e.1 e.2)) u) = svcLevel s := fun m => by
    induction m with
    | nil => exact fun _ _ hu => hu
    | cons e m ih =>
      refine fun u hm hu => ih _ (fun e' he' => hm e' (List.mem_cons_of_mem _ he')) ?_
      rw [svcLevel, rdF, rdReg_wrReg]
      split
      · next heq => rw [← heq, level_warmReg, hm e (List.mem_cons_self ..) heq.symm]
      · exact hu
  rw [warmRegs, svcLevel, rdF_congr (rdReg_wrN (by decide))]
  refine hall s.regs s (fun e he hk => ?_) rfl
  rw [svcLevel, rdF, rdReg, ← hk, (smGet_of_mem hsorted he).2]

/-- The state with its store drained, its registers at their warm-reset values, and its clusters and rings emptied. -/
def warmCleared (s : State) : State := clearRings (allCl (warmRegs (drainStore s)) warmCluster)

theorem clearRings_holds : (clearRings s).regs = s.regs ∧ (clearRings s).boot = s.boot ∧ (clearRings s).clusters = s.clusters
    ∧ (warmView (clearRings s)).1
      = (s.count, s.falbo, s.hbm, s.power, (s.hif.held.filter fun x => !x.bare).map fun x => { x with fin := none }) := by
  unfold clearRings
  refine ⟨?_, ?_, ?_, ?_⟩
  · exact each_keeps State.regs _ (fun _ _ => setRing_regs ..) s.hif.rings _
  · exact each_keeps State.boot _ (fun _ _ => setRing_boot ..) s.hif.rings _
  · exact each_keeps State.clusters _ (fun _ _ => setRing_clusters ..) s.hif.rings _
  · exact each_keeps (fun u => (warmView u).1) _ (fun _ _ => by rfl) s.hif.rings _

theorem warmRegs_holds : (warmView (warmRegs s)).1 = (warmView s).1 ∧ (warmRegs s).boot = s.boot ∧ rdN (warmRegs s) Reg.glbResetCause = 3 := by
  unfold warmRegs
  refine ⟨?_, ?_, rdN_wrN_same ..⟩
  · exact each_keeps (fun u => (warmView u).1) _ (fun _ _ => by rfl) s.regs s
  · exact each_keeps State.boot _ (fun _ _ => wrReg_boot ..) s.regs s

theorem allCl_holds (f : Cluster → Cluster) : (warmView (allCl s f)).1 = (warmView s).1 ∧ (allCl s f).boot = s.boot ∧ (allCl s f).regs = s.regs :=
  ⟨allCl_keeps s (fun u => (warmView u).1) f fun _ _ => rfl, allCl_keeps s State.boot f fun _ _ => modCl_boot ..,
    allCl_keeps s State.regs f fun _ _ => modCl_regs ..⟩

/-- What a warm reset keeps is kept where the store is drained and the clusters and the rings are emptied; of what is held for the host the bare
completions go (log 71). -/
theorem warmCleared_view : (warmView (warmCleared s)).1
    = (s.count, s.falbo, s.hbm, s.power, (s.hif.held.filter fun x => !x.bare).map fun x => { x with fin := none }) := by
  have hkept := (allCl_holds (s := warmRegs (drainStore s)) warmCluster).1.trans (warmRegs_holds.1.trans drainStore_holds.1)
  simp only [warmView, Prod.mk.injEq] at hkept
  obtain ⟨hcount, hfalbo, hhbm, hpower, hheld⟩ := hkept
  rw [warmCleared, clearRings_holds.2.2.2, hcount, hfalbo, hhbm, hpower, hheld]

theorem warmCleared_boot : (warmCleared s).boot = (drainStore s).boot := by
  rw [warmCleared, clearRings_holds.2.1, (allCl_holds _).2.1, warmRegs_holds.2.1]

theorem rdReg_warmCleared : rdReg (warmCleared s) o = rdReg (warmRegs (drainStore s)) o := by
  rw [warmCleared, rdReg_congr clearRings_holds.1, rdReg_congr (allCl_holds _).2.2]

/-- No cluster runs after a warm reset. -/
theorem st_warmCleared {p : Nat} (hp : p < 144) : (clOf (warmCleared s) p).st ≠ .running := by
  rw [warmCleared, clOf_congr clearRings_holds.2.2.1, clOf_allCl _ _ hp, warmCluster]
  dsimp only
  split <;> decide

theorem svcLevel_warmCleared (h : RegsWf s) : svcLevel (warmCleared s) = svcLevel s := by
  obtain ⟨-, -, -, hwf, hregs⟩ := drainStore_holds (s := s)
  rw [svcLevel, rdF_congr rdReg_warmCleared]
  refine (svcLevel_warmRegs (hwf h)).trans (rdF_congr (hregs _ ?_ (by decide) (by decide)))
  simp [Uncompleted, Reg.glbServiceLevel]

/-- The contexts, the execution, Azlink and the debug port after a warm reset, before the registers that show them. -/
def warmEmptied (s : State) : State :=
  let s1 := warmCleared s
  let d := { s1.dbgp with halt := none, stepMode := none, stepHaltAt := none, resumeAt := none, noLaunch := false }
  let seen := (rdN s1 Reg.dbgVarAdmit, rdN s1 Reg.dbgVarRoute)
  let keep := putSched s1 { copies := s1.sched.copies, copyNo := s1.sched.copyNo }
  let sa := putLock (putAzl (putGener keep { varSeen := seen, blocks := s1.gener.blocks }) (keepRestart s.azl)) {}
  putDbgp (putBoot sa { s1.boot with staging := [] }) d

/-- The registers of the image and of Azlink after a warm reset: no image, no group, no link. -/
def warmUnlinked (s : State) : State :=
  wrF (each (List.range 8) (fun k t => wrB t (onPage Reg.portCtl k) 0 false) (wrB (unloadRegs (warmEmptied s)) Reg.azlCtl 0 false))
    Reg.azlEpoch 15 0 (rdF s Reg.glbBoot 31 16)

/-- A warm reset is its stages, then the end of each open command. -/
theorem warmReset_eq : warmReset s = each (openCmds s)
    (fun c t => complete t c 0x0C (writtenOf s (s.azl.releaseQ.flatMap (·.2)) c) 0)
    (leanOff (if svcLevel s = 5 then setLevel (warmUnlinked s) 4 else warmUnlinked s)) := rfl

theorem rdReg_unloadRegs (ho : Uncompleted o) (hne : ∀ r ∈ [Reg.schImage, Reg.tilLimits, Reg.sluImage, Reg.kvpPages, Reg.kvpFree, Reg.kvpLowWater,
    Reg.azlMember, Reg.azlState], o ≠ r) : rdReg (unloadRegs s) o = rdReg s o := by
  have hevt : o ≠ Reg.pageKvp + 0x14 := by have := (uncompleted_iff.mp ho).1; simp only [Reg.pageKvp]; omega
  have hfree : ∀ u : State, rdReg (showFree u) o = rdReg u o := fun u => by
    have hhw : ∀ (v : State) off bits, rdReg (noteHw v off bits) o = rdReg v o := fun _ _ _ => rfl
    unfold showFree
    dsimp only
    (repeat' split) <;>
      simp only [rdReg_setEvt hevt, rdReg_wrN (hne Reg.kvpLowWater (by simp)), rdReg_wrN (hne Reg.kvpFree (by simp)), hhw]
  rw [unloadRegs, setAzl, rdReg_wrF (hne _ (by simp)), rdReg_wrF (hne _ (by simp)), hfree, rdReg_wrN (hne _ (by simp)), rdReg_wrN (hne _ (by simp)),
    rdReg_wrN (hne _ (by simp)), rdReg_wrN (hne _ (by simp))]

theorem warmUnlinked_view : warmView (warmUnlinked s) = warmView (warmEmptied s) := by
  rw [warmUnlinked, warmView_wrF, each_keeps warmView _ (fun _ _ => by simp), warmView_wrB, warmView_unloadRegs]

theorem warmUnlinked_regs : (RegsWf s → svcLevel (warmUnlinked s) = svcLevel s) ∧ rdN (warmUnlinked s) Reg.glbResetCause = 3
    ∧ rdB (warmUnlinked s) Reg.azlCtl 0 = false ∧ ∀ k < 8, rdB (warmUnlinked s) (onPage Reg.portCtl k) 0 = false := by
  have hemptied : ∀ o, rdReg (warmEmptied s) o = rdReg (warmCleared s) o := fun o => by
    unfold warmEmptied
    dsimp only
    rw [rdReg_congr (putDbgp_regs ..), rdReg_congr (putBoot_regs ..), rdReg_congr (putLock_regs ..), rdReg_congr (putAzl_regs ..),
      rdReg_congr (putGener_regs ..), rdReg_congr (putSched_regs ..)]
  have hports : ∀ (u : State) o, o < Reg.portCtl → rdReg (each (List.range 8) (fun k t => wrB t (onPage Reg.portCtl k) 0 false) u) o = rdReg u o :=
    fun u o ho => each_keeps (rdReg · o) _ (fun k t => rdReg_wrB (by simp only [onPage]; omega)) _ _
  have hkept : ∀ o, Uncompleted o → o < 0x1000 → rdReg (warmUnlinked s) o = rdReg (warmCleared s) o := fun o ho hlow => by
    rw [warmUnlinked, rdReg_wrF (by simp only [Reg.azlEpoch]; omega), hports _ _ (by simp only [Reg.portCtl]; omega),
      rdReg_wrB (by simp only [Reg.azlCtl]; omega), rdReg_unloadRegs ho, hemptied]
    simp only [List.forall_mem_cons, List.not_mem_nil, false_imp_iff, implies_true, and_true, Reg.schImage, Reg.tilLimits, Reg.sluImage, Reg.kvpPages,
      Reg.kvpFree, Reg.kvpLowWater, Reg.azlMember, Reg.azlState]
    omega
  refine ⟨fun h => ?_, ?_, ?_, fun k hk => ?_⟩
  · rw [svcLevel, rdF_congr (hkept _ (by simp [Uncompleted, Reg.glbServiceLevel]) (by decide))]
    exact svcLevel_warmCleared h
  · rw [rdN_congr (hkept _ (by simp [Uncompleted, Reg.glbResetCause]) (by decide)), rdN_congr rdReg_warmCleared, warmRegs_holds.2.2]
  · rw [warmUnlinked, rdB_congr (rdReg_wrF (by decide)), rdB_congr (hports _ _ (by decide)), rdB_wrB_same _ _ (by decide)]
  · rw [warmUnlinked, rdB_congr (rdReg_wrF (by simp only [onPage, Reg.portCtl, Reg.azlEpoch]; omega))]
    refine each_reaches (P := fun u => rdB u (onPage Reg.portCtl k) 0 = false) (List.mem_range.mpr hk) (fun u => ?_) (fun j u hj h => ?_) _
    · exact rdB_wrB_same _ _ (by decide)
    · rw [rdB_congr (rdReg_wrB (by simp only [onPage]; omega)), h]

/-- The nominal point is selected where the lean one was; nothing else of the power changes (15 R681). -/
theorem leanOff_holds : warmView (putPower (leanOff s) s.power) = warmView s ∧ (leanOff s).power.leanEn = false ∧ (leanOff s).power.lean = false
    ∧ (s.power.lean = false → (leanOff s).power = { s.power with leanEn := false })
    ∧ ∀ o, o ≠ Reg.clkStatus → rdReg (leanOff s) o = rdReg s o := by
  unfold leanOff
  dsimp only
  split
  · next hlean =>
    unfold selectPoint
    dsimp only
    refine ⟨rfl, rfl, rfl, fun h => ?_, fun o ho => ?_⟩
    · rw [putPower_power] at hlean
      dsimp only at hlean
      rw [h] at hlean
      cases hlean
    · rw [rdReg_congr (putPower_regs ..), rdReg_wrB ho, rdReg_wrB ho]
      rfl
  · next hlean => exact ⟨rfl, rfl, Bool.eq_false_iff.mpr hlean, fun _ => rfl, fun _ _ => rfl⟩

end Sys2Proof.Machine

/-!
PROOF. O51: what a warm reset leaves, and the resets and levels together (14 R641, R647, R649, R655, R664, R666, R667, 07 R408, 15 R681).
-/
namespace Sys2Proof.Machine

variable {s t : State} {o : Nat}

theorem warmEmptied_holds : (warmView (warmEmptied s)).1 = (warmView (warmCleared s)).1
    ∧ (warmEmptied s).boot = { (warmCleared s).boot with staging := [] } ∧ (warmEmptied s).clusters = (warmCleared s).clusters
    ∧ (warmEmptied s).gener.ctxs = [] ∧ (warmEmptied s).sched.exec.running = false ∧ (warmEmptied s).azl = keepRestart s.azl := by
  unfold warmEmptied
  simp only [warmView, putDbgp_count, putDbgp_falbo, putDbgp_hbm, putDbgp_power, putDbgp_hif, putDbgp_boot, putDbgp_clusters, putDbgp_gener,
    putDbgp_sched, putDbgp_azl, putBoot_count, putBoot_falbo, putBoot_hbm, putBoot_power, putBoot_hif, putBoot_boot, putBoot_clusters, putBoot_gener,
    putBoot_sched, putBoot_azl, putLock_count, putLock_falbo, putLock_hbm, putLock_power, putLock_hif, putLock_clusters, putLock_gener,
    putLock_sched, putLock_azl, putAzl_count, putAzl_falbo, putAzl_hbm, putAzl_power, putAzl_hif, putAzl_clusters, putAzl_gener, putAzl_sched,
    putAzl_azl, putGener_count, putGener_falbo, putGener_hbm, putGener_power, putGener_hif, putGener_clusters, putGener_gener, putGener_sched,
    putSched_count, putSched_falbo, putSched_hbm, putSched_power, putSched_hif, putSched_clusters, putSched_sched, and_self]

/-- The last stage before the open commands end: the level falls to 4 where it was 5, and the nominal point is selected (14 R641, 15 R681). -/
def warmLevelled (s : State) : State := if svcLevel s = 5 then setLevel (warmUnlinked s) 4 else warmUnlinked s

theorem warmLevelled_view : warmView (warmLevelled s) = warmView (warmEmptied s) := by
  unfold warmLevelled
  split
  · rw [warmView_setLevel, warmUnlinked_view]
  · exact warmUnlinked_view

theorem rdReg_warmLevelled (ho : Uncompleted o) (h : o = Reg.glbResetCause ∨ 0x1000 ≤ o) :
    rdReg (warmLevelled s) o = rdReg (warmUnlinked s) o := by
  unfold warmLevelled
  split
  · refine ho.rdReg_setLevel ?_ ?_
    · rcases h with rfl | h
      · decide
      · simp only [Reg.glbServiceLevel]; omega
    · rcases h with rfl | h
      · decide
      · simp only [Reg.glbLevel]; omega
  · rfl

theorem svcLevel_warmLevelled (h : RegsWf s) : svcLevel (warmLevelled s) = if svcLevel s = 5 then 4 else svcLevel s := by
  unfold warmLevelled
  split
  · exact svcLevel_setLevel 4 (by decide)
  · exact warmUnlinked_regs.1 h

/-- The end of the open commands touches neither the state's parts that a warm reset deals with nor the registers outside the rings' (13 R623). -/
theorem warmReset_holds : warmView (warmReset s) = warmView (leanOff (warmLevelled s))
    ∧ ∀ o, Uncompleted o → o ≠ Reg.clkStatus → rdReg (warmReset s) o = rdReg (warmLevelled s) o := by
  rw [warmReset_eq, ← warmLevelled]
  refine ⟨each_keeps warmView _ (fun _ _ => warmView_complete ..) _ _, fun o ho hne => ?_⟩
  exact (each_keeps (rdReg · o) _ (fun _ _ => ho.rdReg_complete ..) _ _).trans (leanOff_holds.2.2.2.2 o hne)

/-- The level, the cause, and no link after a warm reset (14 R641, R642, 07 R408). -/
theorem warmReset_regs : (RegsWf s → svcLevel (warmReset s) = if svcLevel s = 5 then 4 else svcLevel s) ∧ rdN (warmReset s) Reg.glbResetCause = 3
    ∧ rdB (warmReset s) Reg.azlCtl 0 = false ∧ ∀ k < 8, rdB (warmReset s) (onPage Reg.portCtl k) 0 = false := by
  have hregs := (warmReset_holds (s := s)).2
  obtain ⟨-, hcause, hctl, hports⟩ := warmUnlinked_regs (s := s)
  have hazl : Uncompleted Reg.azlCtl := by simp [Uncompleted, Reg.azlCtl]
  have hreset : Uncompleted Reg.glbResetCause := by simp [Uncompleted, Reg.glbResetCause]
  refine ⟨fun h => ?_, ?_, ?_, fun k hk => ?_⟩
  · rw [svcLevel, rdF_congr (hregs _ (by simp [Uncompleted, Reg.glbServiceLevel]) (by decide))]
    exact svcLevel_warmLevelled h
  · rw [rdN_congr (hregs _ hreset (by decide)), rdN_congr (rdReg_warmLevelled hreset (.inl rfl)), hcause]
  · rw [rdB_congr (hregs _ hazl (by decide)), rdB_congr (rdReg_warmLevelled hazl (.inr (by decide))), hctl]
  · have hport : Uncompleted (onPage Reg.portCtl k) := uncompleted_iff.mpr (by simp only [onPage, Reg.portCtl]; omega)
    rw [rdB_congr (hregs _ hport (by simp only [onPage, Reg.portCtl, Reg.clkStatus]; omega)),
      rdB_congr (rdReg_warmLevelled hport (.inr (by simp only [onPage, Reg.portCtl]; omega))), hports k hk]

/-- The parts that a warm reset keeps and those that it empties (14 R641, R667, 15 R681; log 71). -/
theorem warmReset_parts : (warmReset s).count = s.count ∧ (warmReset s).falbo = s.falbo ∧ (warmReset s).hbm = s.hbm ∧ (warmReset s).gener.ctxs = []
    ∧ (warmReset s).sched.exec.running = false
    ∧ (warmReset s).hif.held = (s.hif.held.filter fun x => !x.bare).map (fun x => { x with fin := none })
    ∧ (warmReset s).azl = keepRestart s.azl ∧ (warmReset s).boot = { (drainStore s).boot with staging := [] }
    ∧ ∀ p < 144, (clOf (warmReset s) p).st ≠ .running := by
  have hview := ((congrArg (fun v => (v.1.1, v.1.2.1, v.1.2.2.1, v.1.2.2.2.2, v.2)) (warmReset_holds (s := s)).1).trans
    (congrArg (fun v => (v.1.1, v.1.2.1, v.1.2.2.1, v.1.2.2.2.2, v.2)) (leanOff_holds (s := warmLevelled s)).1)).trans
    (congrArg (fun v => (v.1.1, v.1.2.1, v.1.2.2.1, v.1.2.2.2.2, v.2)) warmLevelled_view)
  have hcleared := warmCleared_view (s := s)
  obtain ⟨hkept, hboot, hcl, hctxs, hrun, hazl⟩ := warmEmptied_holds (s := s)
  rw [hcleared] at hkept
  simp only [warmView, Prod.mk.injEq] at hview hkept
  obtain ⟨hcount, hfalbo, hhbm, hheld, hvboot, hvcl, hvgener, hvsched, hvazl⟩ := hview
  obtain ⟨hkcount, hkfalbo, hkhbm, -, hkheld⟩ := hkept
  refine ⟨hcount.trans hkcount, hfalbo.trans hkfalbo, hhbm.trans hkhbm, by rw [hvgener, hctxs], by rw [hvsched, hrun], hheld.trans hkheld,
    hvazl.trans hazl, by rw [hvboot, hboot, warmCleared_boot], fun p hp => ?_⟩
  rw [clOf_congr (hvcl.trans hcl)]
  exact st_warmCleared hp

/-- LEAN_EN is clear after a warm reset, and the nominal point is selected (15 R681). -/
theorem warmReset_power : (warmReset s).power.leanEn = false ∧ (warmReset s).power.lean = false
    ∧ (s.power.lean = false → (warmReset s).power = { s.power with leanEn := false }) := by
  have hpower : (warmReset s).power = (leanOff (warmLevelled s)).power := congrArg (fun v => v.1.2.2.2.1) (warmReset_holds (s := s)).1
  have hbefore : (warmLevelled s).power = s.power := congrArg (fun v => v.2.2.2.1)
    ((congrArg Prod.fst (warmLevelled_view (s := s))).trans (warmEmptied_holds.1.trans warmCleared_view))
  obtain ⟨-, hen, hlean, hsame, -⟩ := leanOff_holds (s := warmLevelled s)
  rw [hbefore] at hsame
  rw [hpower]
  exact ⟨hen, hlean, hsame⟩

theorem restarting_keepRestart (a : AzlState) : (keepRestart a).restarting = a.restarting := by
  unfold keepRestart
  split
  · next h => exact h.symm
  · next h => exact (Bool.eq_false_iff.mpr h).symm

/-! ### The resets and the levels together -/

/-- Settles O51: a cold reset by what it leaves, each level by the one below it, the switch's end by its slot, and a warm reset by its registers, its
parts and its power. -/
theorem bringUpRuns : Obligations.BringUpRuns := by
  intro s cause clusters routers stackOk portOk key v cold
  have hcold : ∀ c high, c < 2 ^ 32 → cold (coldReset s c high) c high := fun c high hc => by
    obtain ⟨hregs, hcause, regs, boot, ht, hflash, hstore⟩ := coldFrom_coldReset (s := s) c high hc
    change (∀ off, off ≠ Reg.glbResetCause → rdReg (coldReset s c high) off = coldReg off) ∧ _
    generalize coldReset s c high = t at hregs hcause ht ⊢
    subst ht
    exact ⟨hregs, hcause, rfl, rfl, rfl, rfl, rfl, rfl, rfl, rfl, rfl, rfl, rfl, rfl, hflash, hstore⟩
  have hkey : key = 0xD7A5 → key.toNat = 0xD7A5 := fun h => congrArg BitVec.toNat h
  have hno : key ≠ 0xD7A5 → key.toNat ≠ 0xD7A5 := fun h he => h (BitVec.eq_of_toNat_eq he)
  refine ⟨⟨_, rfl, hcold _ _ (by cases cause <;> decide)⟩, fun hhigh => ⟨coldReset s 0 true, ?_, hcold 0 true (by decide)⟩,
    ⟨fun h => ⟨coldReset s 2 true, ?_, hcold 2 true (by decide)⟩, fun h => ⟨?_, ?_⟩⟩, ⟨_, rfl, rfl, rfl⟩, fun hhigh hpll => ?_,
    exec_pstLoadDone_of_lock, fun hload hlevel => ?_, fun hpll => ?_, fun hlevel => ?_, exec_levelNarrow_of_running, exec_levelFull_of_narrow,
    exec_firmwareRestarted_of_switch, fun h hwf => ⟨warmReset s, ?_, ?_⟩⟩
  · exact congrArg Host.Outcome.next (if_pos hhigh)
  · exact congrArg Host.Outcome.next (if_pos (hkey h))
  · exact congrArg Host.Outcome.next (if_neg (hno h))
  · exact congrArg Host.Outcome.next (if_neg (hno h))
  · have hexec : exec .pllLock s = .next (wrF (putPower (putCount s 0) { s.power with pll := true }) Reg.clkStatus 1 0 3) := by
      change execPllLock s = _
      rw [execPllLock, hhigh, hpll]
      rfl
    exact ⟨_, hexec, rfl, rfl⟩
  · obtain ⟨t, hexec, hone, hweirs, hpulses⟩ := exec_levelGuard_of_loaded hload hlevel
    exact ⟨t, hexec, hone, hweirs, hpulses⟩
  · have hexec : exec .pcieTrainingStart s = .next (putHif s { s.hif with trained := true }) := congrArg Host.Outcome.next (if_pos hpll)
    exact ⟨_, hexec, rfl, rfl⟩
  · obtain ⟨hlevel2, hboot, hreg⟩ := levelTwo_holds (s := romStarted s)
    obtain ⟨hactive, hfallback, hrecovery⟩ := romStarted_holds (s := s)
    refine ⟨_, exec_firmwareBoot_of_guard hlevel, hlevel2, ?_⟩
    rw [hboot, runningSlot, rdF_congr hreg, rdB_congr hreg]
    exact ⟨hactive, hfallback, hrecovery⟩
  · exact congrArg Host.Outcome.next (if_pos (hkey h))
  · obtain ⟨hlevel, hcause, hctl, hports⟩ := warmReset_regs (s := s)
    obtain ⟨hcount, hfalbo, hhbm, hctxs, hrun, hheld, hazl, hboot, hcl⟩ := warmReset_parts (s := s)
    obtain ⟨hen, hlean, hpower⟩ := warmReset_power (s := s)
    obtain ⟨-, hqueue, hfw, -, -⟩ := drainStore_holds (s := s)
    refine ⟨hlevel hwf, hcause, hcount, hfalbo, hhbm, hctxs, hrun, hen, hlean, hpower, hheld, ?_, fun hstop => ?_, hctl, hports, ?_, ?_, hcl⟩
    · rw [hazl, restarting_keepRestart]
    · rw [hboot]
      exact hfw.trans hstop
    · rw [hboot]
      exact hqueue
    · rw [hboot]

end Sys2Proof.Machine
